-- ==== Sys2Proof/Word.lean ====
section
/-! DEFINITION. The word types of the device: what the manual treats as bits. -/

namespace Sys2Proof

abbrev Byte := BitVec 8
abbrev Half := BitVec 16
/-- A BAR0 register word. -/
abbrev Word := BitVec 32
/-- A 64-bit quantity: tick number, world version, PTP time, bus address. -/
abbrev Dword := BitVec 64

end Sys2Proof
end

