-- ==== Sys2Proof/Machine/Basics.lean ====
section
/-! DEFINITION. Plain data shared by every block: statistics counters, sorted tables, byte memories, and
the bit-field, sign, saturation and byte-order helpers every chapter uses. -/

namespace Sys2Proof.Machine

/-! ### Bits and bytes -/

/-- One bit of a number. -/
def bit (n i : Nat) : Bool := n.testBit i

/-- Bits [hi:lo] of a number. -/
def bits (n hi lo : Nat) : Nat := (n >>> lo) % 2 ^ (hi + 1 - lo)

/-- A Boolean as a number, for putting a field into a register word. -/
def b2n (b : Bool) : Nat := if b then 1 else 0

/-- The number that little-endian bytes spell (R323: multi-byte fields are little-endian). -/
def leNat : List Byte → Nat
  | [] => 0
  | b :: bs => b.toNat + 256 * leNat bs

/-- `n` little-endian bytes of a number. -/
def toLe : Nat → Nat → List Byte
  | 0, _ => []
  | n + 1, v => BitVec.ofNat 8 v :: toLe n (v / 256)

/-- The little-endian field of `n` bytes at offset `o` of a byte list; bytes past its end read 0. -/
def leAt (bs : List Byte) (o n : Nat) : Nat := leNat ((bs.drop o).take n)

/-- A bit list, least significant first, of width `n`. -/
def toBits : Nat → Nat → List Bool
  | 0, _ => []
  | n + 1, v => (v % 2 == 1) :: toBits n (v / 2)

/-- The number that bits spell, least significant first. -/
def ofBits : List Bool → Nat
  | [] => 0
  | b :: bs => b2n b + 2 * ofBits bs

/-! ### Integers of a fixed width -/

/-- Two's-complement wrap of an integer to `w` bits. -/
def wrapS (w : Nat) (x : Int) : Int :=
  let m := x % (2 ^ w : Int)
  if m < 2 ^ (w - 1) then m else m - 2 ^ w

/-- The two's-complement reading of the low `w` bits of a number. -/
def sgn (w : Nat) (n : Nat) : Int := wrapS w (n : Int)

/-- The low `w` bits of an integer, as a natural number. -/
def unS (w : Nat) (x : Int) : Nat := (x % (2 ^ w : Int)).toNat

/-- Saturation of an integer to the closed range. -/
def clampI (lo hi x : Int) : Int := if x < lo then lo else if hi < x then hi else x

/-- Saturation to a signed width. -/
def satS (w : Nat) (x : Int) : Int := clampI (-(2 ^ (w - 1) : Int)) (2 ^ (w - 1) - 1) x

/-- Saturation to an unsigned width. -/
def satU (w : Nat) (n : Nat) : Nat := min n (2 ^ w - 1)

/-- Ceiling division of naturals. -/
def ceilDiv (a b : Nat) : Nat := (a + b - 1) / b

/-- Serial-number comparison of 16-bit counters (Table 0-9): how far `new` lies ahead of `old`, modulo 65,536. -/
def serialAhead (new old : Half) : Nat := (new - old).toNat

/-! ### Statistics counters (Table 0-9, Table 1-10) -/

/-- A 48-bit statistics counter with the latch of its HI word. -/
structure StatCnt where
  /-- The count, saturating at 0xFFFF_FFFF_FFFF. -/
  val : BitVec 48 := 0
  /-- The HI word latched by the last read of LO. -/
  hi : Word := 0
  deriving DecidableEq, Repr

/-- One more event, saturating. -/
def StatCnt.incr (c : StatCnt) : StatCnt :=
  if c.val = BitVec.allOnes 48 then c else { c with val := c.val + 1 }

/-- `n` more events, saturating. -/
def StatCnt.add (c : StatCnt) (n : Nat) : StatCnt :=
  { c with val := BitVec.ofNat 48 (satU 48 (c.val.toNat + n)) }

/-- The HI word that a read of LO latches: SAT in bit 31, count bits 47..32 in bits 15..0. -/
def StatCnt.hiWord (c : StatCnt) : Word :=
  (if c.val = BitVec.allOnes 48 then 0x8000_0000#32 else 0#32) ||| (c.val.extractLsb' 32 16).setWidth 32

/-- A read of the LO word: its value, and the counter latched and cleared (Table 1-10). -/
def StatCnt.readLo (c : StatCnt) : Word × StatCnt :=
  (c.val.setWidth 32, { val := 0, hi := c.hiWord })

/-- A 64-bit register read as two words: a read of LO latches HI. -/
structure Latched64 where
  /-- The register. -/
  val : Dword := 0
  /-- The HI word latched by the last read of LO. -/
  hi : Word := 0
  deriving DecidableEq, Repr

/-- A read of the LO word of a 64-bit register: its value, and HI latched. -/
def Latched64.readLo (c : Latched64) : Word × Latched64 :=
  (c.val.setWidth 32, { c with hi := (c.val >>> 32).setWidth 32 })

/-! ### Sorted tables -/

/-- A sparse table: keys strictly rising; a key not listed holds the table's default. -/
abbrev Tbl (α : Type) := List (Nat × α)

/-- The entry of a key, if it is listed. -/
def Tbl.find? {α : Type} : Tbl α → Nat → Option α
  | [], _ => none
  | (k, v) :: t, i => if i = k then some v else if i < k then none else Tbl.find? t i

/-- The entry of a key, or the default. -/
def Tbl.get {α : Type} (d : α) (t : Tbl α) (i : Nat) : α := (Tbl.find? t i).getD d

/-- The table with one entry written. -/
def Tbl.put {α : Type} : Tbl α → Nat → α → Tbl α
  | [], i, x => [(i, x)]
  | (k, v) :: t, i, x =>
    if i = k then (i, x) :: t else if i < k then (i, x) :: (k, v) :: t else (k, v) :: Tbl.put t i x

/-- The table without an entry. -/
def Tbl.del {α : Type} : Tbl α → Nat → Tbl α
  | [], _ => []
  | (k, v) :: t, i => if i = k then t else if i < k then (k, v) :: t else (k, v) :: Tbl.del t i

/-- The table with one entry changed by a function of its value (the default where not listed). -/
def Tbl.upd {α : Type} (d : α) (t : Tbl α) (i : Nat) (f : α → α) : Tbl α := Tbl.put t i (f (Tbl.get d t i))

/-! ### Byte memories

A memory is a list of cells with strictly rising addresses and no cell equal to what an unlisted address reads
as, the byte 0 (DESIGN CHOICE, log entry 1). -/

/-- A byte memory. -/
abbrev Mem := List Host.Cell

/-- What an address that is not listed reads as (DESIGN CHOICE, log entry 1). -/
def Mem.blank : Byte := 0

/-- The byte at an address. -/
def Mem.read : Mem → Nat → Byte
  | [], _ => Mem.blank
  | (k, v) :: t, a => if a = k then v else if a < k then Mem.blank else Mem.read t a

/-- A cell put in front, left out where it equals the blank. -/
def Mem.consNB (a : Nat) (b : Byte) (m : Mem) : Mem := if b = Mem.blank then m else (a, b) :: m

/-- One byte written; the canonical form is kept. -/
def Mem.write : Mem → Nat → Byte → Mem
  | [], a, b => Mem.consNB a b []
  | (k, v) :: t, a, b =>
    if a = k then Mem.consNB a b t
    else if a < k then Mem.consNB a b ((k, v) :: t)
    else (k, v) :: Mem.write t a b

/-- Bytes written from an address up. -/
def Mem.writes : Mem → Nat → List Byte → Mem
  | m, _, [] => m
  | m, a, b :: bs => Mem.writes (m.write a b) (a + 1) bs

/-- `n` bytes read from an address up. -/
def Mem.reads (m : Mem) : Nat → Nat → List Byte
  | _, 0 => []
  | a, n + 1 => m.read a :: m.reads (a + 1) n

/-- The cells from an address up to, and without, a second one, removed: they read blank. -/
def Mem.clearRange (m : Mem) (lo hi : Nat) : Mem := m.filter (fun c => c.1 < lo || hi ≤ c.1)

/-- Addresses of a cell list, each above the bound and strictly rising, and no blank byte. -/
def Mem.wfFrom : Option Nat → Mem → Bool
  | _, [] => true
  | lo, (k, v) :: t => (match lo with | none => true | some l => l < k) && (v != Mem.blank) && Mem.wfFrom (some k) t

/-- The canonical form of a memory. -/
def Mem.wf (m : Mem) : Bool := Mem.wfFrom none m

/-- The memory that holds a byte list from address 0 up. -/
def Mem.ofBytes (bs : List Byte) : Mem := Mem.writes [] 0 bs

/-! ### Lists -/

/-- A list with position `i` changed. -/
def modAt {α : Type} (f : α → α) : List α → Nat → List α
  | [], _ => []
  | x :: xs, 0 => f x :: xs
  | x :: xs, i + 1 => x :: modAt f xs i

/-- A list with position `i` replaced. -/
def setAt {α : Type} (l : List α) (i : Nat) (x : α) : List α := modAt (fun _ => x) l i

/-- Insertion into a list sorted by a total preorder, after the elements that compare equal. -/
def insertBy {α : Type} (le : α → α → Bool) (x : α) : List α → List α
  | [] => [x]
  | y :: ys => if le y x then y :: insertBy le x ys else x :: y :: ys

/-- Stable insertion sort. -/
def sortBy {α : Type} (le : α → α → Bool) (l : List α) : List α := l.foldl (fun acc x => insertBy le x acc) []

/-- Position of the first element that satisfies a test. -/
def firstIx {α : Type} (p : α → Bool) : List α → Option Nat
  | [] => none
  | x :: xs => if p x then some 0 else (firstIx p xs).map (· + 1)

/-- A list cut into pieces of `n` elements; `fuel` bounds the number of pieces. -/
def chunks {α : Type} (n : Nat) : Nat → List α → List (List α)
  | 0, _ => []
  | _ + 1, [] => []
  | fuel + 1, x :: xs => (x :: xs).take n :: chunks n fuel ((x :: xs).drop n)

/-- The sum of a list of naturals. -/
def sumN (l : List Nat) : Nat := l.foldl (· + ·) 0

/-- The greatest of a list of naturals, 0 for none. -/
def maxN (l : List Nat) : Nat := l.foldl max 0

end Sys2Proof.Machine
end

