-- ==== Sys2Proof/Machine/Crc.lean ====
section
/-! DEFINITION. CRC-32C with the parameters of 13 R323: polynomial 0x1EDC_6F41 reflected, initial value and final
XOR 0xFFFF_FFFF. -/

namespace Sys2Proof.Machine

/-- One bit of the reflected register. -/
def crcBit (c : Word) : Word := (c >>> 1) ^^^ (if c.getLsbD 0 then 0x82F6_3B78#32 else 0)

/-- One byte taken in. -/
def crcByte (c : Word) (b : Byte) : Word :=
  crcBit (crcBit (crcBit (crcBit (crcBit (crcBit (crcBit (crcBit (c ^^^ b.setWidth 32))))))))

/-- The CRC-32C of a byte string (R323). -/
def crc32c (bs : List Byte) : Word := bs.foldl crcByte 0xFFFF_FFFF#32 ^^^ 0xFFFF_FFFF#32

end Sys2Proof.Machine
end

