-- ==== Sys2Proof/Machine/ApTables.lean ====
section
/-! DEFINITION. The two AP-1 tables whose entries the manual fixes by a formula: the sine table of 05 R150 and the
inverse-normal table of 04 R122. The entries are packed into numbers, lowest index in the lowest bits; each was
computed from the rule's formula to 60 decimal digits (the nearest tie is far outside that error). -/

namespace Sys2Proof.Machine

/-- S[0] to S[1,024], the first quarter of the sine table, 32 entries of 32 bits a number (R150). -/
def sineQuarter : List Nat :=
  [0x30ad24502f1b75502d89bf002bf801a02a663d8028d472e02742a1f025b0caf0241eee20228d0bb020fb24001f6937301dd745901c454f501ab354b0192155f0178f536015fd4d20146b438012d936c0114727100fb514b00e22fff00c90e9000afed020096cb58007da998006487c4004b65e1003243f1001921fb00000000,
   0x62ce6340613e1c505fadc6605e1d61b05c8cee705afc6d00596bdd7057db4030564a955054b9dd30532917f0519845e0500767404e767c504ce585404b54825049c373c0483259d046a134c0451004d0437eca4041ed8540405c36103ecadcf03d397a303ba80df03a16988038851a2036f393103562038033d06bb0323ecbe,
   0x94b2b2709324ca709196cbc09008b6a08e7a8b508cec4a008b5df30089cf8670884104b086b26de08523c2508395024082062de0807745707ee849307d5939607bca16307a3adff078ab96e0771c3b30758ccd2073fd4cf0726dbae070de17206f4e62006dbe9bb06c2ec4806a9edc90690ee440677edbb065eec330645e9af,
   0xc63b4ce0c4b0b940c3260750c19b3740c0104960be853de0bcfa1500bb6ecef0b9e36c00b857ec70b6cc5060b5409820b3b4c400b228d420b09cc8c0af10a220ad846090abf80430aa6b8d50a8defc30a7525100a5c58c00a438ad70a2abb590a11ea4909f917ac09e0438509c76dd809ae96aa0995bdfd097ce3d509640837,
   0xf749a610f5c35a30f43ce860f2b650f0f12f9410efa8b200ee21aaf0ec9a7f30eb132ef0e98bba70e80421e0e67c65a0e4f485c0e36c82a0e1e45c60e05c1350ded3a7b0dd4b19a0dbc26980da399780d8b0a3d0d7278eb0d59e5860d4150130d28b8940d101f0e0cf783830cdee5f90cc646730cada4f50c9501820c7c5c1e,
   0x127bf7d11263e699124bd28c1233bbac121ba1fd1203858411eb664311d3443f11bb1f7c11a2f7fc118acdc41172a0d7115a713a11423ef0112a09fc1111d26310f9982710e15b4e10c91bda10b0d9d01098953210804e061068044e104fb80e1037694b101f18071006c4460fee6e0d0fd6155f0fbdba400fa55cb40f8cfcbe,
   0x1577eeec1560401315488dee1530d88115191fcf150163dc14e9a4ac14d1e24214ba1ca314a253d1148a87d11472b8a5145ae653144310dd142b384614135c9413fb7dc913e39be913cbb6f813b3cefa139be3f21383f5e3136c04d2135410c3133c19b813241fb6130c22c112f422db12dc200912c41a4f12ac11af1294062f,
   0x1866a88a184f6aab1838290c1820e3b018099a9c17f24dd317dafd5917c3a93117ac515f1794f5e6177d96ca1766340f174ecdb8173763c9171ff6461708853116f1108f16d9986416c21cb216aa9d7e16931acb167b949d16640af7164c7ddd1634ed53161d595d1605c1fd15ee273815d6891115bee78c15a742ac158f9a76,
   0x1b4655ae1b2f971e1b18d45c1b020d6c1aeb42531ad473121abd9faf1aa6c82b1a8fec8c1a790cd41a6229071a4b41281a34553b1a1d65441a06714519ef794419d87d4219c17d4419aa794d19937161197c6584196555b8194e420119372a6419200ee31908ef8218f1cc4518daa52f18c37a4418ac4b87189518fc187de2a7,
   0x1e1530a11dfeff671de8c98c1dd28f151dbc50041da60c5d1d8fc4241d79775c1d6326081d4cd02c1d3675cb1d2016e91d09b3891cf34baf1cdcdf5e1cc66e991caff9651c997fc41c8301b91c6c7f4a1c55f8781c3f6d471c28ddbb1c1249d81bfbb1a01be515181bce74421bb7cf231ba125bd1b8a78151b73c62d1b5d100a,
   0x20d17e0d20bbe7d820a64c972090ac4d207b06fe20655cac204fad5b2039f90f20243fca200e81901ff8be651fe2f64c1fcd29481fb7575c1fa1808c1f8ba4dc1f75c44e1f5fdee61f49f4a81f3405961f1e11b51f0819071ef21b901edc19531ec612541eb006961e99f61d1e83e0eb1e6dc7051e57a86d1e4185281e2b5d38,
   0x23798e0d2364a02e234facda233ab4142325b5df2310b23e22fba93622e69ac822d186f822bc6dca22a74f4022922b5e227d02282267d3a022529fca223d66a82228283f2212e49221fd9ba321e84d7621d2fa0f21bda17121a8439e2192e09b217d786a21680b0f2152988d213d20e82127a4232112224020fc9b4420e70f32,
   0x260bbd3725f7849725e3461b25cf01c825bab7a025a667a7259211df257db64c256954f12554edd1254080ef252c0e4f251795f3250317df24ee941524da0a9a24c57b6f24b0e699249c4c1b2487abf724730631245e5acc2449a9cc2434f33224203704240b754323f6adf323e1e11723cd0eb323b836ca23a3595e238e7673,
   0x288675a02872feb6285f8190284bfe2f283874982824e4cc28114ed027fdb2a727ea105227d667d527c2b93427af0472279b4990278788932773c17d275ff452274c2115273847c82724686e2710830c26fc97a326e8a63726d4aecb26c0b16226acadff2698a4a6268495582670801a265c64ef264843d926341cdb261feffa,
   0x2ae82fd52ad586a32ac2d6d62ab020712a9d63772a8a9fea2a77d5ce2a6505252a522df32a3f503a2a2c6bfd2a19813f2a06900329f3984c29e09a1c29cd957829ba8a6129a778db299460e82981428c296e1dc9295af2a32947c11c2934893729214af8290e066128fabb7528e76a3728d412ab28c0b4d228ad50b12899e64a,
   0x2d2f73cd2d1da3d52d0bcce82cf9ef092ce80a3a2cd61e7f2cc42bd92cb2324c2ca031da2c8e2a872c7c1c552c6a07462c57eb5e2c45c8a02c339f0e2c216eaa2c0f37792bfcf97c2beab4b62bd8692b2bc616dd2bb3bdce2ba15e032b8ef77d2b7c8a3f2b6a164d2b579ba82b451a552b3292552b2003ac2b0d6e5c2afad269,
   0x2f5ad9d12f49ee0f2f38fb032f2800af2f16ff142f05f6372ef4e6192ee3cebe2ed2b0272ec18a582eb05d532e9f291b2e8dedb32e7cab1c2e6b615a2e5a10702e48b8602e37592c2e25f2d82e1485662e0310d92df195342de012782dce88aa2dbcf7cb2dab5fdf2d99c0e72d881ae82d766de22d64b9da2d52fed22d413ccd,
   0x31690b5931590e3e314909863138fd353128e94c3118cdcf3108aabf30f8801f30e84df330d8143b30c7d2fb30b78a3630a739ed3096e223308682dc30761c183065addb305538283044bb00303436673023aa5f301316eb30027c0c2ff1d9c72fe1301c2fd07f0f2fbfc6a32faf06da2f9e3fb62f8d713a2f7c9b692f6bbe45,
   0x3358c3e23349bf48333ab2c6332b9e5e331c8211330d5de332fe31d532eefdea32dfc22432d07e8532c1331132b1dfc932a284b0329321c73283b712327444933264ca4c325548403245be7032362ce0322693913216f287320749c331f7994831e7e11831d8213731c859a531b88a6631a8b37c3198d4ea3188eeb2317900d6,
   0x3528d1b1351acedd350cc3d834feb0a534f0954634e271bd34d4460c34c6123634b7d63c34a99221349b45e7348cf190347e951f347030953461c3f534534f413444d27b34364da63427c0c334192bd5340a8edf33fbe9e233ed3ce133de87de33cfcadc33c105db33b238e033a363ec339487013385a2223376b5513367c090,
   0x36d8169536cb1e2a36be1d4c36b113fd36a4023f3696e8143689c57d367c9a7e366f671736622b4c3654e71d36479a8e363a45a0362ce855361f82af361214b036049e5b35f71fb135e998b535dc096835ce71ce35c0d1e735b329b535a5793c3597c07d3589ff7a357c3636356e64b235608af13552a8f43544bebf3536cc52,
   0x386588943859a292384db3e03841bc7f3835bc713829b3b9381da2563811884d3805659e37f93a4b37ed065737e0c9c337d4849037c836c237bbe05a37af815937a319c23796a996378a30d8377daf89377125ac376493413757f84c374b54ce373ea8ca3731f44037253733371871a5370ba39836fecd0e36f1ee0936e5068a,
   0x39d0329139c5664f39ba912539afb31339a4cc1c3999dc42398ee3853983e1e83978d76c396dc4143962a7e0395782d3394c54ee39411e333935dea4392a9642391f45103913eb0e3908883f38fd1ca438f1a84038e62b1338daa52038cf166938c37eef38b7deb438ac35ba38a084023894c98f38890663387d3a7e387165e3,
   0x3b1734e23b0d89093b03d4143afa16053af04edf3ae67ea13adca54e3ad2c2e83ac8d76f3abee2e53ab4e54c3aaadea63aa0cef33a96b6363a8c94703a8269a33a7835cf3a6df8f83a63b31d3a5964423a4f0c673a44ab8e3a3a41b93a2fcee83a25531f3a1ace5f3a1040a83a05a9fd39fb0a6039f061d239e5b05439daf5e8,
   0x3c39c5da3c3140603c28b19e3c2019943c1778453c0ecdb23c0619dc3bfd5cc43bf4966c3bebc6d53be2ee013bda0bf03bd120a43bc82c1f3bbf2e623bb6276e3bad17443ba3fde73b9adb573b91af973b887aa63b7f3c873b75f53c3b6ca4c43b634b233b59e85a3b507c693b4707533b3d89183b3401bb3b2a713d3b20d79e,
   0x3d3732453d2fd86c3d2875233d21086c3d1992483d1212b73d0a89bc3d02f7573cfb5b893cf3b6533cec07b83ce44fb73cdc8e523cd4c38b3cccef623cc511d93cbd2af03cb53aaa3cad41073ca53e093c9d31b03c951bff3c8cfcf63c84d4963c7ca2e23c7467d93c6c237e3c63d5d13c5b7ed43c531e883c4ab4ef3c42420a,
   0x3e0eddd93e08b42a3e0280e93dfc44183df5fdb83defadca3de9544f3de2f1483ddc84b53dd60e993dcf8ef33dc905c53dc2730f3dbbd6d43db531133dae81cf3da7c9073da106bd3d9a3af23d9365a83d8c86de3d859e963d7eacd23d77b1923d70acd73d699ea33d6286f63d5b65d23d543b373d4d07283d45c9a43d3e82ae,
   0x3ec043943ebb4ddb3eb64e753eb145633eac32a63ea7163f3ea1f02f3e9cc0763e9787153e92440d3e8cf75f3e87a10c3e8241143e7cd7783e77643a3e71e7593e6c60d73e66d0b43e6136f33e5b93923e55e6943e502ff93e4a6fc13e44a5ef3e3ed2823e38f57c3e330ede3e2d1ea83e2724db3e2121793e1b14823e14fdf7,
   0x3f4af60d3f4737593f436ee33f3f9cab3f3bc0b33f37dafa3f33eb813f2ff24a3f2bef533f27e29f3f23cc2e3f1fabff3f1b82153f174e703f13110f3f0ec9f53f0a79213f061e953f01ba503efd4c543ef8d4a13ef453383eefc81a3eeb33473ee694c13ee1ec873edd3a9a3ed87efc3ed3b9ad3eceeaad3eca11fe3ec52fa0,
   0x3fae9fbb3fac1a5b3fa98b2a3fa6f2283fa44f553fa1a2b23f9eec3e3f9c2bfb3f9961e83f968e073f93b0583f90c8da3f8dd78f3f8adc773f87d7923f84c8e23f81b0653f7e8e1e3f7b620c3f782c303f74ec8a3f71a31b3f6e4fe33f6af2e33f678c1c3f641b8d3f60a1383f5d1d1d3f598f3c3f55f7963f52562c3f4eaafe,
   0x3feb03263fe9b8a93fe864523fe7061f3fe59e123fe42c2a3fe2b0673fe12acb3fdf9b553fde02053fdc5edc3fdab1d93fd8fafe3fd73a4a3fd56fbe3fd39b5a3fd1bd1e3fcfd50b3fcde3203fcbe75e3fc9e1c63fc7d2583fc5b9133fc395f93fc1690a3fbf32463fbcf1ad3fbaa7403fb852ff3fb5f4ea3fb38d023fb11b48,
   0x3ffffb113fffec433fffd3963fffb10b3fff84a13fff4e593fff0e323ffec42d3ffe704a3ffe12883ffdaae73ffd39693ffcbe0c3ffc38d13ffba9b83ffb10c13ffa6dec3ff9c13a3ff90aaa3ff84a3c3ff77ff13ff6abc83ff5cdc33ff4e5e03ff3f4203ff2f8843ff1f30b3ff0e3b63fefca843feea7763fed7a8c3fec43c7,
   0x40000000]

/-- S[i] for i at most 1,024. -/
def sineQ (i : Nat) : Nat := sineQuarter.getD (i / 32) 0 >>> (32 * (i % 32)) % 2 ^ 32

/-- S[i] = sin(2π × i / 4,096) × 2^30, rounded to the nearest integer (R150); the wave's symmetries give the other
three quarters exactly. -/
def sineTab (i : Nat) : Int :=
  if i ≤ 1024 then (sineQ i : Int)
  else if i ≤ 2048 then (sineQ (2048 - i) : Int)
  else if i ≤ 3072 then -(sineQ (i - 2048) : Int)
  else -(sineQ (4096 - i) : Int)

/-- sin of a 32-bit turn fraction, Q1.30 (R150). -/
def sinTurn (th : Nat) : Int :=
  let t := th / 2 ^ 20
  let f : Int := (th / 256 % 4096 : Nat)
  sineTab t + (sineTab (t + 1) - sineTab t) * f / 4096

/-- cos of a 32-bit turn fraction (R150). -/
def cosTurn (th : Nat) : Int := sinTurn ((th + 2 ^ 30) % 2 ^ 32)

/-- −N[0] to −N[2,048], the lower half of the inverse-normal table, 64 entries of 16 bits a number (R122). -/
def normalHalf : List Nat :=
  [0x229022aa22c422df22fa23162332234e236b238823a623c423e32402242224422463248524a724ca24ee25122537255d258425ab25d425fd26282654268026ae26de270e2740277427a927e028192854289128d12913295829a029ec2a3c2a902ae82b472bab2c172c8b2d092d932e2c2ed72f9a307d318e32e834c137cb6000,
   0x1ddc1dea1df91e071e161e251e341e421e521e611e701e7f1e8f1e9e1eae1ebe1ece1ede1eee1efe1f0f1f1f1f301f411f521f631f741f851f971fa91fbb1fcd1fdf1ff1200320162029203c204f20622076208a209e20b220c620db20ef21042119212f2144215a21702187219e21b421cc21e321fb2213222b2244225d2276,
   0x1adb1ae51aef1afa1b041b0f1b191b241b2e1b391b441b4e1b591b641b6f1b7a1b851b901b9b1ba61bb11bbc1bc81bd31bde1bea1bf51c011c0d1c181c241c301c3c1c481c541c601c6c1c781c841c901c9d1ca91cb61cc21ccf1cdc1ce81cf51d021d0f1d1c1d291d371d441d511d5f1d6c1d7a1d881d961da41db21dc01dce,
   0x1894189c18a418ac18b518bd18c518ce18d618de18e718ef18f8190019091911191a1922192b1934193c1945194e1956195f19681971197a1983198c1995199e19a719b019b919c219cb19d419de19e719f019fa1a031a0c1a161a1f1a291a321a3c1a461a4f1a591a631a6d1a761a801a8a1a941a9e1aa81ab21abc1ac61ad1,
   0x16b616bd16c416cb16d216d916e016e716ee16f516fc1703170a17111718171f1726172d1734173c1743174a1751175917601767176e1776177d1785178c1793179b17a217aa17b117b917c017c817cf17d717df17e617ee17f617fd1805180d1814181c1824182c1834183c1844184b1853185b1863186b1873187c1884188c,
   0x151d15231529152f1535153b15411547154d15531559155f1565156b15721578157e1584158a15901597159d15a315a915b015b615bc15c315c915cf15d615dc15e215e915ef15f615fc16021609160f1616161c1623162916301637163d1644164a16511658165e1665166c1672167916801686168d1694169b16a216a816af,
   0x13b313b813be13c313c813ce13d313d813de13e313e913ee13f413f913ff1404140a140f1415141a14201425142b14301436143b14411447144c14521457145d14631468146e14741479147f1485148a14901496149c14a114a714ad14b314b814be14c414ca14d014d614db14e114e714ed14f314f914ff1505150b15111517,
   0x126d12721276127b12801285128a128f12941299129e12a312a812ad12b112b612bb12c012c512ca12cf12d412d912de12e312e812ed12f312f812fd13021307130c13111316131b13201325132b13301335133a133f1344134a134f13541359135e13641369136e13731379137e13831388138e13931398139e13a313a813ae,
   0x11421146114b114f11541158115d11621166116b116f11741178117d11811186118a118f11941198119d11a111a611ab11af11b411b811bd11c211c611cb11d011d411d911de11e211e711ec11f011f511fa11ff12031208120d12111216121b122012241229122e12331238123c12411246124b125012541259125e12631268,
   0x102d10311035103a103e10421046104a104f10531057105b106010641068106c107110751079107d10821086108a108e10931097109b10a010a410a810ac10b110b510b910be10c210c610cb10cf10d310d810dc10e110e510e910ee10f210f610fb10ff11041108110d11111115111a111e11231127112c113011351139113e,
   0xf2a0f2e0f320f360f3a0f3e0f420f460f490f4d0f510f550f590f5d0f610f650f690f6d0f710f750f790f7d0f810f850f890f8d0f910f950f990f9d0fa10fa50faa0fae0fb20fb60fba0fbe0fc20fc60fca0fce0fd20fd60fda0fde0fe30fe70feb0fef0ff30ff70ffb0fff10041008100c101010141018101c102110251029,
   0xe350e390e3d0e410e440e480e4c0e500e530e570e5b0e5f0e620e660e6a0e6e0e710e750e790e7d0e800e840e880e8c0e900e930e970e9b0e9f0ea30ea60eaa0eae0eb20eb60eba0ebd0ec10ec50ec90ecd0ed10ed40ed80edc0ee00ee40ee80eec0eef0ef30ef70efb0eff0f030f070f0b0f0f0f120f160f1a0f1e0f220f26,
   0xd4d0d510d540d580d5b0d5f0d630d660d6a0d6d0d710d740d780d7c0d7f0d830d860d8a0d8d0d910d950d980d9c0d9f0da30da70daa0dae0db10db50db90dbc0dc00dc40dc70dcb0dcf0dd20dd60dd90ddd0de10de40de80dec0def0df30df70dfa0dfe0e020e050e090e0d0e100e140e180e1c0e1f0e230e270e2a0e2e0e32,
   0xc700c730c760c7a0c7d0c810c840c870c8b0c8e0c920c950c980c9c0c9f0ca30ca60caa0cad0cb00cb40cb70cbb0cbe0cc20cc50cc90ccc0ccf0cd30cd60cda0cdd0ce10ce40ce80ceb0cef0cf20cf60cf90cfd0d000d030d070d0a0d0e0d110d150d180d1c0d1f0d230d270d2a0d2e0d310d350d380d3c0d3f0d430d460d4a,
   0xb9b0b9e0ba10ba50ba80bab0bae0bb20bb50bb80bbc0bbf0bc20bc50bc90bcc0bcf0bd30bd60bd90bdc0be00be30be60bea0bed0bf00bf40bf70bfa0bfe0c010c040c080c0b0c0e0c120c150c180c1c0c1f0c220c260c290c2c0c300c330c360c3a0c3d0c400c440c470c4a0c4e0c510c550c580c5b0c5f0c620c650c690c6c,
   0xace0ad10ad40ad70ada0ade0ae10ae40ae70aea0aed0af10af40af70afa0afd0b000b040b070b0a0b0d0b100b140b170b1a0b1d0b200b230b270b2a0b2d0b300b330b370b3a0b3d0b400b440b470b4a0b4d0b500b540b570b5a0b5d0b600b640b670b6a0b6d0b710b740b770b7a0b7e0b810b840b870b8b0b8e0b910b940b98,
   0xa080a0b0a0e0a110a140a170a1a0a1d0a200a230a260a290a2c0a2f0a320a350a390a3c0a3f0a420a450a480a4b0a4e0a510a540a570a5a0a5e0a610a640a670a6a0a6d0a700a730a760a790a7d0a800a830a860a890a8c0a8f0a920a950a990a9c0a9f0aa20aa50aa80aab0aae0ab20ab50ab80abb0abe0ac10ac40ac80acb,
   0x947094a094d0950095309560959095c095f096209650968096b096e097109740977097a097d0980098309860989098c098f099209950998099b099e09a109a409a709aa09ad09b009b309b609b909bc09bf09c209c509c809cb09ce09d109d409d709da09dd09e009e309e609e909ec09ef09f209f509f809fb09fe0a010a05,
   0x88c088f089208940897089a089d08a008a308a608a908ac08af08b108b408b708ba08bd08c008c308c608c908cc08cf08d108d408d708da08dd08e008e308e608e908ec08ef08f208f508f708fa08fd0900090309060909090c090f091209150918091b091e0921092409270929092c092f093209350938093b093e09410944,
   0x7d507d807db07dd07e007e307e607e907eb07ee07f107f407f707fa07fd07ff080208050808080b080e0810081308160819081c081f082108240827082a082d0830083308350838083b083e084108440847084a084c084f085208550858085b085e0860086308660869086c086f087208750878087a087d0880088308860889,
   0x72207250727072a072d0730073307350738073b073e0740074307460749074c074e0751075407570759075c075f076207650767076a076d0770077307750778077b077e0781078307860789078c078f079107940797079a079d079f07a207a507a807ab07ad07b007b307b607b907bb07be07c107c407c707ca07cc07cf07d2,
   0x67206750678067a067d0680068306850688068b068e0690069306960698069b069e06a106a306a606a906ac06ae06b106b406b706b906bc06bf06c106c406c706ca06cc06cf06d206d506d706da06dd06e006e206e506e806eb06ed06f006f306f606f806fb06fe0701070307060709070c070f071107140717071a071c071f,
   0x5c605c805cb05ce05d005d305d605d905db05de05e105e305e605e905eb05ee05f105f305f605f905fb05fe0601060306060609060c060e0611061406160619061c061e0621062406260629062c062f0631063406370639063c063f064206440647064a064c064f065206540657065a065d065f066206650667066a066d0670,
   0x51c051e0521052405260529052c052e0531053405360539053b053e0541054305460549054b054e0551055305560559055b055e0561056305660569056b056e0570057305760578057b057e0580058305860588058b058e0590059305960598059b059e05a005a305a605a805ab05ae05b005b305b605b805bb05be05c005c3,
   0x47404770479047c047e0481048404860489048b048e0491049304960499049b049e04a004a304a604a804ab04ad04b004b304b504b804bb04bd04c004c204c504c804ca04cd04d004d204d504d704da04dd04df04e204e504e704ea04ec04ef04f204f404f704fa04fc04ff0501050405070509050c050f0511051405170519,
   0x3ce03d103d303d603d803db03de03e003e303e503e803eb03ed03f003f203f503f703fa03fd03ff040204040407040a040c040f0411041404170419041c041e0421042304260429042b042e0430043304360438043b043d0440044304450448044a044d0450045204550457045a045d045f046204640467046a046c046f0471,
   0x32a032c032f0332033403370339033c033e0341034303460349034b034e0350035303550358035a035d0360036203650367036a036c036f0372037403770379037c037e0381038403860389038b038e0390039303960398039b039d03a003a203a503a803aa03ad03af03b203b403b703ba03bc03bf03c103c403c603c903cc,
   0x2870289028c028e0291029402960299029b029e02a002a302a502a802aa02ad02b002b202b502b702ba02bc02bf02c102c402c602c902cc02ce02d102d302d602d802db02dd02e002e202e502e802ea02ed02ef02f202f402f702f902fc02fe0301030403060309030b030e0310031303150318031b031d0320032203250327,
   0x1e501e701ea01ec01ef01f201f401f701f901fc01fe0201020302060208020b020d0210021202150217021a021c021f0222022402270229022c022e0231023302360238023b023d0240024202450248024a024d024f0252025402570259025c025e0261026302660268026b026e0270027302750278027a027d027f02820284,
   0x14401460149014b014e0150015301550158015a015d015f0162016401670169016c016e0171017301760179017b017e0180018301850188018a018d018f0192019401970199019c019e01a101a301a601a801ab01ad01b001b201b501b801ba01bd01bf01c201c401c701c901cc01ce01d101d301d601d801db01dd01e001e2,
   0xa300a500a800aa00ad00b000b200b500b700ba00bc00bf00c100c400c600c900cb00ce00d000d300d500d800da00dd00df00e200e400e700e900ec00ee00f100f300f600f800fb00fd0100010201050107010a010c010f0111011401160119011b011e0121012301260128012b012d0130013201350137013a013c013f0141,
   0x300050008000a000d000f0012001400170019001c001e0021002300260028002b002d0030003200350037003a003c003f0041004400460049004b004e0050005300550058005a005d005f0062006400670069006c006e0071007300760078007b007d0080008200850087008a008c008f0091009400960099009b009e00a0,
   0x0]

def normalH (i : Nat) : Nat := normalHalf.getD (i / 64) 0 >>> (16 * (i % 64)) % 2 ^ 16

/-- N[i], Q3.12, with N[4,096 − i] = −N[i] (R122). -/
def normalTab (i : Nat) : Int := if i ≤ 2048 then -(normalH i : Int) else (normalH (4096 - i) : Int)

/-- The standard normal deviate of a random word, Q3.12 (R122). -/
def normalOf (u : Nat) : Int :=
  let t := u / 2 ^ 20
  let f : Int := (u / 256 % 4096 : Nat)
  normalTab t + (normalTab (t + 1) - normalTab t) * f / 4096

end Sys2Proof.Machine
end

