-- ==== Sys2Proof/Machine/FieldMap.lean ====
section
/-! DEFINITION. The layered cost map and the distance field of chapter 02: coordinates, the occupied set, the
distance encoding, the image layout, brick allocation and the lookups. Every function is of plain data. -/

namespace Sys2Proof.Machine

/-- A point or a cell on three axes. -/
structure V3 where
  x : Int := 0
  y : Int := 0
  z : Int := 0
  deriving DecidableEq, Repr

def V3.sub (a b : V3) : V3 := ⟨a.x - b.x, a.y - b.y, a.z - b.z⟩
def V3.add (a b : V3) : V3 := ⟨a.x + b.x, a.y + b.y, a.z + b.z⟩

/-- An axis-aligned box given by its least and greatest members. -/
structure Box where
  lo : V3 := {}
  hi : V3 := {}
  deriving DecidableEq, Repr

def Box.has (b : Box) (p : V3) : Bool :=
  decide (b.lo.x ≤ p.x) && decide (p.x ≤ b.hi.x) && decide (b.lo.y ≤ p.y) && decide (p.y ≤ b.hi.y) &&
  decide (b.lo.z ≤ p.z) && decide (p.z ≤ b.hi.z)

/-- The voxels of a field, as a box (R44). -/
def fieldVoxels : Box := ⟨⟨0, 0, 0⟩, ⟨511, 511, 127⟩⟩

/-- The coarse cells of a field, as a box (R44). -/
def fieldCells : Box := ⟨⟨0, 0, 0⟩, ⟨63, 63, 15⟩⟩

/-- Whether an offset p − O lies in the field volume (R44). -/
def inVolume (u : V3) : Bool :=
  decide (0 ≤ u.x) && decide (u.x < 163840) && decide (0 ≤ u.y) && decide (u.y < 163840) &&
  decide (0 ≤ u.z) && decide (u.z < 40960)

/-- floor(v / d) on every axis (`/` of `Int` rounds down for a positive divisor). -/
def V3.fdiv (v : V3) (d : Int) : V3 := ⟨v.x / d, v.y / d, v.z / d⟩

/-- v % d on every axis, never negative for a positive divisor. -/
def V3.fmod (v : V3) (d : Int) : V3 := ⟨v.x % d, v.y % d, v.z % d⟩

/-- The index of a coarse cell inside the field: (cz << 12) | (cy << 6) | cx (R67). -/
def cellIndex (c : V3) : Nat := c.z.toNat * 4096 + c.y.toNat * 64 + c.x.toNat

/-- The cell of an index (R67). -/
def cellOf (i : Nat) : V3 := ⟨(i % 64 : Nat), (i / 64 % 64 : Nat), (i / 4096 : Nat)⟩

/-- The index of a voxel inside its cell: (vz << 6) | (vy << 3) | vx (R67). -/
def voxelIndex (w : V3) : Nat := w.z.toNat * 64 + w.y.toNat * 8 + w.x.toNat

/-- The in-cell position of a voxel index (R67). -/
def voxelOf (i : Nat) : V3 := ⟨(i % 8 : Nat), (i / 8 % 8 : Nat), (i / 64 : Nat)⟩

/-- A bit of a 64-byte voxel bitmap (R68, Table 2-4): bit i & 7 of byte i >> 3. -/
def bitmapBit (bm : List Byte) (i : Nat) : Bool := (bm.getD (i / 8) 0).getLsbD (i % 8)

/-! ### Integer roots -/

/-- Binary search for the root of n: `k` bits remain to be tried above `r`. -/
def isqrtFrom : Nat → Nat → Nat → Nat
  | 0, _, r => r
  | k + 1, n, r => isqrtFrom k n (if (r + 2 ^ k) * (r + 2 ^ k) ≤ n then r + 2 ^ k else r)

/-- The greatest integer whose square is at most n (R63). -/
def isqrt (n : Nat) : Nat := isqrtFrom (n.log2 / 2 + 1) n 0

/-! ### The occupied set (R49 to R52) -/

/-- The static map of a bundle (R52): the corner cell in map cells, its extent, the 16-bit entries by cell
((cz × ny) + cy) × nx + cx of the region, and the bitmap pool. -/
structure StaticMap where
  corner : V3 := {}
  nx : Nat := 0
  ny : Nat := 0
  nz : Nat := 0
  entries : Tbl Nat := []
  bitmaps : List (List Byte) := []
  deriving DecidableEq, Repr

/-- The static-map entry of a map coarse cell; a cell outside the region counts as FULL (R52). -/
def StaticMap.entry (m : StaticMap) (c : V3) : Nat :=
  let d := c.sub m.corner
  if decide (0 ≤ d.x) && decide (d.x < m.nx) && decide (0 ≤ d.y) && decide (d.y < m.ny) &&
     decide (0 ≤ d.z) && decide (d.z < m.nz) then
    Tbl.get 0 m.entries ((d.z.toNat * m.ny + d.y.toNat) * m.nx + d.x.toNat)
  else 0xFFFF

/-- Whether the static map occupies a map voxel (R52). -/
def StaticMap.occ (m : StaticMap) (v : V3) : Bool :=
  let e := m.entry (v.fdiv 8)
  if e = 0 then false
  else if e = 0xFFFF then true
  else bitmapBit (m.bitmaps.getD (e - 1) []) (voxelIndex (v.fmod 8))

/-- A keep-out zone (R61): its box in map coordinates and its layer mask. -/
structure Zone where
  box : Box := {}
  mask : Byte := 0
  deriving DecidableEq, Repr

/-- First and last map voxel of a zone on one axis (R61). -/
def zoneSpan (lo hi : Int) : Int × Int :=
  (lo / 320, max (lo / 320) (-((-hi) / 320) - 1))

/-- Whether a zone occupies a map voxel (R61). -/
def Zone.occ (z : Zone) (v : V3) : Bool :=
  let sx := zoneSpan z.box.lo.x z.box.hi.x
  let sy := zoneSpan z.box.lo.y z.box.hi.y
  let sz := zoneSpan z.box.lo.z z.box.hi.z
  (Box.mk ⟨sx.1, sy.1, sz.1⟩ ⟨sx.2, sy.2, sz.2⟩).has v

/-- A partial record: a map coarse cell and its voxel bitmap. -/
structure PartRec where
  cell : V3 := {}
  bm : List Byte := []
  deriving DecidableEq, Repr

/-- Everything the occupied sets of one field are made of (R50, R72). -/
structure FieldInputs where
  origin : V3 := {}
  smap : StaticMap := {}
  /-- full records of X, in map coarse cells -/
  full : List V3 := []
  /-- partial records of X -/
  part : List PartRec := []
  /-- fail-safe boxes in coarse cells of the field (R58, R59) -/
  failSafe : List Box := []
  zones : List Zone := []
  /-- predicted probabilities, index layer × 65,536 + cell; an absent entry is 0 -/
  pred : List Nat := []
  /-- PRED_THR per layer; none where the bundle has no predictor graph (R51) -/
  thr : Option (List Nat) := none
  obsLayers : Nat := 8
  wall : Bool := false
  deriving DecidableEq, Repr

/-- Whether X occupies a map voxel (R57). -/
def FieldInputs.obs (f : FieldInputs) (v : V3) : Bool :=
  f.full.contains (v.fdiv 8) ||
  f.part.any fun r => r.cell == v.fdiv 8 && bitmapBit r.bm (voxelIndex (v.fmod 8))

/-- Whether P_l occupies a field cell (R51; a threshold of 0 acts as 1). -/
def FieldInputs.predOcc (f : FieldInputs) (l cell : Nat) : Bool :=
  match f.thr with
  | none => false
  | some t => decide (max 1 (t.getD l 0x80) ≤ f.pred.getD (l * 65536 + cell) 0)

/-- Whether a voxel inside the field volume is occupied in layer l (R50): nothing removes occupancy. -/
def FieldInputs.occ (f : FieldInputs) (l : Nat) (v : V3) : Bool :=
  let mv := v.add (f.origin.fdiv 320)
  let c := v.fdiv 8
  f.smap.occ mv || (decide (l < f.obsLayers) && f.obs mv) || f.predOcc l (cellIndex c) ||
  (f.zones.any fun z => z.mask.getLsbD l && z.occ mv) || f.failSafe.any fun b => b.has c

/-! ### Distances (R63 to R66) -/

/-- Whole voxels strictly between two spans on one axis, 0 when they touch or overlap (R63). -/
def axisGap (alo ahi blo bhi : Int) : Nat := (max (max (blo - ahi - 1) (alo - bhi - 1)) 0).toNat

/-- The squared gap of two boxes of voxels (R63). -/
def gapSq (a b : Box) : Nat :=
  let gx := axisGap a.lo.x a.hi.x b.lo.x b.hi.x
  let gy := axisGap a.lo.y a.hi.y b.lo.y b.hi.y
  let gz := axisGap a.lo.z a.hi.z b.lo.z b.hi.z
  gx * gx + gy * gy + gz * gz

/-- The lesser of two distances, `none` being infinite. -/
def minInf : Option Nat → Option Nat → Option Nat
  | none, b => b
  | a, none => a
  | some a, some b => some (min a b)

/-- The voxels of the field, in index order x fastest. -/
def allVoxels : List V3 :=
  (List.range 128).flatMap fun (z : Nat) => (List.range 512).flatMap fun (y : Nat) =>
    (List.range 512).map fun (x : Nat) => (⟨x, y, z⟩ : V3)

/-- The squared gap between a region and the space outside the volume (R50, EDGE = WALL): the least number of
voxels between the region and any face, squared. -/
def wallGapSq (q : Box) : Nat :=
  let g := min (min (min q.lo.x (511 - q.hi.x)) (min q.lo.y (511 - q.hi.y))) (min q.lo.z (127 - q.hi.z))
  (max g 0).toNat ^ 2

/-- n_min(Q, l): the least squared gap between Q and an occupied voxel of layer l, none where there is none (R63). -/
def FieldInputs.nMin (f : FieldInputs) (q : Box) (l : Nat) : Option Nat :=
  let inside := allVoxels.foldl (fun acc v => if f.occ l v then minInf acc (some (gapSq q ⟨v, v⟩)) else acc) none
  if f.wall then minInf inside (some (wallGapSq q)) else inside

/-- The voxels of a coarse cell, as a box. -/
def cellBox (c : V3) : Box := ⟨⟨c.x * 8, c.y * 8, c.z * 8⟩, ⟨c.x * 8 + 7, c.y * 8 + 7, c.z * 8 + 7⟩⟩

/-- The coarse value of a squared gap: min(255, isqrt(n)), 255 where nothing is occupied (R64). -/
def coarseVal : Option Nat → Nat
  | none => 255
  | some n => min 255 (isqrt n)

/-- The fine value of the least squared gap of a band: isqrt(100 m) when below 255, else 255 (R65). -/
def fineVal : Option Nat → Nat
  | none => 255
  | some m => if isqrt (100 * m) < 255 then isqrt (100 * m) else 255

/-- The coarse layer of an image, index cell × 8 + l (R64, R67). -/
def FieldInputs.coarse (f : FieldInputs) : List Nat :=
  (List.range 65536).flatMap fun c => (List.range 8).map fun l => coarseVal (f.nMin (cellBox (cellOf c)) l)

/-- The 1,024 bytes of the brick of a cell: band × 512 + voxel (R65, R67). -/
def FieldInputs.brick (f : FieldInputs) (cell : Nat) : List Nat :=
  (List.range 2).flatMap fun band => (List.range 512).map fun i =>
    let v := (V3.add ⟨(cellOf cell).x * 8, (cellOf cell).y * 8, (cellOf cell).z * 8⟩ (voxelOf i))
    fineVal ((List.range 4).foldl (fun acc l => minInf acc (f.nMin ⟨v, v⟩ (band * 4 + l))) none)

/-- Whether all 512 voxels of a cell are occupied in all 8 layers (R70). -/
def FieldInputs.solid (f : FieldInputs) (cell : Nat) : Bool :=
  (List.range 8).all fun l => (List.range 512).all fun i =>
    f.occ l (V3.add ⟨(cellOf cell).x * 8, (cellOf cell).y * 8, (cellOf cell).z * 8⟩ (voxelOf i))

/-- m_c: the least coarse value of a cell over the 8 layers (R70). -/
def cellMin (coarse : List Nat) (c : Nat) : Nat := ((coarse.drop (c * 8)).take 8).foldl min 255

/-- The squared distance in cells from a cell to the focus cell (R70). -/
def cellDist2 (a b : V3) : Nat :=
  ((a.x - b.x) * (a.x - b.x) + (a.y - b.y) * (a.y - b.y) + (a.z - b.z) * (a.z - b.z)).toNat

/-- Lexicographic order of the ranking key (m_c, r, cell) (R70). -/
def keyLe (a b : Nat × Nat × Nat) : Bool :=
  decide (a.1 < b.1) || (a.1 == b.1 && (decide (a.2.1 < b.2.1) || (a.2.1 == b.2.1 && decide (a.2.2 ≤ b.2.2))))

/-- The eligible cells in rank order (R70 items 1 and 2). -/
def brickRanking (coarse : List Nat) (solid : Nat → Bool) (range : Nat) (focus : V3) : List Nat :=
  let el := (List.range 65536).filter fun c => decide (cellMin coarse c ≤ min range 25) && !solid c
  (sortBy keyLe (el.map fun c => (cellMin coarse c, cellDist2 (cellOf c) focus, c))).map fun k => k.2.2

/-! ### The image (R67, R68) -/

def coarseBase : Nat := 0
def brickIndexBase : Nat := 0x80000
def brickBase : Nat := 0xA0000
def goldenBrickBase : Nat := 0xFF000
def imageBytes : Nat := 0x100000

/-- A brick-index entry that is valid (R68). -/
def brickEntry (b : Nat) : Nat := 0x8000 + b

/-- The field image of an assembly (R67, R70, R71): coarse layer, brick index, live bricks, golden bricks; every
other byte is 0. -/
def FieldInputs.image (f : FieldInputs) (coarse : List Nat) (range : Nat) (focus : V3) (golden : List Byte) : Mem :=
  let cells := (brickRanking coarse f.solid range focus).take 380
  let m := Mem.writes [] coarseBase (coarse.map (BitVec.ofNat 8))
  let m := (cells.zipIdx).foldl
    (fun m (c : Nat × Nat) =>
      (m.writes (brickIndexBase + c.1 * 2) (toLe 2 (brickEntry c.2))).writes (brickBase + c.2 * 1024)
        ((f.brick c.1).map (BitVec.ofNat 8))) m
  m.writes goldenBrickBase (golden.take 4096)

/-! ### Lookups (R47, R66, R69, R71)

A lookup reads the image through `rd`, the byte at an address after the word check of R155. -/

/-- The time layer of a query: clamp(floor((t_w − T(v)) / (Δ × 1,000,000)), 0, 7) (R47). -/
def layerOf (tw t0 : Int) (layerMs : Nat) : Nat :=
  (clampI 0 7 ((tw - t0) / ((layerMs : Int) * 1000000))).toNat

/-- Addresses a lookup of a cell needs (R66, R67). -/
def coarseAddr (cell l : Nat) : Nat := cell * 8 + l
def brickIndexAddr (cell : Nat) : Nat := brickIndexBase + cell * 2
def fineAddr (brick band vox : Nat) : Nat := brickBase + brick * 1024 + band * 512 + vox

/-- The brick-index entry of a cell: VALID and BRICK (R68). -/
def brickAt (rd : Nat → Nat) (cell : Nat) : Bool × Nat :=
  let e := rd (brickIndexAddr cell) + 256 * rd (brickIndexAddr cell + 1)
  (decide (0x8000 ≤ e), e % 512)

/-- Whether a live lookup at a point meets an index entry with BRICK ≥ 380 (R69). -/
def badIndexAt (rd : Nat → Nat) (origin p : V3) : Bool :=
  let u := p.sub origin
  inVolume u && (let b := brickAt rd (cellIndex ((u.fdiv 320).fdiv 8)); b.1 && decide (380 ≤ b.2))

/-- D for a point in layer l of a field (R66, R69). -/
def fieldDist (rd : Nat → Nat) (origin : V3) (l : Nat) (p : V3) : Int :=
  let u := p.sub origin
  if inVolume u then
    let v := u.fdiv 320
    let cell := cellIndex (v.fdiv 8)
    let d : Int := 320 * rd (coarseAddr cell l)
    let b := brickAt rd cell
    if b.1 && decide (b.2 < 380) then
      let f := rd (fineAddr b.2 (l / 4) (voxelIndex (v.fmod 8)))
      if f = 255 then d else max d (32 * f)
    else d
  else 0

/-- D of a golden lookup: the golden patch is 2 × 2 × 1 cells of the golden frame; 0 outside it (R71). -/
def goldenDist (rd : Nat → Nat) (l : Nat) (p : V3) : Int :=
  let v := p.fdiv 320
  if decide (0 ≤ v.x) && decide (v.x < 16) && decide (0 ≤ v.y) && decide (v.y < 16) &&
     decide (0 ≤ v.z) && decide (v.z < 8) then
    let c := v.fdiv 8
    32 * rd (fineAddr (380 + c.x.toNat + 2 * c.y.toNat) (l / 4) (voxelIndex (v.fmod 8)))
  else 0

/-! ### Record capacity (R59) -/

/-- One source's snapshot as the field takes it: records by segment order, and its coverage box. -/
structure SourceRecs where
  full : List V3 := []
  part : List PartRec := []
  coverage : Box := fieldCells
  stale : Bool := false
  deriving DecidableEq, Repr

/-- What taking all sources gives: the records of X, the fail-safe boxes, records outside the volume, and
whether a source overflowed. -/
structure Taken where
  full : List V3 := []
  part : List PartRec := []
  boxes : List Box := []
  outside : Nat := 0
  ovf : Bool := false
  deriving DecidableEq, Repr

/-- Whether a map coarse cell lies in the field volume. -/
def cellInField (origin c : V3) : Bool := fieldCells.has (c.sub (origin.fdiv 2560))

/-- One source added to a field (R58, R59). -/
def takeSource (origin : V3) (t : Taken) (s : SourceRecs) : Taken :=
  let full := s.full.filter (cellInField origin)
  let part := s.part.filter fun r => cellInField origin r.cell
  let out := (s.full.length - full.length) + (s.part.length - part.length)
  let boxes := if s.stale then t.boxes ++ [s.coverage] else t.boxes
  if decide (t.full.length + full.length ≤ 65536) && decide (t.part.length + part.length ≤ 32768) then
    { t with full := t.full ++ full, part := t.part ++ part, boxes := boxes, outside := t.outside + out }
  else { t with boxes := boxes ++ [s.coverage], outside := t.outside + out, ovf := true }

/-- All sources in order, source 0 first (R59). -/
def takeSources (origin : V3) (l : List SourceRecs) : Taken := l.foldl (takeSource origin) {}

/-! ### The origin (R45) -/

/-- The recentred origin component: (floor(b / 2,560) − 32) × 2,560. -/
def recentre (b : Int) : Int := (b / 2560 - 32) * 2560

/-- O after a cut-off in FOLLOW mode with base position b: recomputed only where b differs from O + 81,920 by
more than RECENTRE_CELLS × 2,560 on x or y; RECENTRE_CELLS 0 acts as 1 (R45, Table 2-6). -/
def followOrigin (o b : V3) (recentreCells : Nat) : V3 :=
  let lim : Int := (max 1 recentreCells : Nat) * 2560
  if decide (lim < (b.x - (o.x + 81920)).natAbs) || decide (lim < (b.y - (o.y + 81920)).natAbs) then
    ⟨recentre b.x, recentre b.y, o.z⟩
  else o

/-- The focus cell in FOLLOW mode: the field cell that holds the base position (R70). -/
def focusCell (o b : V3) : V3 := (b.sub o).fdiv 2560

/-- R48: whether every waypoint of a plan falls inside the horizon. -/
def horizonFits (ageLimit period emitUs dc layerMs : Nat) : Bool :=
  decide (ageLimit * period + emitUs + dc < 8 * layerMs * 1000)

end Sys2Proof.Machine
end

