-- ==== Sys2Proof/Machine/RobotModel.lean ====
section
/-! DEFINITION. Joint values (04 R111), the compiled robot model (05 R143 to R147) and the planner parameters of a
context record (11 Table 11-15). -/

namespace Sys2Proof.Machine

/-- TYPE of a joint (Table 5-2). -/
inductive JointType where
  | limited | continuous | prismatic
  deriving DecidableEq, Repr

/-- A compiled joint record (Table 5-2), with the dynamics of the link it moves (08 Table 8-1). -/
structure Joint where
  parent : Nat := 0
  ty : JointType := .limited
  /-- F, 9 entries Q1.30, row-major -/
  f : List Int := [1073741824, 0, 0, 0, 1073741824, 0, 0, 0, 1073741824]
  /-- T, 1/16 mm -/
  t : V3 := {}
  /-- AXIS, Q1.30 -/
  axis : V3 := {}
  zero : Int := 0
  lo : Int := 0
  hi : Int := 0
  vstep : Nat := 0
  deriving DecidableEq, Repr

/-- A sphere record (Table 5-3). -/
structure Sphere where
  off : V3 := {}
  frame : Nat := 0
  rad : Nat := 0
  deriving DecidableEq, Repr

/-- The root frame of a model: FIXED with its rotation and position, or STATE (R143). -/
inductive RootMode where
  | fixed (b0 : List Int) (p0 : V3)
  | state
  deriving DecidableEq, Repr

def Joint.cont (j : Joint) : Bool := j.ty == .continuous

/-! ### Joint values (R111)

A joint value is held as the signed reading of its 32-bit word. -/

/-- b − a: signed 32-bit modulo 2^32 for a continuous joint, exact for the others. -/
def jdiff (cont : Bool) (b a : Int) : Int := if cont then wrapS 32 (b - a) else b - a

/-- a + d: modulo 2^32 for a continuous joint, exact for the others. -/
def jadd (cont : Bool) (a d : Int) : Int := if cont then wrapS 32 (a + d) else a + d

/-- R114: a limited joint is clamped to its limits, a continuous one wraps. -/
def Joint.fit (j : Joint) (v : Int) : Int := if j.cont then wrapS 32 v else clampI j.lo j.hi v

/-- from + floor((to − from) × num / den) for one joint (R113, R125, R133). -/
def jlerp (cont : Bool) (a b : Int) (num den : Int) : Int := jadd cont a (jdiff cont b a * num / den)

/-- A vector of joint values. -/
abbrev JVec := List Int

/-- The j-th value of a vector, 0 where it is shorter. -/
def JVec.at (v : JVec) (j : Nat) : Int := v.getD j 0

/-- A vector built joint by joint. -/
def perJoint (js : List Joint) (f : Nat → Joint → Int) : JVec := js.zipIdx.map fun p => f p.2 p.1

/-! ### Knot forms (R110, R125, R126) -/

/-- A knot form: T_s in ns, D_c in µs, the anchor and the knots. -/
structure KnotForm where
  ts : Nat := 0
  dc : Nat := 1
  anchor : JVec := []
  knots : List JVec := []
  deriving DecidableEq, Repr

/-- K[m − 1] for m > 0 and the anchor for m = 0. -/
def KnotForm.node (k : KnotForm) (m : Nat) : JVec :=
  match m with
  | 0 => k.anchor
  | m + 1 => k.knots.getD m (k.knots.getLastD k.anchor)

/-- A knot form evaluated at num / den µs after its own T_s (R125): piecewise linear, the anchor held before 0 and
the last knot after the end. -/
def KnotForm.eval (js : List Joint) (k : KnotForm) (num : Int) (den : Nat) : JVec :=
  let p := k.knots.length
  if num < 0 then k.anchor
  else
    let m := (num * p / ((den : Int) * k.dc)).toNat
    if p ≤ m then k.node p
    else
      let n := num * p - (m : Int) * k.dc * den
      let d := (k.dc : Int) * den
      perJoint js fun j jt => jlerp jt.cont ((k.node m).at j) ((k.node (m + 1)).at j) n d

/-- The knots of a form shifted by one tick, read at the instants of a form with `p` knots and duration `dc`
(R126). -/
def KnotForm.shiftKnots (js : List Joint) (k : KnotForm) (p dc period : Nat) : List JVec :=
  (List.range p).map fun m => k.eval js (((m + 1) * dc + period * p : Nat) : Int) p

/-- Waypoint i of a knot form at shape w (R113). -/
def KnotForm.waypoint (js : List Joint) (k : KnotForm) (w i : Nat) : JVec :=
  let h := w / k.knots.length
  let m := (i + 1) / h
  let r := (i + 1) % h
  if r = 0 then k.node m
  else perJoint js fun j jt => jlerp jt.cont ((k.node m).at j) ((k.node (m + 1)).at j) r h

/-- All waypoints of a knot form (R113). -/
def KnotForm.waypoints (js : List Joint) (k : KnotForm) (w : Nat) : List JVec :=
  (List.range w).map (k.waypoint js w)

/-- The planned PTP time of waypoint i, ns (R112). -/
def waypointTime (ts dc w i : Nat) : Nat := ts + (i + 1) * dc * 1000 / w

/-! ### Planner parameters (Table 11-15) -/

/-- The record bytes of a context (Table 11-7): a 4 KiB memory. -/
abbrev CtxRec := Mem

def CtxRec.u (r : CtxRec) (o n : Nat) : Nat := leNat (Mem.reads r o n)
def CtxRec.s32 (r : CtxRec) (o : Nat) : Int := sgn 32 (r.u o 4)

def CtxRec.waypoints (r : CtxRec) : Nat := r.u 0x040 1
def CtxRec.spheres (r : CtxRec) : Nat := r.u 0x041 1
def CtxRec.knots (r : CtxRec) : Nat := r.u 0x042 1
def CtxRec.share (r : CtxRec) : Nat := r.u 0x043 1
def CtxRec.dc (r : CtxRec) : Nat := r.u 0x044 4
def CtxRec.req (r : CtxRec) : Nat := r.u 0x048 4
def CtxRec.wPerturb (r : CtxRec) : Nat := r.u 0x04C 2
def CtxRec.wRoadmap (r : CtxRec) : Nat := r.u 0x04E 2
def CtxRec.wProposal (r : CtxRec) : Nat := r.u 0x050 2
def CtxRec.wTree (r : CtxRec) : Nat := r.u 0x052 2
def CtxRec.wUniform (r : CtxRec) : Nat := r.u 0x054 2
def CtxRec.shiftEn (r : CtxRec) : Bool := r.u 0x056 1 == 1
def CtxRec.treeMax (r : CtxRec) : Nat := r.u 0x058 4
def CtxRec.frontier (r : CtxRec) : Nat := r.u 0x05C 2
def CtxRec.sigma (r : CtxRec) (j : Nat) : Nat := r.u (0x0C0 + 4 * j) 4
def CtxRec.uniLo (r : CtxRec) (j : Nat) : Nat := r.u (0x1C0 + 8 * j) 4
def CtxRec.uniHi (r : CtxRec) (j : Nat) : Nat := r.u (0x1C4 + 8 * j) 4
def CtxRec.treeStep (r : CtxRec) (j : Nat) : Nat := r.u (0x3C0 + 4 * j) 4
def CtxRec.clrMargin (r : CtxRec) : Nat := r.u 0x4C0 2
def CtxRec.wClr (r : CtxRec) : Nat := r.u 0x4C2 2
def CtxRec.wGoal (r : CtxRec) : Nat := r.u 0x4C4 2
def CtxRec.wLen (r : CtxRec) (j : Nat) : Nat := r.u (0x4C8 + 2 * j) 2
def CtxRec.wSmo (r : CtxRec) (j : Nat) : Nat := r.u (0x548 + 2 * j) 2
def CtxRec.kDepth (r : CtxRec) : Nat := r.u 0x5D0 2
def CtxRec.step1 (r : CtxRec) : Nat := r.u 0x5D2 1
def CtxRec.step2 (r : CtxRec) : Nat := r.u 0x5D3 1
def CtxRec.step3 (r : CtxRec) : Nat := r.u 0x5D4 1
def CtxRec.ctgLayers (r : CtxRec) : Nat := r.u 0x5D5 1
def CtxRec.ctgClr (r : CtxRec) : Nat := r.u 0x5D6 1
def CtxRec.gravity (r : CtxRec) : List Word :=
  [BitVec.ofNat 32 (r.u 0x600 4), BitVec.ofNat 32 (r.u 0x604 4), BitVec.ofNat 32 (r.u 0x608 4)]
def CtxRec.f32 (r : CtxRec) (o : Nat) : Word := BitVec.ofNat 32 (r.u o 4)
def CtxRec.pTot (r : CtxRec) : Word := r.f32 0x60C
def CtxRec.wS (r : CtxRec) : Word := r.f32 0x610
def CtxRec.wT (r : CtxRec) : Word := r.f32 0x614
def CtxRec.wD (r : CtxRec) : Word := r.f32 0x618
def CtxRec.iterMax (r : CtxRec) : Nat := r.u 0x61C 1
def CtxRec.pivotExp (r : CtxRec) : Nat := r.u 0x61D 1
def CtxRec.stepTol (r : CtxRec) : Word := r.f32 0x620
def CtxRec.aStopMax (r : CtxRec) : Word := r.f32 0x624
def CtxRec.stopTmax (r : CtxRec) : Nat := r.u 0x628 4
/-- Goal box i, in map coordinates. -/
def CtxRec.goal (r : CtxRec) (i : Nat) : Box :=
  ⟨⟨r.s32 (0x680 + 24 * i), r.s32 (0x684 + 24 * i), r.s32 (0x688 + 24 * i)⟩,
   ⟨r.s32 (0x68C + 24 * i), r.s32 (0x690 + 24 * i), r.s32 (0x694 + 24 * i)⟩⟩
def CtxRec.uniRel (r : CtxRec) (j : Nat) : Bool := r.u (0x900 + j) 1 == 1

/-- The candidate cost q of a record (R29). -/
def CtxRec.q (r : CtxRec) : Nat := candCost r.waypoints r.spheres
where candCost (w s : Nat) : Nat := w * s / 8

end Sys2Proof.Machine
end

