-- ==== Sys2Proof/Machine/Kinematics.lean ====
section
/-! DEFINITION. Fixed-point kinematics of an engine (05 R143, R149 to R151). -/

namespace Sys2Proof.Machine

/-- rnd30(y) = (y + 2^29) >> 30 (R149). -/
def rnd30 (y : Int) : Int := (y + 2 ^ 29) / 2 ^ 30

/-- Saturation of a rotation entry to [−2^30, 2^30] (R149). -/
def satRot (y : Int) : Int := clampI (-(2 ^ 30)) (2 ^ 30) y

/-- A frame: rotation (9 entries, row-major, Q1.30), position, and the saturation mark (R151). -/
structure Frame where
  b : List Int := [1073741824, 0, 0, 0, 1073741824, 0, 0, 0, 1073741824]
  p : V3 := {}
  marked : Bool := false
  deriving DecidableEq, Repr

/-- A point with its saturation mark. -/
structure Pt where
  p : V3 := {}
  marked : Bool := false
  deriving DecidableEq, Repr

/-- Entry (r, c) of a rotation. -/
def rotAt (b : List Int) (r c : Nat) : Int := b.getD (3 * r + c) 0

/-- A rotation built entry by entry. -/
def rotOf (f : Nat → Nat → Int) : List Int :=
  [f 0 0, f 0 1, f 0 2, f 1 0, f 1 1, f 1 2, f 2 0, f 2 1, f 2 2]

/-- B × F, each entry one lane operation, rounded and saturated (R149, R151). -/
def rotMul (a b : List Int) : List Int :=
  rotOf fun r c => satRot (rnd30 (rotAt a r 0 * rotAt b 0 c + rotAt a r 1 * rotAt b 1 c + rotAt a r 2 * rotAt b 2 c))

/-- Saturation of a position to 24 bits a component, and whether a component saturated (R151). -/
def satPos (p : V3) : V3 × Bool :=
  let q : V3 := ⟨satS 24 p.x, satS 24 p.y, satS 24 p.z⟩
  (q, q != p)

/-- p + B × v before saturation: three lane operations with p × 2^30 as the addend (R151). -/
def movePt (b : List Int) (p v : V3) : V3 :=
  let row (r : Nat) (c : Int) : Int :=
    rnd30 (rotAt b r 0 * v.x + rotAt b r 1 * v.y + rotAt b r 2 * v.z + c * 2 ^ 30)
  ⟨row 0 p.x, row 1 p.y, row 2 p.z⟩

/-- A point formed on a frame: its place, its mark, and whether its own components saturated (R151). -/
def Frame.point (f : Frame) (off : V3) : Pt × Bool :=
  let s := satPos (movePt f.b f.p off)
  (⟨s.1, f.marked || s.2⟩, s.2)

/-- The frame of a joint from its parent's frame and its joint value; the flag says that its own position
saturated (R151). -/
def jointFrame (par : Frame) (j : Joint) (q : Int) : Frame × Bool :=
  if j.ty == .prismatic then
    let v : V3 := ⟨j.t.x + rnd30 (q * j.axis.x), j.t.y + rnd30 (q * j.axis.y), j.t.z + rnd30 (q * j.axis.z)⟩
    let s := satPos (movePt par.b par.p v)
    (⟨par.b, s.1, par.marked || s.2⟩, s.2)
  else
    let th := unS 32 (q + j.zero)
    let c := cosTurn th
    let sn := sinTurn th
    let g := rotMul par.b j.f
    let b := rotOf fun r k =>
      if k = 0 then satRot (rnd30 (c * rotAt g r 0 + sn * rotAt g r 1))
      else if k = 1 then satRot (rnd30 (c * rotAt g r 1 - sn * rotAt g r 0))
      else rotAt g r 2
    let s := satPos (movePt par.b par.p j.t)
    (⟨b, s.1, par.marked || s.2⟩, s.2)

/-- Frames 0 to J in ascending joint order, and how many positions saturated (R151). -/
def frames (root : Frame) (js : List Joint) (q : JVec) : List Frame × Nat :=
  js.zipIdx.foldl (fun (a : List Frame × Nat) (j : Joint × Nat) =>
    let r := jointFrame (a.1.getD j.1.parent {}) j.1 (q.at j.2)
    (a.1 ++ [r.1], a.2 + b2n r.2)) ([root], 0)

/-- The root frame under ROOT_MODE: FIXED from the model, STATE from the base pose (R143). -/
def rootFrame (m : RootMode) (base : V3) (yaw : Nat) : Frame × Bool :=
  match m with
  | .fixed b0 p0 => (⟨b0, p0, false⟩, false)
  | .state =>
    let c := cosTurn yaw
    let s := sinTurn yaw
    let p := satPos base
    (⟨[c, -s, 0, s, c, 0, 0, 0, 2 ^ 30], p.1, p.2⟩, p.2)

end Sys2Proof.Machine
end

