-- ==== Sys2Proof/Config.lean ====
section
/-! DEFINITION. What the manual leaves open and what one part fixes: free values and read-only tables whose
contents the manual does not print. None of them has a body that a proof could use. -/

namespace Sys2Proof

/-- A fresh free value: the n-th value of this run that the manual leaves undefined (log entry 2). -/
opaque Config.freeValue : Nat → BitVec 64

/-- A fresh random word of the Primrose random source (18 R455, R458 and others): its n-th word (log entry 3). -/
opaque Config.randomWord : Nat → BitVec 64

/-- Sign and payload of a quiet NaN that an FP32 operation produces (03 R85 says IEEE 754, which leaves them open;
log entry 4). -/
opaque Config.nanBits : BitVec 32

/-- The AP-1 table of Exp, entry i (03 R90: 65,536 FP32 entries held in ROM, not printed; log entry 5). -/
opaque Config.expTable : Nat → BitVec 32
/-- The AP-1 table of Log (03 R90). -/
opaque Config.logTable : Nat → BitVec 32
/-- The AP-1 table of Sigmoid (03 R90). -/
opaque Config.sigmoidTable : Nat → BitVec 32
/-- The AP-1 table of Tanh (03 R90). -/
opaque Config.tanhTable : Nat → BitVec 32
/-- The AP-1 table of Erf (03 R90). -/
opaque Config.erfTable : Nat → BitVec 32

/-- The FP32 input vector of a proposal graph or of the predictor's state binding, from the bytes of the compiled
feature program and the words of a robot state (03 R96, R100; 11 R499: the program is Kalot's and its bytes are not
interpreted; log entry 10). -/
opaque Config.features : List (BitVec 8) → List Int → List (BitVec 32)

/-- The public key of the hash-based identity key that two random seeds give (18 R458: XMSSMT-SHAKE256_40/4_256; log
entry 11). -/
opaque Config.xmssmtPublic : List (BitVec 8) → List (BitVec 8)

/-- The signature of a message under the identity key of those seeds at an index (18 R458 to R460; log entry 11). -/
opaque Config.xmssmtSign : List (BitVec 8) → Nat → List (BitVec 8) → List (BitVec 8)

/-- Whether an XMSS-SHAKE256_20_256 signature verifies over a message under a public key (18 R450, R452: RFC 8391;
log entry 11). -/
opaque Config.xmssVerify : List (BitVec 8) → List (BitVec 8) → List (BitVec 8) → Bool

/-- Whether an XMSS-SHAKE256_20_256 signature verifies over a message under the public key whose SHAKE256 digest is given:
a lifecycle token carries no key, and the manual does not say how Primrose obtains the key of a slot (18 R450; log entry 11). -/
opaque Config.xmssVerifyDigest : List (BitVec 8) → List (BitVec 8) → List (BitVec 8) → Bool

/-- The soft cost of a field cell outside the bundle's map region, which the manual does not state (06 R176; log entry
19). -/
opaque Config.softOutside : BitVec 8

/-- The substitution delay of a spare tile (by its place 0 to 17 in its cluster) that serves a position, in ac; the manual
fixes it by the NoC and bounds it by 64 (05 R161; log entry 25). -/
opaque Config.substDelay : Nat → Nat → BitVec 32

/-- The delay D_V of a Vetch unit (physical, logical) that stands in for a logical unit, in ac; the manual bounds it by 64
(08 R205; log entry 34). -/
opaque Config.vetDelay : Nat → Nat → BitVec 32

/-- AST_LEN_PROP: the manual gives one register and one length per context, without saying whose it shows (03 R95, Table
3-11; log entry 35): a value of the lengths of the bundle's proposal graphs. -/
opaque Config.proposalLen : List Nat → BitVec 32

/-- OP of AST_ARR_OPIDX while a background slice runs on an array, at a device time (03 Table 3-11; log entry 177): the manual
does not state when which operation runs. -/
opaque Config.asterOp : Nat → Nat → BitVec 32

/-- The minimum of a robot model without spheres, which has no non-PAD query: clearance, waypoint, sphere and layer (05 R159
states none; log entry 180). -/
opaque Config.noQuery : BitVec 64

/-- REFRESH_MULT of a trained channel at a device time (15 Table 15-11; log entry 178): it follows the temperature reading of the
DRAM device, which no command brings and whose coding the manual does not state. -/
opaque Config.refreshMult : Nat → Nat → BitVec 4

/-- Whether the gate of a clock domain is closed at a device time (16 R404; log entry 36): it depends on what the domain
holds at that instant, which a model of commands does not follow. -/
opaque Config.gateClosed : Nat → Nat → Bool

/-- The contents of the boot ROM, measured first (18 R457; log entry 12). -/
opaque Config.romDigest : List (BitVec 8)

end Sys2Proof
end

