-- ==== Sys2Proof/Machine/Fp32.lean ====
section
/-! DEFINITION. IEEE 754 binary32 arithmetic with round to nearest, ties to even, subnormals kept (03 R85), the
narrow number formats of Table 3-2 and their conversions (R82 to R84, R91), all over exact dyadic numbers. -/

namespace Sys2Proof.Machine

/-- The exact value of a floating-point code: not a number, an infinity, or ± m × 2^e. -/
inductive Ext where
  | nan
  | inf (neg : Bool)
  | fin (neg : Bool) (m : Nat) (e : Int)
  deriving DecidableEq, Repr

/-- Number of bits of a natural number. -/
def bitLen (n : Nat) : Nat := if n = 0 then 0 else n.log2 + 1

/-- m / 2^k rounded to an integer, ties to even. -/
def rneShift (m k : Nat) : Nat :=
  let q := m >>> k
  let r := m % 2 ^ k
  if 2 * r > 2 ^ k || (2 * r == 2 ^ k && k != 0 && q % 2 == 1) then q + 1 else q

/-- m × 2^e as a multiple of 2^q, ties to even. -/
def quantRne (m : Nat) (e q : Int) : Nat :=
  if q ≤ e then m <<< (e - q).toNat else rneShift m (q - e).toNat

/-- m × 2^e as a multiple of 2^q, rounded with a 32-bit random word under R91. -/
def quantStoch (rnd m : Nat) (e q : Int) : Nat :=
  if q ≤ e then m <<< (e - q).toNat
  else
    let n := (q - e).toNat
    let d := m % 2 ^ n
    let t := m >>> n
    let d32 := if n > 32 then d >>> (n - 32) else d
    let n32 := min n 32
    if d32 + rnd / 2 ^ (32 - n32) ≥ 2 ^ n32 then t + 1 else t

/-- A floating-point format: exponent bits, mantissa bits, bias, and the greatest finite magnitude code. -/
structure FpFmt where
  eb : Nat
  mb : Nat
  bias : Nat
  maxFinite : Nat
  hasInf : Bool
  deriving DecidableEq, Repr

def FpFmt.fp32 : FpFmt := ⟨8, 23, 127, 0x7F7FFFFF, true⟩
def FpFmt.bf16 : FpFmt := ⟨8, 7, 127, 0x7F7F, true⟩
def FpFmt.e4m3 : FpFmt := ⟨4, 3, 7, 0x7E, false⟩
def FpFmt.e5m2 : FpFmt := ⟨5, 2, 15, 0x7B, true⟩
def FpFmt.e2m3 : FpFmt := ⟨2, 3, 1, 0x1F, false⟩
def FpFmt.e3m2 : FpFmt := ⟨3, 2, 3, 0x1F, false⟩
def FpFmt.e2m1 : FpFmt := ⟨2, 1, 1, 0x7, false⟩

/-- Exponent of the least bit of the subnormals of a format. -/
def FpFmt.lsbMin (f : FpFmt) : Int := 1 - (f.bias : Int) - f.mb

/-- Exponent of the least bit kept of a magnitude m × 2^e. -/
def FpFmt.lsbOf (f : FpFmt) (m : Nat) (e : Int) : Int := max f.lsbMin ((bitLen m : Int) + e - (f.mb + 1))

/-- The magnitude code of k × 2^q, where q is the least bit's exponent; it may exceed the greatest finite code. -/
def FpFmt.pack (f : FpFmt) (k : Nat) (q : Int) : Nat := k + (q - f.lsbMin).toNat * 2 ^ f.mb

/-- The magnitude code of m × 2^e rounded to nearest, ties to even, without saturation. -/
def FpFmt.round (f : FpFmt) (m : Nat) (e : Int) : Nat :=
  let q := f.lsbOf m e
  f.pack (quantRne m e q) q

/-- A code with a sign. -/
def FpFmt.signed (f : FpFmt) (neg : Bool) (mag : Nat) : Nat := (if neg then 2 ^ (f.eb + f.mb) else 0) + mag

/-- The exact value of a code (Table 3-2). -/
def FpFmt.decode (f : FpFmt) (c : Nat) : Ext :=
  let neg := bit c (f.eb + f.mb)
  let mag := c % 2 ^ (f.eb + f.mb)
  let ex := mag / 2 ^ f.mb
  let mant := mag % 2 ^ f.mb
  if f.maxFinite < mag then
    if f.hasInf && mant == 0 then .inf neg else .nan
  else if ex = 0 then .fin neg mant f.lsbMin
  else .fin neg (mant + 2 ^ f.mb) (f.lsbMin + (ex - 1))

/-! ### binary32 -/

/-- The exact value of a binary32 word. -/
def fpDecode (w : Word) : Ext := FpFmt.fp32.decode w.toNat

/-- The quiet NaN an operation produces (log entry 4). -/
def fpNan : Word := Config.nanBits ||| 0x7FC0_0000#32

def fpInf (neg : Bool) : Word := if neg then 0xFF80_0000#32 else 0x7F80_0000#32

def fpZero (neg : Bool) : Word := if neg then 0x8000_0000#32 else 0#32

/-- An exact magnitude rounded to binary32: overflow gives an infinity (R85, IEEE 754). -/
def fpRound (neg : Bool) (m : Nat) (e : Int) : Word :=
  if m = 0 then fpZero neg
  else
    let mag := FpFmt.fp32.round m e
    if FpFmt.fp32.maxFinite < mag then fpInf neg else BitVec.ofNat 32 (FpFmt.fp32.signed neg mag)

def fpIsNan (w : Word) : Bool := match fpDecode w with | .nan => true | _ => false

/-- Whether a word is a number that is neither an infinity nor a NaN. -/
def fpFinite (w : Word) : Bool := match fpDecode w with | .fin _ _ _ => true | _ => false

/-- A signed dyadic: ± m × 2^e as an integer multiple of 2^q, for q ≤ e. -/
def scaleTo (neg : Bool) (m : Nat) (e q : Int) : Int :=
  let k : Int := (m <<< (e - q).toNat : Nat)
  if neg then -k else k

/-- The exact sum of two finite values, rounded once. -/
def sumRound (na : Bool) (ma : Nat) (ea : Int) (nb : Bool) (mb : Nat) (eb : Int) : Word :=
  let q := min ea eb
  let s := scaleTo na ma ea q + scaleTo nb mb eb q
  if s = 0 then fpZero (na && nb) else fpRound (decide (s < 0)) s.natAbs q

def extAdd : Ext → Ext → Word
  | .nan, _ => fpNan
  | _, .nan => fpNan
  | .inf a, .inf b => if a == b then fpInf a else fpNan
  | .inf a, .fin _ _ _ => fpInf a
  | .fin _ _ _, .inf b => fpInf b
  | .fin na ma ea, .fin nb mb eb => sumRound na ma ea nb mb eb

/-- a + b. -/
def fpAdd (a b : Word) : Word := extAdd (fpDecode a) (fpDecode b)

def fpNeg (a : Word) : Word := a ^^^ 0x8000_0000#32

/-- a − b. -/
def fpSub (a b : Word) : Word := fpAdd a (fpNeg b)

def fpAbs (a : Word) : Word := a &&& 0x7FFF_FFFF#32

/-- The exact product of two values. -/
def extMul : Ext → Ext → Ext
  | .nan, _ => .nan
  | _, .nan => .nan
  | .inf a, .inf b => .inf (a != b)
  | .inf a, .fin b m _ => if m = 0 then .nan else .inf (a != b)
  | .fin a m _, .inf b => if m = 0 then .nan else .inf (a != b)
  | .fin a m e, .fin b n g => .fin (a != b) (m * n) (e + g)

/-- A value rounded to binary32. -/
def extRound : Ext → Word
  | .nan => fpNan
  | .inf n => fpInf n
  | .fin n m e => fpRound n m e

/-- a × b. -/
def fpMul (a b : Word) : Word := extRound (extMul (fpDecode a) (fpDecode b))

/-- a × b + c rounded once. -/
def fpFma (a b c : Word) : Word := extAdd (extMul (fpDecode a) (fpDecode b)) (fpDecode c)

/-- The quotient of two finite values with enough bits and a sticky bit. -/
def divRound (na : Bool) (ma : Nat) (ea : Int) (nb : Bool) (mb : Nat) (eb : Int) : Word :=
  let sh := 64 + bitLen mb
  let num := ma <<< sh
  let q := num / mb
  let st := if num % mb = 0 then 0 else 1
  fpRound (na != nb) (2 * q + st) (ea - eb - sh - 1)

/-- a / b, correctly rounded (R85). -/
def fpDiv (a b : Word) : Word :=
  match fpDecode a, fpDecode b with
  | .nan, _ => fpNan
  | _, .nan => fpNan
  | .inf _, .inf _ => fpNan
  | .inf x, .fin y _ _ => fpInf (x != y)
  | .fin x _ _, .inf y => fpZero (x != y)
  | .fin na ma ea, .fin nb mb eb =>
    if mb = 0 then (if ma = 0 then fpNan else fpInf (na != nb))
    else if ma = 0 then fpZero (na != nb)
    else divRound na ma ea nb mb eb

/-- Binary search for an integer square root of n, `k` bits left above `r`. -/
def rootFrom : Nat → Nat → Nat → Nat
  | 0, _, r => r
  | k + 1, n, r => rootFrom k n (if (r + 2 ^ k) * (r + 2 ^ k) ≤ n then r + 2 ^ k else r)

/-- Square root, correctly rounded (R85). -/
def fpSqrt (a : Word) : Word :=
  match fpDecode a with
  | .nan => fpNan
  | .inf n => if n then fpNan else fpInf false
  | .fin n m e =>
    if m = 0 then fpZero n
    else if n then fpNan
    else
      let odd := e % 2
      let m2 := (m <<< (64 + odd.toNat))
      let r := rootFrom 64 m2 0
      let st := if r * r = m2 then 0 else 1
      fpRound false (2 * r + st) ((e - odd - 64) / 2 - 1)

/-- Less-than of two words: false where either is a NaN. -/
def fpLt (a b : Word) : Bool :=
  match fpDecode a, fpDecode b with
  | .nan, _ => false
  | _, .nan => false
  | .inf x, .inf y => x && !y
  | .inf x, .fin _ _ _ => x
  | .fin _ _ _, .inf y => !y
  | .fin na ma ea, .fin nb mb eb =>
    let q := min ea eb
    decide (scaleTo na ma ea q < scaleTo nb mb eb q)

/-- Equality of two words as values: false where either is a NaN. -/
def fpEq (a b : Word) : Bool := !fpIsNan a && !fpIsNan b && !fpLt a b && !fpLt b a

/-- At most, as values: false where either is a NaN. -/
def fpLe (a b : Word) : Bool := fpLt a b || fpEq a b

/-- Greater of two words; a NaN operand gives a NaN. -/
def fpMax (a b : Word) : Word := if fpIsNan a || fpIsNan b then fpNan else if fpLt a b then b else a

/-- Lesser of two words; a NaN operand gives a NaN. -/
def fpMin (a b : Word) : Word := if fpIsNan a || fpIsNan b then fpNan else if fpLt b a then b else a

/-- An integer rounded to binary32. -/
def fpOfInt (x : Int) : Word := fpRound (decide (x < 0)) x.natAbs 0

/-- An integer times a power of two, rounded to binary32. -/
def fpOfScaled (x : Int) (e : Int) : Word := fpRound (decide (x < 0)) x.natAbs e

/-- The value × 2^k rounded to an integer, ties to even; none for a NaN; an infinity gives a number beyond any
format. -/
def fpToInt (w : Word) (k : Int) : Option Int :=
  match fpDecode w with
  | .nan => none
  | .inf n => some (if n then -(2 ^ 400) else 2 ^ 400)
  | .fin n m e => some (let r : Int := (quantRne m (e + k) 0 : Nat); if n then -r else r)

/-! ### Narrow formats (R82 to R84) -/

/-- What a conversion leaves beside its result: elements saturated and NaNs met (R82). -/
structure ConvCnt where
  sat : Nat := 0
  nan : Nat := 0
  deriving DecidableEq, Repr

def ConvCnt.plus (a b : ConvCnt) : ConvCnt := ⟨a.sat + b.sat, a.nan + b.nan⟩

/-- The canonical NaN code of a narrow format (R82). -/
def FpFmt.nanCode (f : FpFmt) : Nat := if f.mb = 7 then 0x7FC0 else 0x7F

/-- A value converted to a narrow floating-point format: to nearest, or with a random word (R82, R91). -/
def FpFmt.convert (f : FpFmt) (rnd : Option Nat) (v : Ext) : Nat × ConvCnt :=
  match v with
  | .nan => (f.nanCode, ⟨0, 1⟩)
  | .inf n => (f.signed n f.maxFinite, ⟨1, 0⟩)
  | .fin n m e =>
    if m = 0 then (f.signed n 0, {})
    else
      let q := f.lsbOf m e
      let k := match rnd with | none => quantRne m e q | some r => quantStoch r m e q
      let mag := f.pack k q
      if f.maxFinite < mag then (f.signed n f.maxFinite, ⟨1, 0⟩) else (f.signed n mag, {})

/-- A binary32 value rounded to an integer and saturated to a signed or unsigned range (R84). -/
def intConvert (lo hi : Int) (rnd : Option Nat) (zero : Word) (w : Word) : Int × ConvCnt :=
  let rounded : Option Word :=
    match fpDecode w with
    | .fin n m e =>
      let k := match rnd with | none => quantRne m e 0 | some r => quantStoch r m e 0
      some (fpRound n k 0)
    | .nan => none
    | .inf n => some (fpInf n)
  match rounded with
  | none => (0, ⟨0, 1⟩)
  | some r =>
    match fpToInt (fpAdd r zero) 0 with
    | none => (0, ⟨0, 1⟩)
    | some x => if x < lo then (lo, ⟨1, 0⟩) else if hi < x then (hi, ⟨1, 0⟩) else (x, {})

/-- A value times a power of two. -/
def Ext.scale (v : Ext) (k : Int) : Ext :=
  match v with
  | .fin n m e => .fin n m (e + k)
  | v => v

/-! ### Non-linear tables (R90) -/

/-- A table function: interpolation between entries i and i + 1 of bits [31:16]. -/
def romEval (t : Nat → Word) (x : Word) : Word :=
  if fpIsNan x then 0x7FC0_0000#32
  else
    let i := x.toNat / 65536
    let j := x.toNat % 65536
    if j = 0 then t i
    else fpAdd (t i) (fpMul (fpSub (t (i + 1)) (t i)) (fpRound false j (-16)))

def fpExp (x : Word) : Word := romEval Config.expTable x
def fpLog (x : Word) : Word := romEval Config.logTable x
def fpSigmoid (x : Word) : Word := romEval Config.sigmoidTable x
def fpTanh (x : Word) : Word := romEval Config.tanhTable x
def fpErf (x : Word) : Word := romEval Config.erfTable x

/-! ### Sums in the fixed order (R86, R88) -/

/-- One level of the balanced tree: adjacent pairs added, an unpaired last term passed on. -/
def treeLevel : List Word → List Word
  | a :: b :: t => fpAdd a b :: treeLevel t
  | l => l

/-- The balanced binary tree of a chunk; `fuel` bounds the levels. -/
def treeSum : Nat → List Word → Word
  | _, [] => 0
  | _, [a] => a
  | 0, a :: _ => a
  | fuel + 1, l => treeSum fuel (treeLevel l)

/-- A sum in chunks of `kt`: each a tree, the chunk sums added in ascending order (R86 items 3 and 4). -/
def chunkSum (kt : Nat) (l : List Word) : Word :=
  match (chunks kt l.length l).map (fun c => treeSum c.length c) with
  | [] => 0
  | c :: cs => cs.foldl fpAdd c

end Sys2Proof.Machine
end

