-- ==== Sys2Proof/Machine/Philox.lean ====
section
/-! DEFINITION. Philox4x32-10, the counter-based generator that R91 and R120 name: four 32-bit output words from
a 64-bit key and a 128-bit counter. PRESUMED: the manual names the algorithm and does not print it (log entry 6). -/

namespace Sys2Proof.Machine

/-- Four words. -/
structure Quad where
  a : Word
  b : Word
  c : Word
  d : Word
  deriving DecidableEq, Repr

def Quad.get (q : Quad) (i : Nat) : Word := if i = 0 then q.a else if i = 1 then q.b else if i = 2 then q.c else q.d

/-- The high and low words of a product. -/
def mulHiLo (x y : Word) : Word × Word :=
  let p := x.toNat * y.toNat
  (BitVec.ofNat 32 (p / 2 ^ 32), BitVec.ofNat 32 p)

/-- One round under a key. -/
def philoxRound (k0 k1 : Word) (q : Quad) : Quad :=
  let p0 := mulHiLo 0xD2511F53#32 q.a
  let p1 := mulHiLo 0xCD9E8D57#32 q.c
  ⟨p1.1 ^^^ q.b ^^^ k0, p1.2, p0.1 ^^^ q.d ^^^ k1, p0.2⟩

/-- `n` rounds, the key raised by its two constants between them. -/
def philoxRounds : Nat → Word → Word → Quad → Quad
  | 0, _, _, q => q
  | n + 1, k0, k1, q => philoxRounds n (k0 + 0x9E3779B9#32) (k1 + 0xBB67AE85#32) (philoxRound k0 k1 q)

/-- The four words of Philox4x32-10 for a key and a counter. -/
def philox (k0 k1 : Word) (ctr : Quad) : Quad := philoxRounds 10 k0 k1 ctr

end Sys2Proof.Machine
end

