-- ==== Sys2Proof/Machine/AsterGraph.lean ====
section
/-! DEFINITION. Aster dataflow graphs (chapter 03): tensors, the operations a compiled graph is made of, and their
evaluation in the fixed orders of R82 to R91. A compiled graph names, for each output element of an array
operation, the operand pairs of its dot product in index order, so that MatMul, Gemm, Conv and ConvTranspose are
one operation (DESIGN CHOICE of the model's own bundle form, log entry 7). -/

namespace Sys2Proof.Machine

/-- Element formats of Table 3-2. -/
inductive EFmt where
  | int8 | uint8 | int4 | int32 | e4m3 | e5m2 | e2m3 | e3m2 | e2m1 | mxint8 | bf16 | fp32
  deriving DecidableEq, Repr

/-- A tensor: element codes in row-major order, and block scales where it is an MX tensor. -/
structure Tensor where
  fmt : EFmt := .fp32
  data : List Nat := []
  scales : List Nat := []
  deriving DecidableEq, Repr

/-- The floating-point shape of an element format, where it has one. -/
def EFmt.fp : EFmt → Option FpFmt
  | .e4m3 => some .e4m3
  | .e5m2 => some .e5m2
  | .e2m3 => some .e2m3
  | .e3m2 => some .e3m2
  | .e2m1 => some .e2m1
  | .bf16 => some .bf16
  | .fp32 => some .fp32
  | _ => none

/-- Width and signedness of an integer format. -/
def EFmt.intOf : EFmt → Nat → Int
  | .int8, c => sgn 8 c
  | .int4, c => sgn 4 c
  | .int32, c => sgn 32 c
  | .mxint8, c => sgn 8 c
  | _, c => c

/-- Range of an integer format. -/
def EFmt.range : EFmt → Int × Int
  | .int8 => (-128, 127)
  | .uint8 => (0, 255)
  | .int4 => (-8, 7)
  | .mxint8 => (-128, 127)
  | _ => (-2147483648, 2147483647)

/-- Bits of an integer format. -/
def EFmt.width : EFmt → Nat
  | .int4 => 4
  | .int32 => 32
  | .fp32 => 32
  | .bf16 => 16
  | _ => 8

/-- The exact value of an element, without its block scale. -/
def EFmt.value (f : EFmt) (c : Nat) : Ext :=
  match f.fp with
  | some g => g.decode c
  | none =>
    let i := f.intOf c
    .fin (decide (i < 0)) i.natAbs (if f = .mxint8 then -6 else 0)

/-- The binary32 word of an element of a tensor (its block scale applied). -/
def Tensor.word (t : Tensor) (i : Nat) : Word :=
  let v := t.fmt.value (t.data.getD i 0)
  match t.scales with
  | [] => extRound v
  | sc =>
    let s := sc.getD (i / 32) 0
    if s = 255 then fpNan else extRound (v.scale ((s : Int) - 127))

/-- emax of an MX element format (Table 3-2). -/
def EFmt.emax : EFmt → Int
  | .e4m3 => 8
  | .e5m2 => 15
  | .e2m3 => 2
  | .e3m2 => 4
  | .e2m1 => 2
  | _ => 0

/-- Tile K of a format (Table 3-1). -/
def EFmt.tileK : EFmt → Nat
  | .int4 => 256
  | .e2m1 => 256
  | .bf16 => 128
  | .fp32 => 64
  | _ => 128

/-- Element-wise operations of one operand (Table 3-3). -/
inductive UnOp where
  | relu | leakyRelu (alpha : Word) | neg | abs | clip (lo hi : Word) | sigmoid | tanh | exp | log | erf
  | gelu (tanhForm : Bool) | sqrt | recip | ident
  deriving DecidableEq, Repr

/-- Element-wise operations of two operands. -/
inductive BinOp where
  | add | sub | mul | div | max | min
  deriving DecidableEq, Repr

/-- Reductions (R88). -/
inductive RedOp where
  | sum | mean | max | min
  deriving DecidableEq, Repr

/-- The operations of a compiled graph. Lists of index lists give, per output element, the operands in the order
the manual fixes; an index of `none` stands for padding. -/
inductive NodeOp where
  /-- floating-point dot products of operands a and b, bias c (R86) -/
  | dotF (a b : Nat) (bias : Option Nat) (pairs : List (List (Nat × Nat)))
  /-- integer dot products, INT32 results (R87) -/
  | dotI (a b : Nat) (bias : Option Nat) (pairs : List (List (Nat × Nat)))
  /-- requantisation with per-channel scales and a zero point (R84): `chan` gives each element's channel -/
  | requant (a scale : Nat) (chan : List Nat) (zero : Word) (dst : EFmt) (stoch : Option Nat)
  /-- conversion of FP32 to a narrow floating-point or integer format (R82, R84) -/
  | convert (a : Nat) (dst : EFmt) (stoch : Option Nat)
  /-- conversion of FP32 to an MX format in blocks of 32 (R83) -/
  | toMx (a : Nat) (dst : EFmt) (stoch : Option Nat)
  | unary (op : UnOp) (a : Nat)
  | binary (op : BinOp) (a b : Nat) (ia ib : List Nat)
  | reduce (op : RedOp) (a : Nat) (groups : List (List Nat))
  | softmax (a : Nat) (groups : List (List Nat))
  | layerNorm (a g b : Nat) (eps : Word) (groups : List (List Nat))
  /-- data movement: element indices into a, or a constant (Concat and the like take several nodes) -/
  | move (srcs : List (Option (Nat × Nat))) (pad : Nat) (fmt : EFmt)
  /-- linear Resize: weighted taps summed in ascending index order -/
  | resize (a : Nat) (taps : List (List (Nat × Word)))
  deriving DecidableEq, Repr

/-- One operation of a graph: its op index in the imported graph, and the tensor it makes. -/
structure GNode where
  opIndex : Nat
  out : Nat
  op : NodeOp
  deriving DecidableEq, Repr

/-- A compiled graph: constant tensors, operations in order, the output tensor, and its length in ac (R95). -/
structure Graph where
  profile : Nat := 1
  consts : Tbl Tensor := []
  nodes : List GNode := []
  output : Nat := 0
  length : Nat := 0
  staging : Nat := 0
  weightBytes : Nat := 0
  deriving DecidableEq, Repr

/-- The inputs of Philox for stochastic rounding (R91): the seed, the stream base of the role, and the tick. -/
structure StochKey where
  seed : Word := 0
  base : Nat := 0
  tick : Nat := 0
  deriving DecidableEq, Repr

/-- The 32-bit random word of output element e of output o of an operation (R91). -/
def StochKey.word (k : StochKey) (opIndex o e : Nat) : Nat :=
  ((philox k.seed (BitVec.ofNat 32 (k.base + opIndex))
    ⟨BitVec.ofNat 32 k.tick, BitVec.ofNat 32 (k.tick / 2 ^ 32), BitVec.ofNat 32 (e / 4), BitVec.ofNat 32 o⟩).get
    (e % 4)).toNat

/-- The random word of an element, where stochastic rounding is selected. -/
def StochKey.rnd (k : StochKey) (opIndex : Nat) (stoch : Option Nat) (e : Nat) : Option Nat :=
  stoch.map fun o => k.word opIndex o e

/-! ### Array operations -/

/-- The exact sum of finite products as an integer multiple of 2^q. -/
def exactSum (q : Int) : List Ext → Int
  | [] => 0
  | .fin n m e :: t => scaleTo n m e q + exactSum q t
  | _ :: t => exactSum q t

/-- The least exponent of a list of exact values. -/
def minExp : List Ext → Int
  | [] => 0
  | .fin _ _ e :: t => min e (minExp t)
  | _ :: t => minExp t

/-- The term of one MX block pair (R86 item 2): the exact sum of 32 products times 2^(scale_a + scale_b − 254),
rounded once; a scale of 0xFF makes it a NaN (R83). -/
def mxBlockTerm (sa sb : Nat) (prods : List Ext) : Word :=
  if sa = 255 || sb = 255 then fpNan
  else
    let q := minExp prods
    let s := exactSum q prods
    if s = 0 then fpZero false else fpRound (decide (s < 0)) s.natAbs (q + (sa + sb : Int) - 254)

/-- The terms of a floating-point dot product (R86 items 1 and 2). -/
def dotTerms (a b : Tensor) (pairs : List (Nat × Nat)) : List Word :=
  let prod (p : Nat × Nat) : Ext := extMul (a.fmt.value (a.data.getD p.1 0)) (b.fmt.value (b.data.getD p.2 0))
  if a.scales.isEmpty then pairs.map fun p => extRound (prod p)
  else (chunks 32 pairs.length pairs).map fun c =>
    match c with
    | [] => 0
    | p :: _ => mxBlockTerm (a.scales.getD (p.1 / 32) 0) (b.scales.getD (p.2 / 32) 0) (c.map prod)

/-- Terms of one dot product in a chunk of K_t indices: an MX term stands for 32 of them (R86 item 3). -/
def dotChunk (a : Tensor) : Nat := if a.scales.isEmpty then a.fmt.tileK else a.fmt.tileK / 32

/-- A floating-point dot product with its bias (R86). -/
def dotF (a b : Tensor) (bias : Option Word) (pairs : List (Nat × Nat)) : Word :=
  let s := chunkSum (dotChunk a) (dotTerms a b pairs)
  match bias with
  | none => s
  | some c => fpAdd s c

/-- An integer dot product with its bias, saturated to INT32 (R87). -/
def dotI (a b : Tensor) (bias : Option Int) (pairs : List (Nat × Nat)) : Int × ConvCnt :=
  let s := pairs.foldl (fun acc p => acc + a.fmt.intOf (a.data.getD p.1 0) * b.fmt.intOf (b.data.getD p.2 0)) (0 : Int)
  let t := s + bias.getD 0
  (satS 32 t, if satS 32 t = t then {} else ⟨1, 0⟩)

/-! ### Post-unit operations -/

def fpHalf : Word := 0x3F00_0000#32
def fpOne : Word := 0x3F80_0000#32

/-- Gelu (R89): with erf, or the tanh form of ONNX opset 20. -/
def fpGelu (tanhForm : Bool) (x : Word) : Word :=
  if tanhForm then
    let x3 := fpMul (fpMul x x) x
    let u := fpMul 0x3F4C_422A#32 (fpAdd x (fpMul 0x3D37_2713#32 x3))
    fpMul (fpMul fpHalf x) (fpAdd fpOne (fpTanh u))
  else fpMul (fpMul fpHalf x) (fpAdd fpOne (fpErf (fpDiv x 0x3FB5_04F3#32)))

/-- An element-wise operation of one operand. -/
def unEval (op : UnOp) (x : Word) : Word :=
  match op with
  | .relu => fpMax x 0
  | .leakyRelu a => if fpLt x 0 then fpMul a x else x
  | .neg => fpNeg x
  | .abs => fpAbs x
  | .clip lo hi => fpMin (fpMax x lo) hi
  | .sigmoid => fpSigmoid x
  | .tanh => fpTanh x
  | .exp => fpExp x
  | .log => fpLog x
  | .erf => fpErf x
  | .gelu t => fpGelu t x
  | .sqrt => fpSqrt x
  | .recip => fpDiv fpOne x
  | .ident => x

def binEval (op : BinOp) (x y : Word) : Word :=
  match op with
  | .add => fpAdd x y
  | .sub => fpSub x y
  | .mul => fpMul x y
  | .div => fpDiv x y
  | .max => fpMax x y
  | .min => fpMin x y

/-- A reduction of a sequence (R88). -/
def redEval (op : RedOp) (l : List Word) : Word :=
  match op with
  | .sum => chunkSum 64 l
  | .mean => fpDiv (chunkSum 64 l) (fpOfInt l.length)
  | .max => match l with | [] => 0 | x :: xs => xs.foldl fpMax x
  | .min => match l with | [] => 0 | x :: xs => xs.foldl fpMin x

/-- Softmax of one sequence (R89). -/
def softmaxEval (l : List Word) : List Word :=
  let m := redEval .max l
  let e := l.map fun x => fpExp (fpSub x m)
  let s := chunkSum 64 e
  e.map fun x => fpDiv x s

/-- LayerNormalization of one sequence (R89). -/
def layerNormEval (eps : Word) (g b : List Word) (l : List Word) : List Word :=
  let mu := redEval .mean l
  let v := redEval .mean (l.map fun x => fpMul (fpSub x mu) (fpSub x mu))
  let d := fpSqrt (fpAdd v eps)
  l.zipIdx.map fun (x : Word × Nat) =>
    fpAdd (fpMul (fpDiv (fpSub x.1 mu) d) (g.getD x.2 0)) (b.getD x.2 0)

/-- Results placed back at the positions of their groups. -/
def scatter (groups : List (List Nat)) (res : List (List Word)) : List Word :=
  let m : Tbl Word := (groups.zip res).foldl
    (fun t p => (p.1.zip p.2).foldl (fun t q => Tbl.put t q.1 q.2) t) []
  m.map fun p => p.2

/-- One FP32 element converted to a format (R82, R84). -/
def convertElem (dst : EFmt) (rnd : Option Nat) (w : Word) : Nat × ConvCnt :=
  match dst.fp with
  | some f => if f = .fp32 then (w.toNat, {}) else f.convert rnd (fpDecode w)
  | none =>
    let r := intConvert dst.range.1 dst.range.2 rnd 0 w
    (unS dst.width r.1, r.2)

/-- Element code and count of a scaled MX element. -/
def mxElem (dst : EFmt) (rnd : Option Nat) (x : Int) (w : Word) : Nat × ConvCnt :=
  match dst.fp with
  | some f => f.convert rnd ((fpDecode w).scale (-x))
  | none =>
    let r := match (fpDecode w).scale (6 - x) with
      | .fin n m e =>
        let k : Int := (match rnd with | none => quantRne m e 0 | some r => quantStoch r m e 0 : Nat)
        if n then -k else k
      | _ => 0
    let c := clampI (-128) 127 r
    (unS 8 c, if c = r then {} else ⟨1, 0⟩)

/-- floor(log2 |v|) of a nonzero finite value. -/
def floorLog2 : Ext → Int
  | .fin _ m e => (m.log2 : Int) + e
  | _ => 0

/-- A block of FP32 values converted to an MX format: scale, elements, counts (R83). `ix` is the index of its
first element. -/
def mxBlock (dst : EFmt) (rnd : Nat → Option Nat) (ix : Nat) (l : List Word) : Nat × List Nat × ConvCnt :=
  if l.any (fun w => !fpFinite w) then (255, l.map (fun _ => 0), ⟨0, 1⟩)
  else if l.all (fun w => fpAbs w == 0) then (0, l.map (fun _ => 0), {})
  else
    let top := l.foldl (fun m w => if fpAbs w == 0 then m else match m with
      | none => some (floorLog2 (fpDecode w))
      | some x => some (max x (floorLog2 (fpDecode w)))) none
    let x := clampI (-127) 127 (top.getD 0 - dst.emax)
    let r := l.zipIdx.map fun (p : Word × Nat) => mxElem dst (rnd (ix + p.2)) x p.1
    ((x + 127).toNat, r.map (·.1), (r.map (·.2)).foldl ConvCnt.plus {})

/-- Tensors computed so far and what conversions counted. -/
structure GEnv where
  ts : Tbl Tensor := []
  cnt : ConvCnt := {}
  deriving DecidableEq, Repr

def GEnv.tensor (e : GEnv) (i : Nat) : Tensor := Tbl.get {} e.ts i

def Tensor.words (t : Tensor) : List Word := (List.range t.data.length).map t.word

def fp32Tensor (l : List Word) : Tensor := { fmt := .fp32, data := l.map BitVec.toNat }

/-- One operation evaluated (R82 to R91). -/
def nodeEval (k : StochKey) (e : GEnv) (n : GNode) : Tensor × ConvCnt :=
  match n.op with
  | .dotF a b bias pairs =>
    (fp32Tensor (pairs.zipIdx.map fun p =>
      dotF (e.tensor a) (e.tensor b) (bias.map fun c => (e.tensor c).word p.2) p.1), {})
  | .dotI a b bias pairs =>
    let r := pairs.zipIdx.map fun p =>
      dotI (e.tensor a) (e.tensor b) (bias.map fun c => (e.tensor c).fmt.intOf ((e.tensor c).data.getD p.2 0)) p.1
    ({ fmt := .int32, data := r.map fun x => unS 32 x.1 }, (r.map (·.2)).foldl ConvCnt.plus {})
  | .requant a sc chan zero dst stoch =>
    let t := e.tensor a
    let r := t.data.zipIdx.map fun p =>
      let prod := fpMul (fpOfInt (t.fmt.intOf p.1)) ((e.tensor sc).word (chan.getD p.2 0))
      intConvert dst.range.1 dst.range.2 (k.rnd n.opIndex stoch p.2) zero prod
    ({ fmt := dst, data := r.map fun x => unS dst.width x.1 }, (r.map (·.2)).foldl ConvCnt.plus {})
  | .convert a dst stoch =>
    let r := (e.tensor a).words.zipIdx.map fun p => convertElem dst (k.rnd n.opIndex stoch p.2) p.1
    ({ fmt := dst, data := r.map (·.1) }, (r.map (·.2)).foldl ConvCnt.plus {})
  | .toMx a dst stoch =>
    let ws := (e.tensor a).words
    let r := (chunks 32 ws.length ws).zipIdx.map fun p => mxBlock dst (k.rnd n.opIndex stoch) (p.2 * 32) p.1
    ({ fmt := dst, data := r.flatMap (fun x => x.2.1), scales := r.map (·.1) },
     (r.map (fun x => x.2.2)).foldl ConvCnt.plus {})
  | .unary op a => (fp32Tensor ((e.tensor a).words.map (unEval op)), {})
  | .binary op a b ia ib =>
    (fp32Tensor ((ia.zip ib).map fun p => binEval op ((e.tensor a).word p.1) ((e.tensor b).word p.2)), {})
  | .reduce op a groups => (fp32Tensor (groups.map fun g => redEval op (g.map (e.tensor a).word)), {})
  | .softmax a groups =>
    (fp32Tensor (scatter groups (groups.map fun g => softmaxEval (g.map (e.tensor a).word))), {})
  | .layerNorm a g b eps groups =>
    (fp32Tensor (scatter groups (groups.map fun gr =>
      layerNormEval eps (e.tensor g).words (e.tensor b).words (gr.map (e.tensor a).word))), {})
  | .move srcs pad fmt =>
    ({ fmt := fmt, data := srcs.map fun s => match s with
        | none => pad
        | some (t, i) => (e.tensor t).data.getD i 0 }, {})
  | .resize a taps =>
    (fp32Tensor (taps.map fun tp => match tp.map (fun q => fpMul q.2 ((e.tensor a).word q.1)) with
        | [] => 0
        | x :: xs => xs.foldl fpAdd x), {})

/-- One operation added to the environment. -/
def GEnv.run (k : StochKey) (e : GEnv) (n : GNode) : GEnv :=
  let r := nodeEval k e n
  { ts := Tbl.put e.ts n.out r.1, cnt := e.cnt.plus r.2 }

/-- A graph evaluated on its input tensors: the output tensor and what its conversions counted. -/
def Graph.eval (g : Graph) (k : StochKey) (ins : Tbl Tensor) : Tensor × ConvCnt :=
  let e0 : GEnv := { ts := ins.foldl (fun t p => Tbl.put t p.1 p.2) g.consts }
  let e := g.nodes.foldl (GEnv.run k) e0
  (e.tensor g.output, e.cnt)

/-! ### The predictor (R96 to R98) -/

/-- The UINT8 value of a coarse cell with c occupied voxels (R96). -/
def histValue (c : Nat) : Nat := (c * 255 + 511) / 512

/-- The 8-bit probability of an output element (R98). -/
def probOf (p : Word) : Nat × ConvCnt :=
  if fpIsNan p then (255, ⟨0, 1⟩)
  else
    let x := fpMul p 0x437F_0000#32
    if fpLt x 0 then (0, ⟨1, 0⟩)
    else if fpLt 0x437F_0000#32 x then (255, ⟨1, 0⟩)
    else (((fpToInt x 0).getD 0).toNat, {})

/-- R97: whether a history fits the ring. -/
def historyFits (depth stride : Nat) : Bool := decide ((depth - 1) * stride + 1 ≤ 64)

/-! ### The critic (R103) -/

/-- The new key of a row with cost key c and score y; the flag says the score was a NaN. -/
def criticKey (shift : Nat) (c : Nat) (y : Word) : Nat × Bool :=
  match fpToInt y shift with
  | none => (0xFFFFFFFF, true)
  | some j => ((min 0xFFFFFFFF (max 0 ((c : Int) + satS 32 j))).toNat, false)

end Sys2Proof.Machine
end

