-- ==== Sys2Proof/Machine/LupinGen.lean ====
section
/-! DEFINITION. Candidate generation (chapter 04): allocation, source blocks, random draws and the sources. Every
function is of plain data: what a candidate is depends on its index, its context and the tick alone. -/

namespace Sys2Proof.Machine

/-! ### Counting (R116, R123) -/

/-- What R116 reads of one foreground context. -/
structure AllocIn where
  slot : Nat
  share : Nat
  req : Nat
  q : Nat
  nostate : Bool
  deriving DecidableEq, Repr

/-- What R116 gives one foreground context. -/
structure AllocOut where
  slot : Nat
  base : Nat
  alloc : Nat
  count : Nat
  deriving DecidableEq, Repr

/-- Running sums of R116's loop. -/
structure AllocAcc where
  used : Nat := 0
  nsum : Nat := 0
  trim : Nat := 0
  out : List AllocOut := []
  deriving DecidableEq, Repr

/-- One context of R116's loop over m devices (19 R476): `lmax` and `l` are live ac per engine, `tot` the sum of the shares. -/
def allocStep (m lmax l tot : Nat) (a : AllocAcc) (c : AllocIn) : AllocAcc :=
  let n := if c.nostate then 0
    else if c.req ≠ 0 then c.req / (64 * m)
    else if tot = 0 then 0
    else 1024 * (lmax * c.share / (tot * 1024)) / c.q
  let keep := min n (min ((l - a.used) / c.q) (16384 / m - a.nsum))
  { used := a.used + keep * c.q, nsum := a.nsum + keep, trim := a.trim + 64 * m * (n - keep),
    out := a.out ++ [⟨c.slot, 64 * m * a.nsum, 64 * m * n, 64 * m * keep⟩] }

/-- R116 over the foreground contexts in ascending slot order, on m devices. -/
def allocate (maxUnits effUnits : Nat) (fg : List AllocIn) (m : Nat := 1) : AllocAcc :=
  fg.foldl (allocStep m (maxUnits * 65536) (effUnits * 65536) (sumN (fg.map (·.share)))) {}

/-- The five weighted blocks of a context (R123): counts of PERTURB, ROADMAP, PROPOSAL, TREE, UNIFORM after the
SHIFT block. -/
structure Blocks where
  shift : Nat := 0
  perturb : Nat := 0
  roadmap : Nat := 0
  proposal : Nat := 0
  tree : Nat := 0
  uniform : Nat := 0
  deriving DecidableEq, Repr

/-- R123 for an allocated count N. -/
def blocksOf (n : Nat) (shiftEn : Bool) (wp wr wo wt wu : Nat) : Blocks :=
  let sh := if shiftEn then min 1 n else 0
  let m := n - sh
  let ws := wp + wr + wo + wt + wu
  if ws = 0 then { shift := sh, uniform := m }
  else
    let p := m * wp / ws
    let r := m * wr / ws
    let o := m * wo / ws
    let t := m * wt / ws
    { shift := sh, perturb := p, roadmap := r, proposal := o, tree := t, uniform := m - p - r - o - t }

def Blocks.startRm (b : Blocks) : Nat := b.shift + b.perturb
def Blocks.startProp (b : Blocks) : Nat := b.startRm + b.roadmap
def Blocks.startTree (b : Blocks) : Nat := b.startProp + b.proposal
def Blocks.startUni (b : Blocks) : Nat := b.startTree + b.tree
def Blocks.total (b : Blocks) : Nat := b.startUni + b.uniform

/-- The blocks of a context record (R123). -/
def CtxRec.blocks (r : CtxRec) (n : Nat) : Blocks :=
  blocksOf n r.shiftEn r.wPerturb r.wRoadmap r.wProposal r.wTree r.wUniform

/-- Source codes (Table 4-2). -/
inductive Source where
  | shift | perturb | roadmap | proposal | tree | uniform | golden | padding
  deriving DecidableEq, Repr

def Source.code : Source → Nat
  | .shift => 0
  | .perturb => 1
  | .roadmap => 2
  | .proposal => 3
  | .tree => 4
  | .uniform => 5
  | .golden => 6
  | .padding => 7

/-- The block a slot lies in, and its local position there (Table 4-2). -/
def Blocks.locate (b : Blocks) (j : Nat) : Source × Nat :=
  if j < b.shift then (.shift, j)
  else if j < b.startRm then (.perturb, j - b.shift)
  else if j < b.startProp then (.roadmap, j - b.startRm)
  else if j < b.startTree then (.proposal, j - b.startProp)
  else if j < b.startUni then (.tree, j - b.startTree)
  else (.uniform, j - b.startUni)

/-! ### Random draws (R120, R121) -/

/-- Draw d of the candidate with global index i in tick k on a stream (R120). -/
def draw (seed : Word) (stream k i d : Nat) : Nat :=
  ((philox seed (BitVec.ofNat 32 stream)
    ⟨BitVec.ofNat 32 k, BitVec.ofNat 32 (k / 2 ^ 32), BitVec.ofNat 32 i, BitVec.ofNat 32 (d / 4)⟩).get (d % 4)).toNat

def streamPerturb (c : Nat) : Nat := 0x11000000 + c
def streamProposal (c : Nat) : Nat := 0x12000000 + c
def streamUniform (c : Nat) : Nat := 0x13000000 + c
def streamTree (c : Nat) : Nat := 0x14000000 + c

/-- A deviate applied to a joint: floor(z × σ / 4,096) (R122). -/
def devOf (u sigma : Nat) : Int := normalOf u * sigma / 4096

/-! ### The prepared mixture (R128) -/

/-- A usable or unusable component: the threshold t_j, and per dimension the offset and the scale. -/
structure MixComp where
  thr : Nat := 0
  mu : List Int := []
  sigma : List Nat := []
  deriving DecidableEq, Repr

/-- FP32 units of a joint: 2^32 per turn for revolute joints, 16,000 per metre for prismatic ones (R128). -/
def jointUnit (j : Joint) : Word := if j.ty == .prismatic then 0x467A_0000#32 else 0x4F80_0000#32

/-- Row j of a mixture: its logit, means and log-scales (R100). -/
def mixRow (d : Nat) (data : List Word) (j : Nat) : Word × List Word × List Word :=
  let row := (data.drop (j * (1 + 2 * d))).take (1 + 2 * d)
  (row.headD 0, (row.drop 1).take d, (row.drop (1 + d)).take d)

/-- Whether a row holds no NaN and no infinity (R128 item 1). -/
def rowUsable (r : Word × List Word × List Word) : Bool :=
  fpFinite r.1 && r.2.1.all fpFinite && r.2.2.all fpFinite

/-- floor(C_j / C_last × 2^32), at most 2^32 (R128 item 4). -/
def mixThreshold (c total : Word) : Nat :=
  match fpDecode (fpMul (fpDiv c total) 0x4F80_0000#32) with
  | .fin false m e => min (2 ^ 32) (if 0 ≤ e then m <<< e.toNat else m >>> (-e).toNat)
  | .fin true _ _ => 0
  | .inf n => if n then 0 else 2 ^ 32
  | .nan => 0

/-- R128: the prepared mixture of a context with J joints and P knots; none if no component is usable. -/
def prepareMix (js : List Joint) (p : Nat) (data : List Word) : Option (List MixComp) :=
  let d := js.length * p
  let k := data.length / (1 + 2 * d)
  let rows := (List.range k).map (mixRow d data)
  let usable := rows.filter rowUsable
  match usable with
  | [] => none
  | u :: us =>
    let top := us.foldl (fun m r => if fpLt m r.1 then r.1 else m) u.1
    let wts := rows.map fun r => if rowUsable r then fpExp (fpSub r.1 top) else 0
    let cum := (wts.foldl (fun (a : Word × List Word) w => (fpAdd a.1 w, a.2 ++ [fpAdd a.1 w])) ((0 : Word), [])).2
    let total := cum.getLastD 0
    some (rows.zipIdx.map fun (q : (Word × List Word × List Word) × Nat) =>
      { thr := if q.2 + 1 = k then 2 ^ 32 else mixThreshold (cum.getD q.2 0) total
        mu := if rowUsable q.1 then q.1.2.1.zipIdx.map (fun (m : Word × Nat) =>
            satS 32 ((fpToInt (fpMul m.1 (jointUnit (js.getD (m.2 % js.length) {}))) 0).getD 0)) else []
        sigma := if rowUsable q.1 then q.1.2.2.zipIdx.map (fun (m : Word × Nat) =>
            (clampI 0 0x7FFFFFFF ((fpToInt (fpMul (fpExp m.1) (jointUnit (js.getD (m.2 % js.length) {}))) 0).getD 0)).toNat)
          else [] })

/-! ### Candidates -/

/-- An edge of a roadmap route, with the configurations of its nodes (R136, R137). -/
structure RouteEdge where
  edge : Nat
  a : JVec
  b : JVec
  deriving DecidableEq, Repr

/-- An adopted route set: its generation, the digest of its contents, and up to 16 routes (R135). -/
structure RouteSet where
  gen : Nat := 0
  model : Nat := 0
  modelGen : Nat := 0
  digest : List Byte := []
  routes : List (List RouteEdge) := []
  deriving DecidableEq, Repr

/-- An entry of a tree's frontier ring: the node number and its joint values (R132). -/
structure FrontierEntry where
  node : Nat
  q : JVec
  deriving DecidableEq, Repr

/-- Everything one context's candidates of a tick are generated from (R115, R142). -/
structure GenCtx where
  ctx : Nat := 0
  slot : Nat := 0
  tick : Nat := 0
  seed : Word := 0
  period : Nat := 1000
  /-- T_s of the tick (R112) -/
  ts : Nat := 0
  params : CtxRec := []
  joints : List Joint := []
  base : Nat := 0
  alloc : Nat := 0
  count : Nat := 0
  anchor : JVec := []
  /-- plan in force, where the segment emitted in this tick was a plan -/
  plan : Option KnotForm := none
  parents : List KnotForm := []
  mix : Option (List MixComp) := none
  routes : Option RouteSet := none
  frontier : List FrontierEntry := []
  deriving DecidableEq, Repr

/-- A generated candidate: its slot, its global index, its source, its knot form, the tree parent it records and
the roadmap edge it holds. -/
structure Cand where
  slotPos : Nat := 0
  index : Nat := 0
  src : Source := .uniform
  /-- the source that was unavailable, where the candidate is a fallback (R124) -/
  fellBack : Option Source := none
  form : KnotForm := {}
  treeParent : Option Nat := none
  edge : Option Nat := none
  /-- local position in the ROADMAP block -/
  rmPos : Option Nat := none
  deriving DecidableEq, Repr

def GenCtx.p (g : GenCtx) : Nat := g.params.knots
def GenCtx.blocks (g : GenCtx) : Blocks := g.params.blocks g.alloc

/-- A knot form of this tick with given knots, each joint fitted (R114). -/
def GenCtx.form (g : GenCtx) (knots : List JVec) : KnotForm :=
  { ts := g.ts, dc := g.params.dc, anchor := g.anchor,
    knots := knots.map fun v => perJoint g.joints fun j jt => jt.fit (v.at j) }

/-- The edge a roadmap slot maps to: edge r >> 4 of route r mod 16 (R136). -/
def RouteSet.slotEdge (rs : RouteSet) (r : Nat) : Option RouteEdge := (rs.routes.getD (r % 16) [])[r / 16]?

/-- The edge table of the tick over a ROADMAP block of n slots: distinct edges by first appearance; a slot beyond
1,023 maps to no edge (R136, R166). -/
def RouteSet.edgeTable (rs : RouteSet) (n : Nat) : List RouteEdge :=
  ((List.range (min n 1024)).filterMap rs.slotEdge).foldl
    (fun acc e => if acc.any (fun x => x.edge == e.edge) then acc else acc ++ [e]) []

/-- The repeat count of a ROADMAP block: slots that hold an edge an earlier slot holds (R136, 07 R187). -/
def RouteSet.repeats (rs : RouteSet) (n : Nat) : Nat :=
  ((List.range (min n 1024)).filterMap rs.slotEdge).length - (rs.edgeTable n).length

/-- Whether slot r holds an edge that a slot of lower r holds (07 R187). -/
def RouteSet.isRepeat (rs : RouteSet) (r : Nat) : Bool :=
  match rs.slotEdge r with
  | none => false
  | some e => (List.range r).any fun i => match rs.slotEdge i with | none => false | some x => x.edge == e.edge

/-- The global index of a roadmap slot (R136). -/
def GenCtx.roadmapIndex (g : GenCtx) (rs : RouteSet) (r : Nat) : Nat :=
  let b := g.blocks
  let t := rs.edgeTable b.roadmap
  match if r < 1024 then rs.slotEdge r else none with
  | some e => g.base + b.startRm + (firstIx (fun x => x.edge == e.edge) t).getD 0
  | none =>
    let y := ((List.range r).filter fun i => ((if i < 1024 then rs.slotEdge i else none).isNone)).length
    g.base + b.startRm + t.length + y

/-- Bounds of the uniform range resolved against the anchor: the lower bound and the span hi − lo + 1 (R130). -/
def uniBounds (r : CtxRec) (anchor : JVec) (j : Nat) (jt : Joint) : Int × Int :=
  if r.uniRel j then
    let lo := sgn 32 (r.uniLo j)
    (anchor.at j + lo, sgn 32 (r.uniHi j) - lo + 1)
  else if jt.cont then ((r.uniLo j : Int), (r.uniHi j : Int) - r.uniLo j + 1)
  else (sgn 32 (r.uniLo j), sgn 32 (r.uniHi j) - sgn 32 (r.uniLo j) + 1)

/-- A uniform joint value of a draw (R131), not yet fitted. -/
def uniValue (r : CtxRec) (anchor : JVec) (j : Nat) (jt : Joint) (u : Nat) : Int :=
  let b := uniBounds r anchor j jt
  b.1 + (u : Int) * b.2 / 2 ^ 32

/-- Knots of a UNIFORM candidate (R131). -/
def GenCtx.uniformKnots (g : GenCtx) (ix : Nat) : List JVec :=
  (List.range g.p).map fun m => perJoint g.joints fun j jt =>
    uniValue g.params g.anchor j jt (draw g.seed (streamUniform g.ctx) g.tick ix (m * g.joints.length + j))

def GenCtx.uniformCand (g : GenCtx) (j ix : Nat) (fell : Option Source) : Cand :=
  { slotPos := j, index := ix, src := .uniform, fellBack := fell, form := g.form (g.uniformKnots ix) }

/-- Knots of the shifted plan (R126). -/
def GenCtx.shiftOf (g : GenCtx) (k : KnotForm) : List JVec := k.shiftKnots g.joints g.p g.params.dc g.period

/-- Knots of a PERTURB candidate at local position p (R127). -/
def GenCtx.perturbKnots (g : GenCtx) (ix p : Nat) : Option (List JVec) :=
  match g.parents with
  | [] => none
  | ps =>
    let par := ps.getD (p % ps.length) {}
    some ((g.shiftOf par).zipIdx.map fun (k : JVec × Nat) => perJoint g.joints fun j jt =>
      jadd jt.cont (k.1.at j)
        (devOf (draw g.seed (streamPerturb g.ctx) g.tick ix (k.2 * g.joints.length + j)) (g.params.sigma j)))

/-- Knots of a PROPOSAL candidate (R129). -/
def GenCtx.proposalKnots (g : GenCtx) (ix : Nat) : Option (List JVec) :=
  match g.mix with
  | none => none
  | some comps =>
    let u := draw g.seed (streamProposal g.ctx) g.tick ix 0
    let c := comps.getD ((firstIx (fun (c : MixComp) => decide (u < c.thr)) comps).getD 0) {}
    some ((List.range g.p).map fun m => perJoint g.joints fun j jt =>
      let d := m * g.joints.length + j
      jadd jt.cont (jadd jt.cont (g.anchor.at j) (c.mu.getD d 0))
        (devOf (draw g.seed (streamProposal g.ctx) g.tick ix (1 + d)) (c.sigma.getD d 0)))

/-- The line from `a` to `b` over `n` knots: knot m = a + floor((b − a) × (m + 1) / n) (R133, R137). -/
def lineKnots (js : List Joint) (a b : JVec) (n : Nat) : List JVec :=
  (List.range n).map fun (m : Nat) => perJoint js fun j jt => jlerp jt.cont (a.at j) (b.at j) ((m + 1 : Nat) : Int) n

/-- Knots and parent node of a TREE candidate (R133). -/
def GenCtx.treeKnots (g : GenCtx) (ix : Nat) : Option (List JVec × Nat) :=
  match g.frontier with
  | [] => none
  | fr =>
    let u := draw g.seed (streamTree g.ctx) g.tick ix 0
    let e := fr.getD (u * fr.length / 2 ^ 32) ⟨0, []⟩
    let tgt := perJoint g.joints fun j jt =>
      jt.fit (uniValue g.params g.anchor j jt (draw g.seed (streamTree g.ctx) g.tick ix (1 + j)))
    let last := perJoint g.joints fun j jt =>
      let st : Int := g.params.treeStep j
      jadd jt.cont (e.q.at j) (clampI (-st) st (jdiff jt.cont (tgt.at j) (e.q.at j)))
    some (lineKnots g.joints g.anchor e.q (g.p - 1) ++ [last], e.node)

/-- Knots of a ROADMAP candidate (R137). -/
def GenCtx.edgeKnots (g : GenCtx) (e : RouteEdge) : List JVec :=
  lineKnots g.joints g.anchor e.a (g.p / 2) ++ lineKnots g.joints e.a e.b (g.p / 2)

/-- The candidate of slot j of the context's range (R118, R123, R124). -/
def GenCtx.cand (g : GenCtx) (j : Nat) : Cand :=
  let ix := g.base + j
  match g.blocks.locate j with
  | (.shift, _) =>
    match g.plan with
    | some k => { slotPos := j, index := ix, src := .shift, form := g.form (g.shiftOf k) }
    | none => g.uniformCand j ix (some .shift)
  | (.perturb, p) =>
    match g.perturbKnots ix p with
    | some ks => { slotPos := j, index := ix, src := .perturb, form := g.form ks }
    | none => g.uniformCand j ix (some .perturb)
  | (.roadmap, r) =>
    match g.routes with
    | none => { slotPos := j, index := ix, src := .padding, rmPos := some r }
    | some rs =>
      match if r < 1024 then rs.slotEdge r else none with
      | some e => { slotPos := j, index := g.roadmapIndex rs r, src := .roadmap, form := g.form (g.edgeKnots e),
                    edge := some e.edge, rmPos := some r }
      | none => { slotPos := j, index := g.roadmapIndex rs r, src := .padding, rmPos := some r }
  | (.proposal, _) =>
    match g.proposalKnots ix with
    | some ks => { slotPos := j, index := ix, src := .proposal, form := g.form ks }
    | none => g.uniformCand j ix (some .proposal)
  | (.tree, _) =>
    match g.treeKnots ix with
    | some (ks, n) => { slotPos := j, index := ix, src := .tree, form := g.form ks, treeParent := some n }
    | none => g.uniformCand j ix (some .tree)
  | _ => g.uniformCand j ix none

/-- The live candidates of a context, in slot order (R118). -/
def GenCtx.cands (g : GenCtx) : List Cand := (List.range g.count).map g.cand

/-- The slot that carries a global index in a context's range, the lowest where several hold one edge. -/
def GenCtx.slotOfIndex (g : GenCtx) (ix : Nat) : Option Nat :=
  (List.range g.count).find? fun j => (g.cand j).index == ix

/-- The candidate of a global index, regenerated (R120, R164). -/
def GenCtx.candOfIndex (g : GenCtx) (ix : Nat) : Option Cand := (g.slotOfIndex ix).map g.cand

end Sys2Proof.Machine
end

