-- ==== Sys2Proof/Machine/StWorld.lean ====
section
/-! DEFINITION. State of chapter 02: world ingest, the origin, the field in assembly and the Field Stores. -/

namespace Sys2Proof.Machine

/-- One accepted segment of an occupancy snapshot that waits or is held. -/
structure Segment where
  stamp : Nat
  counter : Half
  seg : Nat
  segCount : Nat
  full : List V3
  part : List PartRec
  deriving DecidableEq, Repr

/-- One sensor source (02 R55 to R58). -/
structure SourceSt where
  /-- time-stamp of the last accepted frame of the source, 64 bit; 02 R55; reset none. -/
  lastStamp : Option Nat := none
  /-- counter of the last accepted frame of the source, 16 bit; 02 R55; reset 0. -/
  lastCounter : Half := 0
  /-- segments held of snapshots that have not yet been taken at a cut-off; 02 R56; reset none. -/
  held : List Segment := []
  /-- newest snapshot taken at a cut-off: its time-stamp and segments by SEG; 02 R57; reset none. -/
  used : Option (Nat × List Segment) := none
  deriving DecidableEq, Repr

/-- A robot-state payload (02, before R55): base pose, joint positions and velocities. -/
structure RobotState where
  stamp : Nat := 0
  counter : Half := 0
  base : V3 := {}
  yaw : Word := 0
  q : List Word := []
  v : List Int := []
  deriving DecidableEq, Repr

/-- The robot states of one context (02 R60). -/
structure CtxInput where
  /-- time-stamp of the last accepted state frame, 64 bit; 02 R55; reset none. -/
  lastStamp : Option Nat := none
  /-- counter of the last accepted state frame, 16 bit; 02 R55; reset 0. -/
  lastCounter : Half := 0
  /-- accepted state frames not yet taken at a cut-off, in order of acceptance; 02 R56, R60; reset none. -/
  waiting : List RobotState := []
  /-- state taken at the newest cut-off and the tick whose cut-off accepted it; 02 R60; reset none. -/
  taken : Option (RobotState × Nat) := none
  /-- state that was taken one cut-off earlier, behind F(k−1) in the P stage; 02 R60; reset none. -/
  prev : Option (RobotState × Nat) := none
  deriving DecidableEq, Repr

/-- A world command that waits for its cut-off (02 R62). -/
inductive WorldCmd where
  | keepoutSet (id : Nat) (z : Zone)
  | keepoutClear (id : Nat)
  | keepoutClearAll
  deriving DecidableEq, Repr

/-- A queued world command with the ring and sequence that order it (02 R62). -/
structure WaitingWorldCmd where
  ring : Nat
  seq : Nat
  cmd : WorldCmd
  /-- header and payload, for the journal (10 R263) -/
  bytes : List Byte := []
  deriving DecidableEq, Repr

/-- The field that field assembly made (02 R67 to R72). -/
structure BuiltField where
  version : Nat := 0
  origin : V3 := {}
  t0 : Nat := 0
  layerMs : Nat := 0
  img : Mem := []
  crc : Word := 0
  /-- clusters whose copy of the image in cluster memory was lost at a switch-off and reads 0; 15 R385 -/
  lost : List Nat := []
  deriving DecidableEq, Repr

/-- A flipped bit of a Field Store replica: replica, 64-bit word number, bit 0 to 63 of the word or 64 to 71 of its
check bits (02 R75, 05 R155). -/
structure FsFlip where
  replica : Nat
  word : Nat
  bit : Nat
  deriving DecidableEq, Repr

/-- The Field Store of one tile (02 Tables 2-8, 2-9). -/
structure FieldStore where
  /-- FS_STAT.PEEK_BUSY, 1 bit; 02 Table 2-8; reset 0. -/
  peekBusy : Bool := false
  /-- FS_STAT.PEEK_ERR, 1 bit, W1C; 02 Table 2-8; reset 0. -/
  peekErr : Bool := false
  /-- FS_STAT.REPLICA_BAD, 4 bit, W1C; 02 Table 2-8; reset 0. -/
  replicaBad : BitVec 4 := 0
  /-- FS_STAT.BCAST, 1 bit; 02 Table 2-8; reset 0. -/
  bcast : Bool := false
  /-- FS_STAT.VALID, 1 bit; 02 Table 2-8; reset 0. -/
  valid : Bool := false
  /-- a broadcast of this tile was interrupted by a truncation and none has completed since; 02 R75; reset false. -/
  interrupted : Bool := false
  /-- FS_VERSION, 64 bit; 02 Table 2-9; reset 0. -/
  version : Latched64 := {}
  /-- FS_ORIGIN_X/Y/Z, 24 bit signed each; 02 Table 2-9; reset 0. -/
  origin : V3 := {}
  /-- FS_T0, 64 bit; 02 Table 2-9; reset 0. -/
  t0 : Latched64 := {}
  /-- FS_CRC, 32 bit; 02 Table 2-9; reset 0. -/
  crc : Word := 0
  /-- FS_LAYER.LAYER_MS, 8 bit; 02 Table 2-9; reset 0. -/
  layerMs : Nat := 0
  /-- FS_BAD_INDEX_CNT, 48 bit; 02 R69; reset 0. -/
  badIndexCnt : StatCnt := {}
  /-- FS_PEEK_ADDR, 22 bit; 02 Table 2-9; reset 0. -/
  peekAddr : BitVec 22 := 0
  /-- FS_PEEK_DATA.DATA, 8 bit; 02 Table 2-9; reset 0. -/
  peekData : Byte := 0
  /-- the image held in the four replicas, 1,048,576 bytes; 02 R67, R73; reset blank. -/
  img : Mem := []
  /-- flipped bits of the replicas since the broadcast (soft errors and injections); 05 R155, 14 R366; reset none. -/
  flips : List FsFlip := []
  deriving DecidableEq, Repr

/-- Chapter 02: world registers and world state. -/
structure WorldSt where
  /-- SYS_WLD_CFG.BRICK_RANGE, 5 bit; 02 Table 2-6; reset 0x19. -/
  brickRange : BitVec 5 := 0x19
  /-- SYS_WLD_CFG.RECENTRE_CELLS, 8 bit; 02 Table 2-6; reset 0x08. -/
  recentreCells : Byte := 8
  /-- SYS_WLD_PRED_THR_LO/HI, eight 8-bit thresholds; 02 R76; reset 0x80 each. -/
  predThr : List Byte := [0x80, 0x80, 0x80, 0x80, 0x80, 0x80, 0x80, 0x80]
  /-- SYS_WLD_STAT.FIELD_HELD, 1 bit, W1C; 02 Table 2-7; reset 0. -/
  fieldHeld : Bool := false
  /-- SYS_WLD_STAT.BRICK_SHORT, 1 bit, W1C; 02 Table 2-7; reset 0. -/
  brickShort : Bool := false
  /-- SYS_WLD_STAT.INGEST_OVF, 1 bit, W1C; 02 Table 2-7; reset 0. -/
  ingestOvf : Bool := false
  /-- SYS_WLD_STAT.LATE, 1 bit, W1C; 02 Table 2-7; reset 0. -/
  late : Bool := false
  /-- SYS_WLD_STAT.ORIGIN_MOVED, 1 bit, W1C; 02 Table 2-7; reset 0. -/
  originMoved : Bool := false
  /-- SYS_WLD_SRC_STALE, 16 bit; 02 R58, R76; reset 0xFFFF. -/
  srcStale : Half := 0xFFFF
  /-- SYS_WLD_BRICKS.DEMAND, 16 bit; 02 R70, R76; reset 0. -/
  demand : Nat := 0
  /-- SYS_WLD_BRICKS.USED, 9 bit; 02 R70, R76; reset 0. -/
  used : Nat := 0
  /-- SYS_WLD_LATE_CNT, 48 bit; 02 R56, R76; reset 0. -/
  lateCnt : StatCnt := {}
  /-- SYS_WLD_DROP_CNT, 48 bit; 02 R55, R59, R76; reset 0. -/
  dropCnt : StatCnt := {}
  /-- origin O of the newest cut-off, three signed 24-bit components; 02 R44, R45; reset 0 (DESIGN CHOICE, log entry 63, before READY). -/
  origin : V3 := {}
  /-- O moved at the newest cut-off (Cornflower is told); 02 R45, 06 R179; reset false. -/
  shifted : V3 := {}
  /-- focus cell of the newest cut-off; 02 R45, R70; reset (32, 32, 8). -/
  focus : V3 := ⟨32, 32, 8⟩
  /-- the 16 sensor sources; 02 R55 to R58; reset none accepted. -/
  sources : Tbl SourceSt := []
  /-- robot states by context; 02 R60; reset none accepted. -/
  inputs : Tbl CtxInput := []
  /-- keep-out zones in force, up to 64; 02 R61; reset none. -/
  zones : Tbl Zone := []
  /-- world commands completed and waiting for their cut-off; 02 R62; reset none. -/
  waitingCmds : List WaitingWorldCmd := []
  /-- predicted probabilities of the tick, 8 × 65,536 × 8 bit, present when the predictor completed; 02 R51; reset none. -/
  pred : Option (List Nat) := none
  /-- coarse layer computed by the distance transform of the tick, 524,288 × 8 bit; 02 R64; reset none. -/
  coarse : Option (List Nat) := none
  /-- the assembled field of the tick; 02 R67, R72; reset none. -/
  built : Option BuiltField := none
  /-- Field Stores of the 72 tiles; 02 Table 2-5; reset as FieldStore. -/
  stores : Tbl FieldStore := []
  deriving DecidableEq, Repr

end Sys2Proof.Machine
end

