-- ==== Sys2Proof/Machine/HarebellEval.lean ====
section
/-! DEFINITION. Evaluation of one candidate on an engine (05 R144 to R159, R163, R164, R167, R501): sphere queries
through the word checks of a Field Store, feasibility, cost, records and golden signatures. -/

namespace Sys2Proof.Machine

/-- A compiled robot model as the engines use it (R143 to R147). -/
structure EngineModel where
  root : RootMode := .state
  joints : List Joint := []
  spheres : List Sphere := []
  pairs : List (Nat × Nat) := []
  goalFrame : Nat := 0
  goalOff : V3 := {}
  deriving DecidableEq, Repr

/-! ### Field Store reads (R155, R501) -/

/-- What one Field Store word read meets: none, one or more flipped bits. -/
inductive WordState where
  | clean | corrected | uncorrectable
  deriving DecidableEq, Repr

/-- Flipped bits of a word: a bit flipped twice is as it was. -/
def wordState (flips : List FsFlip) (replica word : Nat) : WordState :=
  let bad := (List.range 72).filter fun b =>
    (flips.filter fun f => f.replica == replica && f.word == word && f.bit == b).length % 2 == 1
  match bad.length with
  | 0 => .clean
  | 1 => .corrected
  | _ => .uncorrectable

/-- What one query gives: D, the corrected and uncorrectable words it met, whether a used read was uncorrectable,
and whether the index entry was bad (R69). -/
structure QRes where
  d : Int := 0
  ce : Nat := 0
  ue : Nat := 0
  fserr : Bool := false
  badIndex : Bool := false
  deriving DecidableEq, Repr

def ceOf (w : WordState) : Nat := if w = .corrected then 1 else 0
def ueOf (w : WordState) : Nat := if w = .uncorrectable then 1 else 0

/-- u clamped to the volume on every axis (R501). -/
def clampVol (u : V3) : V3 := ⟨clampI 0 163839 u.x, clampI 0 163839 u.y, clampI 0 40959 u.z⟩

/-- u clamped to the golden patch on every axis (R501). -/
def clampPatch (u : V3) : V3 := ⟨clampI 0 5119 u.x, clampI 0 5119 u.y, clampI 0 2559 u.z⟩

/-- The byte of the held image at an address. -/
def FieldStore.byte (fs : FieldStore) (a : Nat) : Nat := (Mem.read fs.img a).toNat

/-- A live query at a point on a replica in layer l (R66, R69, R154, R155, R501); `pad` marks a PAD sphere, whose
reads are all unused. -/
def liveQuery (fs : FieldStore) (rep l : Nat) (pad : Bool) (p : Pt) : QRes :=
  let u0 := p.p.sub fs.origin
  let inside := inVolume u0 && !p.marked
  let u := clampVol u0
  let v := u.fdiv 320
  let cell := cellIndex (v.fdiv 8)
  let vox := voxelIndex (v.fmod 8)
  let ca := coarseAddr cell l
  let ia := brickIndexAddr cell
  let wc := wordState fs.flips rep (ca / 8)
  let wi := wordState fs.flips rep (ia / 8)
  let e := brickAt fs.byte cell
  let valid := wi != .uncorrectable && e.1 && decide (e.2 < 380)
  let brick := if valid then e.2 else 0
  let pa := fineAddr brick (l / 4) vox
  let wp := wordState fs.flips rep (pa / 8)
  let used := inside && !pad
  let err := used && (wc == .uncorrectable || wi == .uncorrectable || (valid && wp == .uncorrectable))
  let cd : Int := 320 * fs.byte ca
  let f := fs.byte pa
  { d := if !inside || err then 0 else if valid && f ≠ 255 then max cd (32 * f) else cd
    ce := ceOf wc + ceOf wi + ceOf wp
    ue := ueOf wc + ueOf wi + ueOf wp
    fserr := err
    badIndex := inside && e.1 && decide (380 ≤ e.2) }

/-- A golden query at a point of the golden frame (R71, R167, R501). -/
def goldenQuery (fs : FieldStore) (rep l : Nat) (pad : Bool) (p : Pt) : QRes :=
  let u := clampPatch p.p
  let inside := u == p.p && !p.marked
  let v := u.fdiv 320
  let c := v.fdiv 8
  let cell := cellIndex c
  let ca := coarseAddr cell l
  let ia := brickIndexAddr cell
  let pa := fineAddr (380 + c.x.toNat + 2 * c.y.toNat) (l / 4) (voxelIndex (v.fmod 8))
  let wc := wordState fs.flips rep (ca / 8)
  let wi := wordState fs.flips rep (ia / 8)
  let wp := wordState fs.flips rep (pa / 8)
  let err := inside && !pad && wp == .uncorrectable
  { d := if inside && !err then 32 * fs.byte pa else 0
    ce := ceOf wc + ceOf wi + ceOf wp
    ue := ueOf wc + ueOf wi + ueOf wp
    fserr := err }

/-! ### Cost terms (R158) -/

def sat32 (n : Nat) : Nat := satU 32 n

/-- The clearance penalty of one query (R158). -/
def clrPenalty (m wClr : Nat) (c : Int) : Nat :=
  if c < m then ((m : Int) - max c 0).toNat * wClr / 256 else 0

/-- Sum of two unsigned 32-bit values, saturating. -/
def satAdd (a b : Nat) : Nat := sat32 (a + b)

/-- q_(i−1): the waypoint before, the anchor before the first. -/
def wpBefore (anchor : JVec) (wps : List JVec) (i : Nat) : JVec :=
  match i with
  | 0 => anchor
  | i + 1 => wps.getD i []

/-- T_len (R158). -/
def lenTerm (r : CtxRec) (js : List Joint) (anchor : JVec) (wps : List JVec) : Nat :=
  (List.range wps.length).foldl (fun t i => js.zipIdx.foldl (fun t (j : Joint × Nat) =>
    let d := jdiff j.1.cont ((wps.getD i []).at j.2) ((wpBefore anchor wps i).at j.2)
    satAdd t (d.natAbs * r.wLen j.2 / 65536)) t) 0

/-- T_smo: |q_(i+1) − 2 q_i + q_(i−1)|, the difference of two differences under R111 (R158). -/
def smoTerm (r : CtxRec) (js : List Joint) (anchor : JVec) (wps : List JVec) : Nat :=
  (List.range (wps.length - 1)).foldl (fun t i => js.zipIdx.foldl (fun t (j : Joint × Nat) =>
    let d1 := jdiff j.1.cont ((wps.getD (i + 1) []).at j.2) ((wps.getD i []).at j.2)
    let d0 := jdiff j.1.cont ((wps.getD i []).at j.2) ((wpBefore anchor wps i).at j.2)
    satAdd t ((d1 - d0).natAbs * r.wSmo j.2 / 65536)) t) 0

/-- Whether a waypoint breaks a position limit (Table 5-6, POS). -/
def posBad (js : List Joint) (q : JVec) : Bool :=
  js.zipIdx.any fun (j : Joint × Nat) => !j.1.cont && (decide (q.at j.2 < j.1.lo) || decide (j.1.hi < q.at j.2))

/-- Whether a step breaks a velocity limit (Table 5-6, VEL). -/
def velBad (js : List Joint) (q0 q1 : JVec) : Bool :=
  js.zipIdx.any fun (j : Joint × Nat) =>
    j.1.vstep != 0 && decide (j.1.vstep < (jdiff j.1.cont (q1.at j.2) (q0.at j.2)).natAbs)

/-! ### Geometry of a waypoint -/

/-- What the front end makes of a waypoint: the sphere centres, the goal point, positions saturated. -/
structure WpGeom where
  centres : List Pt := []
  goal : Pt := {}
  sats : Nat := 0
  deriving DecidableEq, Repr

/-- Frames, centres and goal point of a waypoint (R145, R147, R151); a PAD sphere sits at the root's position. -/
def wpGeom (m : EngineModel) (root : Frame) (s : Nat) (q : JVec) : WpGeom :=
  let fr := frames root m.joints q
  let cs := (List.range s).map fun k =>
    match m.spheres[k]? with
    | some sp => (fr.1.getD sp.frame {}).point sp.off
    | none => (⟨root.p, root.marked⟩, false)
  let g := (fr.1.getD m.goalFrame {}).point m.goalOff
  { centres := cs.map (·.1), goal := g.1, sats := fr.2 + (cs.filter (·.2)).length + b2n g.2 }

/-- Whether a self-collision pair collides (R146). -/
def pairHit (m : EngineModel) (cs : List Pt) (ab : Nat × Nat) : Bool :=
  let a := (cs.getD ab.1 {}).p
  let b := (cs.getD ab.2 {}).p
  let d := a.sub b
  let r : Int := (m.spheres.getD ab.1 {}).rad + (m.spheres.getD ab.2 {}).rad
  decide (d.x * d.x + d.y * d.y + d.z * d.z < r * r)

/-! ### Evaluation of a candidate -/

/-- How a candidate is looked up: live in the held field, golden, or with the tile's field invalid (R156). -/
inductive LookMode where
  | live | golden | invalid
  deriving DecidableEq, Repr

/-- One query of a candidate. -/
structure Query where
  wp : Nat
  sph : Nat
  layer : Nat
  pad : Bool
  c : Int
  res : QRes
  deriving DecidableEq, Repr

/-- What the evaluation of a candidate gives. -/
structure CandEval where
  clr : Bool := false
  self : Bool := false
  pos : Bool := false
  vel : Bool := false
  fserr : Bool := false
  tClr : Nat := 0
  tLen : Nat := 0
  tSmo : Nat := 0
  tGoal : Nat := 0
  g : Nat := 0
  near : Nat := 0
  posSat : Nat := 0
  queries : List Query := []
  deriving DecidableEq, Repr

def CandEval.feas (e : CandEval) : Bool := !e.clr && !e.self && !e.pos && !e.vel && !e.fserr

/-- The saturating sum of the four terms (R158). -/
def CandEval.cost (e : CandEval) : Nat := satAdd (satAdd (satAdd e.tClr e.tLen) e.tSmo) e.tGoal

/-- COST_SAT: the cost saturates (R158). -/
def CandEval.costSat (e : CandEval) : Bool := decide (0xFFFFFFFF < e.tClr + e.tLen + e.tSmo + e.tGoal)

def CandEval.ce (e : CandEval) : Nat := sumN (e.queries.map (·.res.ce))
def CandEval.ue (e : CandEval) : Nat := sumN (e.queries.map (·.res.ue))
def CandEval.badIndex (e : CandEval) : Nat := (e.queries.filter (·.res.badIndex)).length

/-- The query of least clearance over non-PAD queries, the first issued on a tie (R159). -/
def CandEval.minQ (e : CandEval) : Option Query :=
  e.queries.foldl (fun m q => if q.pad then m else match m with
    | none => some q
    | some b => if q.c < b.c then some q else some b) none

/-- The query recorded as the minimum (R159); a free value where every query is PAD (log entry 180). -/
def CandEval.least (e : CandEval) : Query :=
  let x := Config.noQuery.toNat
  e.minQ.getD { wp := x % 64, sph := x / 64 % 128, layer := x / 8192 % 8, pad := true, c := sgn 24 (x / 2 ^ 32), res := {} }

/-- The CAUSE byte (Table 5-8). -/
def CandEval.cause (e : CandEval) : Nat :=
  b2n e.clr + 2 * b2n e.self + 4 * b2n e.pos + 8 * b2n e.vel + 16 * b2n e.fserr + 32 * b2n e.costSat

/-- The signature of a golden candidate: CRC-32C of its clearances, 3 bytes each, in issue order (R167). -/
def CandEval.signature (e : CandEval) : Word := crc32c (e.queries.flatMap fun q => toLe 3 (unS 24 q.c))

/-- What a candidate is evaluated with: the tile's Field Store, the model, the shape, the weights, the root frame,
and the cost-to-go of a field cell. -/
structure EvalEnv where
  fs : FieldStore := {}
  mode : LookMode := .live
  model : EngineModel := {}
  w : Nat := 32
  s : Nat := 64
  params : CtxRec := []
  root : Frame := {}
  ctg : List Nat := []
  /-- time layer of each waypoint in golden mode (14 R347) -/
  layers : List Nat := []
  deriving DecidableEq, Repr

/-- One query of waypoint i at planned time t: issue offset i × (s/8) + k/8, lane k mod 8, replica lane / 2 (R152,
R153). -/
def EvalEnv.query (v : EvalEnv) (t i : Nat) (cs : List Pt) (k : Nat) : Query :=
  let l := match v.mode with
    | .golden => v.layers.getD i 0
    | _ => layerOf t v.fs.t0.val.toNat v.fs.layerMs
  let pad := decide (v.model.spheres.length ≤ k)
  let rad : Int := (v.model.spheres.getD k {}).rad
  let rep := k % 8 / 2
  let r := match v.mode with
    | .live => liveQuery v.fs rep l pad (cs.getD k {})
    | .golden => goldenQuery v.fs rep l pad (cs.getD k {})
    | .invalid => {}
  ⟨i, k, l, pad, r.d - (if pad then 0 else rad), r⟩

/-- The cost-to-go of the goal point at the last waypoint (R158); golden candidates read none (R167). -/
def EvalEnv.goalCost (v : EvalEnv) (g : Pt) : Nat :=
  match v.mode with
  | .golden => 0
  | _ =>
    let u := g.p.sub v.fs.origin
    if inVolume u && !g.marked then v.ctg.getD (cellIndex ((u.fdiv 320).fdiv 8)) 0xFFFF else 0xFFFF

/-- The evaluation of a knot form (R151 to R159). -/
def EvalEnv.eval (v : EvalEnv) (k : KnotForm) : CandEval :=
  let js := v.model.joints
  let wps := k.waypoints js v.w
  let geo := wps.map (wpGeom v.model v.root v.s)
  let qs := geo.zipIdx.flatMap fun (g : WpGeom × Nat) =>
    (List.range v.s).map (v.query (waypointTime k.ts k.dc v.w g.2) g.2 g.1.centres)
  let used := qs.filter fun q => !q.pad
  let m := v.params.clrMargin
  let g := v.goalCost ((geo.getLastD {}).goal)
  { clr := used.any fun q => decide (q.c < 0)
    self := geo.any fun g => v.model.pairs.any (pairHit v.model g.centres)
    pos := wps.any (posBad js)
    vel := wps.zipIdx.any fun (p : JVec × Nat) => velBad js (wpBefore k.anchor wps p.2) p.1
    fserr := v.mode == .invalid || used.any fun q => q.res.fserr
    tClr := used.foldl (fun t q => satAdd t (clrPenalty m v.params.wClr q.c)) 0
    tLen := lenTerm v.params js k.anchor wps
    tSmo := smoTerm v.params js k.anchor wps
    tGoal := sat32 (g * v.params.wGoal)
    g := g
    near := satU 16 (used.filter fun q => decide (0 ≤ q.c) && decide (q.c < (m : Int))).length
    posSat := sumN (geo.map (·.sats))
    queries := qs }

/-! ### Records (R163, R164) -/

/-- The result record of a candidate (Table 5-8), as data. -/
structure ResRec where
  index : Nat := 0
  cost : Nat := 0
  minClr : Int := 0
  feas : Bool := false
  slot : Nat := 0
  source : Nat := 0
  cause : Nat := 0
  minWp : Nat := 0
  minSph : Nat := 0
  minLayer : Nat := 0
  deriving DecidableEq, Repr

/-- The 16 bytes of a result record (Table 5-8). -/
def ResRec.bytes (r : ResRec) : List Byte :=
  toLe 4 r.index ++ toLe 4 r.cost ++ toLe 3 (unS 24 r.minClr) ++
  [BitVec.ofNat 8 (128 * b2n r.feas + 8 * r.slot + r.source), BitVec.ofNat 8 r.cause, BitVec.ofNat 8 r.minWp,
   BitVec.ofNat 8 r.minSph, BitVec.ofNat 8 r.minLayer]

/-- The record of an evaluated candidate. -/
def CandEval.record (e : CandEval) (index slot source : Nat) : ResRec :=
  let q := e.least
  { index := index, cost := e.cost, minClr := q.c, feas := e.feas, slot := slot, source := source, cause := e.cause,
    minWp := q.wp, minSph := q.sph, minLayer := q.layer }

/-- The record of a PADDING slot (R163). -/
def paddingRecord (index slot : Nat) : ResRec := { index := index, slot := slot, source := Source.padding.code }

/-- The clearance code: clamp(floor(c / 64), −128, 127) (R164). -/
def clrCode (c : Int) : Int := clampI (-128) 127 (c / 64)

/-- The term code of T (R164). -/
def termCode (t : Nat) : Nat :=
  let x := t + 1
  let e := x.log2
  min 127 (4 * e + (x * 4) / 2 ^ e % 4)

/-- The least clearance code of the non-PAD queries that satisfy a test, 127 where there is none. -/
def CandEval.minCode (e : CandEval) (f : Query → Bool) : Int :=
  (e.queries.filter fun q => !q.pad && f q).foldl (fun m q => min m (clrCode q.c)) 127

/-- The 64-byte feature summary (Table 5-9). -/
def CandEval.summary (e : CandEval) (w s source : Nat) : List Byte :=
  let wc := (List.range 32).map fun k =>
    e.minCode fun q => if w = 64 then decide (q.wp / 2 = k) else decide (q.wp = k)
  let sc := (List.range 16).map fun g => e.minCode fun q => decide (16 * q.sph / s = g)
  let m := e.least
  (wc ++ sc).map (fun c => BitVec.ofNat 8 (unS 8 c)) ++
  [e.tClr, e.tLen, e.tSmo, e.tGoal].map (fun t => BitVec.ofNat 8 (termCode t)) ++
  [BitVec.ofNat 8 (source + 8 * (e.cause % 32)), BitVec.ofNat 8 m.layer, BitVec.ofNat 8 m.wp, BitVec.ofNat 8 m.sph] ++
  toLe 2 e.near ++ toLe 2 e.g ++ [0, 0, 0, 0]

/-- The knot codes of a feature record: clamp((K − anchor) >> 24, −128, 127) (R164). -/
def knotCodes (js : List Joint) (k : KnotForm) : List Byte :=
  k.knots.flatMap fun v => (perJoint js fun j jt =>
    clampI (-128) 127 (jdiff jt.cont (v.at j) (k.anchor.at j) / 2 ^ 24)).map fun c => BitVec.ofNat 8 (unS 8 c)

/-- The first F bytes of the feature record of a candidate (R102, R164). -/
def featureRecord (summary : List Byte) (js : List Joint) (k : KnotForm) (f : Nat) : List Byte :=
  let b := summary ++ knotCodes js k
  (b ++ List.replicate (f - b.length) 0).take f

/-! ### Capacity (R148, R165) -/

/-- R148: whether a context's model runs at a shape. -/
def shapeFits (jr jp pairs s : Nat) : Bool :=
  decide (ceilDiv (jr + jp) 4 ≤ s / 8) && decide (18 * jr + 6 * jp + 3 * (s + 1) + pairs ≤ 16 * s)

/-- R165: whether the records of a core fit its result area. -/
def resultAreaFits (ne : Nat) (critic : Bool) : Bool :=
  decide (4 * ne * (if critic then 80 else 16) ≤ 1572864)

end Sys2Proof.Machine
end

