-- ==== Sys2Proof/Machine/PoppySelect.lean ====
section
/-! DEFINITION. Selection, merge and re-ranking (chapter 07) over the records of one tick, and the background
SELECT and UNIQUE items. -/

namespace Sys2Proof.Machine

/-- A ranked entry: a result or list entry (Table 7-2) as data. -/
structure PEntry where
  index : Nat := 0xFFFFFFFF
  key : Nat := 0xFFFFFFFF
  cost : Nat := 0
  minClr : Int := 0
  valid : Bool := false
  rep : Bool := false
  source : Nat := 0
  deriving DecidableEq, Repr

/-- A row element: a live record of a cluster with its repeat mark (R186, R187). -/
structure RowRec where
  rr : ResRec
  rep : Bool := false
  deriving DecidableEq, Repr

def RowRec.ranked (r : RowRec) : Bool := r.rr.feas && r.rr.source != 7
def RowRec.infeasible (r : RowRec) : Bool := !r.rr.feas && r.rr.source != 7

def RowRec.entry (r : RowRec) : PEntry :=
  { index := r.rr.index, key := r.rr.cost, cost := r.rr.cost, minClr := r.rr.minClr, valid := true, rep := r.rep,
    source := r.rr.source }

/-- The order of R185: lower key first, among equal keys the lower index. -/
def pLe (a b : PEntry) : Bool := decide (a.key < b.key) || (a.key == b.key && decide (a.index ≤ b.index))

/-! ### Radix selection (R189) -/

/-- One pass: entries whose higher digits equal the leading digits, counted by digit p. -/
def radixHist (l : List PEntry) (p pfx : Nat) (d : Nat) : Nat :=
  (l.filter fun e => e.key >>> (8 * p + 8) == pfx && (e.key >>> (8 * p)) % 256 == d).length

/-- The least bin whose running count reaches `need`, else 255, with the count of the bins before it. -/
def radixBin (h : Nat → Nat) (need : Nat) : Nat → Nat → Nat → Nat × Nat
  | 0, b, before => (min b 255, before)
  | fuel + 1, b, before =>
    if before + h b ≥ need ∨ b = 255 then (b, before) else radixBin h need fuel (b + 1) (before + h b)

/-- The passes over digits p − 1 down to 0: the entries still needed at the last key, and that key τ. -/
def radixPasses (l : List PEntry) : Nat → Nat → Nat → Nat × Nat
  | 0, need, pfx => (need, pfx)
  | p + 1, need, pfx =>
    let r := radixBin (radixHist l p pfx) need 256 0 0
    radixPasses l p (need - r.2) (pfx * 256 + r.1)

/-- The cluster list of a row and its τ (R189). -/
def clusterList (kc : Nat) (l : List PEntry) : List PEntry × Nat :=
  let r := radixPasses l 4 kc 0
  let below := l.filter fun e => decide (e.key < r.2)
  let at_ := (sortBy pLe (l.filter fun e => e.key == r.2)).take r.1
  (sortBy pLe (below ++ at_), r.2)

/-- A cluster header (R190): τ, EQ_N, counts and the cost sum of the non-repeat records, and the least infeasible. -/
structure ClusterRes where
  list : List PEntry := []
  full : Bool := false
  tau : Nat := 0xFFFFFFFF
  eqN : Nat := 0
  feasN : Nat := 0
  infeasN : Nat := 0
  costSum : Nat := 0
  worst : Option (Nat × Nat) := none
  deriving DecidableEq, Repr

/-- The lesser of two (COST, INDEX) pairs. -/
def lessPair (a b : Option (Nat × Nat)) : Option (Nat × Nat) :=
  match a, b with
  | none, b => b
  | a, none => a
  | some x, some y => if x.1 < y.1 || (x.1 == y.1 && decide (x.2 ≤ y.2)) then some x else some y

/-- Cluster selection of a row (R186 to R190). -/
def selectCluster (kc : Nat) (row : List RowRec) : ClusterRes :=
  let ranked := (row.filter RowRec.ranked).map RowRec.entry
  let r := clusterList kc ranked
  let once := ranked.filter fun e => !e.rep
  let inf := row.filter fun x => x.infeasible && !x.rep
  { list := r.1, full := decide (kc ≤ r.1.length), tau := r.2,
    eqN := (once.filter fun e => e.key == r.2).length,
    feasN := once.length, infeasN := inf.length, costSum := sumN (once.map (·.cost)),
    worst := inf.foldl (fun m x => lessPair m (some (x.rr.cost, x.rr.index))) none }

/-! ### The die merge (R192, R193) -/

/-- The first k entries of a sorted list with equal (KEY, INDEX) kept once, and how many were dropped. -/
def takeOnce : Nat → Option PEntry → List PEntry → List PEntry × Nat
  | 0, _, _ => ([], 0)
  | _, _, [] => ([], 0)
  | k + 1, last, e :: t =>
    match last with
    | some p =>
      if p.key == e.key && p.index == e.index then
        let r := takeOnce (k + 1) last t
        (r.1, r.2 + 1)
      else
        let r := takeOnce k (some e) t
        (e :: r.1, r.2)
    | none =>
      let r := takeOnce k (some e) t
      (e :: r.1, r.2)

/-- A merge node (R192): left before right among equals, the first k kept. -/
def mergeNode (k : Nat) (a b : List PEntry) : List PEntry × Nat := takeOnce k none (List.merge a b pLe)

/-- A die result: header and entries (R191). -/
structure DieRes where
  k : Nat := 0
  kc : Nat := 0
  entries : List PEntry := []
  tieLeft : Nat := 0
  kthKey : Nat := 0xFFFFFFFF
  feasN : Nat := 0
  infeasN : Nat := 0
  dupN : Nat := 0
  selSum : Nat := 0
  leftSum : Nat := 0
  infIndex : Nat := 0xFFFFFFFF
  infCost : Nat := 0
  ctx : Nat := 0
  slot : Nat := 0
  reranked : Bool := false
  criticSkipped : Bool := false
  takeover : Bool := false
  tick : Nat := 0
  deriving DecidableEq, Repr

def DieRes.validN (d : DieRes) : Nat := d.entries.length

/-- Distinct candidates with the k-th key (R193). -/
def tieCount (cs : List ClusterRes) (key : Nat) : Nat :=
  sumN (cs.map fun c =>
    if c.full && c.tau == key then c.eqN else (c.list.filter fun e => e.key == key && !e.rep).length)

/-- The die merge of four cluster results (R192, R193); the flag says a duplicate was dropped. -/
def dieMerge (k kc dupN ctx slot tick : Nat) (takeover : Bool) (cs : List ClusterRes) : DieRes × Bool :=
  let l (i : Nat) : List PEntry := (cs.getD i {}).list
  let a := mergeNode kc (l 0) (l 1)
  let b := mergeNode kc (l 2) (l 3)
  let c := mergeNode k a.1 b.1
  let out := c.1.map fun e => { e with rep := false }
  let key := if out.length < k then 0xFFFFFFFF else ((out.getLast?).map (·.key)).getD 0xFFFFFFFF
  let sel := sumN (out.map (·.cost))
  let total := sumN (cs.map (·.costSum))
  let w := cs.foldl (fun m c => lessPair m c.worst) none
  ({ k := k, kc := kc, entries := out,
     tieLeft := if out.length < k then 0 else tieCount cs key - (out.filter fun e => e.key == key).length,
     kthKey := key, feasN := sumN (cs.map (·.feasN)), infeasN := sumN (cs.map (·.infeasN)), dupN := dupN,
     selSum := satU 64 sel, leftSum := satU 64 (total - sel),
     infIndex := (w.map (·.2)).getD 0xFFFFFFFF, infCost := (w.map (·.1)).getD 0, ctx := ctx, slot := slot,
     takeover := takeover, tick := tick },
   decide (0 < a.2 + b.2 + c.2))

/-- The result of a device of a cascade, with k_c entries at node C (R193; 19 R477): entries keep REPEAT, LEFT_SUM holds the
sum of all distinct feasible costs, and TIE_LEFT counts distinct candidates with the last key that are not listed. -/
def deviceMerge (kc dupN ctx slot tick : Nat) (takeover : Bool) (cs : List ClusterRes) : DieRes × Bool :=
  let l (i : Nat) : List PEntry := (cs.getD i {}).list
  let a := mergeNode kc (l 0) (l 1)
  let b := mergeNode kc (l 2) (l 3)
  let c := mergeNode kc a.1 b.1
  let out := c.1
  let key := if out.length < kc then 0xFFFFFFFF else ((out.getLast?).map (·.key)).getD 0xFFFFFFFF
  let w := cs.foldl (fun m c => lessPair m c.worst) none
  ({ k := kc, kc := kc, entries := out,
     tieLeft := if out.length < kc then 0 else tieCount cs key - (out.filter fun e => e.key == key && !e.rep).length,
     kthKey := key, feasN := sumN (cs.map (·.feasN)), infeasN := sumN (cs.map (·.infeasN)), dupN := dupN,
     leftSum := sumN (cs.map (·.costSum)), infIndex := (w.map (·.2)).getD 0xFFFFFFFF, infCost := (w.map (·.1)).getD 0,
     ctx := ctx, slot := slot, takeover := takeover, tick := tick },
   decide (0 < a.2 + b.2 + c.2))

/-- The cascade merge of the results of positions 0 to 7 in its fixed tree (19 R477): levels 1 and 2 keep k_c entries, the
root k; headers combine as in R193. -/
def cascadeTree (k kc : Nat) (ds : List DieRes) : DieRes × Bool :=
  let l (i : Nat) : List PEntry := (ds.getD i {}).entries
  let a := mergeNode kc (l 0) (l 1)
  let b := mergeNode kc (l 2) (l 3)
  let c := mergeNode kc (l 4) (l 5)
  let d := mergeNode kc (l 6) (l 7)
  let e := mergeNode kc a.1 b.1
  let f := mergeNode kc c.1 d.1
  let r := mergeNode k e.1 f.1
  let out := r.1.map fun x => { x with rep := false }
  let key := if out.length < k then 0xFFFFFFFF else ((out.getLast?).map (·.key)).getD 0xFFFFFFFF
  let ties := sumN (ds.map fun x =>
    (x.entries.filter fun y => y.key == key && !y.rep).length + (if x.kthKey == key then x.tieLeft else 0))
  let sel := sumN (out.map (·.cost))
  let w := ds.foldl (fun m x => lessPair m (if x.infIndex = 0xFFFFFFFF then none else some (x.infCost, x.infIndex))) none
  let o := ds.headD {}
  ({ k := k, kc := kc, entries := out,
     tieLeft := if out.length < k then 0 else ties - (out.filter fun y => y.key == key).length,
     kthKey := key, feasN := sumN (ds.map (·.feasN)), infeasN := sumN (ds.map (·.infeasN)), dupN := o.dupN,
     selSum := satU 64 sel, leftSum := satU 64 (sumN (ds.map (·.leftSum)) - sel),
     infIndex := (w.map (·.2)).getD 0xFFFFFFFF, infCost := (w.map (·.1)).getD 0, ctx := o.ctx, slot := o.slot,
     takeover := ds.any (·.takeover), tick := o.tick },
   decide (0 < a.2 + b.2 + c.2 + d.2 + e.2 + f.2 + r.2))

/-- Re-ranking by new keys: KEY replaced in every valid entry, sorted by (KEY, INDEX) (R195). -/
def DieRes.rerank (d : DieRes) (keys : List Nat) : DieRes :=
  { d with
    entries := sortBy pLe (d.entries.zipIdx.map fun (e : PEntry × Nat) => { e.1 with key := keys.getD e.2 e.1.key })
    reranked := true }

/-! ### Published bytes (R191) -/

/-- The 64 bytes of a result header (Table 7-1). -/
def DieRes.header (d : DieRes) : List Byte :=
  toLe 2 d.k ++ toLe 2 d.validN ++ toLe 4 d.tieLeft ++ toLe 4 d.kthKey ++ toLe 4 d.feasN ++ toLe 4 d.infeasN ++
  toLe 4 d.dupN ++ toLe 8 d.selSum ++ toLe 8 d.leftSum ++ toLe 4 d.infIndex ++ toLe 4 d.infCost ++ toLe 2 d.ctx ++
  [BitVec.ofNat 8 d.slot,
   BitVec.ofNat 8 (b2n (d.selSum == 2 ^ 64 - 1) + 2 * b2n (d.leftSum == 2 ^ 64 - 1) + 4 * b2n d.reranked +
     8 * b2n d.criticSkipped + 16 * b2n d.takeover)] ++
  toLe 4 0 ++ toLe 8 d.tick

/-- The 16 bytes of an entry (Table 7-2). -/
def PEntry.bytes (e : PEntry) : List Byte :=
  toLe 4 e.index ++ toLe 4 e.key ++ toLe 4 e.cost ++ toLe 3 (unS 24 e.minClr) ++
  [BitVec.ofNat 8 (128 * b2n e.valid + 64 * b2n e.rep + 8 * e.source)]

/-- Header and k entries, null entries at the end (R191). -/
def DieRes.bytes (d : DieRes) : List Byte :=
  d.header ++ (d.entries ++ List.replicate (d.k - d.validN) ({ } : PEntry)).flatMap PEntry.bytes

/-! ### Lengths (R197) -/

/-- The least power of two at or above n, at least 64, and its logarithm. -/
def pow2Len (n : Nat) : Nat × Nat :=
  let l := max 6 (bitLen (n - 1))
  (2 ^ l, l)
where bitLen (n : Nat) : Nat := if n = 0 then 0 else n.log2 + 1

/-- P × lg P / 16. -/
def sortLen (n : Nat) : Nat := (pow2Len n).1 * (pow2Len n).2 / 16

/-- Cluster selection of one context (Table 7-3). -/
def lenSel (nRow kc : Nat) : Nat := 5 * ceilDiv nRow 32 + 256 + sortLen kc + ceilDiv kc 8 + 32

/-- Die merge of one context (Table 7-3). -/
def lenMerge (k kc : Nat) (critic : Bool) : Nat :=
  32 + ceilDiv kc 4 + ceilDiv k 4 + (if critic then ceilDiv k 4 else 0)

/-- Re-rank of one context (Table 7-3). -/
def lenRerank (k : Nat) : Nat := sortLen k + ceilDiv k 8 + 32

/-! ### Background items (R200 to R202) -/

/-- A background SELECT item over (KEY, TAG) pairs (R200). -/
def bgSelect (k : Nat) (row : List (Nat × Nat)) : DieRes :=
  let es := row.map fun p => ({ index := p.2, key := p.1, cost := p.1, valid := true } : PEntry)
  let out := (clusterList k es).1.take k
  let key := if out.length < k then 0xFFFFFFFF else ((out.getLast?).map (·.key)).getD 0xFFFFFFFF
  let sel := sumN (out.map (·.cost))
  { k := k, kc := k, entries := out, kthKey := key, feasN := row.length,
    tieLeft := if out.length < k then 0 else (es.filter fun e => e.key == key).length - (out.filter fun e => e.key == key).length,
    selSum := satU 64 sel, leftSum := satU 64 (sumN (row.map (·.1)) - sel), infIndex := 0 }

/-- A background UNIQUE item: DISTINCT, LEFT_N and the pairs (R201). -/
def bgUnique (k : Nat) (row : List Nat) : List Byte :=
  let ds := (sortBy (fun a b => decide (a ≤ b)) row).foldl
    (fun acc v => if acc.getLast? = some v then acc else acc ++ [v]) []
  let pairs := (ds.take k).map fun v => (v, (row.filter (· == v)).length)
  toLe 4 ds.length ++ toLe 4 (row.length - sumN (pairs.map (·.2))) ++
  pairs.flatMap fun p => toLe 4 p.1 ++ toLe 4 p.2

/-- Length of a UNIQUE item in ac (R201). -/
def lenUnique (n k : Nat) : Nat := 6 * ceilDiv n 32 + 512 + ceilDiv k 4 + 32

end Sys2Proof.Machine
end

