-- ==== Sys2Proof/Machine/Status.lean ====
section
/-! DEFINITION. Status codes (13 R328, Table 13-6): the same codes serve completions, tick status and trajectory
frames. -/

namespace Sys2Proof.Machine

inductive Status where
  | ok | pending | busy | suspended | cancelled | badOpcode | badCrc | badParam | badVersion | seqGap | queueFull
  | rowTooLong | configRejected | authFail | replayMismatch | domainOff | frozen | eccUncorr | shifted | noFeasible
  | timeoutStop | stale | estop
  deriving DecidableEq, Repr

/-- The 16-bit value of a status code (Table 13-6). -/
def Status.code : Status → Nat
  | .ok => 0x0000
  | .pending => 0x0001
  | .busy => 0x0002
  | .suspended => 0x0003
  | .cancelled => 0x0004
  | .badOpcode => 0x0010
  | .badCrc => 0x0011
  | .badParam => 0x0012
  | .badVersion => 0x0013
  | .seqGap => 0x0014
  | .queueFull => 0x0015
  | .rowTooLong => 0x0016
  | .configRejected => 0x0017
  | .authFail => 0x0018
  | .replayMismatch => 0x0019
  | .domainOff => 0x0020
  | .frozen => 0x0021
  | .eccUncorr => 0x0022
  | .shifted => 0x0030
  | .noFeasible => 0x0031
  | .timeoutStop => 0x0032
  | .stale => 0x0033
  | .estop => 0x0034

end Sys2Proof.Machine
end

