-- ==== Sys2Proof/Machine/Packet.lean ====
section
/-! DEFINITION. The parts of a command packet that its execution carries on, and completion entries
(13 Tables 13-2, 13-4). -/

namespace Sys2Proof.Machine

/-- What a packet's header leaves for its execution and its completions (Table 13-2): the command path and the
fields returned. -/
structure Hdr where
  ring : Nat
  tag : Word := 0
  seq : Word := 0
  ctx : Nat := 0
  fence : Bool := false
  quiet : Bool := false
  /-- host address of the payload, where it came by reference (R = 1) -/
  ref : Option Nat := none
  deriving DecidableEq, Repr

/-- A completion entry before it is written (Table 13-4). -/
structure Cpl where
  ring : Nat
  final : Bool
  flow : Bool := false
  status : Status
  tag : Word
  seq : Word
  opcode : Nat
  data : List Byte := []
  /-- reply data of a mailbox command whose RADDR is 0 (R309) -/
  mbData : List Byte := []
  /-- the pool entry or the handle slot that stays in use until this entry is posted (R322) -/
  pool : Option Nat := none
  long : Option Nat := none
  deriving DecidableEq, Repr

/-- A bus master (14 Table 14-5), and the internal ports that act on Bindweed and Cowslip (12 R297, Table 12-3). -/
inductive Master where
  | host | usb | pairA | pairB | primrose
  | clusterDma (c : Fin 4)
  | asterDma (c : Fin 4)
  | ethDma | ulbDma
  | teasel | lupin
  | engine (e : Fin 64)
  | sequencer (c : Fin 4)
  deriving DecidableEq, Repr

/-- The number Thistle gives a guarded master (Table 14-5). -/
def Master.num : Master → Option Nat
  | .host => some 0
  | .usb => some 1
  | .pairA => some 2
  | .pairB => some 3
  | .primrose => some 4
  | .clusterDma c => some (5 + c.val)
  | .asterDma c => some (9 + c.val)
  | .ethDma => some 13
  | .ulbDma => some 14
  | _ => none

/-- Masters that run firmware: the command pairs and Primrose. -/
def Master.firmware : Master → Bool
  | .pairA => true
  | .pairB => true
  | .primrose => true
  | _ => false

/-- The class of an opcode (Table 13-5). -/
inductive OpClass where
  | short | tick | held | long
  deriving DecidableEq, Repr

end Sys2Proof.Machine
end

