-- ==== Sys2Proof/Machine/StSafety.lean ====
section
/-! DEFINITION. State of chapter 14: frame checks, Campion, the roster, test slices, Thistle, the fault log and
the wear ledger. -/

namespace Sys2Proof.Machine

/-- Role of a tile (14 R350, Table 14-3); the codes of HB_T_STAT.ROLE are those of 05 Table 5-14. -/
inductive TileRole where
  | active | spare | testing | failed
  deriving DecidableEq, Repr

/-- How far a tile's test has come (14 R352, R355). -/
inductive TileTest where
  | none
  | running (slices : Nat)
  | passed
  deriving DecidableEq, Repr

/-- A TILE_REQUALIFY in progress on a tile (14 R355). -/
inductive Requal where
  | none
  /-- test run 0 or 1, slices of it done -/
  | testing (run : Nat)
  /-- passed both runs: TESTING at the next edge, then SPARE after a broadcast -/
  | joining
  deriving DecidableEq, Repr

/-- A tile as the roster holds it (14 R350 to R355). -/
structure TileSt where
  /-- role; 14 R350; reset ACTIVE at home positions 0 to 15, SPARE at 16 and 17. -/
  role : TileRole
  /-- position of its cluster that it owns; 14 R350; reset its home position. -/
  owns : Option Nat
  /-- position that it serves; 14 R350; reset its home position. -/
  serves : Option Nat
  /-- tile test; 14 R352; reset none. -/
  test : TileTest := .none
  /-- tick of its latest completed test, none since READY; 14 R351; reset none. -/
  tested : Option Nat := none
  /-- requalification in progress; 14 R355; reset none. -/
  requal : Requal := .none
  /-- found failed and waiting for the next tick edge; 14 R352; reset false. -/
  failWaiting : Bool := false
  /-- a ghost flit of it was logged since it was declared failed; 14 R354; reset false. -/
  ghostLogged : Bool := false
  /-- tick of its previous pass for COV_TILE; 14 R358; reset 0. -/
  covTick : Nat := 0
  /-- coverage excess logged; 14 R358; reset false. -/
  covLogged : Bool := false
  /-- corrected words in the running 65,536 ticks and the tick the count began; 14 R365 code 0x0107; reset 0. -/
  ceCount : Nat := 0
  deriving DecidableEq, Repr

/-- The home state of a tile (14 R350): position p = t mod 18. -/
def TileSt.home (t : Nat) : TileSt :=
  if t % 18 < 16 then { role := .active, owns := some (t % 18), serves := some (t % 18) }
  else { role := .spare, owns := none, serves := none }

/-- Rotation of a cluster (CAM_ROT_c, 14 R351, R354). -/
structure ClusterRot where
  /-- CAM_ROT_c.GEN, 16 bit; 14 R354, Table 14-11; reset 0x0001. -/
  gen : Half := 1
  /-- CAM_ROT_c.PTR, 4 bit; 14 R351, Table 14-11; reset 0. -/
  ptr : Nat := 0
  /-- CAM_ROT_c.OUT, released owner, 7 bit; 14 R351, Table 14-11; reset none (0x7F). -/
  out : Option Nat := none
  /-- position that becomes ROT_PTR at the next swap edge (code 0x0107); 14 R365; reset none. -/
  nextPtr : Option Nat := none
  /-- the cluster is short; 14 R353; reset false. -/
  short : Bool := false
  deriving DecidableEq, Repr

/-- Coverage of a slice-tested unit (CAM_COV_u, 14 R356 to R358). -/
structure CovUnit where
  /-- CAM_COV_u.LATE, 1 bit; 14 R358, Table 14-11; reset 0. -/
  late : Bool := false
  /-- tick at which the pass started (AGE counts from it); 14 R358, Table 14-11; reset none. -/
  startTick : Option Nat := none
  /-- CAM_COV_u.DONE, 10 bit; 14 R356, Table 14-11; reset 0. -/
  done : Nat := 0
  deriving DecidableEq, Repr

/-- A test slice that is running (14 R356, R357): unit of CAM_COV_u, or a tile (100 + t), or the Vetch spare (200). -/
structure TestSlice where
  unit : Nat
  start : Nat
  len : Nat
  deriving DecidableEq, Repr

/-- A request held at the guard of a frozen master (14 R360). -/
structure HeldReq where
  addr : Nat
  write : Bool
  deriving DecidableEq, Repr

/-- A guarded master (14 R359 to R362). -/
structure ThiMaster where
  /-- THI_STAT bit m, 1 bit; 14 Table 14-11; reset 0. -/
  frozen : Bool := false
  /-- THI_M_CFG.RATE, 16 bit; 14 Table 14-11; reset 0. -/
  rate : Half := 0
  /-- THI_M_VIOL.VSEQ, 16 bit; 14 R360, Table 14-11; reset 0. -/
  vseq : Half := 0
  /-- THI_M_VIOL.CLASS, 4 bit; 14 Table 14-11; reset 0. -/
  cls : BitVec 4 := 0
  /-- THI_M_ADDR, 64 bit; 14 Table 14-11; reset 0. -/
  addr : Dword := 0
  /-- THI_M_ATTR.WRITE, 1 bit; 14 Table 14-11; reset 0. -/
  write : Bool := false
  /-- THI_M_ATTR.SECURE, 1 bit; 14 Table 14-11; reset 0. -/
  secure : Bool := false
  /-- THI_M_ATTR.LEN, 7 bit; 14 Table 14-11; reset 0. -/
  len : BitVec 7 := 0
  /-- requests held at the guard; 14 R360; reset none. -/
  held : List HeldReq := []
  /-- unfrozen and released at the next tick edge; 14 R362; reset false. -/
  releaseAtEdge : Bool := false
  deriving DecidableEq, Repr

/-- An entry of the fault log (14 R363). -/
structure FaultEntry where
  seq : Word
  tick : Nat
  unitClass : Nat
  inst : Nat
  code : Nat
  sev : Nat
  injected : Bool
  detail : List Byte
  deriving DecidableEq, Repr

/-- A fault injection that waits for its tick (14 R366). -/
structure Injection where
  target : Nat
  inst : Nat
  kind : Nat
  tick : Nat
  arg : Nat
  deriving DecidableEq, Repr

/-- An entry of the wear ledger (14 R367). -/
structure LedgerEntry where
  activeTicks : Nat := 0
  testsPassed : Nat := 0
  testsFailed : Nat := 0
  declared : Nat := 0
  requals : Nat := 0
  corrected : Nat := 0
  uncorrected : Nat := 0
  lastPass : Nat := 0
  deriving DecidableEq, Repr

/-- The 32 bytes of a ledger entry, in the order of R367. -/
def LedgerEntry.bytes (l : LedgerEntry) : List Byte :=
  toLe 6 (satU 48 l.activeTicks) ++ toLe 4 (satU 32 l.testsPassed) ++ toLe 2 (satU 16 l.testsFailed) ++
  toLe 2 (satU 16 l.declared) ++ toLe 2 (satU 16 l.requals) ++ toLe 6 (satU 48 l.corrected) ++
  toLe 4 (satU 32 l.uncorrected) ++ toLe 6 (satU 48 l.lastPass)

/-- The 32 bytes of a fault entry (R363). -/
def FaultEntry.bytes (f : FaultEntry) : List Byte :=
  toLe 4 f.seq.toNat ++ toLe 8 f.tick ++ toLe 2 (f.unitClass * 4096 + f.inst) ++ toLe 2 f.code ++
  [BitVec.ofNat 8 f.sev, BitVec.ofNat 8 (b2n f.injected), 0, 0] ++ (f.detail ++ List.replicate 12 0).take 12

/-- Chapter 14: safety registers and state. -/
structure SafetySt where
  /-- SYS_FLT_CFG.VECTOR, 6 bit; 14 Table 14-11; reset 0. -/
  fltVector : BitVec 6 := 0
  /-- SYS_FLT_CFG.PIN_SEV, 2 bit; 14 Table 14-11; reset 0b01. -/
  pinSev : BitVec 2 := 1
  /-- SYS_FLT_PEND.PEND, 4 bit, W1C; 14 Table 14-11; reset 0. -/
  pend : BitVec 4 := 0
  /-- SYS_FLT_SEQ, 32 bit; 14 Table 14-11; reset 0. -/
  fltSeq : Word := 0
  /-- the fault log, newest first, at most 1,024 entries; 14 R363; reset empty. -/
  log : List FaultEntry := []
  /-- SYS_E2E_CFG.FUTURE_NS, 32 bit; 14 Table 14-11; reset 0x0001_86A0. -/
  futureNs : Word := 0x0001_86A0
  /-- SYS_E2E_STAT.FAIL, 5 bit, W1C; 14 Table 14-11; reset 0. -/
  e2eFail : BitVec 5 := 0
  /-- SYS_E2E_CRC_CNT, 48 bit; 14 R344; reset 0. -/
  e2eCrc : StatCnt := {}
  /-- SYS_E2E_ID_CNT, 48 bit; 14 R344; reset 0. -/
  e2eId : StatCnt := {}
  /-- SYS_E2E_SEQ_CNT, 48 bit; 14 R344; reset 0. -/
  e2eSeq : StatCnt := {}
  /-- SYS_E2E_TIME_CNT, 48 bit; 14 R344; reset 0. -/
  e2eTime : StatCnt := {}
  /-- SYS_E2E_LOST_CNT, 48 bit; 14 R344; reset 0. -/
  e2eLost : StatCnt := {}
  /-- last accepted COUNTER per DATA_ID of a received stream, 16 bit; 14 R344; reset none accepted. -/
  streams : Tbl Half := []
  /-- next COUNTER of each context's trajectory stream, 16 bit; 14 R345; reset 0. -/
  outCounters : Tbl Half := []
  /-- CAM_CTRL.ROT_EN, 1 bit; 14 Table 14-11; reset 1. -/
  rotEn : Bool := true
  /-- CAM_CTRL.MAX_EXCLUDE as written, 4 bit; 14 Table 14-11; reset 0x2. -/
  maxExclude : BitVec 4 := 2
  /-- CAM_STAT.GHOST_TRAFFIC, 1 bit, W1C; 14 Table 14-11; reset 0. -/
  ghostF : Bool := false
  /-- CAM_STAT.DIAG_COVERAGE, 1 bit, W1C; 14 Table 14-11; reset 0. -/
  covF : Bool := false
  /-- CAM_STAT.SLICE_ABORTED, 1 bit, W1C; 14 Table 14-11; reset 0. -/
  abortF : Bool := false
  /-- CAM_STAT.SWAP_DEFERRED, 1 bit, W1C; 14 Table 14-11; reset 0. -/
  deferF : Bool := false
  /-- CAM_STAT.EXCLUDE_LIMIT, 1 bit, W1C; 14 Table 14-11; reset 0. -/
  exclF : Bool := false
  /-- CAM_STAT.GOLDEN_MISMATCH, 1 bit, W1C; 14 Table 14-11; reset 0. -/
  goldF : Bool := false
  /-- CAM_EXCL.MASK, 64 bit, mask of the last tick; 14 R349, Table 14-11; reset 0. -/
  exclMask : List Nat := []
  /-- exclusion mask of the running tick, engines; 14 R349; reset none. -/
  maskNow : List Nat := []
  /-- the mask of the running tick exceeded MAX_EXCLUDE; 14 R349; reset false. -/
  overLimit : Bool := false
  /-- CAM_MISMATCH_CNT, 48 bit; 14 R348; reset 0. -/
  mismatchCnt : StatCnt := {}
  /-- CAM_ABORT_CNT, 48 bit; 14 R357; reset 0. -/
  abortCnt : StatCnt := {}
  /-- CAM_TAG_CNT, 48 bit; 14 R354, R369; reset 0. -/
  tagCnt : StatCnt := {}
  /-- HB_GHOST_CNT, 48 bit; 14 R354; reset 0. -/
  ghostCnt : StatCnt := {}
  /-- CAM_COV_CFG.COV_UNIT, 16 bit; 14 Table 14-11; reset 0x1000. -/
  covUnit : Half := 0x1000
  /-- CAM_COV_CFG.COV_TILE, 16 bit; 14 Table 14-11; reset 0x2000. -/
  covTile : Half := 0x2000
  /-- CAM_CE_LIMIT, 16 bit; 14 Table 14-11; reset 0x0010. -/
  ceLimit : Half := 0x0010
  /-- tiles, 72; 14 R350; reset home. -/
  tiles : Tbl TileSt := []
  /-- rotation of the four clusters; 14 R351; reset as ClusterRot. -/
  rots : List ClusterRot := [{}, {}, {}, {}]
  /-- coverage of units 0 to 92; 14 R356; reset as CovUnit. -/
  cov : Tbl CovUnit := []
  /-- test slices running; 14 R356; reset none. -/
  testing : List TestSlice := []
  /-- slices of the Vetch test done on the released spare, 96 when it has passed; 14, before R356; reset 96: the first
  spare was not released by a swap (log entry 55). -/
  vetTest : Nat := 96
  /-- a Lupin failed its test: no die result until reset; 14 Table 14-4; reset false. -/
  lupinFailed : Bool := false
  /-- Lupins found failed and waiting for the next tick edge; 14 R356; reset none. -/
  lupinFails : List Nat := []
  /-- THI masters, 15; 14 R359; reset unfrozen. -/
  masters : Tbl ThiMaster := []
  /-- THI_VIOL_CNT, 48 bit; 14 R360; reset 0. -/
  violCnt : StatCnt := {}
  /-- THI_UNFREEZE_CNT, 48 bit; 14 R362; reset 0. -/
  unfreezeCnt : StatCnt := {}
  /-- injections waiting for their tick; 14 R366; reset none. -/
  injections : List Injection := []
  /-- injections in force: E2E_CRC by DATA_ID, GOLDEN_SIG by engine, SLICE_FAIL; 14 R366; reset none. -/
  armed : List Injection := []
  /-- wear counts since the ledger was last written to the secure NVM die, by class × 256 + instance; 14 R367; reset
  the stored ledger. -/
  wear : Tbl LedgerEntry := []
  /-- CAM_LEDGER_SEL.CLASS, INSTANCE, 12 bit; 14 Table 14-11; reset 0. -/
  ledgerSel : BitVec 12 := 0
  /-- CAM_LEDGER_DATA, 8 × 32 bit; 14 Table 14-11; reset 0. -/
  ledgerData : List Byte := List.replicate 32 0
  deriving DecidableEq, Repr

/-- The tile entry of a roster. -/
def SafetySt.tile (s : SafetySt) (t : Nat) : TileSt := Tbl.get (TileSt.home t) s.tiles t

/-- The tile that serves an active engine e = 16c + p, if any (HB_ENG_MAP; 14 R350). -/
def SafetySt.serving (s : SafetySt) (e : Nat) : Option Nat :=
  (List.range 18).findSome? fun i =>
    let t := 18 * (e / 16) + i
    if (s.tile t).serves == some (e % 16) then some t else none

end Sys2Proof.Machine
end

