-- ==== Sys2Proof/Machine/TickBudget.lean ====
section
/-! DEFINITION. The tick program and the cycle accounting of chapter 01: what a bundle's program fixes, and
the arithmetic R26 to R31 that turns a period, an operating point and a spread depth into a budget. -/

namespace Sys2Proof.Machine

/-- The units that tick-program items and background items run on (Tables 1-1 and 1-4). -/
inductive PUnit where
  | commit | harebell | aster | cornflower | poppy | vetch | lpddr
  deriving DecidableEq, Repr

/-- The items of a tick program (Table 1-1). -/
inductive ItemName where
  | commitCheck | contextLoad | collision | predictor | transform | assembly
  | clusterSelection | dieMerge | critic | vetch | proposal | handoff
  /-- the master's cascade merge, in the cascade variants (19 R477) -/
  | cascadeMerge
  deriving DecidableEq, Repr

/-- One item of a tick program (R25): edge-anchored at `pos` ac after ac 0, or end-anchored `pos` ac before E. -/
structure ProgItem where
  name : ItemName
  unit : PUnit
  edgeAnchored : Bool
  pos : Nat
  len : Nat
  deriving DecidableEq, Repr

/-- A compiled tick program: its fixed lengths (R28, R31) and its items (R25). -/
structure TickProgram where
  /-- H_commit, the commit length (R31). -/
  hCommit : Nat := 20000
  /-- H_pre, commit plus context load (R28). -/
  hPre : Nat := 40000
  /-- H_post, selection to hand-off (R28). -/
  hPost : Nat := 365000
  /-- W_asm, the end of field assembly (R28). -/
  wAsm : Nat := 700000
  /-- B, the field broadcast (R28). -/
  bcast : Nat := 100000
  items : List ProgItem := []
  deriving DecidableEq, Repr

/-- The items of the reference program (Table 1-1, R25). -/
def TickProgram.referenceItems : List ProgItem :=
  [⟨.commitCheck, .commit, true, 0, 20000⟩, ⟨.contextLoad, .commit, true, 20000, 20000⟩,
   ⟨.predictor, .aster, true, 20000, 320000⟩, ⟨.transform, .cornflower, true, 340000, 300000⟩,
   ⟨.assembly, .commit, true, 640000, 60000⟩, ⟨.clusterSelection, .poppy, false, 365000, 65000⟩,
   ⟨.dieMerge, .poppy, false, 300000, 20000⟩, ⟨.critic, .aster, false, 280000, 100000⟩,
   ⟨.vetch, .vetch, false, 180000, 140000⟩, ⟨.proposal, .aster, false, 140000, 80000⟩,
   ⟨.handoff, .commit, false, 40000, 40000⟩]

/-- The reference tick program (R25, Table 1-1). -/
def TickProgram.reference : TickProgram := { items := TickProgram.referenceItems }

/-- f_op in ac per µs of an operating point (R26); OP3 runs at the rate of R411's table, held by the caller. -/
def fOp (op : Nat) : Nat := if op = 0 then 1000 else if op = 1 then 900 else 700

/-- A setting of operating point and spread depth; the depth counts steps of 0.05 % (R26, R408); `rc` says that the
device runs on the RC, where f_op is taken as 0.99 × nominal (16 R400). -/
structure RateSetting where
  op : Nat
  depth : Nat
  rc : Bool := false
  deriving DecidableEq, Repr

/-- Numerator of f_min over 2,000, in ac per µs: f_op × (2,000 − depth) (R26). -/
def RateSetting.fMin2000 (r : RateSetting) : Nat :=
  (if r.rc then fOp r.op * 99 / 100 else fOp r.op) * (2000 - r.depth)

/-- A = floor(PERIOD_US × f_min) (R26). -/
def acPerTick (period : Nat) (r : RateSetting) : Nat := period * r.fMin2000 / 2000

/-- G = max(15,000, ceil(A × 3 / 50)) (R27). -/
def guardBand (a : Nat) : Nat := max 15000 (ceilDiv (a * 3) 50)

/-- E = A − G (R27). -/
def programEnd (a : Nat) : Nat := a - guardBand a

/-- Φ = E − H_pre − H_post (R28), as an integer: negative where the program does not fit. -/
def phiLen (p : TickProgram) (e : Nat) : Int := (e : Int) - p.hPre - p.hPost

/-- The fixed overhead O of a collision phase (R29). -/
def collOverhead : Nat := 1088

/-- ac of one unit of the live window (R29). -/
def unitAc : Nat := 65536

/-- The ac cost of one candidate of w waypoints and s spheres (R29). -/
def candCost (w s : Nat) : Nat := w * s / 8

/-- U = floor((Φ − O − 2q) / 65,536), 0 where negative (R29). -/
def unitCount (p : TickProgram) (e q : Nat) : Nat := ((phiLen p e - collOverhead - 2 * q) / unitAc).toNat

/-- n_e = min(L / q, 16,384) (R30). -/
def candPerEngine (units q : Nat) : Nat := min (units * unitAc / q) 16384

/-- Candidates per device (R30). -/
def candPerDevice (units q : Nat) : Nat := 64 * candPerEngine units q

/-- First ac of an item under a program end E (R25). The broadcast is placed by `bcastStart`. -/
def ProgItem.start (i : ProgItem) (e : Nat) : Int := if i.edgeAnchored then (i.pos : Int) else (e : Int) - i.pos

/-- The field broadcast starts at max(W_asm, H_pre + Φ) (R25). -/
def bcastStart (p : TickProgram) (e : Nat) : Int := max (p.wAsm : Int) (p.hPre + phiLen p e)

/-- R31, fourth condition: an end-anchored item starts before an edge-anchored item on its unit has ended. -/
def anchorsClash (p : TickProgram) (e : Nat) : Bool :=
  p.items.any fun x => !x.edgeAnchored && p.items.any fun y =>
    y.edgeAnchored && y.unit == x.unit && decide (x.start e < y.start e + y.len)

/-- The conditions of R31 for one setting of operating point and spread, `q` the largest candidate cost:
true where the program is accepted. -/
def programFits (p : TickProgram) (period emitUs q : Nat) (r : RateSetting) : Bool :=
  let e := programEnd (acPerTick period r)
  decide (1 ≤ unitCount p e q) &&
  decide (bcastStart p e + p.bcast ≤ e) &&
  decide (ceilDiv (p.hCommit * 2000) r.fMin2000 + 2 ≤ emitUs) &&
  !anchorsClash p e

/-- The floor of the throttle: max(1, min(MIN_UNITS, MAX_UNITS)) (R39). -/
def throttleFloor (minU maxU : Nat) : Nat := max 1 (min minU maxU)

/-- EFF_UNITS after a tick edge at which MAX_UNITS changed: the throttle depth is kept (R39). -/
def rebaseUnits (minU oldMax eff newMax : Nat) : Nat :=
  max (throttleFloor minU newMax) (newMax - (oldMax - eff))

/-- EFF_UNITS and the recovery count after a tick edge (R39), after any change of MAX_UNITS. -/
def throttleStep (thrEn warning critical : Bool) (minU maxU recover eff cnt : Nat) : Nat × Nat :=
  if critical then (throttleFloor minU maxU, 0)
  else if !thrEn then (maxU, 0)
  else if warning then (max (throttleFloor minU maxU) (eff - 1), 0)
  else if eff < maxU then
    if cnt + 1 ≥ max 1 recover then (eff + 1, 0) else (eff, cnt + 1)
  else (eff, 0)

/-! ### Free intervals of the units (R37, Table 1-4) -/

/-- The foreground intervals of a unit: start and end ac. The Harebell engines are free from the end of the broadcast, and no
foreground access of LPDDR5X lies between H_pre and E (R38, Table 1-4). -/
def busyIntervals (p : TickProgram) (e : Nat) (u : PUnit) : List (Int × Int) :=
  let its := (p.items.filter (fun i => i.unit == u)).map (fun i => (i.start e, i.start e + (i.len : Int)))
  match u with
  | .harebell => [(0, bcastStart p e + (p.bcast : Int))]
  | .lpddr => [(0, (p.hPre : Int))]
  | .aster => ((its.filter fun b => decide (b.1 < 100000)).map fun b => (0, b.2)) ++ its
  | _ => its

/-- Whether a background item of `len` ac may start on a unit at ac `at` (R37): its span meets no foreground
interval, and it does not cross the program end E, where Table 1-4 ends one interval and begins the next; the
guard band ends at A. -/
def mayStart (p : TickProgram) (a e : Nat) (u : PUnit) (t len : Nat) : Bool :=
  let fin : Int := (t : Int) + len
  let clear := (busyIntervals p e u).all fun b => decide (fin ≤ b.1) || decide (b.2 ≤ (t : Int))
  clear && (if t < e then decide (fin ≤ (e : Int)) else decide (fin ≤ (a : Int)))

end Sys2Proof.Machine
end

