-- ==== Sys2Proof/Machine/StTeasel.lean ====
section
/-! DEFINITION. State of chapter 11: servers, query flows, delay lists and planning contexts. -/

namespace Sys2Proof.Machine

/-- Server classes (11 R270, Table 11-1). -/
inductive ServerClass where
  | eng | ast | cfl | pop | vet | cp
  deriving DecidableEq, Repr

def ServerClass.code : ServerClass → Nat
  | .eng => 0
  | .ast => 1
  | .cfl => 2
  | .pop => 3
  | .vet => 4
  | .cp => 5

/-- State of a query flow (11 Table 11-6). -/
inductive FlowState where
  | closed | opened | closing
  deriving DecidableEq, Repr

/-- A flow record (11 R280, Table 11-3). HEAD and TAIL are the ends of `waiting`. -/
structure Flow where
  /-- STATE, 2 bit; 11 Table 11-3; reset CLOSED. -/
  state : FlowState := .closed
  /-- ATOMIC, 1 bit; 11 Table 11-3; reset 0. -/
  atomic : Bool := false
  /-- POLICY, 1 bit, true is REFUSE; 11 Table 11-3; reset 0. -/
  refuse : Bool := false
  /-- LEVEL, 6 bit; 11 Table 11-3; reset 0. -/
  level : Nat := 0
  /-- CQ, 6 bit; 11 Table 11-3; reset 0. -/
  cq : Nat := 0
  /-- DL_EXP, 5 bit; 11 Table 11-3; reset 0. -/
  dlExp : Nat := 0
  /-- INSVC, 7 bit; 11 Table 11-3; reset 0. -/
  insvc : Nat := 0
  /-- QLIMIT, 15 bit; 11 Table 11-3; reset 0. -/
  qlimit : Nat := 0
  /-- QUEUED, 15 bit; 11 Table 11-3; reset 0. -/
  queued : Nat := 0
  /-- SEQ_NEXT, 32 bit; 11 R281, Table 11-3; reset 0. -/
  seqNext : Word := 0
  /-- waiting pool entries from HEAD to TAIL (WAITING, HEAD, TAIL and the link array); 11 R280; reset none. -/
  waiting : List Nat := []
  /-- the FLOW_CLOSE that waits for QUEUED to reach 0; 11 R287; reset none. -/
  closer : Option Hdr := none
  deriving DecidableEq, Repr

/-- Where a pool entry stands (11 R279, R285). -/
inductive ItemPlace where
  | waiting | delayed | inService
  /-- served, its completion held for a full completion ring (13 R322) -/
  | completing
  deriving DecidableEq, Repr

/-- A held pool entry (11 R280 to R282). -/
structure PoolEntry where
  flow : Nat
  seq : Word
  bytes : List Byte
  place : ItemPlace
  /-- release instant on TSL_NOW, once ready (R285) -/
  release : Option Nat := none
  /-- slices of a GRAPH item already done -/
  slicesDone : Nat := 0
  /-- tick recorded at the start of a GRAPH item (03 R91) -/
  startTick : Option Nat := none
  deriving DecidableEq, Repr

/-- A push held under BACKPRESSURE (11 R284). -/
structure HeldPush where
  hdr : Hdr
  flow : Nat
  items : List (List Byte)
  deriving DecidableEq, Repr

/-- What a delay-list entry releases (11 Table 11-2). -/
inductive DelayOwner where
  | flowItem (pool : Nat)
  | longOp (handle : Nat)
  | timer (number : Nat) (counter : Bool) (arg : Nat)
  | firmware (svc : Nat)
  deriving DecidableEq, Repr

/-- An entry of a delay list (11 R278). -/
structure DelayEntry where
  due : Nat
  seq : Nat
  owner : DelayOwner
  deriving DecidableEq, Repr

/-- The background work a server runs (11 R271, R275). -/
inductive BgWork where
  | flow (pool : Nat)
  | long (slot : Nat)
  | firmware (svc : Nat)
  deriving DecidableEq, Repr

/-- A slice in service on a server (11 R275). -/
structure Running where
  cls : ServerClass
  server : Nat
  work : BgWork
  /-- ac of the tick at which it started -/
  start : Nat
  len : Nat
  /-- working buffer: result and status, made visible at the end of the last slice -/
  out : List Byte := []
  status : Status := .ok
  /-- conversions of a GRAPH item that saturated or met a NaN -/
  sat : Nat := 0
  nan : Nat := 0
  deriving DecidableEq, Repr

/-- A ready firmware service (11 R272). -/
structure FwService where
  id : Nat
  level : Nat
  len : Nat
  deriving DecidableEq, Repr

/-- State of a context (11 R289). -/
inductive CtxState where
  | free | idle | active | drain
  deriving DecidableEq, Repr

def CtxState.code : CtxState → Nat
  | .free => 0
  | .idle => 1
  | .active => 2
  | .drain => 3

/-- A planning context (11 R288, Table 11-7). -/
structure Ctx where
  /-- STATE; 11 R289; reset FREE. -/
  state : CtxState := .free
  /-- SLOT of the header, 8 bit; 11 Table 11-7; reset none (0xFF). -/
  slot : Option Nat := none
  /-- MODEL of the header, 8 bit; 11 Table 11-7; reset 0. -/
  model : Nat := 0
  /-- GOALS of the header, 8 bit; 11 Table 11-7; reset 0. -/
  goals : Nat := 0
  /-- CTX_GEN of the header, 32 bit; 11 R288; reset 0. -/
  gen : Word := 0
  /-- SEED of the header, 32 bit; 11 Table 11-7; reset 0. -/
  seed : Word := 0
  /-- record in force, bytes 0x040 to 0xEFF; 11 Table 11-7; reset 0. -/
  inForce : CtxRec := []
  /-- pending copy; 11 R288; reset 0. -/
  pend : CtxRec := []
  /-- a CTX_WRITE completed since the last edge; 11 R288; reset false. -/
  pendDirty : Bool := false
  /-- statistics: foreground ticks, PLAN, STOP and HOLD frames, flow items served, 48 bit each; 11 Table 11-7; reset 0. -/
  stats : List (BitVec 48) := [0, 0, 0, 0, 0]
  deriving DecidableEq, Repr

/-- A context or plan command that waits for the next tick edge (11 R289, R290; 13 R327). -/
inductive EdgeCmd where
  | ctxAlloc (any : Bool) (model : Nat)
  | ctxFree
  | ctxActivate
  | ctxDeactivate
  | ctxWrite
  | seedSet (seed : Word)
  | goalSet (boxes : List Box)
  | treeReset
  deriving DecidableEq, Repr

/-- A waiting command with the header that orders and answers it. -/
structure WaitingCmd where
  hdr : Hdr
  cmd : EdgeCmd
  /-- header and payload, for the journal (10 R263) -/
  bytes : List Byte := []
  deriving DecidableEq, Repr

/-- What the foreground program read at ac 0 of the tick for one slot: the latched context (04 R115). -/
structure FgSlot where
  ctx : Nat
  drain : Bool
  model : Nat
  goals : Nat
  seed : Word
  gen : Word
  rec' : CtxRec
  deriving DecidableEq, Repr

/-- Chapter 11: Teasel registers and state. -/
structure TeaselSt where
  /-- TSL_CTRL.FLOW_EN, 1 bit; 11 Table 11-13; reset 1. -/
  flowEn : Bool := true
  /-- TSL_CTRL.BG_EN, 1 bit; 11 Table 11-13; reset 1. -/
  bgEn : Bool := true
  /-- TSL_STAT.LATE, 1 bit, W1C; 11 Table 11-13; reset 0. -/
  lateF : Bool := false
  /-- TSL_STAT.PREEMPTED, 1 bit, W1C; 11 Table 11-13; reset 0. -/
  preempted : Bool := false
  /-- TSL_STAT.DELAY_FULL, 1 bit, W1C; 11 Table 11-13; reset 0. -/
  delayFull : Bool := false
  /-- TSL_STAT.POOL_EMPTY, 1 bit, W1C; 11 Table 11-13; reset 0. -/
  poolEmpty : Bool := false
  /-- TSL_STAT.QUEUE_FULL, 1 bit, W1C; 11 Table 11-13; reset 0. -/
  queueFull : Bool := false
  /-- TSL_POOL.FREE, 18 bit; 11 Table 11-13; reset 0x2_0000. -/
  free : Nat := 0x20000
  /-- device time of READY, ns (TSL_NOW counts from it); 11 R271, Table 11-13; reset none. -/
  readyAt : Option Nat := none
  /-- HI word latched by a read of TSL_NOW_LO, 32 bit; 11 R293; reset 0. -/
  nowHi : Word := 0
  /-- TSL_DL_CAP_A, _B: capacities of lists 0 to 3, 16 bit each; 11 Table 11-13; reset 0x1000 each. -/
  dlCap : List Nat := [0x1000, 0x1000, 0x1000, 0x1000]
  /-- capacities written and waiting for the next tick edge; 11 R293; reset none. -/
  dlCapWaiting : Option (List Nat) := none
  /-- delay lists 0 to 3, sorted by due tick and insertion sequence; 11 R278; reset empty. -/
  delays : List (List DelayEntry) := [[], [], [], []]
  /-- next insertion sequence number of the delay lists; 11 R278; reset 0. -/
  delaySeq : Nat := 0
  /-- next timer number; 13 Table 13-7; reset 0. -/
  timerNext : Nat := 0
  /-- TSL_REFUSE_CNT, 48 bit; 11 R293; reset 0. -/
  refuseCnt : StatCnt := {}
  /-- TSL_PREEMPT_CNT, 48 bit; 11 R275, R293; reset 0. -/
  preemptCnt : StatCnt := {}
  /-- TSL_LATE_CNT, 48 bit; 11 R274, R293; reset 0. -/
  lateCnt : StatCnt := {}
  /-- TSL_FLOW_SEL.FLOW, 18 bit; 11 Table 11-14; reset 0. -/
  flowSel : BitVec 18 := 0
  /-- TSL_FLOW_DATA0 to 3, 32 bit each; 11 Table 11-14; reset 0. -/
  flowData : List Word := [0, 0, 0, 0]
  /-- flow records, 262,144; 11 R280; reset CLOSED. -/
  flows : Tbl Flow := []
  /-- item pool, 131,072 entries; 11 R280; reset free. -/
  pool : Tbl PoolEntry := []
  /-- pushes held under BACKPRESSURE in the order submitted (TSL_HELD counts them), at most 64; 11 R284; reset none. -/
  heldPushes : List HeldPush := []
  /-- background slices in service; 11 R275; reset none. -/
  running : List Running := []
  /-- firmware services in the command-processor queue; 11 R272, Table 11-2; reset none. -/
  fwReady : List FwService := []
  /-- context records, 1,024; 11 R288; reset FREE. -/
  ctxs : Tbl Ctx := []
  /-- context commands waiting for the next tick edge; 11 R289, R290; reset none. -/
  waiting : List WaitingCmd := []
  /-- values of the foreground slots latched at ac 0 of the running tick; 04 R115; reset none. -/
  fg : Tbl FgSlot := []
  deriving DecidableEq, Repr

/-- The context that holds a foreground slot. -/
def TeaselSt.inSlot' (t : TeaselSt) (n : Nat) : Option Nat :=
  (List.find? (fun (e : Nat × Ctx) => (e.2.state == .active || e.2.state == .drain) && e.2.slot == some n) t.ctxs).map (·.1)

/-! ### Register and record words -/

/-- Words 0 to 3 of a flow record (Table 11-3). -/
def Flow.words (f : Flow) : List Word :=
  let st := match f.state with | .closed => 0 | .opened => 1 | .closing => 2
  [BitVec.ofNat 32 (st * 2 ^ 30 + b2n f.atomic * 2 ^ 29 + b2n f.refuse * 2 ^ 28 + f.level * 2 ^ 22 + f.cq * 2 ^ 16 +
     f.dlExp * 2 ^ 11 + f.insvc * 2 ^ 4 + b2n (!f.waiting.isEmpty) * 8),
   BitVec.ofNat 32 (f.waiting.headD 0 * 2 ^ 15 + f.qlimit),
   BitVec.ofNat 32 (f.waiting.getLastD 0 * 2 ^ 15 + f.queued),
   f.seqNext]

/-- The 64-byte header of a context record (Table 11-7). -/
def Ctx.header (c : Ctx) : List Byte :=
  [BitVec.ofNat 8 c.state.code, BitVec.ofNat 8 (c.slot.getD 0xFF), BitVec.ofNat 8 c.model, BitVec.ofNat 8 c.goals] ++
  toLe 4 c.gen.toNat ++ toLe 4 c.seed.toNat ++ toLe 52 0

/-- The byte of a context record at an offset below 4,096: header, record (in force or pending), statistics. The
five statistics stand as 8-byte words from 0xF00 (order of Table 11-7; width and place DESIGN CHOICE, log entry 9). -/
def Ctx.byteAt (c : Ctx) (pending : Bool) (o : Nat) : Byte :=
  if o < 0x40 then c.header.getD o 0
  else if o < 0xF00 then Mem.read (if pending then c.pend else c.inForce) o
  else (c.stats.flatMap fun x => toLe 8 x.toNat).getD (o - 0xF00) 0

end Sys2Proof.Machine
end

