-- ==== Sys2Proof/Machine/StSync.lean ====
section
/-! DEFINITION. State of chapter 12: Bindweed counters, pairs and watches, Cowslip mailboxes and doorbells. -/

namespace Sys2Proof.Machine

/-- A Bindweed counter (12 R294, R295). -/
structure Counter where
  /-- value, 32 bit; 12 R294; reset 0. -/
  value : Word := 0
  /-- ATTR.MODE, 1 bit, true is SEQ; 12 R295, Table 12-1; reset SAT. -/
  seqMode : Bool := false
  /-- ATTR.SAT, 1 bit; 12 R295, Table 12-1; reset 0. -/
  sat : Bool := false
  deriving DecidableEq, Repr

/-- A producer and consumer pair (12 R299). -/
structure Pair where
  /-- BND_PAIR_CTR.ENABLED, 1 bit; 12 Table 12-7; reset 0. -/
  enabled : Bool := false
  /-- BND_PAIR_CTR.CLASS, 1 bit, true is CLUSTER; 12 Table 12-7; reset 0. -/
  cluster : Bool := false
  /-- BND_PAIR_CTR.CONS, 15 bit; 12 Table 12-7; reset 0. -/
  cons : Nat := 0
  /-- BND_PAIR_CTR.PROD, 15 bit; 12 Table 12-7; reset 0. -/
  prod : Nat := 0
  /-- BND_PAIR_BUFS.BUFS, 16 bit; 12 Table 12-7; reset 0. -/
  bufs : Nat := 0
  deriving DecidableEq, Repr

/-- A CORE-held operation in a unit's stall queue (12 R300). -/
structure StalledAdd where
  counter : Nat
  amount : Word
  master : Master
  deriving DecidableEq, Repr

/-- A watch register (12 R302, Table 12-7). -/
structure Watch where
  /-- BND_W_CFG.ARMED, 1 bit; 12 Table 12-7; reset 0. -/
  armed : Bool := false
  /-- BND_W_CFG.MODE, 1 bit, true is CONSUME; 12 Table 12-7; reset 0. -/
  consume : Bool := false
  /-- BND_W_CFG.FIRED, 1 bit; 12 Table 12-7; reset 0. -/
  fired : Bool := false
  /-- BND_W_CFG.COUNTER, 15 bit; 12 Table 12-7; reset 0. -/
  counter : BitVec 15 := 0
  /-- BND_W_TARGET, 32 bit; 12 Table 12-7; reset 0. -/
  target : Word := 0
  /-- BND_W_DELIV.DEST, 3 bit; 12 Table 12-7; reset 0. -/
  dest : BitVec 3 := 0
  /-- BND_W_DELIV.COND, 2 bit; 12 Table 12-7; reset 0. -/
  cond : BitVec 2 := 0
  /-- BND_W_DELIV.ARG, 16 bit; 12 Table 12-7; reset 0. -/
  arg : Half := 0
  /-- BND_W_SEQ, 32 bit; 12 Table 12-7; reset 0. -/
  seq : Word := 0
  deriving DecidableEq, Repr

/-- The 8-byte message of a fire (12 R306): watch, cause, counter value. -/
structure WatchMsg where
  watch : Nat
  domainOff : Bool
  value : Word
  deriving DecidableEq, Repr

/-- Chapter 12: Bindweed. -/
structure BindweedSt where
  /-- BND_CTRL.HOST_FIRST, 11 bit; 12 Table 12-7; reset 0x600. -/
  hostFirst : BitVec 11 := 0x600
  /-- BND_STAT.DOMAIN_OFF, 1 bit, W1C; 12 Table 12-7; reset 0. -/
  domainOff : Bool := false
  /-- BND_STAT.WATCH_REFUSED, 1 bit, W1C; 12 Table 12-7; reset 0. -/
  watchRefused : Bool := false
  /-- BND_STAT.STALL_TIMEOUT, 1 bit, W1C; 12 Table 12-7; reset 0. -/
  stallTimeout : Bool := false
  /-- BND_STAT.STALLED, 1 bit, W1C; 12 Table 12-7; reset 0. -/
  stalled : Bool := false
  /-- BND_STAT.UNDERFLOW, 1 bit, W1C; 12 Table 12-7; reset 0. -/
  underflow : Bool := false
  /-- BND_STAT.OVERFLOW, 1 bit, W1C; 12 Table 12-7; reset 0. -/
  overflow : Bool := false
  /-- BND_STAT.BAD_OP, 1 bit, W1C; 12 Table 12-7; reset 0. -/
  badOp : Bool := false
  /-- BND_STAT.SAT, 1 bit, W1C; 12 Table 12-7; reset 0. -/
  satF : Bool := false
  /-- BND_STALL_LIMIT, 32 bit; 12 Table 12-7; reset 0x0001_0000. -/
  stallLimit : Word := 0x0001_0000
  /-- BND_FAULT.CAUSE, 4 bit; 12 Table 12-7; reset 0. -/
  faultCause : BitVec 4 := 0
  /-- BND_FAULT.COUNTER, 15 bit; 12 Table 12-7; reset 0. -/
  faultCounter : BitVec 15 := 0
  /-- BND_SAT_CNT, 48 bit; 12 R295, R315; reset 0. -/
  satCnt : StatCnt := {}
  /-- BND_FAULT_CNT, 48 bit; 12 R298, R315; reset 0. -/
  faultCnt : StatCnt := {}
  /-- BND_STALL_CNT, 48 bit; 12 R300, R315; reset 0. -/
  stallCnt : StatCnt := {}
  /-- counters, 24,576; 12 R294; reset SAT with value 0. -/
  ctrs : Tbl Counter := []
  /-- pairs, 1,280; 12 R299; reset disabled. -/
  pairs : Tbl Pair := []
  /-- stall queues by unit (0 die, 1 + c cluster c), 32 entries each, in arrival order; 12 R300; reset empty. -/
  stalls : Tbl (List StalledAdd) := []
  /-- watches, 2,048; 12 R302; reset as Watch. -/
  watches : Tbl Watch := []
  /-- next registration sequence value, 32 bit; 12 R302; reset 0. -/
  regSeq : Word := 0
  /-- BND_FIRED_i, 64 words; 12 R306, Table 12-7; reset 0. -/
  fired : Tbl Word := []
  /-- message queue of pair A; 12 R306; reset empty. -/
  queueA : List WatchMsg := []
  /-- message queue of pair B; 12 R306; reset empty. -/
  queueB : List WatchMsg := []
  /-- message queue of Primrose; 12 R306; reset empty. -/
  queuePrm : List WatchMsg := []
  deriving DecidableEq, Repr

/-- A mailbox (12 R308, Table 12-8). -/
structure Mbox where
  /-- slot, 64 bytes; 12 R308; reset 0. -/
  slot : List Byte := List.replicate 64 0
  /-- sender's staging buffer, words 0 to 14, 60 bytes; 12 R310; reset 0. -/
  staging : List Byte := List.replicate 60 0
  /-- COW_MB_CTRL.FULL, 1 bit; 12 Table 12-8; reset 0. -/
  full : Bool := false
  /-- COW_MB_CTRL.VECTOR, 6 bit; 12 Table 12-8; reset 0. -/
  vector : BitVec 6 := 0
  /-- COW_MB_CTRL.REFUSED, 1 bit, W1C; 12 Table 12-8; reset 0. -/
  refused : Bool := false
  /-- COW_MB_CTRL.EMPTY_IE, 1 bit; 12 Table 12-8; reset 0. -/
  emptyIe : Bool := false
  /-- COW_MB_CTRL.FULL_IE, 1 bit; 12 Table 12-8; reset 1. -/
  fullIe : Bool := true
  deriving DecidableEq, Repr

/-- A doorbell (12 R312). -/
structure Doorbell where
  /-- COW_DB.VALUE, 32 bit; 12 Table 12-8; reset 0. -/
  value : Word := 0
  /-- COW_DB_INFO.PENDING, 1 bit; 12 Table 12-8; reset 0. -/
  pending : Bool := false
  /-- COW_DB_INFO.COALESCED, 8 bit; 12 Table 12-8; reset 0. -/
  coalesced : Byte := 0
  deriving DecidableEq, Repr

/-- Chapter 12: Cowslip. -/
structure CowslipSt where
  /-- COW_STAT.DOMAIN_OFF, 1 bit, W1C; 12 Table 12-8; reset 0. -/
  domainOff : Bool := false
  /-- COW_STAT.REFUSED, 1 bit, W1C; 12 Table 12-8; reset 0. -/
  refused : Bool := false
  /-- COW_LAST_ERR.CAUSE, 2 bit; 12 Table 12-8; reset 0. -/
  errCause : BitVec 2 := 0
  /-- COW_LAST_ERR.TARGET, 8 bit; 12 Table 12-8; reset 0. -/
  errTarget : Byte := 0
  /-- COW_REFUSE_CNT, 48 bit; 12 R311, R315; reset 0. -/
  refuseCnt : StatCnt := {}
  /-- COW_DOMOFF_CNT, 48 bit; 12 R313, R315; reset 0. -/
  domoffCnt : StatCnt := {}
  /-- mailboxes, 64; 12 R308; reset EMPTY. -/
  mboxes : Tbl Mbox := []
  /-- doorbells, 256; 12 R312; reset 0. -/
  bells : Tbl Doorbell := []
  deriving DecidableEq, Repr

end Sys2Proof.Machine
end

