-- ==== Sys2Proof/Machine/VetchDyn.lean ====
section
/-! DEFINITION. Vetch (chapter 08): FP32 inverse dynamics, feasibility, Gauss–Newton refinement and the stop ladder,
each formula in the order R209 fixes. -/

namespace Sys2Proof.Machine

/-- Dynamic parameters of a joint (Table 8-1), FP32. -/
structure Dyn where
  mass : Word := 0
  com : List Word := [0, 0, 0]
  /-- xx, yy, zz, xy, xz, yz -/
  inertia : List Word := [0, 0, 0, 0, 0, 0]
  tauMax : Word := 0
  pjMax : Word := 0
  deriving DecidableEq, Repr

/-- A vector of three FP32 words. -/
structure F3 where
  x : Word := 0
  y : Word := 0
  z : Word := 0
  deriving DecidableEq, Repr

def F3.add (a b : F3) : F3 := ⟨fpAdd a.x b.x, fpAdd a.y b.y, fpAdd a.z b.z⟩
def F3.sub (a b : F3) : F3 := ⟨fpSub a.x b.x, fpSub a.y b.y, fpSub a.z b.z⟩
def F3.smul (k : Word) (a : F3) : F3 := ⟨fpMul k a.x, fpMul k a.y, fpMul k a.z⟩
def F3.neg (a : F3) : F3 := ⟨fpNeg a.x, fpNeg a.y, fpNeg a.z⟩
def F3.ofList (l : List Word) : F3 := ⟨l.getD 0 0, l.getD 1 0, l.getD 2 0⟩

/-- a × b, each component fma(a_y, b_z, −(a_z × b_y)) (R209). -/
def F3.cross (a b : F3) : F3 :=
  ⟨fpFma a.y b.z (fpNeg (fpMul a.z b.y)), fpFma a.z b.x (fpNeg (fpMul a.x b.z)),
   fpFma a.x b.y (fpNeg (fpMul a.y b.x))⟩

/-- A sum of products: s = a_0 × b_0, then s = fma(a_n, b_n, s) (R209). -/
def fmaSum : List (Word × Word) → Word
  | [] => 0
  | p :: t => t.foldl (fun s q => fpFma q.1 q.2 s) (fpMul p.1 p.2)

/-- A 3 × 3 matrix, row-major. -/
abbrev M33 := List Word

def M33.at (m : M33) (r c : Nat) : Word := m.getD (3 * r + c) 0

/-- M v, each component a sum over columns 0, 1, 2 (R209). -/
def M33.mulV (m : M33) (v : F3) : F3 :=
  let row (r : Nat) : Word := fmaSum [(m.at r 0, v.x), (m.at r 1, v.y), (m.at r 2, v.z)]
  ⟨row 0, row 1, row 2⟩

/-- Mᵀ v (R211). -/
def M33.tmulV (m : M33) (v : F3) : F3 :=
  let row (r : Nat) : Word := fmaSum [(m.at 0 r, v.x), (m.at 1 r, v.y), (m.at 2 r, v.z)]
  ⟨row 0, row 1, row 2⟩

/-- The symmetric matrix of six inertia values. -/
def inertiaM (i : List Word) : M33 :=
  let e (k : Nat) : Word := i.getD k 0
  [e 0, e 3, e 4, e 3, e 1, e 5, e 4, e 5, e 2]

/-! ### Conversions (R208, R210) -/

/-- C_R = 2π / 2^32 rounded to FP32. -/
def cR : Word := 0x30C9_0FDB#32
/-- U of a revolute joint, 2^32 / 2π rounded to FP32 (R218). -/
def uR : Word := 0x4E22_F983#32
def f16000 : Word := 0x467A_0000#32
def fMillion : Word := 0x4974_2400#32
def fHalfMillion : Word := 0x48F4_2400#32
def fTwo : Word := 0x4000_0000#32

/-- An integer joint quantity in FP32 joint units (R208). -/
def conv (j : Joint) (x : Int) : Word :=
  if j.ty == .prismatic then fpDiv (fpOfInt x) f16000 else fpMul (fpOfInt x) cR

/-- A length in 1/16 mm in metres (R208, R210). -/
def convLen (x : Int) : Word := fpDiv (fpOfInt x) f16000

/-- An exact ratio of naturals rounded once to FP32. -/
def fpRatio (n d : Nat) : Word := if n = 0 then 0 else divRound false n 0 false d 0

/-- h = D_c / (w × 10^6) s (R208). -/
def stepH (dc w : Nat) : Word := fpRatio dc (w * 1000000)

/-- E_j from the parent frame to the joint frame, FP32 (R210). -/
def jointE (j : Joint) (q : Int) : M33 :=
  if j.ty == .prismatic then [1, 0, 0, 0, 1, 0, 0, 0, 1].map fun k : Nat => if k = 1 then fpOne else 0
  else (jointFrame {} { j with t := {} } q).1.b.map fun e => fpOfScaled e (-30)

/-- p_j, the offset of joint j in its parent frame (R210). -/
def jointP (j : Joint) (q : Int) : F3 :=
  let t : F3 := ⟨convLen j.t.x, convLen j.t.y, convLen j.t.z⟩
  if j.ty == .prismatic then
    t.add (F3.smul (conv j q)
      ⟨fpOfScaled j.axis.x (-30), fpOfScaled j.axis.y (-30), fpOfScaled j.axis.z (-30)⟩)
  else t

/-! ### A robot model with its dynamic part -/

/-- A robot model of a bundle: the engine part, the dynamic part, and the per-joint parents by number 1 to J. -/
structure RobotModel where
  eng : EngineModel := {}
  dyn : List Dyn := []
  deriving DecidableEq, Repr

def RobotModel.joints (m : RobotModel) : List Joint := m.eng.joints
def RobotModel.nJ (m : RobotModel) : Nat := m.eng.joints.length
def RobotModel.dynOf (m : RobotModel) (j : Nat) : Dyn := m.dyn.getD j {}

/-- Whether frame number `a` (1 to J) is `j` or an ancestor of it, walking `fuel` parents. -/
def isAncestor (js : List Joint) (a : Nat) : Nat → Nat → Bool
  | 0, _ => false
  | fuel + 1, j => a == j || (j != 0 && isAncestor js a fuel (js.getD (j - 1) {}).parent)

/-! ### Inverse dynamics (R211) -/

/-- Motion of a link. -/
structure LinkMo where
  w : F3 := {}
  wd : F3 := {}
  a : F3 := {}
  f : F3 := {}
  n : F3 := {}
  deriving DecidableEq, Repr

/-- A sample: joint values, FP32 velocities and accelerations. -/
structure Sample where
  q : JVec
  v : List Word
  a : List Word
  deriving DecidableEq, Repr

/-- The root's acceleration B_0ᵀ(−GRAVITY) (R211). -/
def rootAcc (root : Frame) (g : List Word) : F3 :=
  M33.tmulV (root.b.map fun e => fpOfScaled e (-30)) (F3.neg (F3.ofList g))

def zAxis (k : Word) : F3 := F3.smul k ⟨0, 0, fpOne⟩

/-- The forward pass at one joint (R211). -/
def fwdJoint (par : LinkMo) (j : Joint) (d : Dyn) (q : Int) (qd qdd : Word) : LinkMo :=
  let e := jointE j q
  let p := jointP j q
  let wIn := e.tmulV par.w
  let wdIn := e.tmulV par.wd
  let aIn := e.tmulV ((par.a.add (par.wd.cross p)).add (par.w.cross (par.w.cross p)))
  let pr := j.ty == .prismatic
  let w := if pr then wIn else wIn.add (zAxis qd)
  let wd := if pr then wdIn else (wdIn.add (zAxis qdd)).add (wIn.cross (zAxis qd))
  let a := if pr then (aIn.add (F3.smul fTwo (wIn.cross (zAxis qd)))).add (zAxis qdd) else aIn
  let com := F3.ofList d.com
  let ac := (a.add (wd.cross com)).add (w.cross (w.cross com))
  let im := inertiaM d.inertia
  { w := w, wd := wd, a := a, f := F3.smul d.mass ac, n := (im.mulV wd).add (w.cross (im.mulV w)) }

/-- The forward pass over all joints; position 0 is the root. -/
def fwdPass (m : RobotModel) (root : F3) (s : Sample) : List LinkMo :=
  m.joints.zipIdx.foldl (fun (l : List LinkMo) (j : Joint × Nat) =>
    l ++ [fwdJoint (l.getD j.1.parent {}) j.1 (m.dynOf j.2) (s.q.at j.2) (s.v.getD j.2 0) (s.a.getD j.2 0)])
    [{ a := root }]

/-- Force and moment carried by a joint. -/
structure Wrench where
  f : F3 := {}
  n : F3 := {}
  deriving DecidableEq, Repr

/-- The backward pass from joint number `k` down to 1; the table holds the wrenches of higher joints (R211). -/
def bwdPass (m : RobotModel) (s : Sample) (mo : List LinkMo) : Nat → Tbl Wrench → Tbl Wrench
  | 0, t => t
  | k + 1, t =>
    let lk := mo.getD (k + 1) {}
    let kids := (List.range m.nJ).filter fun i => (m.joints.getD i {}).parent == k + 1
    let com := F3.ofList (m.dynOf k).com
    let f := kids.foldl (fun (a : F3) i =>
      a.add ((jointE (m.joints.getD i {}) (s.q.at i)).mulV (Tbl.get {} t (i + 1)).f)) lk.f
    let n := kids.foldl (fun (a : F3) i =>
      let e := jointE (m.joints.getD i {}) (s.q.at i)
      let p := jointP (m.joints.getD i {}) (s.q.at i)
      let w := Tbl.get ({} : Wrench) t (i + 1)
      a.add ((e.mulV w.n).add (p.cross (e.mulV w.f)))) (lk.n.add (com.cross lk.f))
    bwdPass m s mo k (Tbl.put t (k + 1) ⟨f, n⟩)

/-- τ of every joint at a sample (R211). -/
def invDyn (m : RobotModel) (root : F3) (s : Sample) : List Word :=
  let t := bwdPass m s (fwdPass m root s) m.nJ []
  m.joints.zipIdx.map fun (j : Joint × Nat) =>
    let w := Tbl.get ({} : Wrench) t (j.2 + 1)
    if j.1.ty == .prismatic then w.f.z else w.n.z

/-! ### The mass matrix (R212) -/

/-- A composite inertia: mass, first moment, and rotational inertia about the frame's origin. -/
structure SInertia where
  m : Word := 0
  h : F3 := {}
  i : M33 := [0, 0, 0, 0, 0, 0, 0, 0, 0]
  deriving DecidableEq, Repr

def M33.add (a b : M33) : M33 := (List.range 9).map fun k => fpAdd (a.getD k 0) (b.getD k 0)

/-- A B, each entry a sum over the inner index (R209). -/
def M33.mul (a b : M33) : M33 := (List.range 9).map fun k =>
  fmaSum ((List.range 3).map fun n => (a.at (k / 3) n, b.at n (k % 3)))

def M33.tr (a : M33) : M33 := (List.range 9).map fun k => a.at (k % 3) (k / 3)

/-- v w as the matrix (v·w) I − w vᵀ, the inertia of a first moment v seen at an offset w. -/
def offInertia (v w : F3) : M33 :=
  let d := fmaSum [(v.x, w.x), (v.y, w.y), (v.z, w.z)]
  let c (u : F3) (k : Nat) : Word := if k = 0 then u.x else if k = 1 then u.y else u.z
  (List.range 9).map fun k =>
    let p := fpMul (c w (k / 3)) (c v (k % 3))
    if k / 3 = k % 3 then fpSub d p else fpNeg p

/-- A link's own spatial inertia about its frame's origin. -/
def ownInertia (d : Dyn) : SInertia :=
  let com := F3.ofList d.com
  let h := F3.smul d.mass com
  ⟨d.mass, h, M33.add (inertiaM d.inertia) (offInertia h com)⟩

/-- A composite inertia carried to the parent frame by E and p (R212 item 2). -/
def carryInertia (e : M33) (p : F3) (s : SInertia) : SInertia :=
  let hr := e.mulV s.h
  let h := hr.add (F3.smul s.m p)
  let ir := M33.mul (M33.mul e s.i) e.tr
  ⟨s.m, h, M33.add (M33.add (M33.add ir (offInertia hr p)) (offInertia p hr)) (offInertia (F3.smul s.m p) p)⟩

def SInertia.add (a b : SInertia) : SInertia := ⟨fpAdd a.m b.m, a.h.add b.h, M33.add a.i b.i⟩

/-- Composite inertias of frames, from joint number `k` down to 1 (R212 item 2). -/
def composite (m : RobotModel) (q : JVec) : Nat → Tbl SInertia → Tbl SInertia
  | 0, t => t
  | k + 1, t =>
    let j := m.joints.getD k {}
    if j.parent = 0 then composite m q k t
    else
      let c := carryInertia (jointE j (q.at k)) (jointP j (q.at k)) (Tbl.get {} t (k + 1))
      composite m q k (Tbl.upd {} t j.parent fun x => x.add c)

/-- The spatial force of a unit motion of joint j on a composite inertia: moment, then force (R212 item 3). -/
def unitForce (pr : Bool) (s : SInertia) : Wrench :=
  let z : F3 := ⟨0, 0, fpOne⟩
  if pr then ⟨F3.smul s.m z, s.h.cross z⟩ else ⟨F3.neg (s.h.cross z), s.i.mulV z⟩

/-- S_jᵀ f. -/
def axisPart (pr : Bool) (w : Wrench) : Word := if pr then w.f.z else w.n.z

/-- Entries of column j up the ancestors, nearest first: `i` is the frame the force is in (R212 item 4). -/
def upAncestors (m : RobotModel) (q : JVec) (j : Nat) : Nat → Nat → Wrench → List ((Nat × Nat) × Word)
  | 0, _, _ => []
  | fuel + 1, i, w =>
    let jt := m.joints.getD (i - 1) {}
    if jt.parent = 0 then []
    else
      let e := jointE jt (q.at (i - 1))
      let p := jointP jt (q.at (i - 1))
      let f := e.mulV w.f
      let w' : Wrench := ⟨f, (e.mulV w.n).add (p.cross f)⟩
      let par := m.joints.getD (jt.parent - 1) {}
      ((jt.parent, j), axisPart (par.ty == .prismatic) w') :: upAncestors m q j fuel jt.parent w'

/-- The stored entries of the mass matrix, joint numbers 1 to J, rows above or on the diagonal (R212). -/
def massMatrix (m : RobotModel) (q : JVec) : List ((Nat × Nat) × Word) :=
  let own : Tbl SInertia := m.dyn.zipIdx.map fun (d : Dyn × Nat) => (d.2 + 1, ownInertia d.1)
  let t := composite m q m.nJ own
  (List.range m.nJ).flatMap fun k =>
    let pr := (m.joints.getD k {}).ty == .prismatic
    let w := unitForce pr (Tbl.get {} t (k + 1))
    ((k + 1, k + 1), axisPart pr w) :: upAncestors m q (k + 1) m.nJ (k + 1) w

/-- M_ij, none where neither joint is the ancestor of the other (R212). -/
def massAt (mm : List ((Nat × Nat) × Word)) (i j : Nat) : Option Word :=
  (mm.find? fun e => e.1 == (i, j) || e.1 == (j, i)).map (·.2)

/-! ### Samples along a knot form (R208) -/

/-- v_i of every joint. -/
def velAt (m : RobotModel) (h : Word) (anchor : JVec) (wps : List JVec) (i : Nat) : List Word :=
  m.joints.zipIdx.map fun (j : Joint × Nat) =>
    fpDiv (conv j.1 (jdiff j.1.cont ((wps.getD i []).at j.2) ((wpBefore anchor wps i).at j.2))) h

/-- q_(i+1) − 2 q_i + q_(i−1) of one joint, q_w = q_(w−1); for a continuous joint the signed 32-bit value (R111). -/
def secondDiff (j : Joint) (jx : Nat) (anchor : JVec) (wps : List JVec) (i : Nat) : Int :=
  let cur := (wps.getD i []).at jx
  let nxt := if i + 1 < wps.length then (wps.getD (i + 1) []).at jx else cur
  let prv := (wpBefore anchor wps i).at jx
  let d := jdiff j.cont nxt cur - jdiff j.cont cur prv
  if j.cont then wrapS 32 d else d

/-- a_i of every joint. -/
def accAt (m : RobotModel) (h : Word) (anchor : JVec) (wps : List JVec) (i : Nat) : List Word :=
  m.joints.zipIdx.map fun (j : Joint × Nat) => fpDiv (fpDiv (conv j.1 (secondDiff j.1 j.2 anchor wps i)) h) h

/-- The sample of waypoint i. -/
def sampleAt (m : RobotModel) (h : Word) (anchor : JVec) (wps : List JVec) (i : Nat) : Sample :=
  ⟨wps.getD i [], velAt m h anchor wps i, accAt m h anchor wps i⟩

/-! ### Feasibility (R213) -/

/-- Causes and peaks of a run of samples. -/
structure DynRes where
  tau : Bool := false
  pj : Bool := false
  ptot : Bool := false
  nonfinite : Bool := false
  peakTau : Word := 0
  peakJoint : Nat := 0
  peakWp : Nat := 0
  peakPow : Option Word := none
  deriving DecidableEq, Repr

def DynRes.ok (r : DynRes) : Bool := !r.tau && !r.pj && !r.ptot && !r.nonfinite
def DynRes.cause (r : DynRes) : Nat := b2n r.tau + 2 * b2n r.pj + 4 * b2n r.ptot + 8 * b2n r.nonfinite

/-- One sample checked under R213; `i` is its waypoint. -/
def dynSample (m : RobotModel) (pTot : Word) (tau v : List Word) (i : Nat) (r : DynRes) : DynRes :=
  let pow := fmaSum (tau.zip v)
  let ratio := fpDiv pow pTot
  let r1 := tau.zipIdx.foldl (fun (r : DynRes) (t : Word × Nat) =>
    let d := m.dynOf t.2
    let x := fpDiv (fpAbs t.1) d.tauMax
    let r := { r with
      tau := r.tau || fpLt d.tauMax (fpAbs t.1)
      pj := r.pj || fpLt d.pjMax (fpAbs (fpMul t.1 (v.getD t.2 0)))
      nonfinite := r.nonfinite || !fpFinite t.1 }
    if r.peakJoint = 0 || fpLt r.peakTau x then { r with peakTau := x, peakJoint := t.2 + 1, peakWp := i } else r) r
  { r1 with
    ptot := r1.ptot || fpLt pTot pow
    peakPow := match r1.peakPow with
      | none => some ratio
      | some p => some (if fpLt p ratio then ratio else p) }

/-- Feasibility of a knot form over all its waypoints (R213). -/
def dynFeas (m : RobotModel) (rec' : CtxRec) (root : Frame) (k : KnotForm) (w : Nat) : DynRes :=
  let wps := k.waypoints m.joints w
  let h := stepH k.dc w
  let g := rootAcc root rec'.gravity
  (List.range w).foldl (fun r i =>
    let s := sampleAt m h k.anchor wps i
    dynSample m rec'.pTot (invDyn m g s) s.v i r) {}

/-! ### Refinement (R214 to R218) -/

/-- τ of every waypoint of a knot form. -/
def tausOf (m : RobotModel) (rec' : CtxRec) (root : Frame) (k : KnotForm) (w : Nat) : List (List Word) :=
  let wps := k.waypoints m.joints w
  let h := stepH k.dc w
  let g := rootAcc root rec'.gravity
  (List.range w).map fun i => invDyn m g (sampleAt m h k.anchor wps i)

/-- The residuals of an iterate in order: per waypoint smoothness then effort; the trust residuals are 0 (R214). -/
def residuals (m : RobotModel) (rec' : CtxRec) (root : Frame) (k : KnotForm) (w : Nat) : List Word :=
  let wps := k.waypoints m.joints w
  let h := stepH k.dc w
  let rs := fpSqrt rec'.wS
  let rt := fpSqrt rec'.wT
  let taus := tausOf m rec' root k w
  (List.range w).flatMap fun i =>
    (accAt m h k.anchor wps i).map (fpMul rs) ++
    ((taus.getD i []).zipIdx.map fun (t : Word × Nat) => fpDiv (fpMul rt t.1) (m.dynOf t.2).tauMax)

/-- The cost of an iterate: half the sum of squares of its residuals (R214). -/
def iterCost (m : RobotModel) (rec' : CtxRec) (root : Frame) (k : KnotForm) (w : Nat) : Word :=
  fpMul fpHalf (fmaSum ((residuals m rec' root k w).map fun r => (r, r)))

/-- The interpolation weight of knot m in waypoint i, an exact ratio over h_w = w / P (R113): numerator. -/
def knotWeight (p w : Nat) (i : Int) (m : Nat) : Int :=
  let hw : Int := w / p
  let n := min (i + 1) w          -- q_w = q_(w−1)
  if n ≤ 0 then 0
  else
    let dist := n - hw * (m + 1)
    let d : Int := dist.natAbs
    if d < hw then hw - d else 0

/-- The derivative of a_i by knot m: the second difference of the weights, over h twice; none where it is 0. -/
def accDeriv (p w : Nat) (h : Word) (i m : Nat) : Option Word :=
  let s := knotWeight p w (i + 1) m - 2 * knotWeight p w i m + knotWeight p w ((i : Int) - 1) m
  if s = 0 then none
  else
    let mag := fpRatio s.natAbs (w / p)
    some (fpDiv (fpDiv (if s < 0 then fpNeg mag else mag) h) h)

/-- The Jacobian rows of a waypoint in residual order: each row is its list of (variable, entry), variable
m × J + j (R214). -/
def jacRows (m : RobotModel) (rec' : CtxRec) (p w : Nat) (h : Word) (wps : List JVec) (i : Nat) :
    List (List (Nat × Word)) :=
  let nj := m.nJ
  let rs := fpSqrt rec'.wS
  let rt := fpSqrt rec'.wT
  let mm := massMatrix m (wps.getD i [])
  let da : List (Nat × Word) := (List.range p).filterMap fun k => (accDeriv p w h i k).map fun d => (k, d)
  let smooth := (List.range nj).map fun j => da.map fun d => (d.1 * nj + j, fpMul rs d.2)
  let effort := (List.range nj).map fun k =>
    da.flatMap fun d => (List.range nj).filterMap fun j =>
      (massAt mm (k + 1) (j + 1)).map fun x =>
        (d.1 * nj + j, fpDiv (fpMul rt (fpMul x d.2)) (m.dynOf k).tauMax)
  smooth ++ effort

/-- Sum of products over residual rows in order; none where no row has both entries (R214). -/
def rowSum (rows : List (List (Nat × Word))) (u v : Nat) : Option Word :=
  let ps := rows.filterMap fun r =>
    match r.find? (fun e => e.1 == u), r.find? (fun e => e.1 == v) with
    | some a, some b => some (a.2, b.2)
    | _, _ => none
  if ps.isEmpty then none else some (fmaSum ps)

/-- A symmetric matrix by its stored entries, key row × n + column with row ≥ column. -/
abbrev SymM := Tbl Word

def symKey (n a b : Nat) : Nat := if b ≤ a then a * n + b else b * n + a

/-- H and g of an iterate (R214). -/
def normalEq (m : RobotModel) (rec' : CtxRec) (root : Frame) (k : KnotForm) (w : Nat) : SymM × List Word :=
  let p := k.knots.length
  let n := m.nJ * p
  let wps := k.waypoints m.joints w
  let h := stepH k.dc w
  let rows := (List.range w).flatMap (jacRows m rec' p w h wps)
  let res := residuals m rec' root k w
  let hm : SymM := (List.range n).flatMap fun a => (List.range (a + 1)).filterMap fun b =>
    let s := rowSum rows a b
    if a = b then some (symKey n a b, fpAdd (s.getD 0) rec'.wD) else s.map fun x => (symKey n a b, x)
  let g := (List.range n).map fun v =>
    fmaSum ((rows.zip res).filterMap fun r => (r.1.find? fun e => e.1 == v).map fun e => (e.2, r.2))
  (hm, g)

/-- Elimination state: the matrix, the right-hand side, per variable its pivot and its column of factors, and the
pivots replaced. -/
structure Elim where
  h : SymM
  rhs : List Word
  piv : Tbl Word := []
  cols : Tbl (List (Nat × Word)) := []
  replaced : Nat := 0
  bad : Bool := false
  deriving DecidableEq, Repr

/-- The pivot test of R216: the pivot used, and whether it was replaced. -/
def pivotFix (tau scale d : Word) : Word × Bool :=
  let lim := fpMul tau scale
  if fpLe (fpAbs d) lim then (if fpLt d 0 then fpNeg lim else lim, true) else (d, false)

/-- One variable eliminated: columns of variables not yet eliminated, the factors, and the updates in ascending row
and column (R215, R216). -/
def elimVar (n : Nat) (tau scale : Word) (e : Elim) (v : Nat) : Elim :=
  let d0 := Tbl.get 0 e.h (symKey n v v)
  let pf := pivotFix tau scale d0
  let d := pf.1
  let live := (List.range n).filter fun a => (Tbl.find? e.piv a).isNone && a != v
  let col := live.filterMap fun a => (Tbl.find? e.h (symKey n a v)).map fun x => (a, x)
  let ls := col.map fun c => (c.1, fpDiv c.2 d)
  let h := ls.foldl (fun h a => col.foldl (fun h b =>
      if b.1 ≤ a.1 then Tbl.upd 0 h (symKey n a.1 b.1) (fun x => fpFma (fpNeg a.2) b.2 x) else h) h) e.h
  let y := e.rhs.getD v 0
  let rhs := ls.foldl (fun r a => modAt (fun x => fpFma (fpNeg a.2) y x) r a.1) e.rhs
  { h := h, rhs := rhs, piv := Tbl.put e.piv v d, cols := Tbl.put e.cols v ls,
    replaced := e.replaced + b2n pf.2, bad := e.bad || fpIsNan d0 }

/-- Elimination order: knot blocks from the last to the first, joints from the last to the first (R215). -/
def elimOrder (n : Nat) : List Nat := (List.range n).reverse

/-- δ = −H⁻¹ g, the number of pivots replaced, and whether a pivot was a NaN (R215 to R217). -/
def bandedSolve (n : Nat) (tau : Word) (h : SymM) (g : List Word) : List Word × Nat × Bool :=
  let diag := (List.range n).map fun v => fpAbs (Tbl.get 0 h (symKey n v v))
  let top := diag.foldl (fun m x => if fpLt m x then x else m) 0
  let scale := if fpEq top 0 then fpOne else top
  let e := (elimOrder n).foldl (elimVar n tau scale) { h := h, rhs := g }
  let x0 := (List.range n).map fun v => fpDiv (e.rhs.getD v 0) (Tbl.get 0 e.piv v)
  let x := (elimOrder n).reverse.foldl (fun (x : List Word) v =>
    modAt (fun y => (Tbl.get [] e.cols v).foldl (fun s a => fpFma (fpNeg a.2) (x.getD a.1 0) s) y) x v) x0
  (x.map fpNeg, e.replaced, e.bad)

/-- 2^−PIVOT_EXP. -/
def pivotTau (exp : Nat) : Word := fpRound false 1 (-(exp : Int))

/-- The next iterate's knots: knot + round(δ × U_j), fitted (R218 item 3). -/
def stepKnots (m : RobotModel) (k : KnotForm) (delta : List Word) : KnotForm :=
  { k with knots := k.knots.zipIdx.map fun (v : JVec × Nat) => perJoint m.joints fun j jt =>
      let u := if jt.ty == .prismatic then f16000 else uR
      jt.fit (jadd jt.cont (v.1.at j) ((fpToInt (fpMul (delta.getD (v.2 * m.nJ + j) 0) u) 0).getD 0)) }

/-- What one iteration gives (R217, R218). -/
inductive IterOut where
  | accepted (k : KnotForm) (cost : Word) (dyn : DynRes) (replaced : Nat) (converged : Bool)
  | rejected (replaced : Nat)
  | invalid (replaced : Nat)
  deriving DecidableEq, Repr

/-- One Gauss–Newton iteration from an iterate and its cost (R218). -/
def gnIterate (m : RobotModel) (rec' : CtxRec) (root : Frame) (k : KnotForm) (w : Nat) (cost : Word) : IterOut :=
  let n := m.nJ * k.knots.length
  let ne := normalEq m rec' root k w
  let s := bandedSolve n (pivotTau rec'.pivotExp) ne.1 ne.2
  if s.2.2 || s.1.any (fun d => !fpFinite d) then .invalid s.2.1
  else
    let k' := stepKnots m k s.1
    let taus := tausOf m rec' root k' w
    let c := iterCost m rec' root k' w
    if taus.any (fun l => l.any fun t => !fpFinite t) || !fpFinite c then .invalid s.2.1
    else
      let dy := dynFeas m rec' root k' w
      if dy.ok && fpLt c cost then
        .accepted k' c dy s.2.1 (s.1.all fun d => fpLe (fpAbs d) rec'.stepTol)
      else .rejected s.2.1

/-! ### The stop ladder (R219) -/

/-- a_L = A_STOP_MAX × 2^−L. -/
def rungA (aMax : Word) (l : Nat) : Word := fpMul aMax (fpRound false 1 (-(l : Int)))

/-- Whether a rung is eligible. -/
def rungEligible (rec' : CtxRec) (period dc : Nat) (a : Word) : Bool :=
  fpLe (fpAdd (fpOfInt period) (fpDiv fHalfMillion a)) (fpOfInt dc) &&
  fpLe (fpDiv fMillion a) (fpOfInt rec'.stopTmax)

/-- The integer part of a non-negative word. -/
def fpFloor (w : Word) : Nat :=
  match fpDecode w with
  | .fin false m e => if 0 ≤ e then m <<< e.toNat else m >>> (-e).toNat
  | _ => 0

/-- The 17 samples of a rung checked under R213. -/
def rungRun (m : RobotModel) (rec' : CtxRec) (root : Frame) (k : KnotForm) (w period : Nat) (a : Word) : DynRes :=
  let wps := k.waypoints m.joints w
  let h := stepH k.dc w
  let g := rootAcc root rec'.gravity
  (List.range 17).foldl (fun r kk =>
    let rho := fpRound false (16 - kk) (-4)
    let rho2 := fpRound false ((16 - kk) * (16 - kk)) (-8)
    let rem := fpRound false (256 - (16 - kk) * (16 - kk)) (-8)
    let tau := fpAdd (fpOfInt period) (fpDiv (fpMul rem fMillion) (fpMul fTwo a))
    let i := min (w - 1) (fpFloor (fpDiv tau (fpMul h fMillion)))
    let v := velAt m h k.anchor wps i
    let ac := accAt m h k.anchor wps i
    let vs := v.map (fpMul rho)
    let as := (ac.zip v).map fun p => fpSub (fpMul rho2 p.1) (fpMul a p.2)
    dynSample m rec'.pTot (invDyn m g ⟨wps.getD i [], vs, as⟩) vs i r) {}

/-- A stop found for an entry: its deceleration, duration, branch, rung and peak. -/
structure StopRec where
  aStop : Word := 0
  tStop : Nat := 0
  tauB : Nat := 0
  ladder : Nat := 0
  peak : Word := 0
  deriving DecidableEq, Repr

/-- The stop item of one entry: the lowest eligible rung that passes (R219). -/
def stopOf (m : RobotModel) (rec' : CtxRec) (root : Frame) (k : KnotForm) (w period : Nat) : Option StopRec :=
  ((List.range 8).filterMap fun l =>
    let a := rungA rec'.aStopMax l
    let r := rungRun m rec' root k w period a
    if rungEligible rec' period k.dc a && r.ok then
      some { aStop := a, tStop := ((fpToInt (fpDiv fMillion a) 0).getD 0).toNat, tauB := period, ladder := l,
             peak := r.peakTau }
    else none).head?

/-- R220: whether every stop ends inside the horizon. -/
def stopFits (ageLimit period emitUs stopTmax layerMs : Nat) : Bool :=
  decide (ageLimit * period + emitUs + period + stopTmax < 8 * layerMs * 1000)

/-! ### The window (R221) -/

/-- Lengths of one context on its unit. -/
structure VetLen where
  slot : Nat
  lF : Nat
  lIt : Nat
  lS : Nat
  lReg : Nat := 0
  deriving DecidableEq, Repr

/-- R_pool of a unit (R221), as an integer. -/
def vetPool (vs ve : Nat) (l : List VetLen) : Int := (ve : Int) - vs - 64 - (sumN (l.map fun x => x.lF + x.lS) : Nat)

/-- D_R of the i-th context of a unit, counted from 0 (R221). -/
def vetDeadline (vs ve : Nat) (l : List VetLen) (i : Nat) : Nat :=
  vs + sumN ((l.take (i + 1)).map (·.lF)) + sumN ((l.take i).map (·.lS)) +
    ((((i + 1 : Nat) : Int) * vetPool vs ve l) / (l.length : Int)).toNat

/-- Whether the mandatory items of a unit's contexts up to the i-th fit (R223). -/
def vetFits (vs ve : Nat) (l : List VetLen) (i : Nat) : Bool :=
  decide (vs + sumN ((l.take (i + 1)).map fun x => x.lF + x.lS) + 64 ≤ ve)

end Sys2Proof.Machine
end

