-- ==== Sys2Proof/Machine/Bundle.lean ====
section
/-! DEFINITION. A configuration bundle as the device uses it (13 R334). The manual fixes the bundle's header and the
contents of its sections, not their byte layout, which is Kalot's: the typed form is this model's (log entry 7). -/

namespace Sys2Proof.Machine

/-- Expected values of a golden candidate (14 R347). -/
structure GoldenForm where
  form : KnotForm := {}
  base : V3 := {}
  /-- rotation of the root frame, 9 entries Q1.30 -/
  rot : List Int := [1073741824, 0, 0, 0, 1073741824, 0, 0, 0, 1073741824]
  layers : List Nat := []
  sig : Word := 0
  minClr : Int := 0
  feas : Bool := true
  cause : Nat := 0
  minWp : Nat := 0
  minSph : Nat := 0
  minLayer : Nat := 0
  deriving DecidableEq, Repr

/-- A shape of a model in the golden set, with the Vetch lengths of that model and shape (14 R347; 08 R221). -/
structure ShapeEntry where
  w : Nat := 32
  s : Nat := 64
  gold0 : GoldenForm := {}
  gold1 : GoldenForm := {}
  lF : Nat := 0
  lIt : Nat := 0
  lS : Nat := 0
  lReg : Nat := 0
  deriving DecidableEq, Repr

/-- A robot model of a bundle with its defaults, shapes and proposal graph (13 R334 sections 2, 5, 6, 7; 11 R500). -/
structure ModelEntry where
  model : RobotModel := {}
  /-- defaults of regions 0x040 to 0x8FF and 0x900 -/
  defaults : CtxRec := []
  shapes : List ShapeEntry := []
  proposal : Option Graph := none
  /-- mixture components K and dimensions D of the proposal graph -/
  mixK : Nat := 0
  mixD : Nat := 0
  deriving DecidableEq, Repr

/-- A declared sensor source (02 R55, R58, R59). -/
structure SourceDecl where
  id : Nat
  coverage : Box := fieldCells
  staleTicks : Nat := 4
  deriving DecidableEq, Repr

/-- The predictor graph and its parameters (03 R96 to R99). -/
structure Predictor where
  graph : Graph := {}
  histDepth : Nat := 1
  histStride : Nat := 1
  trainedMs : Nat := 50
  /-- feature program of the "state" binding, present when the graph has one -/
  stateFeat : Option (List Byte) := none
  deriving DecidableEq, Repr

/-- A background graph: its input tensor, and the length of one slice (11 Table 11-5). -/
structure BgGraph where
  graph : Graph := {}
  inFmt : EFmt := .fp32
  inCount : Nat := 0
  inScales : Nat := 0
  sliceLen : Nat := 0
  deriving DecidableEq, Repr

/-- The critic graph and its parameters (03 R102, R103). -/
structure Critic where
  graph : Graph := {}
  shift : Nat := 0
  features : Nat := 0
  deriving DecidableEq, Repr

/-- Where the memory plan places rings and checkpoints (10 R264, 15 R392). -/
structure MemPlan where
  recBase : Nat := 0x20000000
  recSize : Nat := 0x10000000
  jrnBase : Nat := 0x30000000
  jrnSize : Nat := 0x10000000
  ckptBase : Nat := 0x40000000
  ckptSize : Nat := 0x10000000
  /-- the areas for trees, roadmaps and host areas, which only the acceptance check reads -/
  otherBase : Nat := 0x80000000
  otherSize : Nat := 0
  deriving DecidableEq, Repr

/-- A configuration bundle (13 R334). -/
structure Bundle where
  /-- FORMAT of the header -/
  format : Nat := 1
  /-- PROFILE of the header -/
  profile : Nat := 1
  /-- GEN of the header -/
  gen : Nat := 1
  /-- LENGTH of the header -/
  length : Nat := 64
  /-- tick period, µs (Table 1-6) -/
  periodUs : Nat := 1000
  /-- EMIT_US (Table 1-12) -/
  emitUs : Nat := 25
  /-- result-age limit (09 R241) -/
  ageLimit : Nat := 3
  /-- operating point named (16 R419) -/
  op : Nat := 0
  /-- foreground slot limit N_lim (09 R229) -/
  nLim : Nat := 16
  /-- tick program of four arrays -/
  program : TickProgram := TickProgram.reference
  /-- three-array variant (03 R106) -/
  variant3 : Option TickProgram := none
  /-- cascade variants by device count, with the member broadcast start (19 R474) -/
  cascade : Tbl (TickProgram × Nat) := []
  /-- Vetch window V_s and V_e in the reference case, as leads before E (08 R221) -/
  vetLead : Nat := 180000
  /-- lead of the end of the Vetch window before E -/
  vetEndLead : Nat := 40000
  /-- S_c, start of the transform item (06 R174) -/
  sC : Nat := 340000
  /-- RINGS (06 R175) -/
  rings : Nat := 8
  /-- LAYER_MS (02 R46) -/
  layerMs : Nat := 50
  /-- OBS_HOLD as a number of layers (02 Table 2-6) -/
  obsHold : Nat := 8
  /-- EDGE: true is WALL (02 Table 2-6) -/
  wall : Bool := false
  /-- ORIGIN_MODE: true is FOLLOW (02 R45) -/
  follow : Bool := false
  /-- origin (FIXED) or start origin (FOLLOW) (02 R45) -/
  origin : V3 := {}
  /-- focus cell in FIXED mode (02 R70) -/
  focus : V3 := ⟨32, 32, 8⟩
  /-- focus context (02 R45) -/
  focusCtx : Nat := 0
  sources : List SourceDecl := []
  /-- contexts declared for robot-state frames (02 R55) -/
  ctxDecl : List Nat := []
  smap : StaticMap := {}
  /-- soft costs, one byte per coarse cell of the map region, in the order of the static map (06 R176) -/
  soft : Tbl Nat := []
  models : List ModelEntry := []
  /-- four golden bricks, 4 × 1,024 bytes (02 R71) -/
  golden : List Byte := []
  predictor : Option Predictor := none
  critic : Option Critic := none
  /-- background graphs by number (11 Table 11-5), with the slice lengths Kalot gave them -/
  graphs : Tbl BgGraph := []
  worldSeed : Word := 0
  /-- stable windows of sections 0 to 10: first and last ac (10 R261) -/
  windows : List (Nat × Nat) := []
  plan : MemPlan := {}
  /-- layout of the cluster work area, KiB (15 R375) -/
  workKib : Nat := 0
  /-- Bindweed pairs by number (12 R299) -/
  pairs : Tbl Pair := []
  deriving DecidableEq, Repr

def Bundle.modelEntry (b : Bundle) (m : Nat) : ModelEntry := b.models.getD m {}
def Bundle.hasModel (b : Bundle) (m : Nat) : Bool := decide (m < b.models.length)

/-- The golden-set entry of a shape, if the set lists it (14 R347). -/
def ModelEntry.shape (m : ModelEntry) (w s : Nat) : Option ShapeEntry :=
  m.shapes.find? fun e => e.w == w && e.s == s

def ModelEntry.revolute (m : ModelEntry) : Nat := (m.model.joints.filter fun j => j.ty != .prismatic).length
def ModelEntry.prismatic (m : ModelEntry) : Nat := (m.model.joints.filter fun j => j.ty == .prismatic).length

/-- q_max, the largest candidate cost over the shapes of the bundle (09 R229). -/
def Bundle.qMax (b : Bundle) : Nat :=
  maxN (b.models.flatMap fun m => m.shapes.map fun e => candCost e.w e.s)

end Sys2Proof.Machine
end

