-- ==== Sys2Proof/Machine/Shake.lean ====
section
/-! DEFINITION. SHAKE256 (10 R248, R263; 13 R337). The manual names the function and does not print it: FIPS 202,
PRESUMED, log entry 8. -/

namespace Sys2Proof.Machine

/-- Round constants of Keccak-f[1600] (FIPS 202). -/
def keccakRc : List Dword :=
  [0x0000000000000001, 0x0000000000008082, 0x800000000000808A, 0x8000000080008000,
   0x000000000000808B, 0x0000000080000001, 0x8000000080008081, 0x8000000000008009,
   0x000000000000008A, 0x0000000000000088, 0x0000000080008009, 0x000000008000000A] ++
  [0x000000008000808B, 0x800000000000008B, 0x8000000000008089, 0x8000000000008003,
   0x8000000000008002, 0x8000000000000080, 0x000000000000800A, 0x800000008000000A,
   0x8000000080008081, 0x8000000000008080, 0x0000000080000001, 0x8000000080008008]

/-- Rotation offset of lane (x, y), index x + 5y (FIPS 202). -/
def keccakRot : List Nat :=
  [0, 1, 62, 28, 27, 36, 44, 6, 55, 20, 3, 10, 43, 25, 39, 41, 45, 15, 21, 8, 18, 2, 61, 56, 14]

/-- One round of Keccak-f[1600] on 25 lanes, index x + 5y. -/
def keccakRound (a : List Dword) (rc : Dword) : List Dword :=
  let l (v : List Dword) (x y : Nat) := v.getD (x % 5 + 5 * (y % 5)) 0
  let c := (List.range 5).map fun x => l a x 0 ^^^ l a x 1 ^^^ l a x 2 ^^^ l a x 3 ^^^ l a x 4
  let d := (List.range 5).map fun x => c.getD ((x + 4) % 5) 0 ^^^ (c.getD ((x + 1) % 5) 0).rotateLeft 1
  let r := (List.range 25).map fun i => (a.getD i 0 ^^^ d.getD (i % 5) 0).rotateLeft (keccakRot.getD i 0)
  -- π: B[y, 2x + 3y] = A[x, y], so lane (x, y) of B comes from A[x + 3y, x]
  let b := (List.range 25).map fun i => l r (i % 5 + 3 * (i / 5)) (i % 5)
  let e := (List.range 25).map fun i =>
    l b (i % 5) (i / 5) ^^^ (~~~ l b (i % 5 + 1) (i / 5) &&& l b (i % 5 + 2) (i / 5))
  modAt (· ^^^ rc) e 0

/-- Keccak-f[1600]. -/
def keccakF (a : List Dword) : List Dword := keccakRc.foldl keccakRound a

/-- One 136-byte block absorbed. -/
def keccakAbsorb (a : List Dword) (block : List Byte) : List Dword :=
  keccakF (a.zipIdx.map fun p => if p.2 < 17 then p.1 ^^^ BitVec.ofNat 64 (leAt block (8 * p.2) 8) else p.1)

/-- The message padded to whole blocks: suffix 1111, then 10*1 (bytes 0x1F … 0x80). -/
def shakePad (msg : List Byte) : List Byte :=
  let n := 136 - msg.length % 136
  if n = 1 then msg ++ [0x9F#8]
  else msg ++ [0x1F#8] ++ List.replicate (n - 2) 0#8 ++ [0x80#8]

/-- The first 32 bytes of SHAKE256 of a message. -/
def shake256 (msg : List Byte) : List Byte :=
  let p := shakePad msg
  let a := (chunks 136 (p.length / 136) p).foldl keccakAbsorb (List.replicate 25 0)
  (a.take 4).flatMap fun l => toLe 8 l.toNat

end Sys2Proof.Machine
end

