-- ==== Sys2Proof/Machine/StAster.lean ====
section
/-! DEFINITION. State of chapter 03: the four Aster arrays, the history ring and the mixture buffers. -/

namespace Sys2Proof.Machine

/-- A failure of an Aster array found in service, applied at the next tick edge (03 R79, R80). -/
inductive AsterFail where
  | column (c : Nat)
  | row
  | postUnit
  deriving DecidableEq, Repr

/-- One Aster array (03 Table 3-11); AST_ARR_OPIDX reads the slice that runs on it (`TeaselSt.running`). -/
structure AsterArray where
  /-- AST_ARR_STAT.FAILED, 1 bit; 03 Table 3-11; reset 0. -/
  failed : Bool := false
  /-- AST_ARR_COLMAP, active column replaced by spare j in order of use (up to 4 × 7 bit); 03 R79, Table 3-11; reset none. -/
  colmap : List Nat := []
  /-- failures found and waiting for the next tick edge; 03 R79, R80; reset none. -/
  waiting : List AsterFail := []
  deriving DecidableEq, Repr

/-- A frame of the history ring: the observed layer of one cut-off as UINT8 values by cell, and its origin (03 R97). -/
structure HistFrame where
  origin : V3 := {}
  cells : List Nat := []
  deriving DecidableEq, Repr

/-- A mixture buffer of a context (03 R101). -/
structure MixBuf where
  /-- VALID bit of the buffer; 03 R101; reset 0. -/
  valid : Bool := false
  /-- mixture rows, FP32 [K, 1 + 2D]; 03 R100; reset empty. -/
  data : List Word := []
  deriving DecidableEq, Repr

/-- Chapter 03: Aster registers and state. -/
structure AsterSt where
  /-- AST_CTRL.DEGRADED_EN, 1 bit; 03 Table 3-9; reset 1. -/
  degradedEn : Bool := true
  /-- AST_STAT.ARRAY_FAILED, 1 bit, W1C; 03 Table 3-10; reset 0. -/
  arrayFailedF : Bool := false
  /-- AST_STAT.DEGRADED, 1 bit; 03 R106, Table 3-10; reset 0. -/
  degraded : Bool := false
  /-- AST_STAT.PROPOSAL_INVALID, 1 bit, W1C; 03 Table 3-10; reset 0. -/
  proposalInvalid : Bool := false
  /-- AST_STAT.CRITIC_SKIPPED, 1 bit, W1C; 03 Table 3-10; reset 0. -/
  criticSkipped : Bool := false
  /-- AST_STAT.PRED_WARMUP, 1 bit; 03 R97, Table 3-10; reset 1. -/
  predWarmup : Bool := true
  /-- AST_STAT.NAN_SEEN, 1 bit, W1C; 03 Table 3-10; reset 0. -/
  nanSeen : Bool := false
  /-- AST_STAT.SAT_SEEN, 1 bit, W1C; 03 Table 3-10; reset 0. -/
  satSeen : Bool := false
  /-- AST_SAT_CNT, 48 bit; 03 R82, R109; reset 0. -/
  satCnt : StatCnt := {}
  /-- AST_NAN_CNT, 48 bit; 03 R82, R109; reset 0. -/
  nanCnt : StatCnt := {}
  /-- the four arrays; 03 R77, Table 3-11; reset as AsterArray. -/
  arrays : List AsterArray := [{}, {}, {}, {}]
  /-- history ring, up to 64 frames, newest first; 03 R97; reset empty. -/
  history : List HistFrame := []
  /-- mixture buffers, key context × 2 + buffer; 03 R101; reset all invalid. -/
  mixes : Tbl MixBuf := []
  /-- critic skipped in the running tick (tick status); 03 R105; reset false. -/
  tickCriticSkipped : Bool := false
  deriving DecidableEq, Repr

end Sys2Proof.Machine
end

