-- ==== Sys2Proof/Machine/StVetch.lean ====
section
/-! DEFINITION. State of chapter 08: the VET_ registers, the working entries and the hand-offs. -/

namespace Sys2Proof.Machine

/-- A hand-off entry (08 Table 8-3). -/
structure HEntry where
  index : Nat := 0xFFFFFFFF
  key : Nat := 0xFFFFFFFF
  cost : Nat := 0
  rank : Nat := 0
  valid : Bool := false
  dynOk : Bool := false
  refined : Bool := false
  refineInvalid : Bool := false
  pivotReg : Bool := false
  stopOk : Bool := false
  shifted : Bool := false
  iters : Nat := 0
  cause : Nat := 0
  peakTau : Word := 0
  peakPow : Word := 0
  worstJoint : Nat := 0
  worstWp : Nat := 0
  gnCost0 : Word := 0
  gnCost : Word := 0
  shiftAge : Nat := 0
  form : KnotForm := {}
  stop : Option StopRec := none
  stopNone : Bool := false
  /-- least clearance of the candidate as the die result gave it (09, frame fields) -/
  minClr : Int := 0
  source : Nat := 0
  treeParent : Option Nat := none
  /-- what the fields that no item of the tick formed hold: a free value, which the manual does not state (log entry 33) -/
  blank : Word := 0
  deriving DecidableEq, Repr

/-- STATE of a hand-off header (08 R225). -/
inductive HState where
  | plan | noFeasible | shifted | stopReq | none
  deriving DecidableEq, Repr

def HState.code : HState → Nat
  | .plan => 0
  | .noFeasible => 1
  | .shifted => 2
  | .stopReq => 3
  | .none => 4

/-- A hand-off (08 R225), with what the C stage needs of the tick that wrote it: the world version of the field its plan was
made against, the cut-off that accepted the robot state behind it (09 R241), what its die result says (09 R235; R105), and
whether its robot model is no longer in force (09 R233; 08 Table 8-4). -/
structure HandOff where
  ctx : Nat := 0
  slot : Nat := 0
  state : HState := .none
  iters : Nat := 0
  shiftRun : Nat := 0
  tick : Nat := 0
  entries : List HEntry := []
  version : Nat := 0
  stateTick : Option Nat := none
  infIndex : Nat := 0xFFFFFFFF
  infCost : Nat := 0
  criticSkipped : Bool := false
  stale : Bool := false
  deriving DecidableEq, Repr

/-- Where the Vetch work of a slot stands in the running tick (08 R221, R222). -/
inductive VetPhase where
  | idle | refining | stopping | done | cut
  deriving DecidableEq, Repr

/-- VET_SLOT window and work of a foreground slot (08 Table 8-8). -/
structure VetSlot where
  /-- VET_SLOT_CTX.VALID, 1 bit; 08 Table 8-8; reset 0. -/
  valid : Bool := false
  /-- VET_SLOT_CTX.UNIT, 4 bit; 08 Table 8-8; reset 0. -/
  unit : Nat := 0
  /-- VET_SLOT_CTX.CTX, 10 bit; 08 Table 8-8; reset 0. -/
  ctx : Nat := 0
  /-- VET_SLOT_LEN_F, 32 bit; 08 Table 8-8; reset 0. -/
  lenF : Nat := 0
  /-- VET_SLOT_LEN_IT, 32 bit; 08 Table 8-8; reset 0. -/
  lenIt : Nat := 0
  /-- VET_SLOT_LEN_S, 32 bit; 08 Table 8-8; reset 0. -/
  lenS : Nat := 0
  /-- VET_SLOT_DEADLINE, 32 bit; 08 Table 8-8; reset 0. -/
  deadline : Nat := 0
  /-- VET_SLOT_END, 32 bit; 08 Table 8-8; reset 0. -/
  endAc : Nat := 0
  /-- VET_SLOT_RESULT.SHIFT_RUN, 8 bit; 08 R224, Table 8-8; reset 0. -/
  shiftRun : Nat := 0
  /-- VET_SLOT_RESULT.STATE, 3 bit; 08 Table 8-8; reset 0. -/
  state : Nat := 0
  /-- VET_SLOT_RESULT.CUT_ITER, 8 bit; 08 Table 8-8; reset 0. -/
  cutIter : Nat := 0
  /-- VET_SLOT_RESULT.ITERS, 8 bit; 08 Table 8-8; reset 0. -/
  iters : Nat := 0
  /-- phase of the slot's items in the running tick; 08 R221; reset idle. -/
  phase : VetPhase := .idle
  /-- ac at which the slot's next item starts; 08 R221; reset 0. -/
  nextAc : Nat := 0
  /-- working entries of the running tick, ranks 0 to 7; 08 R213; reset none. -/
  work : List HEntry := []
  /-- rank of the entry under refinement; 08 R214; reset none. -/
  refRank : Option Nat := none
  /-- iterations started in the running tick; 08 R218; reset 0. -/
  itersTried : Nat := 0
  /-- iteration abandoned in the running tick; 08 R222; reset 0. -/
  cutNow : Nat := 0
  /-- the hand-off that the slot's context wrote last (Vetch hand-off area); 08 R225; reset none. -/
  handoff : Option HandOff := none
  deriving DecidableEq, Repr

/-- Chapter 08: Vetch registers and state. -/
structure VetchSt where
  /-- VET_CTRL.ROT_EN, 1 bit; 08 Table 8-7; reset 1. -/
  rotEn : Bool := true
  /-- VET_CTRL.SHIFT_LIMIT as written, 8 bit; 08 Table 8-7; reset 0x04. -/
  shiftLimit : Byte := 4
  /-- VET_STAT.FAILED_MASK, 5 bit; 08 Table 8-7; reset 0. -/
  failedMask : BitVec 5 := 0
  /-- units found failed and waiting for the next tick edge, 5 bit; 08 R206; reset 0. -/
  failWaiting : BitVec 5 := 0
  /-- VET_STAT.STOP_NONE, 1 bit, W1C; 08 Table 8-7; reset 0. -/
  stopNone : Bool := false
  /-- VET_STAT.UNIT_FAILED, 1 bit, W1C; 08 Table 8-7; reset 0. -/
  unitFailed : Bool := false
  /-- VET_STAT.STOP_REQ, 1 bit, W1C; 08 Table 8-7; reset 0. -/
  stopReq : Bool := false
  /-- VET_STAT.OVERFLOW, 1 bit, W1C; 08 Table 8-7; reset 0. -/
  overflowF : Bool := false
  /-- VET_STAT.CUT, 1 bit, W1C; 08 Table 8-7; reset 0. -/
  cutF : Bool := false
  /-- VET_STAT.SHIFTED, 1 bit, W1C; 08 Table 8-7; reset 0. -/
  shiftedF : Bool := false
  /-- VET_STAT.PIVOT_REG, 1 bit, W1C; 08 Table 8-7; reset 0. -/
  pivotReg : Bool := false
  /-- VET_MAP.PHYS_v, physical unit of logical units 0 to n_V − 1, 3 bit each; 08 R205, Table 8-7; reset v. -/
  phys : List Nat := [0, 1, 2, 3]
  /-- VET_MAP.SPARE, 3 bit; 08 Table 8-7; reset 0x4. -/
  spare : Option Nat := some 4
  /-- logical unit whose turn the next swap is; 08 R205; reset 0. -/
  nextSwap : Nat := 0
  /-- VET_PIVOT_CNT, 48 bit; 08 R216; reset 0. -/
  pivotCnt : StatCnt := {}
  /-- VET_SHIFT_CNT, 48 bit; 08 R227; reset 0. -/
  shiftCnt : StatCnt := {}
  /-- VET_CUT_CNT, 48 bit; 08 R222; reset 0. -/
  cutCnt : StatCnt := {}
  /-- slot windows and hand-offs, 16; 08 Table 8-8; reset as VetSlot. -/
  slots : Tbl VetSlot := []
  deriving DecidableEq, Repr

/-- The bytes of a hand-off entry (Table 8-3) for J joints. -/
def HEntry.bytes (e : HEntry) : List Byte :=
  toLe 4 (if e.valid then e.index else 0xFFFFFFFF) ++ toLe 4 e.key ++ toLe 4 e.cost ++
  [BitVec.ofNat 8 e.rank,
   BitVec.ofNat 8 (b2n e.valid + 2 * b2n e.dynOk + 4 * b2n e.refined + 8 * b2n e.refineInvalid +
     16 * b2n e.pivotReg + 32 * b2n e.stopOk + 64 * b2n e.shifted),
   BitVec.ofNat 8 e.iters, BitVec.ofNat 8 e.cause] ++
  toLe 4 e.peakTau.toNat ++ toLe 4 e.peakPow.toNat ++ toLe 4 (e.worstJoint + 256 * e.worstWp) ++
  toLe 4 e.gnCost0.toNat ++ toLe 4 e.gnCost.toNat ++ toLe 4 e.shiftAge ++ toLe 8 e.form.ts ++ toLe 16 0 ++
  toLe 4 ((e.stop.map (·.aStop.toNat)).getD e.blank.toNat) ++ toLe 4 ((e.stop.map (·.tStop)).getD e.blank.toNat) ++
  toLe 4 ((e.stop.map (·.tauB)).getD e.blank.toNat) ++
  [BitVec.ofNat 8 ((e.stop.map (·.ladder)).getD e.blank.toNat), BitVec.ofNat 8 (b2n e.stopOk + 2 * b2n e.stopNone), 0, 0] ++
  toLe 4 ((e.stop.map (·.peak.toNat)).getD e.blank.toNat) ++ toLe 12 0 ++
  (e.form.anchor :: e.form.knots).flatMap fun v => v.flatMap fun x => toLe 4 (unS 32 x)

/-- The 64 bytes of a hand-off header (R225). -/
def HandOff.header (h : HandOff) : List Byte :=
  toLe 2 h.ctx ++ [BitVec.ofNat 8 h.slot, BitVec.ofNat 8 h.state.code, BitVec.ofNat 8 h.iters,
    BitVec.ofNat 8 h.shiftRun, 0, 0] ++ toLe 8 h.tick ++ toLe 48 0

end Sys2Proof.Machine
end

