-- ==== Sys2Proof/Machine/CommitEval.lean ====
section
/-! DEFINITION. The commit (chapter 09) over plain data: segment and stop checks, the causes of a stop, trajectory
frames and the held stop. -/

namespace Sys2Proof.Machine

/-! ### The check jobs (R229 to R231) -/

/-- n_J = ceil(8 × N_lim / 64) (R229). -/
def jobPositions (nLim : Nat) : Nat := ceilDiv (8 * nLim) 64

/-- H_c, the commit length (R229). -/
def commitLength (nLim qMax : Nat) : Nat := 960 + jobPositions nLim * 2 * qMax + 1152

/-- Start ac of job j (R229). -/
def jobStart (qMax j : Nat) : Nat := 960 + (j / 64) * 2 * qMax

/-- Start ac of the decision item (R229). -/
def decisionStart (nLim qMax : Nat) : Nat := 960 + jobPositions nLim * 2 * qMax + 128

/-- Plan time of stop waypoint i, µs (R231). -/
def stopTau (tauB tStop w i : Nat) : Nat := tauB + tStop * (2 * w * (i + 1) - (i + 1) * (i + 1)) / (2 * w * w)

/-- Planned time of stop waypoint i, ns (R231). -/
def stopTime (ts tauB tStop w i : Nat) : Nat := ts + (tauB + (i + 1) * tStop / w) * 1000

/-- The result of a check: whether it passes, and the least clearance. -/
structure CheckRes where
  pass : Bool := false
  clr : Int := 0
  ce : Nat := 0
  ue : Nat := 0
  posSat : Nat := 0
  badIndex : Nat := 0
  fserr : Bool := false
  deriving DecidableEq, Repr

/-- The segment check of a knot form: a live evaluation, any cause fails (R230). -/
def segCheck (v : EvalEnv) (k : KnotForm) : CheckRes :=
  let e := v.eval k
  { pass := e.feas, clr := e.least.c, ce := e.ce, ue := e.ue, posSat := e.posSat, badIndex := e.badIndex,
    fserr := e.fserr }

/-- The stop check: waypoints along the stop form, causes CLR, SELF and FSERR only (R231). -/
def stopCheck (v : EvalEnv) (k : KnotForm) (tauB tStop : Nat) : CheckRes :=
  let geo := (List.range v.w).map fun i =>
    wpGeom v.model v.root v.s (k.eval v.model.joints (stopTau tauB tStop v.w i : Nat) 1)
  let qs := geo.zipIdx.flatMap fun (g : WpGeom × Nat) =>
    (List.range v.s).map (v.query (stopTime k.ts tauB tStop v.w g.2) g.2 g.1.centres)
  let used := qs.filter fun q => !q.pad
  let e : CandEval := { queries := qs }
  let bad := (used.any fun q => decide (q.c < 0)) || (geo.any fun g => v.model.pairs.any (pairHit v.model g.centres)) ||
    v.mode == .invalid || used.any fun q => q.res.fserr
  { pass := !bad, clr := e.least.c, ce := e.ce, ue := e.ue,
    posSat := sumN (geo.map (·.sats)), badIndex := e.badIndex,
    fserr := v.mode == .invalid || used.any fun q => q.res.fserr }

/-! ### Hollyhock (R238, R239) -/

/-- RECORD states (Table 9-3). -/
inductive RecState where
  | empty | held | stopping | atRest
  deriving DecidableEq, Repr

def RecState.code : RecState → Nat
  | .empty => 0
  | .held => 1
  | .stopping => 2
  | .atRest => 3

/-- A Hollyhock record (R238) with the candidate's identity that its frames carry. -/
structure HolRecord where
  state : RecState := .empty
  form : KnotForm := {}
  index : Nat := 0xFFFFFFFF
  cost : Nat := 0
  tauB : Nat := 0
  aStop : Word := 0
  tStop : Nat := 0
  wvPlan : Nat := 0
  wvCheck : Nat := 0
  stopClr : Int := 0
  /-- cut-off that accepted the robot state behind the plan (R241) -/
  stateTick : Option Nat := none
  deriving DecidableEq, Repr

/-- STOP_T0 = T_S + TAU_B × 1,000 (Table 9-2). -/
def HolRecord.stopT0 (r : HolRecord) : Nat := r.form.ts + r.tauB * 1000

/-- STOP_END = STOP_T0 + T_STOP × 1,000 ns (R238). -/
def HolRecord.stopEnd (r : HolRecord) : Nat := r.stopT0 + r.tStop * 1000

/-- The rest configuration: the knot form at TAU_B + T_STOP / 2 (R231, R239). -/
def HolRecord.rest (js : List Joint) (r : HolRecord) : JVec := r.form.eval js (2 * r.tauB + r.tStop : Nat) 2

/-- The configuration of the stop manoeuvre at an instant, ns (R125, R237): before STOP_T0 the plan, then
TAU_B + (u − a u² / 2), at rest from STOP_END on. With a = 1 / T_STOP the elapsed plan time in µs is
e − e² / (2 T_STOP), e the µs since STOP_T0. -/
def HolRecord.configAt (js : List Joint) (r : HolRecord) (t : Nat) : JVec :=
  if t < r.stopT0 then r.form.eval js ((t : Int) - r.form.ts) 1000
  else if r.stopEnd ≤ t then r.rest js
  else
    -- e = n / 1000 µs; e − e²/(2T) = (2 T n × 1000 − n²) / (2 T × 10^6)
    let n := t - r.stopT0
    let d := 2 * r.tStop * 1000000
    r.form.eval js (((r.tauB * d + (2000 * r.tStop * n - n * n) : Nat)) : Int) d

/-- The record's state at an egress instant (Table 9-3). -/
def HolRecord.stateAt (r : HolRecord) (tx : Nat) : RecState :=
  match r.state with
  | .empty => .empty
  | .atRest => .atRest
  | .held => if r.stopEnd ≤ tx then .atRest else .held
  | .stopping => if r.stopEnd ≤ tx then .atRest else .stopping

/-! ### The trajectory frame (R236) -/

/-- A trajectory payload (Table 9-2); KIND 0 PLAN, 1 STOP, 2 HOLD. -/
structure TrajFrame where
  ctx : Nat := 0
  kind : Nat := 2
  rank : Nat := 0xFF
  status : Status := .ok
  flags : Nat := 0
  tick : Nat := 0
  wvPlan : Nat := 0
  wvCheck : Nat := 0
  age : Nat := 0
  inputAge : Nat := 0
  j : Nat := 0
  p : Nat := 0
  index : Nat := 0xFFFFFFFF
  cost : Nat := 0
  dc : Nat := 0
  ts : Nat := 0
  tauB : Nat := 0
  aStop : Word := 0
  tStop : Nat := 0
  segClr : Int := 0
  stopClr : Int := 0
  infIndex : Nat := 0xFFFFFFFF
  reasons : Nat := 0
  infCost : Nat := 0
  stopT0 : Nat := 0
  anchor : JVec := []
  knots : List JVec := []
  deriving DecidableEq, Repr

/-- The bytes of a trajectory payload (Table 9-2). -/
def TrajFrame.bytes (f : TrajFrame) : List Byte :=
  toLe 2 f.ctx ++ [BitVec.ofNat 8 f.kind, BitVec.ofNat 8 f.rank] ++ toLe 2 f.status.code ++ toLe 2 f.flags ++
  toLe 8 f.tick ++ toLe 8 f.wvPlan ++ toLe 8 f.wvCheck ++
  [BitVec.ofNat 8 f.age, BitVec.ofNat 8 f.inputAge, BitVec.ofNat 8 f.j, BitVec.ofNat 8 f.p] ++
  toLe 4 f.index ++ toLe 4 f.cost ++ toLe 4 f.dc ++ toLe 8 f.ts ++ toLe 4 f.tauB ++ toLe 4 f.aStop.toNat ++
  toLe 4 f.tStop ++ toLe 4 (unS 32 f.segClr) ++ toLe 4 (unS 32 f.stopClr) ++ toLe 4 f.infIndex ++
  toLe 4 f.reasons ++ toLe 4 f.infCost ++ toLe 8 f.stopT0 ++
  (f.anchor :: f.knots).flatMap fun v => v.flatMap fun x => toLe 4 (unS 32 x)

/-! ### Causes (R234) -/

/-- REASONS bits that hold for a slot (Table 9-1). -/
structure Causes where
  estop : Bool := false
  frozen : Bool := false
  truncated : Bool := false
  stopReq : Bool := false
  noResult : Bool := false
  stale : Bool := false
  noFeasible : Bool := false
  lateBranch : Bool := false
  shifted : Bool := false
  empty : Bool := false
  drain : Bool := false
  noHandoff : Bool := false
  deriving DecidableEq, Repr

/-- Bits [11:0] of REASONS (Table 9-1). -/
def Causes.bits (c : Causes) : Nat :=
  b2n c.estop + 2 * b2n c.frozen + 4 * b2n c.truncated + 8 * b2n c.stopReq + 16 * b2n c.noResult +
  32 * b2n c.stale + 64 * b2n c.noFeasible + 128 * b2n c.lateBranch + 256 * b2n c.shifted + 512 * b2n c.empty +
  1024 * b2n c.drain + 2048 * b2n c.noHandoff

/-- Whether a cause of precedence 1 to 5 other than NO_FEASIBLE holds (R233). -/
def Causes.stops (c : Causes) : Bool :=
  c.estop || c.frozen || c.truncated || c.stopReq || c.noResult || c.lateBranch || c.stale || c.noHandoff

/-- STATUS: the code of the cause with the lowest precedence number (R234). -/
def Causes.status (c : Causes) : Status :=
  if c.estop then .estop
  else if c.frozen then .frozen
  else if c.truncated || c.stopReq || c.noResult || c.lateBranch then .timeoutStop
  else if c.stale then .stale
  else if c.noFeasible then .noFeasible
  else if c.empty || c.noHandoff then .pending
  else if c.shifted then .shifted
  else .ok

/-- What the check of an entry gave (R232): whether its job ran, and both results. -/
structure EntryCheck where
  ran : Bool := false
  seg : CheckRes := {}
  stop : CheckRes := {}
  deriving DecidableEq, Repr

/-- Conditions of R232 other than the instant. -/
def entrySound (e : HEntry) (c : EntryCheck) : Bool :=
  e.valid && e.dynOk && e.stopOk && c.ran && c.seg.pass && c.stop.pass

/-- The instant condition of R232: t_x ≤ T_S + GRACE_NS. -/
def entryInTime (e : HEntry) (tx grace : Nat) : Bool := decide (tx ≤ e.form.ts + grace)

/-- R232. -/
def entryPasses (e : HEntry) (c : EntryCheck) (tx grace : Nat) : Bool := entrySound e c && entryInTime e tx grace

/-- REJECT: bit r for a valid entry that does not pass (R233). -/
def rejectBits (es : List HEntry) (cs : List EntryCheck) (tx grace : Nat) : Nat :=
  sumN (es.zipIdx.map fun (e : HEntry × Nat) =>
    if e.1.valid && !entryPasses e.1 (cs.getD e.2 {}) tx grace then 2 ^ e.2 else 0)

/-- The first entry in rank order that passes (R233). -/
def firstPass (es : List HEntry) (cs : List EntryCheck) (tx grace : Nat) : Option (Nat × HEntry) :=
  (es.zipIdx.find? fun (e : HEntry × Nat) => entryPasses e.1 (cs.getD e.2 {}) tx grace).map fun p => (p.2, p.1)

/-- LATE_BRANCH: some entry fails only the instant, and none passes (Table 9-1). -/
def lateBranch (es : List HEntry) (cs : List EntryCheck) (tx grace : Nat) : Bool :=
  (firstPass es cs tx grace).isNone &&
  es.zipIdx.any fun (e : HEntry × Nat) => entrySound e.1 (cs.getD e.2 {}) && !entryInTime e.1 tx grace

/-- Whether every failing valid entry failed on the instant alone; false where there is none (Table 9-1). -/
def allLateOnly (es : List HEntry) (cs : List EntryCheck) : Bool :=
  let vs := es.zipIdx.filter fun (e : HEntry × Nat) => e.1.valid
  !vs.isEmpty && vs.all fun (e : HEntry × Nat) => entrySound e.1 (cs.getD e.2 {})

/-- The held stop's frame fields from a record (R239, Table 9-4), the header fields given; `state` is the record's
state at the egress instant, `pos` the joint positions for an EMPTY record. -/
def heldFrame (base : TrajFrame) (js : List Joint) (r : HolRecord) (state : RecState) (pos : JVec) (p tx : Nat) :
    TrajFrame :=
  match state with
  | .empty =>
    { base with
      kind := 2, rank := 0xFF, wvPlan := 0, wvCheck := 0, index := 0xFFFFFFFF, cost := 0, ts := tx,
      tauB := 0, aStop := 0, tStop := 0, segClr := 0, stopClr := 0, stopT0 := tx,
      anchor := pos, knots := List.replicate p pos }
  | .atRest =>
    let c := r.rest js
    { base with
      kind := 2, rank := 0xFF, wvPlan := r.wvPlan, wvCheck := r.wvCheck, j := c.length,
      p := r.form.knots.length, index := r.index, cost := r.cost, dc := r.form.dc, ts := r.form.ts, tauB := r.tauB,
      aStop := r.aStop, tStop := 0, segClr := 0, stopClr := r.stopClr, stopT0 := r.stopT0,
      anchor := c, knots := r.form.knots.map fun _ => c }
  | _ =>
    { base with
      kind := 1, rank := 0xFF, wvPlan := r.wvPlan, wvCheck := r.wvCheck, j := r.form.anchor.length,
      p := r.form.knots.length, index := r.index, cost := r.cost, dc := r.form.dc, ts := r.form.ts, tauB := r.tauB,
      aStop := r.aStop, tStop := r.tStop, segClr := 0, stopClr := r.stopClr, stopT0 := r.stopT0,
      anchor := r.form.anchor, knots := r.form.knots }

/-- The PLAN frame of an entry (R233, R236), the header fields given. -/
def planFrame (base : TrajFrame) (rank : Nat) (e : HEntry) (c : EntryCheck) (wvPlan wvCheck : Nat) : TrajFrame :=
  let st := e.stop.getD {}
  { base with
    kind := 0, rank := rank, wvPlan := wvPlan, wvCheck := wvCheck, j := e.form.anchor.length,
    p := e.form.knots.length, index := e.index, cost := e.cost, dc := e.form.dc, ts := e.form.ts, tauB := st.tauB,
    aStop := st.aStop, tStop := st.tStop, segClr := c.seg.clr, stopClr := c.stop.clr,
    stopT0 := e.form.ts + st.tauB * 1000, anchor := e.form.anchor, knots := e.form.knots }

/-- The record a transmitted PLAN leaves (R238). -/
def TrajFrame.toRecord (f : TrajFrame) (stateTick : Option Nat := none) : HolRecord :=
  { state := .held, form := { ts := f.ts, dc := f.dc, anchor := f.anchor, knots := f.knots }, index := f.index,
    cost := f.cost, tauB := f.tauB, aStop := f.aStop, tStop := f.tStop, wvPlan := f.wvPlan, wvCheck := f.wvCheck,
    stopClr := f.stopClr, stateTick := stateTick }

end Sys2Proof.Machine
end

