-- ==== Sys2Proof/Machine/StCommit.lean ====
section
/-! DEFINITION. State of chapter 09: Hollyhock, Yarrow, ESTOP and the frames of the tick. -/

namespace Sys2Proof.Machine

/-- A frame of the tick (09 R233, R243; 17 R437, R438): the STOP prepared beside a PLAN, the ports that still have to send
it, whether it counts as transmitted, and the COUNTER of its first part. -/
structure QueuedFrame where
  slot : Nat
  frame : TrajFrame
  prepared : Option TrajFrame := none
  /-- cut-off that accepted the robot state behind a PLAN (09 R241) -/
  stateTick : Option Nat := none
  todo : List Nat := []
  sent : Bool := false
  counter : Option Half := none
  deriving DecidableEq, Repr

/-- HOL_SLOT and YAR_SLOT windows and the record of a slot (09 Table 9-10). -/
structure HolSlot where
  /-- HOL_SLOT_STATE.VALID, 1 bit; 09 Table 9-10; reset 0. -/
  valid : Bool := false
  /-- HOL_SLOT_STATE.KIND, 2 bit; 09 Table 9-10; reset 0. -/
  kind : Nat := 0
  /-- HOL_SLOT_STATE.RECORD, 2 bit; 09 Table 9-10; reset 0. -/
  recState : RecState := .empty
  /-- HOL_SLOT_STATE.DRAIN, 1 bit; 09 Table 9-10; reset 0. -/
  drain : Bool := false
  /-- HOL_SLOT_STATE.RANK, 8 bit; 09 Table 9-10; reset 0xFF. -/
  rank : Nat := 0xFF
  /-- HOL_SLOT_STATE.STATUS, 16 bit; 09 Table 9-10; reset 0. -/
  status : Nat := 0
  /-- HOL_SLOT_REASONS, 32 bit; 09 Table 9-10; reset 0. -/
  reasons : Nat := 0
  /-- HOL_SLOT_INDEX, 32 bit; 09 Table 9-10; reset 0xFFFF_FFFF. -/
  index : Nat := 0xFFFFFFFF
  /-- HOL_SLOT_T0, 64 bit; 09 Table 9-10; reset 0. -/
  t0 : Latched64 := {}
  /-- HOL_SLOT_END, 64 bit; 09 Table 9-10; reset 0. -/
  endT : Latched64 := {}
  /-- HOL_SLOT_VER, 64 bit; 09 Table 9-10; reset 0. -/
  ver : Latched64 := {}
  /-- YAR_SLOT_AGE, 4 × 8 bit: MAX, A_CHECK, A_STATE, A_PLAN; 09 Table 9-10; reset 0. -/
  ages : List Nat := [0, 0, 0, 0]
  /-- the Hollyhock record; 09 R238; reset EMPTY. -/
  record : HolRecord := {}
  /-- the segment emitted in the running tick was a plan (R125); 04 R125; reset false. -/
  emittedPlan : Bool := false
  /-- the context was foreground in the slot in the tick before; 09 R234; reset false. -/
  wasFg : Bool := false
  /-- results of the running tick's check jobs, ranks 0 to 7; 09 R229; reset none. -/
  checks : List EntryCheck := []
  /-- the final HOLD of a drain has been emitted: the slot is released at the next tick edge; 09 R240; reset false. -/
  drainDone : Bool := false
  deriving DecidableEq, Repr

/-- Chapter 09: Hollyhock and Yarrow registers and state. -/
structure CommitSt where
  /-- HOL_CTRL.SAFE_MASK, 16 bit; 09 Table 9-9; reset 0xFFFF. -/
  safeMask : Half := 0xFFFF
  /-- HOL_STAT.FROZEN, 1 bit, W1C; 09 Table 9-9; reset 0. -/
  frozenF : Bool := false
  /-- HOL_STAT.TIMEOUT_STOP, 1 bit, W1C; 09 Table 9-9; reset 0. -/
  timeoutF : Bool := false
  /-- HOL_STAT.NO_FEASIBLE, 1 bit, W1C; 09 Table 9-9; reset 0. -/
  noFeasF : Bool := false
  /-- HOL_STAT.LATE_BRANCH, 1 bit, W1C; 09 Table 9-9; reset 0. -/
  lateF : Bool := false
  /-- HOL_STAT.ESTOP_SEEN, 1 bit, W1C; 09 Table 9-9; reset 0. -/
  estopSeen : Bool := false
  /-- HOL_STAT.ESTOP_LATCH, 1 bit; 09 R243, Table 9-9; reset 0. -/
  estopLatch : Bool := false
  /-- HOL_STAT.ESTOP_ACTIVE, 1 bit; 09 R242, Table 9-9; reset 0. -/
  estopActive : Bool := false
  /-- HOL_CFG.GRACE_NS as written, 16 bit; 09 Table 9-9; reset 0x1388. -/
  graceNs : Half := 0x1388
  /-- device time of the last low sample of ESTOP_N, ns (HOL_ESTOP_TIMER counts from it); 09 R242; reset 0. -/
  lastLow : Nat := 0
  /-- HOL_ESTOP_CNT, 48 bit; 09 R247; reset 0. -/
  estopCnt : StatCnt := {}
  /-- HOL_STOPFRAME_CNT, 48 bit; 09 R247; reset 0. -/
  stopFrameCnt : StatCnt := {}
  /-- an accepted REARM waits for the next tick edge; 09 R244; reset false. -/
  rearm : Bool := false
  /-- YAR_CFG.AGE_LIMIT, 4 bit; 09 Table 9-9; reset from bundle (0 until one is active, DESIGN CHOICE, log entry 63). -/
  ageLimit : Nat := 0
  /-- YAR_STAT.STALE, 1 bit, W1C; 09 Table 9-9; reset 0. -/
  staleF : Bool := false
  /-- YAR_STALE_CNT, 48 bit; 09 R247; reset 0. -/
  staleCnt : StatCnt := {}
  /-- slot windows and records, 16; 09 Table 9-10; reset as HolSlot. -/
  slots : Tbl HolSlot := []
  /-- frames of the running tick; 09 R233, R243; reset none. -/
  frames : List QueuedFrame := []
  /-- the egress-select instant of the running tick has passed; 09 R243; reset false. -/
  selected : Bool := false
  /-- the last decision item queued a STOP or HOLD of a masked slot, or none has run since READY: with other state it
  gives HOL_STAT.SAFE_STATE, the SAFE_STATE_N pin, 1 bit; 09 R245, Table 9-9; reset 1 (pin driven low). -/
  safeFrames : Bool := true
  /-- egress of trajectory frames is frozen; 09 R245, 14 R361; reset false. -/
  egressFrozen : Bool := false
  /-- a freeze touching the foreground pipeline was recorded in the running tick; 09 R234; reset false. -/
  freezeNow : Bool := false
  /-- a freeze touching the foreground pipeline was recorded in the tick before; 09 R234; reset false. -/
  freezePrev : Bool := false
  deriving DecidableEq, Repr

end Sys2Proof.Machine
end

