-- ==== Sys2Proof/Machine/CornflowerGrid.lean ====
section
/-! DEFINITION. Wavefront cost-to-go (chapter 06): blocked cells, goal cells, rings, resets and shifts. The distance
transform itself gives exactly the values of 02 R63 to R65 (06 R171 to R173), which `FieldInputs.coarse` and
`FieldInputs.brick` state. -/

namespace Sys2Proof.Machine

/-- A cost-to-go grid: 65,536 values in cell index order; a value beyond the list's end is 0xFFFF (R176). -/
abbrev Grid := List Nat

def Grid.at (g : Grid) (c : Nat) : Nat := g.getD c 0xFFFF

/-- What a ring of one context reads beside the source grid (R176). -/
structure RingParams where
  step1 : Nat := 10
  step2 : Nat := 14
  step3 : Nat := 17
  blocked : List Bool := []
  goals : List Bool := []
  soft : List Nat := []
  deriving DecidableEq, Repr

def RingParams.step (r : RingParams) (d : Nat) : Nat := if d = 1 then r.step1 else if d = 2 then r.step2 else r.step3

/-- The 26 neighbours of a cell inside the grid, each with the number of indices that differ (R177). -/
def neighbours (c : Nat) : List (Nat × Nat) :=
  let p := cellOf c
  ([-1, 0, 1] : List Int).flatMap fun dz => ([-1, 0, 1] : List Int).flatMap fun dy =>
    ([-1, 0, 1] : List Int).filterMap fun dx =>
      let n : V3 := ⟨p.x + dx, p.y + dy, p.z + dz⟩
      let d := dx.natAbs + dy.natAbs + dz.natAbs
      if d ≠ 0 && fieldCells.has n then some (cellIndex n, d) else none

/-- One cell of a ring (R177). -/
def ringCell (r : RingParams) (v : Grid) (c : Nat) : Nat :=
  if r.blocked.getD c false then 0xFFFF
  else if r.goals.getD c false then 0
  else (neighbours c).foldl (fun best n =>
    let x := v.at n.1
    if x ≠ 0xFFFF then min best (min 0xFFFE (x + r.step n.2 + r.soft.getD c 0)) else best) 0xFFFF

/-- One ring: every cell reads the source grid (R177). -/
def ring (r : RingParams) (v : Grid) : Grid := (List.range 65536).map (ringCell r v)

/-- `n` rings; the second component is the number of cells the last one changed. -/
def ringsRun : Nat → RingParams → Grid → Grid × Nat
  | 0, _, v => (v, 0)
  | 1, r, v =>
    let w := ring r v
    (w, ((List.range 65536).filter fun c => w.at c != v.at c).length)
  | n + 2, r, v => ringsRun (n + 1) r (ring r v)

/-- The reset grid: goals 0, every other cell 0xFFFF (R179). -/
def resetGrid (goals : List Bool) : Grid := (List.range 65536).map fun c => if goals.getD c false then 0 else 0xFFFF

/-- A grid shifted by a whole-cell move of the origin: the cell c of the new field is the cell c + d of the old;
cells it did not cover read 0xFFFF (R179). -/
def shiftGrid (d : V3) (v : Grid) : Grid :=
  (List.range 65536).map fun c =>
    let o := (cellOf c).add d
    if fieldCells.has o then v.at (cellIndex o) else 0xFFFF

/-- Field cells a goal box covers on one axis (R180): the rule of R61 at coarse-cell size. -/
def goalSpan (lo hi : Int) : Int × Int := (lo / 2560, max (lo / 2560) (-((-hi) / 2560) - 1))

/-- Whether a goal box meets a field cell (R176, R180). -/
def goalMeets (origin : V3) (b : Box) (c : Nat) : Bool :=
  let m := (cellOf c).add (origin.fdiv 2560)
  let sx := goalSpan b.lo.x b.hi.x
  let sy := goalSpan b.lo.y b.hi.y
  let sz := goalSpan b.lo.z b.hi.z
  (Box.mk ⟨sx.1, sy.1, sz.1⟩ ⟨sx.2, sy.2, sz.2⟩).has m

/-- The goal cells of a context (R176). -/
def goalCells (origin : V3) (boxes : List Box) : List Bool :=
  (List.range 65536).map fun c => boxes.any fun b => goalMeets origin b c

/-- The blocked cells of a context: the least coarse value over layers 0 to CTG_LAYERS − 1 below CTG_CLR, or soft
cost 0xFF (R176). -/
def blockedCells (coarse : List Nat) (layers clr : Nat) (soft : List Nat) : List Bool :=
  (List.range 65536).map fun c =>
    decide (((coarse.drop (c * 8)).take layers).foldl min 255 < clr) || soft.getD c 0 == 0xFF

/-- A full recompute: rings from the reset grid until one changes no cell, or `fuel` of them; the grid, the rings
done, and whether it converged (R181). -/
def fullRecompute : Nat → Nat → RingParams → Grid → Grid × Nat × Bool
  | 0, done, _, v => (v, done, false)
  | fuel + 1, done, r, v =>
    let w := ring r v
    if (List.range 65536).all fun c => w.at c == v.at c then (w, done + 1, true)
    else fullRecompute fuel (done + 1) r w

/-- R175: whether the transform and the wavefront fit their window; `sc` is the start, `asm` the start of field
assembly and `fin` the end of the window. -/
def cornflowerFits (sc asm fin rings : Nat) : Bool :=
  decide (sc + 248832 ≤ asm) && decide (sc + 147456 + 4 * rings * 2048 ≤ fin)

end Sys2Proof.Machine
end

