-- ==== Sys2Proof/Machine/StCornflower.lean ====
section
/-! DEFINITION. State of chapter 06: the CFL_ registers, the published grids and the full recompute. -/

namespace Sys2Proof.Machine

/-- CFL_SLOT window and grids of a foreground slot (06 Table 6-4). CFL_SLOT_PARAM and CFL_SLOT_GOALS read the context record that
the slot holds for the tick (`FgSlot.rec'`), and 0 where it holds none. -/
structure CflSlot where
  /-- CFL_SLOT_CTX.VALID, 1 bit; 06 Table 6-4; reset 0. -/
  valid : Bool := false
  /-- CFL_SLOT_CTX.CTX, 10 bit; 06 Table 6-4; reset 0. -/
  ctx : Nat := 0
  /-- CFL_SLOT_CTX.PUB_VALID, 1 bit; 06 Table 6-4; reset 0. -/
  pubValid : Bool := false
  /-- CFL_SLOT_CTX.PUBSEL, 1 bit; 06 Table 6-4; reset 0. -/
  pubSel : Bool := false
  /-- published buffer 0, 65,536 × 16 bit; 06 R178; reset none. -/
  buf0 : Grid := []
  /-- published buffer 1, 65,536 × 16 bit; 06 R178; reset none. -/
  buf1 : Grid := []
  /-- clusters whose replica of buffer 0 was lost at a switch-off and reads 0; 15 R385, 16 R415; reset none. -/
  lost0 : List Nat := []
  /-- clusters whose replica of buffer 1 was lost at a switch-off and reads 0; 15 R385, 16 R415; reset none. -/
  lost1 : List Nat := []
  /-- the buffer the engines of the running tick read, PUBSEL at its ac 0, none where nothing is published; 06 R178; reset
  none. -/
  engSel : Option Bool := none
  /-- ring 1 reads the reset grid, until a grid is published (log entry 27); 06 R179; reset false. -/
  needReset : Bool := false
  /-- grid of a completed WAVEFRONT_FULL adopted as the source of ring 1 in this tick; 06 R181; reset none. -/
  adopted : Option Grid := none
  /-- whole-cell move of the origin not yet applied to the published buffer; 06 R179; reset 0. -/
  shift : V3 := {}
  /-- CFL_SLOT_PUB, tick of the published grid, 64 bit; 06 Table 6-4; reset 0. -/
  pub : Latched64 := {}
  /-- CFL_SLOT_CHANGED.CELLS, 17 bit; 06 Table 6-4; reset 0. -/
  changed : Nat := 0
  /-- CFL_SLOT_PEEK.CELL, 16 bit; 06 Table 6-4; reset 0. -/
  peekCell : Half := 0
  deriving DecidableEq, Repr

/-- A running or completed WAVEFRONT_FULL (06 R181). -/
structure FullRun where
  handle : Nat
  ctx : Nat
  slot : Nat
  /-- tick in which it started -/
  start : Nat
  params : RingParams
  /-- origin of the field whose blocked map was copied -/
  origin : V3
  grid : Grid
  ringsDone : Nat := 0
  done : Bool := false
  /-- the last ring changed no cell -/
  converged : Bool := false
  deriving DecidableEq, Repr

/-- Chapter 06: Cornflower registers and state. -/
structure CornflowerSt where
  /-- CFL_CTRL.WF_EN as written, 1 bit; 06 Table 6-3; reset 1. -/
  wfEn : Bool := true
  /-- CFL_STAT.FAILED_MASK, 4 bit; 06 Table 6-3; reset 0. -/
  failedMask : BitVec 4 := 0
  /-- Cornflowers found failed and waiting for the next tick edge, 4 bit; 06 R183; reset 0. -/
  failWaiting : BitVec 4 := 0
  /-- CFL_STAT.UNIT_FAILED, 1 bit, W1C; 06 Table 6-3; reset 0. -/
  unitFailed : Bool := false
  /-- CFL_STAT.NOT_CONVERGED, 1 bit, W1C; 06 Table 6-3; reset 0. -/
  notConverged : Bool := false
  /-- CFL_STAT.GOAL_BLOCKED, 1 bit, W1C; 06 Table 6-3; reset 0. -/
  goalBlocked : Bool := false
  /-- CFL_STAT.CTG_RESET, 1 bit, W1C; 06 Table 6-3; reset 0. -/
  ctgReset : Bool := false
  /-- CFL_STAT.CTG_HELD, 1 bit, W1C; 06 Table 6-3; reset 0. -/
  ctgHeld : Bool := false
  /-- CFL_STAT.EDT_INCOMPLETE, 1 bit, W1C; 06 Table 6-3; reset 0. -/
  edtIncomplete : Bool := false
  /-- CFL_LEN_EDT, 32 bit; 06 Table 6-3; reset 0x0003_CC00. -/
  lenEdt : Word := 0x0003_CC00
  /-- slot windows and grids, 16; 06 Table 6-4; reset as CflSlot. -/
  slots : Tbl CflSlot := []
  /-- full recomputes running, or completed and waiting for the tick edge, oldest first (CFL_FULL shows the first that
  runs); 06 R181, Table 6-3; reset none. -/
  full : List FullRun := []
  /-- the wavefront item of the tick has run (a truncation before it holds the publish); 06 R180; reset false. -/
  ringsRanThisTick : Bool := false
  deriving DecidableEq, Repr

end Sys2Proof.Machine
end

