-- ==== Sys2Proof/Machine/StLupin.lean ====
section
/-! DEFINITION. State of chapter 04: the Lupin registers, parent tables, trees, roadmap and route sets. -/

namespace Sys2Proof.Machine

/-- LUP_FG window of a foreground slot (04 Table 4-8). -/
structure LupSlot where
  /-- LUP_FG_CTX.VALID, 1 bit; 04 Table 4-8; reset 0. -/
  valid : Bool := false
  /-- LUP_FG_CTX.CTX, 10 bit; 04 Table 4-8; reset 0. -/
  ctx : Nat := 0
  /-- LUP_FG_SHAPE.KNOTS, 4 bit; 04 Table 4-8; reset 0. -/
  knots : Nat := 0
  /-- LUP_FG_SHAPE.SHARE, 8 bit; 04 Table 4-8; reset 0. -/
  share : Nat := 0
  /-- LUP_FG_SHAPE.SPHERES, 8 bit; 04 Table 4-8; reset 0. -/
  spheres : Nat := 0
  /-- LUP_FG_SHAPE.WAYPOINTS, 8 bit; 04 Table 4-8; reset 0. -/
  waypoints : Nat := 0
  /-- LUP_FG_BASE, 32 bit; 04 Table 4-8; reset 0. -/
  base : Nat := 0
  /-- LUP_FG_ALLOC, 21 bit; 04 Table 4-8; reset 0. -/
  alloc : Nat := 0
  /-- LUP_FG_COUNT, 21 bit; 04 Table 4-8; reset 0. -/
  count : Nat := 0
  /-- LUP_FG_START_RM, _PROP, _TREE, _UNI, 21 bit each; 04 Table 4-8; reset 0. -/
  blocks : Blocks := {}
  /-- LUP_FG_STAT.FALLBACK_SRC, 6 bit; 04 R124, Table 4-8; reset 0. -/
  fallback : BitVec 6 := 0
  /-- LUP_FG_TREE_NODES, 32 bit; 04 Table 4-8; reset 0. -/
  treeNodes : Nat := 0
  /-- LUP_FG_ROUTE_GEN, 32 bit; 04 Table 4-8; reset 0. -/
  routeGen : Nat := 0
  /-- the context has no anchor in the tick (R502); 04 R116; reset false. -/
  nostate : Bool := false
  deriving DecidableEq, Repr

/-- A node of a persistent tree (04 R132). -/
structure TreeNode where
  parent : Nat
  depth : Nat
  tick : Nat
  q : JVec
  deriving DecidableEq, Repr

/-- The persistent tree of a context (04 R132). -/
structure Tree where
  nodes : List TreeNode := []
  frontier : List FrontierEntry := []
  deriving DecidableEq, Repr

/-- An edge of the roadmap of a context (04 R137). -/
structure RoadmapEdge where
  a : Nat
  b : Nat
  checked : Nat := 0
  blocked : Bool := false
  deriving DecidableEq, Repr

/-- The roadmap of a context (04, before R135). -/
structure Roadmap where
  model : Nat := 0
  nodes : List JVec := []
  edges : List RoadmapEdge := []
  deriving DecidableEq, Repr

/-- What Lupin keeps per context (04 R127, R128, R132, R135, R137). -/
structure LupCtx where
  /-- parent table, knot forms of the previous top-8 in rank order; 04 R127; reset empty. -/
  parents : List KnotForm := []
  /-- feasible TREE candidates of the previous top-8 awaiting insertion: parent node and configuration; 04 R134; reset none. -/
  pendingInserts : List (Nat × JVec) := []
  /-- persistent tree; 04 R132; reset none. -/
  tree : Option Tree := none
  /-- prepared mixture of the tick; 04 R128; reset none. -/
  mix : Option (List MixComp) := none
  /-- roadmap held in LPDDR5X; 04 R135, R137; reset none. -/
  roadmap : Roadmap := {}
  /-- completed route set awaiting adoption; 04 R135; reset none. -/
  waitingRoutes : Option RouteSet := none
  /-- adopted route set; 04 R135; reset none. -/
  routes : Option RouteSet := none
  /-- route-set generation of the newest completed search, 32 bit; 04 R135; reset 0. -/
  routeGen : Nat := 0
  /-- roadmap feasibility bitmap of the last collision phase, up to 1,024 bits; 04 R137, 05 R166; reset none. -/
  rmBits : Option (List Bool) := none
  /-- behind each bit, for the next context-load item: edge number, engine, and the world version of the field the slot was
  checked against; 04 R136, R137; reset empty. -/
  rmEdges : List (Option (Nat × Nat × Nat)) := []
  deriving DecidableEq, Repr

/-- Chapter 04: Lupin registers and state. -/
structure LupinSt where
  /-- LUP_CTRL.ROUTE_ADOPT as written, 1 bit; 04 Table 4-7; reset 1. -/
  routeAdopt : Bool := true
  /-- LUP_CTRL.TREE_GROW as written, 1 bit; 04 Table 4-7; reset 1. -/
  treeGrow : Bool := true
  /-- LUP_STAT.FG_COUNT, 5 bit; 04 Table 4-7; reset 0. -/
  fgCount : Nat := 0
  /-- LUP_STAT.TREE_FULL, 1 bit, W1C; 04 Table 4-7; reset 0. -/
  treeFull : Bool := false
  /-- LUP_STAT.PROPOSAL_BAD, 1 bit, W1C; 04 Table 4-7; reset 0. -/
  proposalBad : Bool := false
  /-- LUP_STAT.FALLBACK, 1 bit, W1C; 04 Table 4-7; reset 0. -/
  fallbackF : Bool := false
  /-- LUP_STAT.TRIMMED, 1 bit, W1C; 04 Table 4-7; reset 0. -/
  trimmed : Bool := false
  /-- LUP_GOLD_BASE, 32 bit; 04 Table 4-7; reset 0xFFFF_FC00. -/
  goldBase : Word := 0xFFFF_FC00
  /-- LUP_LIVE_TOTAL, 21 bit; 04 Table 4-7; reset 0. -/
  liveTotal : Nat := 0
  /-- LUP_TRIM_CNT, 48 bit; 04 R117; reset 0. -/
  trimCnt : StatCnt := {}
  /-- LUP_FALLBACK_CNT, 48 bit; 04 R124; reset 0. -/
  fallbackCnt : StatCnt := {}
  /-- slot windows, 16; 04 Table 4-8; reset as LupSlot. -/
  slots : Tbl LupSlot := []
  /-- per-context generation state, 1,024 contexts; 04 R127 to R137; reset as LupCtx. -/
  ctxs : Tbl LupCtx := []
  deriving DecidableEq, Repr

end Sys2Proof.Machine
end

