-- ==== Sys2Proof/Machine/StTick.lean ====
section
/-! DEFINITION. State of chapters 00 and 01: identity, the tick sources, the tick registers and the progress of
the running tick. Each field says its name in the manual, its width, where the spec names it, and its reset. -/

namespace Sys2Proof.Machine

/-- How far the running tick has come: which items have ended and what they left for the tick's status. The
manual gives these as the places of the tick program (R25, R33 to R35). -/
structure TickProgress where
  /-- A tick is running (an edge was accepted and the plan was not yet superseded); 01 R33; reset false. -/
  running : Bool := false
  /-- Highest ac known to be reached in the running tick; 01 R19, R33; reset 0. -/
  ac : Nat := 0
  /-- The tick before was truncated: the plan of tick k−1 was discarded; 01 R33; reset false. -/
  prevShort : Bool := false
  /-- The broadcast of the tick before was interrupted, so the C stage of the next tick finds no plan either; 01 R34; reset false. -/
  r34 : Bool := false
  /-- The context-load item of the running tick has run; 04 R139; reset false. -/
  loaded : Bool := false
  /-- The field broadcast of the running tick has started; 01 R34; reset false. -/
  bcastStarted : Bool := false
  /-- The field broadcast of the running tick has ended; 01 R34; reset false. -/
  bcastDone : Bool := false
  /-- The field of the running tick is fully assembled; 01 R35; reset false. -/
  assembled : Bool := false
  /-- No tile held a valid field at the start of the tick, so no candidates run; 01 R34; reset true. -/
  noCands : Bool := true
  /-- BUDGET_THROTTLED of the tick's status; 01 R41; reset false. -/
  throttled : Bool := false
  /-- TICK_LOST of the tick's status; 01 R14, R17; reset false. -/
  lost : Bool := false
  /-- The decision item of the tick has run; 09 R233; reset false. -/
  decided : Bool := false
  /-- The hand-off item of the tick has run; 08 R223; reset false. -/
  handedOff : Bool := false
  deriving DecidableEq, Repr

/-- Chapter 01: tick sources and tick registers. -/
structure TickSt where
  /-- tick number, 64 bit; 01 R11, Table 1-8; reset 0. -/
  num : Latched64 := {}
  /-- SYS_TICK_CFG.SRC in force, 2 bit; 01 Table 1-6; reset 0b00. -/
  src : BitVec 2 := 0
  /-- SYS_TICK_CFG.SRC as written, waiting for the old source's next accepted edge, 2 bit; 01 R18; reset 0b00. -/
  srcWritten : BitVec 2 := 0
  /-- SYS_TICK_CFG.TICK_OUT_EN, 1 bit; 01 Table 1-6; reset 0. -/
  outEn : Bool := false
  /-- SYS_TICK_CFG.PERIOD_US, 12 bit; 01 Table 1-6; reset from bundle (1,000 until one is active, DESIGN CHOICE, log entry 63). -/
  periodUs : Nat := 1000
  /-- SYS_TICK_PHASE.PHASE_NS, 32 bit; 01 Table 1-7; reset 0. -/
  phaseNs : Word := 0
  /-- SYS_TICK_STAT.ACTIVE_SRC, 2 bit; 01 Table 1-9; reset 0b00. -/
  activeSrc : BitVec 2 := 0
  /-- SYS_TICK_STAT.HOLDOVER, 1 bit; 01 R14, Table 1-9; reset 0. -/
  holdover : Bool := false
  /-- SYS_TICK_STAT.BUDGET_THROTTLED, 1 bit, W1C; 01 Table 1-9; reset 0. -/
  throttledF : Bool := false
  /-- SYS_TICK_STAT.TICK_SHORT, 1 bit, W1C; 01 Table 1-9; reset 0. -/
  shortF : Bool := false
  /-- SYS_TICK_STAT.TICK_LOST, 1 bit, W1C; 01 Table 1-9; reset 0. -/
  lostF : Bool := false
  /-- SYS_TICK_STAT.TICK_FAST, 1 bit, W1C; 01 Table 1-9; reset 0. -/
  fastF : Bool := false
  /-- SYS_TICK_FAST_CNT, 48 bit; 01 Table 1-10; reset 0. -/
  fastCnt : StatCnt := {}
  /-- SYS_TICK_SHORT_CNT, 48 bit; 01 Table 1-10; reset 0. -/
  shortCnt : StatCnt := {}
  /-- SYS_TICK_AC, A, 32 bit; 01 R26; reset 0. -/
  acA : Nat := 0
  /-- SYS_TICK_END, E, 32 bit; 01 R27; reset 0. -/
  acE : Nat := 0
  /-- SYS_TICK_BUDGET.THR_EN, 1 bit; 01 Table 1-11; reset 1. -/
  thrEn : Bool := true
  /-- a write of THR_EN = 0 not yet followed by a tick edge; 01 R39; reset 0. -/
  thrOff : Bool := false
  /-- SYS_TICK_BUDGET.MIN_UNITS, 8 bit; 01 Table 1-11; reset 0x01. -/
  minUnits : Byte := 1
  /-- SYS_TICK_BUDGET.EFF_UNITS, 8 bit; 01 Table 1-11; reset 0. -/
  effUnits : Nat := 0
  /-- SYS_TICK_BUDGET.MAX_UNITS, 8 bit; 01 Table 1-11; reset 0. -/
  maxUnits : Nat := 0
  /-- SYS_TICK_RECOVER.RECOVER_TICKS, 16 bit; 01 Table 1-12; reset 0x0100. -/
  recoverTicks : Half := 0x0100
  /-- warning-free ticks counted towards a raise of EFF_UNITS; 01 R39; reset 0. -/
  recoverCnt : Nat := 0
  /-- SYS_TICK_EMIT.EMIT_US, 8 bit; 01 Table 1-12; reset from bundle (0 until one is active, DESIGN CHOICE, log entry 63). -/
  emitUs : Nat := 0
  /-- T(k), PTP time-stamp of the running tick, 64 bit ns; 01 R19; reset 0. -/
  stamp : Nat := 0
  /-- device time of the last accepted edge, ns; 01 R13, R14; reset none. -/
  lastEdge : Option Nat := none
  /-- device time of the last TICK_IN rising edge, watched in holdover, ns; 01 R15; reset none. -/
  lastTickIn : Option Nat := none
  /-- consecutive qualifying TICK_IN edges seen in holdover, 0 to 4; 01 R15; reset 0. -/
  tickInRun : Nat := 0
  /-- gPTP synchronisation is lost (R17); 01 R17; reset false. -/
  syncLost : Bool := false
  /-- TICK_OUT pin pulses given since reset; 01 R20; reset 0. -/
  tickOutPulses : Nat := 0
  /-- progress of the running tick; 01 R25, R33; reset idle. -/
  prog : TickProgress := {}
  deriving DecidableEq, Repr

/-- Chapter 00: identity and grade. -/
structure IdSt where
  /-- SYS_ID.PART_NUM, 16 bit; 00 Table 0-5; reset 0xD064. -/
  partNum : Half := 0xD064
  /-- SYS_ID.STEPPING, 4 bit, fused; 00 Table 0-5; reset DESIGN CHOICE (log entry 63) 0x1 (A1). -/
  stepping : BitVec 4 := 1
  /-- SYS_ID.PROFILE, 4 bit; 00 Table 0-5; reset 0x1. -/
  profile : BitVec 4 := 1
  /-- SYS_ID.FUSED_GRADE, 2 bit, fused; 00 Table 0-5; reset DESIGN CHOICE (log entry 63) 0b00 (S). -/
  fusedGrade : BitVec 2 := 0
  /-- GRADE_SEL strap as sampled at the release of POR_N, 1 bit; 00 R4; reset DESIGN CHOICE (log entry 63) 0. -/
  gradeSel : Bool := false
  deriving DecidableEq, Repr

/-- The effective grade: the slower of fused grade and strap (R4); true is grade E. -/
def IdSt.effE (i : IdSt) : Bool := i.gradeSel || i.fusedGrade == 1

end Sys2Proof.Machine
end

