-- ==== Sys2Proof/Machine/StZheda.lean ====
section
/-! DEFINITION. State of chapter 10: run states, tick-control values, snapshots, Zheda records, the journal and a
replay in progress. -/

namespace Sys2Proof.Machine

/-- Run states (10 Table 10-4). -/
inductive RunState where
  | live | pausing | paused | replay
  deriving DecidableEq, Repr

def RunState.code : RunState → Nat
  | .live => 0
  | .pausing => 1
  | .paused => 2
  | .replay => 3

/-- The tick-control values in force (10 R251). -/
structure TickCtl where
  /-- BRICK_RANGE in force; 10 R251; reset 0x19. -/
  brickRange : Nat := 0x19
  /-- RECENTRE_CELLS in force; 10 R251; reset 0x08. -/
  recentreCells : Nat := 8
  /-- PRED_THR in force, layers 0 to 7; 10 R251; reset 0x80 each. -/
  predThr : List Nat := [0x80, 0x80, 0x80, 0x80, 0x80, 0x80, 0x80, 0x80]
  /-- GRACE_NS in force; 10 R251; reset 0x1388. -/
  graceNs : Nat := 0x1388
  /-- WF_EN in force; 10 R251; reset 1. -/
  wfEn : Bool := true
  /-- ROUTE_ADOPT in force; 10 R251; reset 1. -/
  routeAdopt : Bool := true
  /-- TREE_GROW in force; 10 R251; reset 1. -/
  treeGrow : Bool := true
  /-- SHIFT_LIMIT in force; 10 R251; reset 0x04. -/
  shiftLimit : Nat := 4
  /-- MAX_EXCLUDE in force; 10 R251; reset 0x2. -/
  maxExclude : Nat := 2
  deriving DecidableEq, Repr

/-- Published grid of a slot as section 8 of S(k) holds it. -/
structure SnapGrid where
  slot : Nat
  ctx : Nat
  pubValid : Bool
  grid : Grid
  pub : Nat
  deriving DecidableEq, Repr

/-- What section 6 of S(k) holds of a context: the parent table, the nodes that await insertion with it, the frontier and the
node count (04 R127, R132, R134). -/
structure LupSnap where
  parents : List KnotForm
  inserts : List (Nat × JVec)
  frontier : List FrontierEntry
  nodes : Nat
  tree : Bool
  deriving DecidableEq, Repr

/-- S(k) (10 R259, Table 10-5), section by section. -/
structure Snapshot where
  /-- K: the tick that S(k) precedes -/
  k : Nat := 0
  profile : Nat := 1
  fw : Word := 0
  cfgDigest : List Byte := []
  -- section 0
  stamp : Nat := 0
  effUnits : Nat := 0
  recoverCnt : Nat := 0
  estopLatch : Bool := false
  slots : Tbl (Nat × Bool) := []
  origin : V3 := {}
  zones : Tbl Zone := []
  srcStale : Half := 0xFFFF
  ctl : TickCtl := {}
  -- section 1
  field : Option BuiltField := none
  -- section 2
  history : List HistFrame := []
  -- section 3: snapshots and states as the cut-off of tick k − 1 left them
  sources : Tbl SourceSt := []
  inputs : Tbl CtxInput := []
  -- section 4
  ctxs : Tbl Ctx := []
  -- section 5
  mixes : Tbl MixBuf := []
  -- section 6: parent tables, frontiers and node counts
  lupin : Tbl LupSnap := []
  -- section 7
  routes : Tbl RouteSet := []
  -- section 8
  grids : List SnapGrid := []
  -- section 9
  handoffs : List HandOff := []
  -- section 10
  records : Tbl HolRecord := []
  deriving DecidableEq, Repr

/-- A Zheda record as written: its tick and bytes (10 Table 10-7). -/
structure ZRecord where
  tick : Nat
  bytes : List Byte
  /-- offset in the ring -/
  pos : Nat := 0
  deriving DecidableEq, Repr

/-- An entry of the input sequences (10 R263). -/
structure JEntry where
  ty : Nat
  id : Nat
  time : Nat
  bytes : List Byte
  deriving DecidableEq, Repr

/-- Journal entries of one tick (10 R264). -/
structure JTick where
  tick : Nat
  entries : List JEntry
  /-- offset in the ring, and length -/
  pos : Nat := 0
  len : Nat := 0
  deriving DecidableEq, Repr

/-- A probe (10 R268). -/
structure Probe where
  kind : Nat
  slot : Nat
  wp : Nat
  sph : Nat
  index : Nat
  arg : Nat
  deriving DecidableEq, Repr

/-- A checkpoint being captured (10 R261): S(k), the tick and whether it may still complete. -/
structure Capture where
  snap : Snapshot
  tick : Nat
  deriving DecidableEq, Repr

/-- What a slot leaves for its section of the record (10, after Table 10-7). -/
structure SlotTrace where
  slot : Nat
  ctx : Nat
  kind : Nat
  seed : Nat
  vetResult : Nat
  routeGen : Nat
  payload : List Byte
  deriving DecidableEq, Repr

/-- What tick k left for its record (10 R262, R263). -/
structure TickTrace where
  tick : Nat := 0
  stamp : Nat := 0
  effUnits : Nat := 0
  maxUnits : Nat := 0
  estopDecision : Bool := false
  estopEgress : Bool := false
  throttled : Bool := false
  nonrepro : Bool := false
  short : Bool := false
  truncBcast : Bool := false
  lost : Bool := false
  fieldHeld : Bool := false
  ckpt : Bool := false
  fault : Bool := false
  fieldCrc : Word := 0
  liveTotal : Nat := 0
  truncAc : Nat := 0
  heldVer : Nat := 0
  ctl : TickCtl := {}
  /-- handed over for its record -/
  closed : Bool := false
  /-- key fields of the tick: CFG_DIGEST, the generation, WORLD_SEED -/
  digest : List Byte := List.replicate 32 0
  gen : Nat := 0
  wseed : Word := 0
  /-- entries of types 1 to 5 in the order of R263 -/
  entries : List JEntry := []
  slots : List SlotTrace := []
  deriving DecidableEq, Repr

/-- Chapter 10: determinism and Zheda registers and state. -/
structure ZhedaSt where
  /-- SYS_RUN_STAT.LOADED, 1 bit; 10 Table 10-11; reset 0. -/
  loaded : Bool := false
  /-- SYS_RUN_STAT.STATE, 3 bit; 10 R255, Table 10-11; reset LIVE. -/
  run : RunState := .live
  /-- the SNAP_PAUSE that waits for PAUSED; 10 R255; reset none. -/
  pauser : Option Hdr := none
  /-- device time at which SNAP_RESUME completed, ns; 10 R257; reset none. -/
  resumedAt : Option Nat := none
  /-- SYS_DET_FW.FW_VERSION, 32 bit; 10 Table 10-11; reset from image (0 before one is verified, DESIGN CHOICE, log entry 63). -/
  fw : Word := 0
  /-- SYS_DET_DIGEST_0 to 7, 32 bytes; 10 Table 10-11; reset 0. -/
  digest : List Byte := List.replicate 32 0
  /-- SYS_DET_WSEED, 32 bit; 10 Table 10-11; reset from bundle (0 until one is active, DESIGN CHOICE, log entry 63). -/
  wseed : Word := 0
  /-- SYS_ZHD_CFG.CKPT_INTERVAL in force, 16 bit; 10 Table 10-11; reset 0x0400. -/
  interval : Half := 0x0400
  /-- SYS_ZHD_CFG.CKPT_KEEP in force, 5 bit; 10 Table 10-11; reset 0x04. -/
  keep : BitVec 5 := 4
  /-- SYS_ZHD_CFG.JOURNAL_EN in force, 1 bit; 10 Table 10-11; reset 1. -/
  journalEn : Bool := true
  /-- SYS_ZHD_CFG.REC_EN in force, 1 bit; 10 Table 10-11; reset 1. -/
  recEn : Bool := true
  /-- SYS_ZHD_CFG as written, waiting for the next tick edge, 32 bit; 10 R269; reset 0x0400_0403. -/
  cfgWritten : Word := 0x04000403
  /-- SYS_ZHD_STAT.FAULT_TICK, 1 bit, W1C; 10 Table 10-11; reset 0. -/
  faultTick : Bool := false
  /-- SYS_ZHD_STAT.REACH_MOVED, 1 bit, W1C; 10 Table 10-11; reset 0. -/
  reachMoved : Bool := false
  /-- SYS_ZHD_STAT.CKPT_DONE, 1 bit, W1C; 10 Table 10-11; reset 0. -/
  ckptDone : Bool := false
  /-- SYS_ZHD_STAT.CKPT_ABANDONED, 1 bit, W1C; 10 Table 10-11; reset 0. -/
  ckptAbandoned : Bool := false
  /-- SYS_ZHD_STAT.GAP, 1 bit, W1C; 10 Table 10-11; reset 0. -/
  gapF : Bool := false
  /-- SYS_ZHD_LAST, 64 bit; 10 Table 10-11; reset 0. -/
  last : Latched64 := {}
  /-- SYS_ZHD_REACH, 64 bit; 10 R264, Table 10-11; reset 0. -/
  reach : Latched64 := {}
  /-- SYS_ZHD_GAP_CNT, 48 bit; 10 R264, R269; reset 0. -/
  gapCnt : StatCnt := {}
  /-- SYS_ZHD_ABN_CNT, 48 bit; 10 R261, R269; reset 0. -/
  abnCnt : StatCnt := {}
  /-- tick-control values in force; 10 R251; reset as TickCtl. -/
  ctl : TickCtl := {}
  /-- record ring, oldest first; 10 R262, R264; reset empty. -/
  records : List ZRecord := []
  /-- next write offset in the record ring; 10 R264, 15 R392; reset 0. -/
  recPos : Nat := 0
  /-- journal ring, oldest first; 10 R264; reset empty. -/
  journal : List JTick := []
  /-- next write offset in the journal ring; 10 R264; reset 0. -/
  jrnPos : Nat := 0
  /-- checkpoint slots: snapshot by slot number; 10 R261; reset empty. -/
  ckpts : Tbl Snapshot := []
  /-- a checkpoint being captured in the running tick; 10 R261; reset none. -/
  capture : Option Capture := none
  /-- S(k) of the running tick, kept for capture and for SNAP_SAVE in PAUSED; 10 R259; reset none. -/
  current : Option Snapshot := none
  /-- trace of the running tick; 10 R262; reset empty. -/
  trace : TickTrace := {}
  /-- trace of the tick before, whose record is not yet written; 10 R262; reset none. -/
  prevTrace : Option TickTrace := none
  /-- a snapshot loaded by SNAP_LOAD and in force; 10 R258; reset none. -/
  snapIn : Option Snapshot := none
  deriving DecidableEq, Repr

/-! ### The bytes of digests, snapshot headers and records -/

/-- An entry of R263: TYPE, ID, TIME, LEN and the bytes. -/
def JEntry.enc (e : JEntry) : List Byte :=
  [BitVec.ofNat 8 e.ty] ++ toLe 2 e.id ++ toLe 8 e.time ++ toLe 4 e.bytes.length ++ e.bytes

/-- The digest of the entries whose type passes a test (R263): zero bytes for an empty sequence. -/
def entryDigest (p : Nat → Bool) (l : List JEntry) : List Byte :=
  shake256 ((l.filter fun e => p e.ty).flatMap JEntry.enc)

/-- FLAGS of a Zheda record (10, after Table 10-7). -/
def TickTrace.flags (t : TickTrace) (gap : Bool) : Nat :=
  b2n t.throttled + 2 * b2n t.nonrepro + 4 * b2n t.short + 8 * b2n t.truncBcast + 16 * b2n t.lost +
  32 * b2n t.fieldHeld + 64 * b2n t.ckpt + 128 * b2n gap + 256 * b2n t.fault

/-- A slot section of a record: the 64-byte head and the payload padded to a multiple of 8. -/
def SlotTrace.bytes (x : SlotTrace) : List Byte :=
  toLe 2 x.ctx ++ [BitVec.ofNat 8 x.slot, BitVec.ofNat 8 x.kind] ++ toLe 4 x.seed ++ toLe 4 x.vetResult ++
  toLe 4 x.routeGen ++ toLe 2 x.payload.length ++ List.replicate 46 0 ++ x.payload ++
  List.replicate ((8 - x.payload.length % 8) % 8) 0

/-- The Zheda record of a tick (Table 10-7). -/
def TickTrace.record (t : TickTrace) (prev : Option ZRecord) (fw : Word) (profile : Nat) : List Byte :=
  let prevTick := (prev.map (·.tick)).getD 0
  let gap := decide (prevTick ≠ t.tick - 1)
  let sects := t.slots.flatMap SlotTrace.bytes
  let mask := t.slots.foldl (fun m x => m + 2 ^ x.slot) 0
  let c := t.ctl
  toLe 2 1 ++ toLe 2 mask ++ toLe 4 (256 + sects.length) ++ toLe 8 t.tick ++ toLe 8 t.stamp ++ toLe 8 prevTick ++
  ((prev.map fun p => shake256 p.bytes).getD (List.replicate 32 0)) ++ t.digest ++ toLe 4 t.gen ++ toLe 4 fw.toNat ++
  [BitVec.ofNat 8 profile, BitVec.ofNat 8 t.effUnits, BitVec.ofNat 8 t.maxUnits,
    BitVec.ofNat 8 (b2n t.estopDecision + 2 * b2n t.estopEgress)] ++ toLe 4 t.wseed.toNat ++ toLe 4 (t.flags gap) ++
  toLe 4 t.fieldCrc.toNat ++ toLe 4 t.liveTotal ++ toLe 4 t.truncAc ++
  entryDigest (fun y => decide (y ≤ 2)) t.entries ++ entryDigest (fun y => y == 3) t.entries ++
  entryDigest (fun y => decide (4 ≤ y)) t.entries ++ toLe 8 t.heldVer ++
  [BitVec.ofNat 8 c.brickRange, BitVec.ofNat 8 c.recentreCells,
    BitVec.ofNat 8 (b2n c.wfEn + 2 * b2n c.routeAdopt + 4 * b2n c.treeGrow), BitVec.ofNat 8 c.shiftLimit] ++
  toLe 2 c.graceNs ++ [BitVec.ofNat 8 c.maxExclude, 0] ++ c.predThr.map (BitVec.ofNat 8) ++ toLe 8 0 ++ sects

/-- FLAGS of a written record. -/
def ZRecord.flags (r : ZRecord) : Nat := leAt r.bytes 112 4
def ZRecord.gap (r : ZRecord) : Bool := bit r.flags 7
def ZRecord.fault (r : ZRecord) : Bool := bit r.flags 8

/-- The image header of Table 10-6 with the section table and sections, from the bytes of the eleven sections. -/
def snapImage (s : Snapshot) (sections : List (List Byte)) : List Byte :=
  let len := 64 + 176 + sumN (sections.map (·.length))
  let table := (sections.foldl (fun (acc : Nat × List Byte) b =>
    (acc.1 + b.length, acc.2 ++ toLe 4 acc.1 ++ toLe 4 b.length ++ (shake256 b).take 8)) (240, [])).2
  let h := toLe 2 1 ++ [BitVec.ofNat 8 s.profile, 0] ++ toLe 4 s.fw.toNat ++ toLe 8 s.k ++ s.cfgDigest ++ toLe 4 len
  h ++ toLe 4 (crc32c (h ++ table)).toNat ++ (shake256 sections.flatten).take 8 ++ table ++ sections.flatten

/-- The bytes of the eleven sections of S(k): the manual gives their contents, not their layout (log entry 13). -/
opaque Config.snapSections : Snapshot → List (List Byte)

/-- The S(k) that the section bytes of an image spell, if they spell one (log entry 13). -/
opaque Config.snapOf : List Byte → Option Snapshot

/-- The bundle that the bytes of a Kalot output spell, header included, if they spell one (log entry 7). -/
opaque Config.parseBundle : List Byte → Option Bundle

end Sys2Proof.Machine
end

