-- ==== Sys2Proof/Machine/StCascade.lean ====
section
/-! DEFINITION. State of chapter 19: the Ublar ports and the cascade. -/

namespace Sys2Proof.Machine

/-- State of a position (19 Table 19-5, ULB_MEMBER_INFO.STATE). -/
inductive MemberState where
  | absent | joining | inService | removed
  deriving DecidableEq, Repr

def MemberState.code : MemberState → Nat
  | .absent => 0
  | .joining => 1
  | .inService => 2
  | .removed => 3

/-- A position of the cascade (19 R469, R480, Table 19-5). -/
structure Member where
  /-- ULB_MEMBER_INFO.STATE, 2 bit; 19 Table 19-5; reset ABSENT. -/
  state : MemberState := .absent
  /-- reachable (ULB_ROLE.PRESENT), 1 bit; 19 Table 19-5; reset 0. -/
  present : Bool := false
  /-- ULB_MEMBER_INFO.DELAY_NS, 16 bit; 19 R471, Table 19-5; reset 0. -/
  delay : Nat := 0
  /-- delay has been measured; 19 R480; reset false. -/
  measured : Bool := false
  /-- ULB_MEMBER_INFO.HOPS, 4 bit; 19 Table 19-5; reset 0. -/
  hops : Nat := 0
  /-- ULB_MEMBER_INFO.PORT, 1 bit; 19 Table 19-5; reset 0. -/
  port : Nat := 0
  /-- consecutive ticks in which its transfers were missing; 19 R479; reset 0. -/
  missing : Nat := 0
  /-- its S(k) has arrived and its replay has reached the running tick; 19 R480; reset false. -/
  synced : Bool := false
  /-- tick whose S(k) was sent to it for its join; 19 R480; reset none. -/
  snapAt : Option Nat := none
  /-- device time at which the last echo frame went to it, ns; 19 R471; reset none. -/
  echoAt : Option Nat := none
  /-- digest of its active bundle as it reported it; 19 R480; reset none. -/
  digest : Option (List Byte) := none
  /-- digest of its staged bundle as it reported it; 19 R480; reset none. -/
  stagedDigest : Option (List Byte) := none
  deriving DecidableEq, Repr

/-- An Ublar port (19 R465, Table 19-5). -/
structure UlbPort where
  /-- ULB_P_STAT.NEIGHBOUR, 8 bit; 19 Table 19-5; reset 0xFF. -/
  neighbour : Nat := 0xFF
  /-- ULB_P_STAT.LANE_LOCK, 4 bit; 19 Table 19-5; reset 0. -/
  laneLock : BitVec 4 := 0
  /-- ULB_P_STAT.TRAINED, 1 bit; 19 R465, Table 19-5; reset 0. -/
  trained : Bool := false
  /-- ULB_P_ERR_CNT, 48 bit; 19 R467; reset 0. -/
  errCnt : StatCnt := {}
  /-- SEQ of the last frame received, 16 bit; 19 R467; reset none. -/
  rxSeq : Option Half := none
  /-- SEQ of the next frame sent, 16 bit; 19 R466; reset 0. -/
  txSeq : Half := 0
  deriving DecidableEq, Repr

/-- A link frame (19 R466, Table 19-1). -/
structure LinkFrame where
  type : Nat
  src : Nat
  dst : Nat
  hops : Nat
  last : Bool
  seq : Half
  data : List Byte
  tick : Nat
  crcOk : Bool := true
  deriving DecidableEq, Repr

/-- A member's result of one slot, as received (19 Table 19-2, R477). -/
structure MemberRes where
  position : Nat
  slot : Nat
  noResult : Bool
  res : DieRes
  deriving DecidableEq, Repr

/-- A transfer in reception (19 R467): the bytes received so far, or broken by a lost frame. -/
structure Transfer where
  type : Nat
  src : Nat
  tick : Nat
  bytes : List Byte := []
  broken : Bool := false
  complete : Bool := false
  deriving DecidableEq, Repr

/-- Chapter 19: the cascade. -/
structure CascadeSt where
  /-- ULB_CTRL.LOSS_TICKS, 4 bit; 19 Table 19-5; reset 0x1. -/
  lossTicks : BitVec 4 := 1
  /-- ULB_CTRL.AUTO_JOIN, 1 bit; 19 Table 19-5; reset 1. -/
  autoJoin : Bool := true
  /-- ULB_STAT.DUAL_MASTER, 1 bit; 19 R469, Table 19-5; reset 0. -/
  dualMaster : Bool := false
  /-- ULB_STAT.ISOLATED, 1 bit; 19 R472, Table 19-5; reset 0. -/
  isolated : Bool := false
  /-- ULB_STAT.REDUCED, 1 bit, W1C; 19 R479, Table 19-5; reset 0. -/
  reduced : Bool := false
  /-- ULB_STAT.RESULT_MISSING, 1 bit, W1C; 19 R478, Table 19-5; reset 0. -/
  resultMissing : Bool := false
  /-- ULB_ROLE.POSITION, 3 bit; 19 R469, Table 19-5; reset 0. -/
  position : Nat := 0
  /-- this device is a member in service; 19 R470; reset false. -/
  memberInService : Bool := false
  /-- m, the devices in service with the master; 19 R476; reset 1 (a single device). -/
  count : Nat := 1
  /-- i, the place of this device among the devices in service; 19 R476; reset 0. -/
  ix : Nat := 0
  /-- anchor and plan of each slot in the running tick, as a DECISION transfer gave them (a member); 19 R473; reset none. -/
  anchors : Tbl (JVec × Option KnotForm) := []
  /-- ULB_DMAX.D_MAX_NS, 16 bit; 19 R471, Table 19-5; reset 0. -/
  dMax : Nat := 0
  /-- ULB_MEMBER_SEL.POSITION, 3 bit; 19 Table 19-5; reset 0. -/
  memberSel : BitVec 3 := 0
  /-- positions 0 to 7; 19 R469; reset ABSENT. -/
  members : Tbl Member := []
  /-- ULB_LOST_CNT, 48 bit; 19 R479, R483; reset 0. -/
  lostCnt : StatCnt := {}
  /-- ports 0 and 1; 19 R465; reset as UlbPort. -/
  ports : List UlbPort := [{}, {}]
  /-- the two ports close a ring; 19 R469; reset false. -/
  ring : Bool := false
  /-- members named by CASC_MEMBER_REMOVE, removed at the next edge; 19 R479; reset none. -/
  removals : List Nat := []
  /-- members in service of the full membership, for REDUCED; 19 R479; reset 0. -/
  fullCount : Nat := 0
  /-- transfers of the running tick in reception; 19 R467, R473; reset none. -/
  transfers : List Transfer := []
  /-- RESULT transfers of the running tick; 19 R473, R477; reset none. -/
  results : List MemberRes := []
  /-- members that have acknowledged their copy of a context's route set (false) or grid (true): position, context; 19
  R475; reset none. -/
  acks : List (Nat × Nat × Bool) := []
  /-- the field received for the running tick (a member); 19 R473; reset none. -/
  fieldIn : Option BuiltField := none
  /-- DECISION, INPUTS and HANDOFF transfers as received (a member), the newest of each; 19 R473; reset none. -/
  inputsIn : Option (List Byte) := none
  decisionIn : Option (List Byte) := none
  handoffIn : Option (List Byte) := none
  /-- level-C die result of each slot, kept with k_c entries for the cascade merge; 19 R477; reset none. -/
  ownResults : Tbl DieRes := []
  /-- frames sent on the link in the running tick, with their port; 19 R473; reset none. -/
  sent : List (Nat × LinkFrame) := []
  /-- a device's throttle level as received in STATUS, by position; 19 R473, 01 R42; reset none. -/
  throttle : Tbl Nat := []
  /-- state of a device that joins: S(k) as received and as its replay has brought it on; 19 R480; reset none. -/
  joinSnap : Option Snapshot := none
  /-- FLAGS of the two records replayed last for the join, the newer first; 19 R480; reset 0. -/
  joinFlags : List Nat := [0, 0]
  /-- device time of the last TICK frame (a member), ns; 19 R472; reset none. -/
  lastTick : Option Nat := none
  deriving DecidableEq, Repr

/-! ### What the transfers carry (R473, R475, R480)

The manual gives the contents of each transfer, not its layout: the codec has no body (log entry 26). -/

/-- What a HANDOFF transfer carries for one context: the knot forms of its top-8, the nodes of its feasible TREE candidates,
and SHIFT_RUN. -/
structure HandoffCopy where
  forms : List KnotForm
  nodes : List (Nat × JVec)
  shiftRun : Nat
  deriving DecidableEq, Repr

/-- The contents of a transfer or of a CTRL frame. -/
inductive CasMsg where
  /-- k and T(k) -/
  | tick (k t : Nat)
  /-- the latched slots, the budget, the allocation, the robot states, the journal entries, and the positions in service -/
  | inputs (fg : Tbl FgSlot) (eff maxU : Nat) (alloc : Tbl LupSlot) (states : Tbl CtxInput) (entries : List JEntry)
      (order : List Nat)
  /-- anchor and plan of each slot -/
  | decision (anchors : Tbl (JVec × Option KnotForm))
  /-- die result of each slot, or that it has none -/
  | result (l : Tbl (Option DieRes))
  /-- throttle level, fault entries and exclusion mask -/
  | status (throttle : Nat) (faults : List FaultEntry) (mask : List Nat)
  /-- by foreground slot -/
  | handoff (l : Tbl HandoffCopy)
  /-- S(k) of a joining member -/
  | snapshot (x : Snapshot)
  /-- a grid of a WAVEFRONT_FULL -/
  | grid (ctx : Nat) (origin : V3) (g : Grid)
  /-- a route set -/
  | routes (ctx : Nat) (r : RouteSet)
  /-- a member acknowledges the copy of a context's route set or grid -/
  | ack (ctx : Nat) (grid : Bool)
  /-- digests of the active and of the staged bundle of a device -/
  | digests (active staged : Option (List Byte))
  /-- a joining member has replayed up to the running tick (19 R480) -/
  | joined
  /-- the inputs of a tick that a joining member replays: the record and the journal entries (19 R480) -/
  | recorded (r : List Byte) (entries : List JEntry)
  /-- a device is in service at a position, or is not any more (19 R479, R480) -/
  | letIn (position : Nat)
  | removed
  /-- the measured delay of the device addressed, and D_max (19 R471) -/
  | delays (own max : Nat)
  /-- the position of the device addressed, its hops from the master, and the position beyond it, 0xFF for none (19 R469) -/
  | number (position hops next : Nat)
  /-- the echo that measures a delay (19 R471) -/
  | echo
  /-- the bundle with this digest becomes active at the next TICK (19 R480) -/
  | switch (digest : List Byte)
  deriving DecidableEq, Repr

/-- The data bytes of a transfer (log entry 26). -/
opaque Config.casBytes : CasMsg → List Byte

/-- The contents that the data bytes of a transfer spell, if they spell any (log entry 26). -/
opaque Config.casMsg : List Byte → Option CasMsg

end Sys2Proof.Machine
end

