-- ==== Sys2Proof/Syntax.lean ====
section
/-! DEFINITION. The commands and events of the block: one constructor per row of the table of operations. Operands are
what the row's event brings from outside: a written value, a measured value, a packet's fields, a time. -/

namespace Sys2Proof

open Sys2Proof.Machine

/-- An edge of the tick source: device time in ns and the ac the running tick has reached (01 R11, R33). -/
structure Edge where
  time : Nat
  ac : Nat
  deriving DecidableEq, Repr

/-- Two foreground ports that met in a bank slot (15 R382). -/
structure Conflict where
  memory : Nat
  core : Nat
  bank : Nat
  winner : Nat
  loser : Nat
  deriving DecidableEq, Repr

/-- What a foreground item met in the memories (11 R274; 15 R382, R383): that it waited for a busy server, the bank
meetings, corrected words, and an uncorrectable word. -/
structure ItemFault where
  late : Bool := false
  conflicts : List Conflict := []
  corrected : Nat := 0
  uncorrectable : Option Nat := none
  deriving DecidableEq, Repr

/-- What an access to LPDDR5X met (15 R389). -/
inductive GranErr where
  | clean | corrected | uncorrectable
  deriving DecidableEq, Repr

/-- A unit under test (14 R352, R356): a slice-tested unit by its CAM_COV number, a tile, or the Vetch spare. -/
inductive TestUnit where
  | cov (u : Fin 93)
  | tile (t : Fin 72)
  | vetSpare
  deriving DecidableEq, Repr

/-- What a failed test slice found (03 R79, R80; 14 Table 14-4). -/
inductive TestResult where
  | pass
  | fail
  /-- an Aster array: a column, a row or the post unit -/
  | failAster (f : AsterFail)
  deriving DecidableEq, Repr

/-- How a mailbox message is committed (12 R310). -/
inductive MbWrite where
  | whole (bytes : List Byte)
  | last (w : Word)
  deriving DecidableEq, Repr

/-- A request that the device cannot serve (17 Table 17-2). -/
inductive PcieReq where
  | outsideBars (write : Bool)
  | poisonedWrite
  | unsupportedKind
  | unreachable (write : Bool)
  /-- an access refused under R298, R313, R360, R372 or R393 -/
  | refused (write : Bool)
  deriving DecidableEq, Repr

/-- What a failed read of host memory served (17 R429). -/
inductive DmaRead where
  | submission (r : Fin 64)
  | payload (h : Hdr) (opcode : Nat)
  | longOp (handle : Nat)
  | item (pool : Nat)
  | other
  deriving DecidableEq, Repr

/-- Straps at the release of POR_N (16 R419). -/
structure Straps where
  bootSrc : BitVec 2
  cascRole : Bool
  gradeSel : Bool
  deriving DecidableEq, Repr

/-- The instructions: every row of the table of operations, in its order. -/
inductive Instr where
  -- tick sources
  | internalTickEdge (e : Edge)
  | tickInEdge (e : Edge)
  | holdoverEdge (e : Edge)
  | ptpTickEdge (e : Edge)
  -- commit and egress
  | commitCheckJob (slot : Fin 16) (rank : Fin 8)
  | decisionItem
  | egressSelect (time : Nat)
  | egressGateOpen (port : Fin 2) (time : Nat)
  | egressGateClose (port : Fin 2)
  | trajFrameSent (slot : Fin 16) (port : Fin 2)
  -- foreground items
  | contextLoad (m : ItemFault)
  | collisionPhase (m : ItemFault) (flips : List (Nat × FsFlip))
  | rosterTagReject (tile : Fin 72) (gen : Half)
  | occupancyPredictor (m : ItemFault)
  | cornflowerTransform
  | wavefrontRings
  | fieldAssembly
  | fieldBroadcast (bad : List (Nat × Nat))
  | clusterSelection (m : ItemFault)
  | dieMerge (m : ItemFault)
  | cascadeMerge
  | critic (slot : Fin 16) (m : ItemFault)
  | reRank (slot : Fin 16)
  | vetchFeasibility (slot : Fin 16) (m : ItemFault)
  | vetchIteration (slot : Fin 16) (m : ItemFault)
  | vetchStop (slot : Fin 16) (m : ItemFault)
  | vetchWindowCut (slot : Fin 16)
  | proposalNetwork (slot : Fin 16) (m : ItemFault)
  | handoff (m : ItemFault)
  -- background work and tests
  | backgroundDispatch (cls : ServerClass) (server : Fin 64) (ac : Nat) (len : Nat)
  | backgroundSliceEnd (cls : ServerClass) (server : Fin 64) (last : Bool) (ue : Bool) (errs : List (Nat × GranErr))
  | flowItemComplete (cls : ServerClass) (server : Fin 64) (ue : Bool)
  | testSliceStart (unit : TestUnit) (ac : Nat)
  | testSliceEnd (unit : TestUnit) (result : TestResult)
  | coverageExceeded (unit : TestUnit)
  -- Zheda
  | zhedaRecordWrite (ok : Bool)
  | checkpointCapture (ok : Bool)
  | replayStep
  | peekComplete (tile : Fin 72)
  -- ESTOP and time
  | estopActive (time : Nat)
  | estopInactive (time : Nat)
  | estopRearmReady (time : Nat)
  | syncLost (time : Nat)
  | ptpSyncRx (time : Nat) (port : Fin 2) (offset : Int)
  -- frames and links
  | ethFrameRx (time : Nat) (port : Fin 2) (fcsOk : Bool) (bytes : List Byte) (room : Bool)
  | ulbFrameRx (time : Nat) (port : Fin 2) (bytes : List Byte)
  | ulbPortTrained (port : Fin 2) (delays : List Nat) (ring : Bool) (secondMaster : Bool)
  | ulbPortDown (port : Fin 2) (lanes : BitVec 4)
  | cascTickTimeout (time : Nat)
  -- host writes and reads with a row of their own
  | sqDoorbell (r : Fin 64) (tail : Word)
  | cqDoorbell (r : Fin 64) (head : Word)
  | ringEnable (r : Fin 64) (cfg : Word)
  | mailboxCommit (m : Fin 64) (who : Master) (w : MbWrite)
  | mailboxStageWrite (m : Fin 64) (who : Master) (word : Fin 15) (val : Word)
  | mailboxAck (m : Fin 64) (who : Master) (val : Word)
  | doorbellWrite (d : Fin 256) (who : Master) (val : Word)
  | doorbellServiceRead (d : Fin 256) (who : Master)
  | counterValue (n : Fin 24576) (who : Master) (x : Word)
  | counterAdd (n : Fin 24576) (who : Master) (x : Word)
  | counterSub (n : Fin 24576) (who : Master) (x : Word)
  | counterFetchInc (n : Fin 24576) (who : Master)
  | counterAttr (n : Fin 24576) (who : Master) (x : Word)
  | coreStallTimeout (unit : Fin 5) (ix : Nat)
  | watchArm (w : Fin 2048) (who : Master) (cfg : Word)
  | firedRead (watch : Fin 64)
  | counterLoRead (off : Nat)
  | latchingLoRead (off : Nat) (time : Nat)
  | tempPeakRead
  | fsPeekStart (tile : Fin 72) (val : Word)
  | ctgPeekSelect (slot : Fin 16) (val : Word)
  | flowRecordSelect (val : Word)
  | ledgerSelect (val : Word)
  | thiUnfreeze (val : Word)
  | clkDomainReset (who : Master) (val : Word)
  | bar2WindowSelect (val : Word)
  | msixVectorUnmask (v : Option (Fin 64))
  | registerWrite (off : Nat) (who : Master) (val : Word)
  | bar2Access (off : Nat) (len : Nat) (data : Option (List Byte)) (err : GranErr)
  | pcieRequestRx (r : PcieReq)
  | thistleViolation (m : Fin 15) (cls : BitVec 4) (addr : Dword) (write : Bool) (secure : Bool) (len : BitVec 7)
  | dmaReadError (addr : Dword) (what : DmaRead)
  -- host link, USB
  | perstAssert
  | functionLevelReset
  | pcieLinkDown
  | powerStateChange (d3 : Bool)
  | usbCommandTransfer (bytes : List Byte)
  | usbBusReset
  | usbSuspend
  | usbRecoveryImage (bytes : List Byte)
  -- reset, boot, clocks, power
  | porRelease (time : Nat) (straps : Straps) (suppliesOk : Bool)
  | porAssert
  | sysReset
  | bootReady (time : Nat) (unrepaired : List Nat)
  | bootFail (code : Fin 5)
  | xtalWindow (time : Nat) (count : Nat)
  | xtalTimeout (time : Nat) (refclk : Bool)
  | pllLossOfLock (pll : Fin 10)
  | sparePllLocked (pll : Fin 10)
  | clockMonitorWindow (d : Fin 64) (edges : Nat)
  | domainResetDone (d : Fin 64)
  | regulatorInRegulation (mv : Half)
  | avsTimeout
  | pmbusAlert
  | thermalSample (temps : List Int)
  | supplyExcursion (glitch : Bool)
  | vddAonLow
  | tamperDetect (src : BitVec 4)
  | secureWipeDone (ok : Bool)
  | scrubGranule (err : GranErr) (otherWrite : Bool)
  -- command packets
  | nop (h : Hdr)
  | devInfo (h : Hdr) (raddr : Dword)
  | devStatus (h : Hdr)
  | devFaultLog (h : Hdr) (first : Word) (count : Word) (raddr : Dword)
  | devReset (h : Hdr)
  | configWrite (h : Hdr) (offset : Word) (bytes : List Byte)
  | configLoad (h : Hdr) (gen : Word) (source : Byte) (addr : Dword) (length : Word) (digest : List Byte)
  | configLoadDone
  | configCommit (h : Hdr) (gen : Word)
  | configStagingDone (ue : Bool)
  | configRollback (h : Hdr) (prevGen : Word)
  | configRead (h : Hdr) (bundle : Byte) (offset : Word) (length : Word) (raddr : Dword)
  | configDiscard (h : Hdr)
  | configStore (h : Hdr)
  | ctxAlloc (h : Hdr) (any : Byte) (model : Byte)
  | ctxFree (h : Hdr)
  | ctxActivate (h : Hdr)
  | ctxDeactivate (h : Hdr)
  | ctxWrite (h : Hdr) (offset : Half) (bytes : List Byte)
  | ctxRead (h : Hdr) (copy : Byte) (offset : Half) (length : Word) (raddr : Dword)
  | ctxSeedSet (h : Hdr) (seed : Word)
  | ctxGoalSet (h : Hdr) (boxes : List Box)
  | ctxTreeReset (h : Hdr)
  | worldOcc (h : Hdr) (frame : List Byte)
  | worldState (h : Hdr) (frame : List Byte)
  | worldKeepoutSet (h : Hdr) (id : Byte) (mask : Byte) (box : Box)
  | worldKeepoutClear (h : Hdr) (id : Byte)
  | worldFieldRead (h : Hdr) (raddr : Dword)
  | planFrameRead (h : Hdr) (slot : Byte) (raddr : Dword)
  | planResultRead (h : Hdr) (slot : Byte) (raddr : Dword)
  | planHandoffRead (h : Hdr) (slot : Byte) (raddr : Dword)
  | rearm (h : Hdr)
  | flowOpen (h : Hdr) (flow : Word) (atomic : Byte) (policy : Byte) (level : Byte) (cq : Byte) (dlExp : Byte)
      (qlimit : Half)
  | flowPush (h : Hdr) (flow : Word) (items : List (List Byte))
  | flowClose (h : Hdr) (flow : Word)
  | flowFlush (h : Hdr) (flow : Word)
  | flowRead (h : Hdr) (flow : Word)
  | timerSet (h : Hdr) (due : Dword) (dest : Byte) (arg : Half)
  | timerCancel (h : Hdr) (number : Word)
  | longStatus (h : Hdr) (handle : Half)
  | longSuspend (h : Hdr) (handle : Half)
  | longResume (h : Hdr) (handle : Half) (tick : Dword)
  | longCancel (h : Hdr) (handle : Half)
  | roadmapBuild (h : Hdr) (nodes : Word) (seed : Word)
  | wavefrontFull (h : Hdr)
  | deepPlan (h : Hdr) (count : Word) (k : Half) (tick : Dword) (raddr : Dword)
  | fieldRebuild (h : Hdr) (origin : V3) (raddr : Dword)
  | memScrub (h : Hdr) (start : Dword) (length : Dword)
  | tileRequalify (h : Hdr) (tile : Byte)
  | snapPause (h : Hdr)
  | snapResume (h : Hdr)
  | snapSave (h : Hdr) (dest : Byte) (slot : Byte) (addr : Dword)
  | snapLoad (h : Hdr) (source : Byte) (slot : Byte) (addr : Dword)
  | replay (h : Hdr) (source : Byte) (slot : Byte) (inputs : Byte) (image : Dword) (target : Dword)
      (input : Dword) (raddr : Dword) (probes : List Probe)
  | zhdExport (h : Hdr) (first : Dword) (count : Word) (journal : Byte) (raddr : Dword)
  | diagRead (h : Hdr) (addr : Dword) (length : Word) (raddr : Dword)
  | diagInject (h : Hdr) (target : Byte) (inst : Byte) (kind : Byte) (tick : Dword) (arg : Word)
  | secAttest (h : Hdr) (nonce : List Byte) (raddr : Dword) (nvmOk : Bool)
  | secLifecycle (h : Hdr) (target : Byte) (token : List Byte)
  | secFwUpdate (h : Hdr) (addr : Dword) (length : Word)
  | xmssKeygen (h : Hdr) (raddr : Dword)
  | cascStatus (h : Hdr)
  | cascMemberRemove (h : Hdr) (member : Byte)
  | cascMemberAdd (h : Hdr) (member : Byte)
  | pwrOpSet (h : Hdr) (point : Byte)
  | clkSpreadSet (h : Hdr) (depth : Byte) (rate : Byte)
  | pwrClusterSet (h : Hdr) (mask : Byte) (state : Byte)
  | pwrStatus (h : Hdr)
  -- further events
  | supplyRecovered
  | sysResetRelease
  | perstRelease
  | pcieLinkUp (width : BitVec 6) (speed : BitVec 4)
  | usbConnect (superspeed : Bool)
  | usbResume
  | bestMasterChange (time : Nat) (gm : Bool)
  | ethLossOfSignal (port : Fin 2) (los : Bool) (lock : Bool)
  | configStoreDone (ok : Bool)
  | snapSaveDone
  | attestReportDone
  | lifecycleFuseBlown
  | fwUpdateProgrammed (ok : Bool)
  deriving DecidableEq, Repr

end Sys2Proof
end

