-- ==== Sys2Proof/Decode.lean ====
section
/-! DEFINITION. Reading a command from the bits that the table of operations gives it. No row of the table gives bits:
the commands of this block are register accesses, packets and events, not words of an instruction stream. Packets are
read from their bytes in Machine/Operands.lean. -/

namespace Sys2Proof

/-- No row of the table gives bits, so no word spells a command. -/
def decodeTableWord (_nbits _w : Nat) : Option Instr := none

end Sys2Proof
end

