-- ==== Sys2Proof/Machine/Flags.lean ====
section
/-! DEFINITION. The access kinds of register bits: write one to clear, read-write fields, and the packing of flags. -/

namespace Sys2Proof.Machine

/-- A write-one-to-clear bit after a write of `w` to its register (00 Table 0-9). -/
def w1c (f : Bool) (w : Word) (b : Nat) : Bool := f && !w.getLsbD b

/-- A field of width `n` at bit `lo` of a written word. -/
def fld (w : Word) (lo n : Nat) : BitVec n := (w >>> lo).setWidth n

/-- A field as a number. -/
def fldN (w : Word) (lo n : Nat) : Nat := (fld w lo n).toNat

/-- A word with flags at bit positions. -/
def flagWord (l : List (Nat × Bool)) : Nat := l.foldl (fun a p => a + b2n p.2 * 2 ^ p.1) 0

/-- A register word from fields at bit positions. -/
def packWord (l : List (Nat × Nat)) : Word := BitVec.ofNat 32 (l.foldl (fun a p => a + p.2 * 2 ^ p.1) 0)

end Sys2Proof.Machine
end

