-- ==== Sys2Proof/Machine/StClock.lean ====
section
/-! DEFINITION. State of chapters 16 and 20: clocks, power, temperature, resets and boot, and the pins. -/

namespace Sys2Proof.Machine

/-- A clock domain as its monitor sees it (16 R405, Table 16-13). -/
structure ClkDomain where
  /-- CLK_DOM_INFO.FREQ_MHZ, 16 bit; 16 Table 16-13; reset 0. -/
  freqMhz : Nat := 0
  /-- CLK_DOM_INFO.MON_OFF, 1 bit; 16 R405; reset 0. -/
  monOff : Bool := false
  /-- its monitor failed a test slice and is declared failed at the next tick edge; 14 R356; reset false. -/
  monFail : Bool := false
  /-- CLK_DOM_INFO.RESETTING, 1 bit; 16 R407; reset 0. -/
  resetting : Bool := false
  /-- CLK_DOM_INFO.STALLED, 1 bit; 16 R405; reset 0. -/
  stalled : Bool := false
  /-- consecutive windows without an edge; 16 R405; reset 0. -/
  idleWindows : Nat := 0
  deriving DecidableEq, Repr

/-- A change of the operating point under way (16 R410). -/
structure OpChange where
  target : Nat
  raising : Bool
  /-- spare PLL that is being locked -/
  spare : Nat
  locked : Bool := false
  /-- device time, ns, at which the new voltage has settled: 20 µs after the regulator reported it in regulation -/
  settled : Option Nat := none
  deriving DecidableEq, Repr

/-- A spare PLL being locked to replace a failed one (16 R402): role and spare. -/
structure PllRepair where
  role : Nat
  spare : Nat
  deriving DecidableEq, Repr

/-- The state of a power domain (16 Table 16-5, PWR_DOM_STAT). -/
inductive DomState where
  | off | retention | transition | on
  deriving DecidableEq, Repr

def DomState.code : DomState → Nat
  | .off => 0
  | .retention => 1
  | .transition => 2
  | .on => 3

/-- What holds the device in reset (16 R417, R418; 20 R492, R498). -/
structure Holds where
  /-- POR_N is low; 16 R418; reset true. -/
  por : Bool := true
  /-- SYS_RST_N is low; 16 R418; reset false. -/
  sysRst : Bool := false
  /-- thermal shutdown; 16 R417; reset false. -/
  thermal : Bool := false
  /-- supply excursion; 20 R492; reset false. -/
  supply : Bool := false
  deriving DecidableEq, Repr

/-- Chapters 16 and 20: clocks, power, reset and pins. -/
structure ClockSt where
  /-- CLK_STAT.FREQ_ERR, 1 bit, W1C; 16 Table 16-13; reset 0. -/
  freqErr : Bool := false
  /-- CLK_STAT.STALL, 1 bit, W1C; 16 Table 16-13; reset 0. -/
  stallF : Bool := false
  /-- CLK_STAT.PLL_SPARE_USED, 1 bit, W1C; 16 Table 16-13; reset 0. -/
  spareUsed : Bool := false
  /-- CLK_STAT.XTAL_FAIL, 1 bit; 16 Table 16-13; reset 0. -/
  xtalFail : Bool := false
  /-- CLK_STAT.ON_RC, 1 bit; 16 Table 16-13; reset 1. -/
  onRc : Bool := true
  /-- CLK_STAT.XTAL_OK, 1 bit; 16 Table 16-13; reset 0. -/
  xtalOk : Bool := false
  /-- CLK_XTAL.PASS_RUN as the newest counts of the run, newest last, at most 16; 16 R399; reset none. -/
  xtalRun : List Nat := []
  /-- CLK_XTAL.COUNT, 16 bit; 16 Table 16-13; reset 0. -/
  xtalCount : Nat := 0
  /-- CLK_RC_CAL.N0, 16 bit, fused; 16 R398; reset DESIGN CHOICE (log entry 63) 32,768. -/
  n0 : Nat := 32768
  /-- CLK_SPREAD.RATE_KHZ, 6 bit; 16 Table 16-13; reset 0. -/
  spreadRate : Nat := 0
  /-- CLK_SPREAD.DEPTH, 5 bit; 16 R408, Table 16-13; reset 0. -/
  spreadDepth : Nat := 0
  /-- spread change accepted and waiting for the next tick edge: depth and rate; 16 R408; reset none. -/
  spreadWaiting : Option (Nat × Nat) := none
  /-- CLK_PLL_MAP, physical PLL of roles 0 to 7; 16 R401, Table 16-13; reset 0x7654_3210. -/
  pllMap : List Nat := [0, 1, 2, 3, 4, 5, 6, 7]
  /-- CLK_PLL_STAT.FAILED, PLL numbers; 16 Table 16-13; reset none. -/
  pllFailed : List Nat := []
  /-- CLK_PLL_STAT.LOCKED, PLL numbers; 16 Table 16-13; reset none. -/
  pllLocked : List Nat := []
  /-- spares being locked for failed roles; 16 R402; reset none. -/
  repairs : List PllRepair := []
  /-- CLK_STALL, 64 bit, W1C; 16 Table 16-13; reset 0. -/
  stallMask : Dword := 0
  /-- CLK_GATE_DIS, 64 bit; 16 Table 16-13; reset 0. -/
  gateDis : Dword := 0
  /-- CLK_DOM_SEL.DOMAIN, 6 bit; 16 Table 16-13; reset 0. -/
  domSel : BitVec 6 := 0
  /-- clock domains, 64; 16 R403, R405; reset as ClkDomain. -/
  domains : Tbl ClkDomain := []
  /-- CLK_STALL_CNT, 48 bit; 16 R422; reset 0. -/
  stallCnt : StatCnt := {}
  /-- PWR_STAT.REG_ALERT, 1 bit, W1C; 16 Table 16-13; reset 0. -/
  regAlert : Bool := false
  /-- PWR_STAT.AVS_ERR, 1 bit, W1C; 16 Table 16-13; reset 0. -/
  avsErr : Bool := false
  /-- PWR_STAT.OPCHG_ABORT, 1 bit, W1C; 16 Table 16-13; reset 0. -/
  opAbort : Bool := false
  /-- PWR_STAT.THERM_CRIT, 1 bit; 16 Table 16-13; reset 0. -/
  thermCrit : Bool := false
  /-- PWR_STAT.THERM_WARN, 1 bit; 16 Table 16-13; reset 0. -/
  thermWarn : Bool := false
  /-- PWR_STAT.OP_SUBST, 1 bit, W1C; 16 Table 16-13; reset 0. -/
  opSubst : Bool := false
  /-- PWR_STAT.OP_TARGET, 2 bit; 16 Table 16-13; reset 0. -/
  opTarget : Nat := 0
  /-- PWR_STAT.OP, 2 bit; 16 Table 16-13; reset 0. -/
  op : Nat := 0
  /-- operating-point change pending (SEQ_BUSY); 16 R410; reset none. -/
  change : Option OpChange := none
  /-- voltage write of a lowering that has switched and is not yet reported in regulation; 16 R410; reset false. -/
  lowering : Bool := false
  /-- PWR_DOM_STAT, domains 0 to 8; 16 Table 16-13; reset OFF but for always-on. -/
  doms : List DomState := [.on, .off, .off, .off, .off, .off, .off, .off, .off]
  /-- state last set by PWR_CLUSTER_SET per cluster; 16 R412; reset retention. -/
  clusterSet : List DomState := [.retention, .retention, .retention, .retention]
  /-- PWR_THERM_CFG.SHUT_C, 8 bit; 16 Table 16-13; reset by grade (S: 105). -/
  shutC : Nat := 105
  /-- PWR_THERM_CFG.CRIT_C, 8 bit; 16 Table 16-13; reset by grade (S: 95). -/
  critC : Nat := 95
  /-- PWR_THERM_CFG.WARN_C, 8 bit; 16 Table 16-13; reset by grade (S: 90). -/
  warnC : Nat := 90
  /-- PWR_THERM_CFG.HYST_C, 8 bit; 16 Table 16-13; reset 0x03. -/
  hystC : Nat := 3
  /-- PWR_TEMP_MAX.PEAK, signed 16 bit, 0.25 °C; 16 R416, Table 16-13; reset 0. -/
  peak : Int := 0
  /-- PWR_TEMP_i, 8 sensors, signed 16 bit, 0.25 °C; 16 Table 16-13; reset 0. -/
  temps : List Int := [0, 0, 0, 0, 0, 0, 0, 0]
  /-- PWR_RST_CAUSE.CAUSE, 4 bit, W1C; 16 Table 16-13; reset 0b0001. -/
  rstCause : BitVec 4 := 1
  /-- PWR_BOOT.FAIL_CODE, 8 bit; 16 R420, Table 16-13; reset 0. -/
  failCode : Nat := 0
  /-- PWR_BOOT.STEP, 4 bit; 16 R419, Table 16-13; reset 1. -/
  step : Nat := 1
  /-- PWR_BOOT.BOOT_SRC, 2 bit, strap; 16 R419; reset DESIGN CHOICE (log entry 64) 0b00 (its pull, 20 R486). -/
  bootSrc : BitVec 2 := 0
  /-- CASC_ROLE strap as sampled, true is high (master), 1 bit; 19 R469; reset DESIGN CHOICE (log entry 64) high (its pull, 20 R486). -/
  cascRole : Bool := true
  /-- PWR_BOOT.BOOT_MS, 18 bit; 16 Table 16-13; reset 0. -/
  bootMs : Nat := 0
  /-- PWR_AVS.VOUT_MV, 16 bit; 16 Table 16-13; reset 0. -/
  voutMv : Nat := 0
  /-- PWR_AVS.TARGET_MV, 16 bit; 16 Table 16-13; reset 0. -/
  targetMv : Nat := 0
  /-- PWR_OPCHG_CNT, 48 bit; 16 R410, R422; reset 0. -/
  opchgCnt : StatCnt := {}
  /-- what holds the device in reset; 16 R418, 20 R492; reset POR_N low. -/
  holds : Holds := {}
  /-- device time of the last release of POR_N, ns; 16 R399, R419; reset 0. -/
  porAt : Nat := 0
  /-- READY has been reported and no reset came since; 16 R419; reset false. -/
  ready : Bool := false
  /-- the device stays in ROM recovery; 16 R420; reset false. -/
  recovery : Bool := false
  /-- FAULT_N pin driven low, 1 bit; 14 R364, 20 R485; reset true (low). -/
  faultN : Bool := true
  /-- the USB PHY is out of service: the crystal failed and PCIE_REFCLK is absent; 16 R400; reset false. -/
  usbOff : Bool := false
  /-- TAMPER_N and other tamper sources active now (PRM_TAMPER_SRC), 4 bit; 18 R461; reset 0. -/
  tamperSrc : BitVec 4 := 0
  deriving DecidableEq, Repr

/-- Core-rail voltage of an operating point, mV (Table 16-4). -/
def opMillivolts (op : Nat) : Nat := if op = 0 then 750 else if op = 1 then 700 else 650

/-- The clock role of a domain (Table 16-3): 0xE is REFCLK, 0xF the RC and fixed references. -/
def domainRole (d : Nat) : Nat :=
  if d < 31 then 0 else if d < 35 then 1 else if d = 35 then 0xF else if d < 38 then 0 else if d = 38 then 7
  else if d = 39 then 0xF else if d < 48 then 2 else if d < 50 then 0xE else if d < 53 then 3 else if d = 53 then 6
  else if d < 56 then 5 else if d < 58 then 7 else if d < 60 then 4 else 0xF

/-- The power domain of a clock domain (Table 16-3). -/
def domainPower (d : Nat) : Nat :=
  if d < 28 then 3 + d / 7 else if d < 33 then 2 else if d < 35 then 1 else if d = 35 then 0 else if d < 39 then 2
  else if d = 39 then 1 else if d < 48 then 8 else if d < 53 then 7 else if d = 53 then 0 else if d < 60 then 7 else 0

end Sys2Proof.Machine
end

