-- ==== Sys2Proof/Machine/StHarebell.lean ====
section
/-! DEFINITION. State of chapter 05: the HB_ registers and the records of the tick. -/

namespace Sys2Proof.Machine

/-- HB_T window of one tile (05 Table 5-14); its role stands in the roster of chapter 14. -/
structure HbTile where
  /-- HB_T_STAT.BUSY, 1 bit; 05 Table 5-14; reset 0. -/
  busy : Bool := false
  /-- HB_T_QUERIES, 32 bit; 05 Table 5-14; reset 0. -/
  queries : Nat := 0
  /-- HB_T_CANDS, 32 bit; 05 Table 5-14; reset 0. -/
  cands : Nat := 0
  /-- HB_T_START, 32 bit; 05 Table 5-14; reset 0. -/
  start : Nat := 0
  /-- HB_T_GSIG0, 32 bit; 05 Table 5-14; reset 0. -/
  gsig0 : Word := 0
  /-- HB_T_GSIG1, 32 bit; 05 Table 5-14; reset 0. -/
  gsig1 : Word := 0
  deriving DecidableEq, Repr

/-- A live record with the engine that wrote it and its feature summary (05 R163, R164). -/
structure LiveRec where
  rr : ResRec
  engine : Nat
  summary : List Byte := []
  deriving DecidableEq, Repr

/-- Golden results of one active engine (05 R167). -/
structure GoldenRes where
  engine : Nat
  rec0 : ResRec
  rec1 : ResRec
  sig0 : Word
  sig1 : Word
  deriving DecidableEq, Repr

/-- Chapter 05: Harebell registers and the records of the tick. -/
structure HarebellSt where
  /-- HB_STAT.FIELD_INVALID, 1 bit, W1C; 05 Table 5-13; reset 0. -/
  fieldInvalid : Bool := false
  /-- HB_STAT.COST_SAT, 1 bit, W1C; 05 Table 5-13; reset 0. -/
  costSat : Bool := false
  /-- HB_STAT.POS_SAT, 1 bit, W1C; 05 Table 5-13; reset 0. -/
  posSat : Bool := false
  /-- HB_STAT.FS_UE, 1 bit, W1C; 05 Table 5-13; reset 0. -/
  fsUe : Bool := false
  /-- HB_STAT.FS_CE, 1 bit, W1C; 05 Table 5-13; reset 0. -/
  fsCe : Bool := false
  /-- HB_TICK_FEAS, 32 bit; 05 Table 5-13; reset 0. -/
  tickFeas : Nat := 0
  /-- HB_TICK_INFEAS, 32 bit; 05 Table 5-13; reset 0. -/
  tickInfeas : Nat := 0
  /-- HB_CAUSE_CLR, 32 bit; 05 Table 5-13; reset 0. -/
  causeClr : Nat := 0
  /-- HB_CAUSE_SELF, 32 bit; 05 Table 5-13; reset 0. -/
  causeSelf : Nat := 0
  /-- HB_CAUSE_LIMIT, 32 bit; 05 Table 5-13; reset 0. -/
  causeLimit : Nat := 0
  /-- HB_CAUSE_FSERR, 32 bit; 05 Table 5-13; reset 0. -/
  causeFserr : Nat := 0
  /-- HB_CE_CNT, 48 bit; 05 R155; reset 0. -/
  ceCnt : StatCnt := {}
  /-- HB_UE_CNT, 48 bit; 05 R155; reset 0. -/
  ueCnt : StatCnt := {}
  /-- HB_POS_SAT_CNT, 48 bit; 05 R151; reset 0. -/
  posSatCnt : StatCnt := {}
  /-- tile windows, 72; 05 Table 5-14; reset as HbTile. -/
  tiles : Tbl HbTile := []
  /-- result records and feature summaries of the tick's live candidates; 05 R163, R164; reset none. -/
  live : List LiveRec := []
  /-- golden records and signatures of the tick by engine; 05 R167; reset none. -/
  golden : List GoldenRes := []
  /-- the collision phase of the tick has run; 05 R160; reset false. -/
  ran : Bool := false
  deriving DecidableEq, Repr

end Sys2Proof.Machine
end

