-- ==== Sys2Proof/Machine/StHost.lean ====
section
/-! DEFINITION. State of chapter 17: PCIe, Ethernet, the PTP timer and USB; and the host memory that the device
reads and writes by reference. -/

namespace Sys2Proof.Machine

/-- An MSI-X vector (17 R426). -/
structure MsixVec where
  /-- vector mask, 1 bit; 17 R424, R426 (MSI-X); reset 1 (PRESUMED, log entry 65, MSI-X). -/
  masked : Bool := true
  /-- message address, 64 bit; 17 R424; reset 0. -/
  addr : Dword := 0
  /-- message data, 32 bit; 17 R424; reset 0. -/
  data : Word := 0
  /-- PBA bit, 1 bit; 17 R426; reset 0. -/
  pending : Bool := false
  /-- messages sent; 17 R426; reset 0. -/
  sent : Nat := 0
  deriving DecidableEq, Repr

/-- An Ethernet port (17 R432, Table 17-9). -/
structure EthPort where
  /-- ETH_P_CFG.VID_FILTER, 1 bit; 17 Table 17-9; reset 0. -/
  vidFilter : Bool := false
  /-- ETH_P_CFG.JUMBO, 1 bit; 17 Table 17-9; reset 0. -/
  jumbo : Bool := false
  /-- ETH_P_CFG.EN, 1 bit; 17 Table 17-9; reset 1. -/
  en : Bool := true
  /-- ETH_P_STAT.RX_LOS, 1 bit; 17 Table 17-9; reset 0. -/
  rxLos : Bool := false
  /-- ETH_P_STAT.BLOCK_LOCK, 1 bit; 17 Table 17-9; reset 0. -/
  blockLock : Bool := false
  /-- ETH_P_MAC, 48 bit, fused; 17 Table 17-9; reset DESIGN CHOICE (log entry 63) 0. -/
  mac : BitVec 48 := 0
  /-- ETH_P_MCAST, 48 bit; 17 Table 17-9; reset 0. -/
  mcast : BitVec 48 := 0
  /-- ETH_P_VID_A and _B, 4 × 12 bit; 17 Table 17-9; reset 0. -/
  vids : List Nat := [0, 0, 0, 0]
  /-- ETH_P_RX_CNT, 48 bit; 17 Table 17-8; reset 0. -/
  rxCnt : StatCnt := {}
  /-- ETH_P_RX_DROP_CNT, 48 bit; 17 R435; reset 0. -/
  rxDropCnt : StatCnt := {}
  /-- ETH_P_RX_OVF_CNT, 48 bit; 17 R435; reset 0. -/
  rxOvfCnt : StatCnt := {}
  /-- ETH_P_TX_CNT, 48 bit; 17 Table 17-8; reset 0. -/
  txCnt : StatCnt := {}
  /-- ETH_P_TX_LATE_CNT, 48 bit; 17 R438; reset 0. -/
  txLateCnt : StatCnt := {}
  /-- transmission gate open; 17 R438; reset false. -/
  gate : Bool := false
  deriving DecidableEq, Repr

/-- An egress destination (17 R437). -/
structure EthDest where
  /-- ETH_TXD_MAC, 48 bit; 17 Table 17-9; reset 0. -/
  mac : BitVec 48 := 0
  /-- ETH_TXD_CFG.PORTS, 2 bit; 17 Table 17-9; reset 0b00. -/
  ports : BitVec 2 := 0
  /-- ETH_TXD_CFG.TCI, 16 bit; 17 Table 17-9; reset 0. -/
  tci : Half := 0
  deriving DecidableEq, Repr

/-- The last trajectory payload of a slot in the egress area (17 R437). -/
structure EgressEntry where
  ctx : Nat
  payload : List Byte
  time : Nat
  counter : Option Half
  deriving DecidableEq, Repr

/-- An IN transfer that waits for the USB host (17 R444). -/
inductive UsbIn where
  | completion (bytes : List Byte)
  | event (vector srcClass : Nat) (seq : Word)
  | mirror (bytes : List Byte)
  | header (bytes : List Byte)
  deriving DecidableEq, Repr

/-- A frame on the wire (17 R436, R439): port, protection header and data of one part. -/
structure WireFrame where
  port : Nat
  dest : BitVec 48
  tci : Half
  bytes : List Byte
  deriving DecidableEq, Repr

/-- Writes of ETH registers that wait for the next tick edge (17 R447). -/
structure EthWaiting where
  off : Nat
  val : Word
  deriving DecidableEq, Repr

/-- Chapter 17: the interfaces. -/
structure HostSt where
  /-- PCI_STAT.LINK_DOWN, 1 bit, W1C; 17 Table 17-9; reset 0. -/
  linkDown : Bool := false
  /-- PCI_STAT.POISON_RX, 1 bit, W1C; 17 Table 17-9; reset 0. -/
  poisonRx : Bool := false
  /-- PCI_STAT.DMA_ERR, 1 bit, W1C; 17 Table 17-9; reset 0. -/
  dmaErr : Bool := false
  /-- PCI_STAT.FLR_SEEN, 1 bit, W1C; 17 Table 17-9; reset 0. -/
  flrSeen : Bool := false
  /-- PCI_STAT.PERST_SEEN, 1 bit, W1C; 17 Table 17-9; reset 0. -/
  perstSeen : Bool := false
  /-- PCI_STAT.DL_ACTIVE, 1 bit; 17 Table 17-9; reset 0. -/
  dlActive : Bool := false
  /-- PERST_N is low; 17 R430, 20 R485; reset true (its pull is down). -/
  perst : Bool := true
  /-- D3hot; 17 R431; reset false. -/
  d3hot : Bool := false
  /-- PCI_LINK.WIDTH, 6 bit; 17 Table 17-9; reset 0. -/
  width : BitVec 6 := 0
  /-- PCI_LINK.SPEED, 4 bit; 17 Table 17-9; reset 0. -/
  speed : BitVec 4 := 0
  /-- PCI_ERR_VEC.VECTOR, 6 bit; 17 Table 17-9; reset 0. -/
  errVec : BitVec 6 := 0
  /-- PCI_DMA_ERR_ADDR, 64 bit; 17 Table 17-9; reset 0. -/
  dmaErrAddr : Latched64 := {}
  /-- PCI_DMA_ERR_CNT, 48 bit; 17 R429; reset 0. -/
  dmaErrCnt : StatCnt := {}
  /-- PCI_CA_CNT, 48 bit; 17 Table 17-8; reset 0. -/
  caCnt : StatCnt := {}
  /-- error responses logged in AER: Unsupported Requests and Completer Aborts; 17 R428; reset 0. -/
  aerLogged : Nat := 0
  /-- MSI-X vectors, 64; 17 R424, R426; reset as MsixVec. -/
  vecs : Tbl MsixVec := []
  /-- MSI-X function mask, 1 bit; 17 R426; reset 0 (PRESUMED, log entry 65, MSI-X). -/
  funcMask : Bool := false
  /-- host memory the device reads and writes by reference (the environment's); 13 R319, R329; reset blank (log entry 1). -/
  mem : Mem := []
  /-- ETH_STAT.XTAL_OUT, 1 bit; 17 Table 17-9; reset 0. -/
  xtalOut : Bool := false
  /-- ETH_STAT.TX_LATE, 1 bit, W1C; 17 Table 17-9; reset 0. -/
  txLate : Bool := false
  /-- ETH_STAT.RX_OVF, 1 bit, W1C; 17 Table 17-9; reset 0. -/
  rxOvf : Bool := false
  /-- ETH_QBV.WIN_US, 8 bit; 17 Table 17-9; reset 0x32. -/
  winUs : Byte := 0x32
  /-- ETH_PTP_CFG.PRIO1, 8 bit; 17 Table 17-9; reset 0xFF. -/
  prio1 : Byte := 0xFF
  /-- ETH_PTP_CFG.DOMAIN, 8 bit; 17 Table 17-9; reset 0. -/
  ptpDomain : Byte := 0
  /-- ETH_PTP_CFG.GM_OK, 1 bit; 17 Table 17-9; reset 0. -/
  gmOk : Bool := false
  /-- ETH_PTP_CFG.PROFILE, 1 bit; 17 Table 17-9; reset 0. -/
  profileE2E : Bool := false
  /-- ETH_PTP_STAT.STEPPED, 1 bit, W1C; 17 Table 17-9; reset 0. -/
  stepped : Bool := false
  /-- ETH_PTP_STAT.GM, 1 bit; 17 Table 17-9; reset 0. -/
  gm : Bool := false
  /-- ETH_PTP_STAT.SLAVE_PORT, 1 bit; 17 Table 17-9; reset 0. -/
  slavePort : Bool := false
  /-- ETH_PTP_STAT.LOCKED, 1 bit; 17 Table 17-9; reset 0. -/
  locked : Bool := false
  /-- ETH_PTP_OFFSET, signed 32 bit; 17 Table 17-9; reset 0. -/
  ptpOffset : Int := 0
  /-- ETH_PTP_THR.STEP_NS, 16 bit; 17 Table 17-9; reset 0x03E8. -/
  stepNs : Half := 0x03E8
  /-- ETH_PTP_THR.LOCK_NS, 16 bit; 17 Table 17-9; reset 0x0064. -/
  lockNs : Half := 0x0064
  /-- PTP time at `ptpSince`, ns; 17 R440; reset 0. -/
  ptpBase : Nat := 0
  /-- device time at which `ptpBase` was taken, ns; 17 R440; reset 0. -/
  ptpSince : Nat := 0
  /-- rate correction, parts in 2^32, at most ±250 ppm; 17 R440; reset 0. -/
  ptpRate : Int := 0
  /-- consecutive Syncs within LOCK_NS; 17 R442; reset 0. -/
  goodSyncs : Nat := 0
  /-- ETH_CTX_SEL.CTX, 10 bit; 17 Table 17-9; reset 0. -/
  ctxSel : BitVec 10 := 0
  /-- ETH_CTX_MAP of the 1,024 contexts, 8 bit each; 17 R437, Table 17-9; reset 0xFF. -/
  ctxMap : Tbl Byte := []
  /-- ports 0 and 1; 17 R432; reset as EthPort. -/
  ports : List EthPort := [{}, {}]
  /-- egress destinations, 64; 17 R437; reset as EthDest. -/
  dests : Tbl EthDest := []
  /-- writes of ETH_PTP_CFG, ETH_QBV and ETH_TXD waiting for the next tick edge; 17 R447; reset none. -/
  ethWaiting : List EthWaiting := []
  /-- trajectory egress area by slot; 17 R437; reset empty. -/
  egress : Tbl EgressEntry := []
  /-- frames sent on the wire in the running tick, oldest first; 17 R436; reset none. -/
  wire : List WireFrame := []
  /-- USB_STAT.SUSPENDED, 1 bit; 17 Table 17-9; reset 0. -/
  usbSuspended : Bool := false
  /-- USB_STAT.CONFIGURED, 1 bit; 17 Table 17-9; reset 0. -/
  usbConfigured : Bool := false
  /-- USB_STAT.SUPERSPEED, 1 bit; 17 Table 17-9; reset 0. -/
  usbSuper : Bool := false
  /-- USB_STAT.CONNECTED, 1 bit; 17 Table 17-9; reset 0. -/
  usbConnected : Bool := false
  /-- USB_CTRL.TRAJ_MIRROR, 1 bit; 17 Table 17-9; reset 0. -/
  trajMirror : Bool := false
  /-- USB_CTRL.EN, 1 bit; 17 Table 17-9; reset 1. -/
  usbEn : Bool := true
  /-- idVendor of USB and PCIe, 16 bit, assigned; 17 R424, Table 17-9; reset DESIGN CHOICE (log entry 63) 0. -/
  vendor : Half := 0
  /-- USB_EVT_MASK, 64 bit; 17 Table 17-9; reset 0. -/
  evtMask : Dword := 0
  /-- USB_CMD_CNT, 48 bit; 17 Table 17-8; reset 0. -/
  usbCmdCnt : StatCnt := {}
  /-- USB_DROP_CNT, 48 bit; 17 R444; reset 0. -/
  usbDropCnt : StatCnt := {}
  /-- sequence of the next event message, 32 bit; 17 R444; reset 0. -/
  evtSeq : Word := 0
  /-- command transfers received on EP1 OUT and not yet taken, oldest first; 17 R444, R445; reset none. -/
  usbOut : List (List Byte) := []
  /-- pending IN transfers, oldest first; 17 R444, R445; reset none. -/
  usbIn : List UsbIn := []
  deriving DecidableEq, Repr

/-- PTP time at a device time (R440): the base plus the elapsed time at the corrected rate. -/
def HostSt.ptpAt (h : HostSt) (now : Nat) : Nat :=
  let d : Int := (now : Int) - h.ptpSince
  ((h.ptpBase : Int) + d + d * h.ptpRate / 4294967296).toNat

end Sys2Proof.Machine
end

