-- ==== Sys2Proof/Machine/StMemory.lean ====
section
/-! DEFINITION. State of chapter 15: memories and the MEM_ registers. -/

namespace Sys2Proof.Machine

/-- A channel (MEM_CH_STAT_c, 15 Table 15-11); REFRESH_MULT is not stored (log entry 178). -/
structure DdrChannel where
  /-- MEM_CH_STAT_c.CE, 16 bit; 15 R389, Table 15-11; reset 0. -/
  ce : Nat := 0
  /-- MEM_CH_STAT_c.TRAINED, 1 bit; 15 Table 15-11; reset 0. -/
  trained : Bool := false
  deriving DecidableEq, Repr

/-- The secure region (15 R386). -/
inductive SecRegion where
  | opened
  | wiping
  | closed
  deriving DecidableEq, Repr

/-- Chapter 15: memory registers and contents. -/
structure MemorySt where
  /-- MEM_STAT.SEC_WIPED, 1 bit, W1C; 15 Table 15-11; reset 0. -/
  secWiped : Bool := false
  /-- MEM_STAT.PPR_EXHAUSTED, 1 bit; 15 R391, Table 15-11; reset 0. -/
  pprExhausted : Bool := false
  /-- MEM_STAT.CONFLICT, 1 bit, W1C; 15 Table 15-11; reset 0. -/
  conflictF : Bool := false
  /-- MEM_STAT.SRAM_UE, 1 bit, W1C; 15 Table 15-11; reset 0. -/
  sramUe : Bool := false
  /-- MEM_STAT.SRAM_CE, 1 bit, W1C; 15 Table 15-11; reset 0. -/
  sramCe : Bool := false
  /-- MEM_STAT.DDR_UE, 1 bit, W1C; 15 Table 15-11; reset 0. -/
  ddrUe : Bool := false
  /-- MEM_STAT.DDR_CE, 1 bit, W1C; 15 Table 15-11; reset 0. -/
  ddrCe : Bool := false
  /-- MEM_BAR2_SEL.WINDOW, 3 bit; 15 Table 15-11; reset 0. -/
  bar2Sel : BitVec 3 := 0
  /-- MEM_SCRUB_CFG.EN, 1 bit; 15 Table 15-11; reset 1. -/
  scrubEn : Bool := true
  /-- MEM_SCRUB_CFG.PASS_S, 20 bit; 15 Table 15-11; reset 0x1_5180. -/
  passS : BitVec 20 := 0x15180
  /-- MEM_SCRUB_POS, 32 bit; 15 Table 15-11; reset 0. -/
  scrubPos : Nat := 0
  /-- MEM_DDR_CE_CNT, 48 bit; 15 R389; reset 0. -/
  ddrCeCnt : StatCnt := {}
  /-- MEM_DDR_UE_CNT, 48 bit; 15 R389; reset 0. -/
  ddrUeCnt : StatCnt := {}
  /-- MEM_SRAM_CE_CNT, 48 bit; 15 R383; reset 0. -/
  sramCeCnt : StatCnt := {}
  /-- MEM_SRAM_UE_CNT, 48 bit; 15 R383; reset 0. -/
  sramUeCnt : StatCnt := {}
  /-- MEM_CONFLICT_CNT, 48 bit; 15 R382; reset 0. -/
  conflictCnt : StatCnt := {}
  /-- MEM_UE_ADDR: address bits 47 to 0 and SRAM in bit 63; 15 Table 15-11; reset 0. -/
  ueAddr : Latched64 := {}
  /-- MEM_CONFLICT_LAST, 32 bit; 15 R382, Table 15-11; reset 0. -/
  conflictLast : Word := 0
  /-- MEM_PPR_STAT.APPLIED, 8 bit; 15 Table 15-11; reset 0. -/
  pprApplied : Byte := 0
  /-- MEM_SEC_STAT.WIPES, 16 bit; 15 R386, Table 15-11; reset 0. -/
  wipes : Nat := 0
  /-- MEM_SEC_STAT.VERIFY_FAIL, 1 bit, W1C; 15 Table 15-11; reset 0. -/
  verifyFail : Bool := false
  /-- the secure region: open, wiping or closed; 15 R386; reset open. -/
  secure : SecRegion := .opened
  /-- channels, 8; 15 Table 15-11; reset as DdrChannel. -/
  channels : List DdrChannel := [{}, {}, {}, {}, {}, {}, {}, {}]
  /-- LPDDR5X contents by device address, without the bundle slots; 15 R387, R392; reset blank (log entry 1). -/
  ddr : Mem := []
  /-- corrected granules per row in the running scrub pass: row key and count; 15 R391; reset none. -/
  rowCe : Tbl Nat := []
  /-- SRAM contents by device address that no other field of the state holds; 15 R370, R374 to R376; reset 0 (R384). -/
  sram : Mem := []
  deriving DecidableEq, Repr

/-- Channel of a usable device address (R387). -/
def ddrChannel (a : Nat) : Nat := a >>> 8 &&& 7

/-- Channel-local address of a usable device address (R387). -/
def ddrLocal (a : Nat) : Nat := (a >>> 11) <<< 8 ||| (a &&& 0xFF)

/-- Address of the check word of the 32-byte granule at a channel-local address (R388). -/
def ddrCheckAddr (l : Nat) : Nat := 0xF0000000 + (l >>> 5) * 2

/-- End of usable LPDDR5X (Table 15-1). -/
def ddrEnd : Nat := 0x780000000

end Sys2Proof.Machine
end

