-- ==== Sys2Proof/Machine/StPoppy.lean ====
section
/-! DEFINITION. State of chapter 07: the POP_ registers, the cluster lists and the die results. -/

namespace Sys2Proof.Machine

/-- POP_SLOT window and results of a foreground slot (07 Table 7-10). -/
structure PopSlot where
  /-- POP_SLOT_CTX.VALID, 1 bit; 07 R196, Table 7-10; reset 0. -/
  valid : Bool := false
  /-- POP_SLOT_CTX.RERANKED, 1 bit; 07 R196, Table 7-10; reset 0. -/
  reranked : Bool := false
  /-- POP_SLOT_CTX.CTX, 10 bit; 07 Table 7-10; reset 0. -/
  ctx : Nat := 0
  /-- POP_SLOT_K.KC, 11 bit; 07 Table 7-10; reset 0. -/
  kc : Nat := 0
  /-- POP_SLOT_K.K, 11 bit; 07 Table 7-10; reset 0. -/
  k : Nat := 0
  /-- POP_SLOT_VALID.REPEATS, 11 bit; 07 Table 7-10; reset 0. -/
  repeats : Nat := 0
  /-- POP_SLOT_VALID.VALID_N, 11 bit; 07 Table 7-10; reset 0. -/
  validN : Nat := 0
  /-- POP_SLOT_TIE, 32 bit; 07 Table 7-10; reset 0. -/
  tie : Nat := 0
  /-- POP_SLOT_KTH, 32 bit; 07 Table 7-10; reset 0. -/
  kth : Nat := 0
  /-- POP_SLOT_FEAS, 32 bit; 07 Table 7-10; reset 0. -/
  feas : Nat := 0
  /-- POP_SLOT_INFEAS, 32 bit; 07 Table 7-10; reset 0. -/
  infeas : Nat := 0
  /-- POP_SLOT_TOP, 32 bit; 07 Table 7-10; reset 0xFFFF_FFFF. -/
  top : Nat := 0xFFFFFFFF
  /-- repeat map written in the context-load item: repeat count R; 07 R187; reset 0. -/
  repCount : Nat := 0
  /-- cluster results of the tick, by cluster; 07 R189, R190; reset none. -/
  clusters : List ClusterRes := []
  /-- die result merged and not yet published, with the tick's feature rows; 07 R193; reset none. -/
  merged : Option DieRes := none
  /-- critic scores of the tick, FP32 by rank, where the critic item completed; 03 R103, 07 R195; reset none. -/
  scores : Option (List Word) := none
  /-- published die result (Poppy result area); 07 R191, R196; reset none. -/
  result : Option DieRes := none
  deriving DecidableEq, Repr

/-- Chapter 07: Poppy registers and state. -/
structure PoppySt where
  /-- POP_CTRL.TAKEOVER_EN, 1 bit; 07 Table 7-9; reset 1. -/
  takeoverEn : Bool := true
  /-- POP_STAT.TAKEOVER_OK, 1 bit; 07 R198, Table 7-9; reset 0. -/
  takeoverOk : Bool := false
  /-- POP_STAT.MERGE_FAILED, 1 bit; 07 Table 7-9; reset 0. -/
  mergeFailed : Bool := false
  /-- POP_STAT.FAILED_MASK, 4 bit; 07 Table 7-9; reset 0. -/
  failedMask : BitVec 4 := 0
  /-- cluster Poppies found failed and waiting for the next tick edge, 4 bit; 07 R199; reset 0. -/
  failWaiting : BitVec 4 := 0
  /-- die merge unit found failed and waiting for the next tick edge; 07 R199; reset false. -/
  mergeFailWaiting : Bool := false
  /-- POP_STAT.ROW_REFUSED, 1 bit, W1C; 07 Table 7-9; reset 0. -/
  rowRefused : Bool := false
  /-- POP_STAT.TAKEOVER, 1 bit, W1C; 07 Table 7-9; reset 0. -/
  takeoverF : Bool := false
  /-- POP_STAT.DUP_SEEN, 1 bit, W1C; 07 Table 7-9; reset 0. -/
  dupSeen : Bool := false
  /-- POP_STAT.SUM_SAT, 1 bit, W1C; 07 Table 7-9; reset 0. -/
  sumSat : Bool := false
  /-- POP_LEN_SEL, 32 bit; 07 Table 7-9; reset 0. -/
  lenSel : Nat := 0
  /-- POP_LEN_MERGE, 32 bit; 07 Table 7-9; reset 0. -/
  lenMerge : Nat := 0
  /-- POP_LEN_RERANK, 32 bit; 07 Table 7-9; reset 0. -/
  lenRerank : Nat := 0
  /-- POP_BG_CNT, 48 bit; 07 R203; reset 0. -/
  bgCnt : StatCnt := {}
  /-- slot windows and results, 16; 07 Table 7-10; reset as PopSlot. -/
  slots : Tbl PopSlot := []
  deriving DecidableEq, Repr

end Sys2Proof.Machine
end

