-- ==== Sys2Proof/Machine/StCommand.lean ====
section
/-! DEFINITION. State of chapter 13: rings, bundles and long operations. -/

namespace Sys2Proof.Machine

/-- A ring pair (13 R319 to R322, Table 13-13). -/
structure Ring where
  /-- SYS_RING_SQ base, 64 bit; 13 Table 13-13; reset 0. -/
  sqBase : Dword := 0
  /-- SYS_RING_CQ base, 64 bit; 13 Table 13-13; reset 0. -/
  cqBase : Dword := 0
  /-- SYS_RING_CFG.EN, 1 bit; 13 Table 13-13; reset 0. -/
  en : Bool := false
  /-- SYS_RING_CFG.SQ_LOG as written, 5 bit; 13 Table 13-13; reset 0x04. -/
  sqLog : BitVec 5 := 4
  /-- SYS_RING_CFG.CQ_LOG as written, 5 bit; 13 Table 13-13; reset 0x04. -/
  cqLog : BitVec 5 := 4
  /-- SYS_RING_CFG.CQ_IE, 1 bit; 13 Table 13-13; reset 1. -/
  cqIe : Bool := true
  /-- SYS_RING_CFG.VECTOR, 6 bit; 13 Table 13-13; reset 0. -/
  vector : BitVec 6 := 0
  /-- SYS_RING_STAT.FAULT_CODE, 16 bit; 13 R321, Table 13-13; reset 0. -/
  faultCode : Nat := 0
  /-- SYS_RING_STAT.CQ_FULL, 1 bit; 13 R322, Table 13-13; reset 0. -/
  cqFull : Bool := false
  /-- SYS_RING_STAT.FAULT, 1 bit; 13 R321, Table 13-13; reset 0. -/
  fault : Bool := false
  /-- SYS_RING_SEQ.EXPECT, 32 bit; 13 Table 13-13; reset 0. -/
  expect : Word := 0
  /-- SYS_RING_PTR.SQ_HEAD, 16 bit; 13 Table 13-13; reset 0. -/
  sqHead : Nat := 0
  /-- submission tail written by the host; 13 R319, R320; reset 0. -/
  sqTail : Nat := 0
  /-- SYS_RING_PTR.CQ_TAIL, 16 bit; 13 Table 13-13; reset 0. -/
  cqTail : Nat := 0
  /-- completion head written by the host; 13 R319, R320; reset 0. -/
  cqHead : Nat := 0
  /-- completion phase, 1 bit; 13 R319, R322; reset true. -/
  phase : Bool := true
  /-- completions that wait for room in the completion ring; 13 R322; reset none. -/
  held : List Cpl := []
  /-- packets taken whose final completion has not been posted; 13 R318; reset 0. -/
  opened : Nat := 0
  deriving DecidableEq, Repr

def logSize (l : BitVec 5) : Nat := if 4 ≤ l.toNat ∧ l.toNat ≤ 16 then 2 ^ l.toNat else 16
def Ring.sqSize (r : Ring) : Nat := logSize r.sqLog
def Ring.cqSize (r : Ring) : Nat := logSize r.cqLog

/-- A bundle slot that holds a bundle (13 R335). -/
structure BundleSlot where
  gen : Nat
  bytes : Mem
  length : Nat
  bundle : Bundle
  /-- CFG_DIGEST: SHAKE256 of the bytes with GEN taken as 0 (10 R248) -/
  digest : List Byte
  deriving DecidableEq, Repr

/-- What is going on with the bundle slots (13 R337 to R341, SYS_CFG_STAT.STATE). -/
inductive CfgPhase where
  | idle
  | loading (hdr : Hdr) (gen : Nat) (fromHost : Option Nat) (length : Nat) (digest : List Byte)
  | staging (hdr : Hdr) (gen : Nat)
  | switchPending
  deriving DecidableEq, Repr

/-- States of a long operation (13 Table 13-8). -/
inductive LongState where
  | queued | running | suspendPending | suspended | cancelPending
  /-- ended, its final completion not yet posted (R322) -/
  | ended
  deriving DecidableEq, Repr

/-- A replay in progress (10 R265 to R268). -/
structure ReplayJob where
  snap : Snapshot
  target : Nat
  /-- step that runs next -/
  next : Nat
  fromHost : Bool
  inputAddr : Nat
  raddr : Nat
  probes : List Probe
  steps : Nat := 0
  firstDiff : Option Nat := none
  faultTick : Bool := false
  results : List Byte := []
  deriving DecidableEq, Repr

/-- A SNAP_SAVE under way: the S(k) it writes, and the checkpoint slot or the host address it goes to (10 R261). -/
structure SaveJob where
  hdr : Hdr
  snap : Snapshot
  slot : Option Nat
  addr : Nat
  deriving DecidableEq, Repr

/-- What a long operation works on (13 Table 13-7). -/
inductive LongWork where
  | roadmap (nodes : Nat) (seed : Word)
  | wavefront
  | deepPlan (count k tick raddr : Nat)
  | fieldRebuild (origin : V3) (raddr : Nat)
  | memScrub (start len ce ue : Nat)
  | tileRequalify (tile : Nat)
  | replay (job : ReplayJob)
  | keygen (raddr : Nat)
  deriving DecidableEq, Repr

/-- The copies a long operation takes at its first slice (13 R333). -/
structure LongCopies where
  ctx : Ctx := {}
  world : WorldSt := {}
  bundle : Option Bundle := none
  lup : LupCtx := {}
  slot : CflSlot := {}
  tick : Nat := 0
  gen : GenCtx := {}
  env : EvalEnv := {}
  deriving DecidableEq, Repr

/-- A long operation (13 R331, R332). -/
structure LongOp where
  /-- handle: use count and slot, 16 bit; 13 R331; reset free. -/
  handle : Nat
  hdr : Hdr
  opcode : Nat
  state : LongState := .queued
  slices : Nat := 0
  work : LongWork
  copies : Option LongCopies := none
  level : Nat := 1
  cls : ServerClass := .cp
  /-- waits in delay list 1 for a resume tick -/
  delayed : Bool := false
  deriving DecidableEq, Repr

/-- Chapter 13: commands and configuration. -/
structure CommandSt where
  /-- ring pairs, 64; 13 R319, Table 13-13; reset disabled. -/
  rings : Tbl Ring := []
  /-- replies that wait for an emptied reply mailbox, by mailbox; 12 R309; reset none. -/
  mbHeld : Tbl (List Cpl) := []
  /-- SYS_CFG_STAT.ROLLED_BACK, 1 bit, W1C; 13 Table 13-12; reset 0. -/
  rolledBack : Bool := false
  /-- SYS_CFG_STAT.REJECTED, 1 bit, W1C; 13 Table 13-12; reset 0. -/
  rejected : Bool := false
  /-- SYS_CFG_STAT.STATE, with the command under way; 13 R337 to R341, Table 13-12; reset NONE. -/
  phase : CfgPhase := .idle
  /-- a rollback that waits for its tick edge (STATE ROLLBACK_PENDING); 13 R339; reset false. -/
  rollback : Bool := false
  /-- chunks of the staged slot written by CONFIG_WRITE, up to 64 MiB; 13 R337; reset empty. -/
  chunks : Mem := []
  /-- staged bundle (SYS_CFG_GEN_STAGED); 13 R335; reset empty. -/
  staged : Option BundleSlot := none
  /-- active bundle (SYS_CFG_GEN_ACTIVE); 13 R335; reset empty before the boot's step 5. -/
  active : Option BundleSlot := none
  /-- previous bundle (SYS_CFG_GEN_PREV); 13 R335; reset empty. -/
  previous : Option BundleSlot := none
  /-- SYS_CFG_SWITCH, 64 bit; 13 Table 13-12; reset 0. -/
  switchTick : Latched64 := {}
  /-- a CONFIG_STORE under way and the bundle it writes; 13 Table 13-7; reset none. -/
  storing : Option (Hdr × BundleSlot) := none
  /-- long operations by handle slot, 64 (SYS_LONG_MASK, INFO, OP, PROG); 13 R331; reset free. -/
  longs : Tbl LongOp := []
  /-- last use count of each handle slot, 10 bit; 13 R331; reset 0. -/
  useCounts : Tbl Nat := []
  /-- SYS_LONG_SEL.SLOT, 6 bit; 13 Table 13-12; reset 0. -/
  longSel : BitVec 6 := 0
  /-- SYS_CMD_CRC_CNT, 48 bit; 13 R324, R342; reset 0. -/
  crcCnt : StatCnt := {}
  /-- SYS_CMD_SEQ_CNT, 48 bit; 13 R324, R342; reset 0. -/
  seqCnt : StatCnt := {}
  /-- ring number that pair A, pair B and Primrose served last (127 before the first); 13 R318; reset before ring 0. -/
  turns : List Nat := [127, 127, 127]
  /-- the SNAP_SAVE under way and the image it writes; 10 R261; reset none. -/
  saving : Option SaveJob := none
  deriving DecidableEq, Repr

end Sys2Proof.Machine
end

