-- ==== Sys2Proof/Machine/StSecurity.lean ====
section
/-! DEFINITION. State of chapter 18, with the fuses, the secure NVM die and the boot store, which resets keep. -/

namespace Sys2Proof.Machine

/-- A verified firmware image (18 Table 18-3). -/
structure FwImage where
  header : List Byte := []
  body : List Byte := []
  deriving DecidableEq, Repr

def FwImage.keySlot (f : FwImage) : Nat := leAt f.header 3 1
def FwImage.version (f : FwImage) : Nat := leAt f.header 4 4
def FwImage.rollback (f : FwImage) : Nat := leAt f.header 8 1
def FwImage.digest (f : FwImage) : List Byte := (f.header.drop 16).take 32
def FwImage.augonKey (f : FwImage) : List Byte := (f.header.drop 64).take 68
def FwImage.ownerKey (f : FwImage) : List Byte := (f.header.drop 132).take 68
def FwImage.augonSig (f : FwImage) : List Byte := (f.header.drop 200).take 2820
def FwImage.ownerSig (f : FwImage) : List Byte := (f.header.drop 3020).take 2820

/-- Fuses (18 R448, R453, R454; 16 R398; 17 Table 17-9). What one part has fused is not in the manual: the values of
a blank part (DESIGN CHOICE, log entry 14). -/
structure Fuses where
  /-- lifecycle fuses blown, 0 to 8 (PRM_LC); 18 R448; reset DESIGN CHOICE (log entry 14) 2 (DEPLOYED). -/
  lifecycle : Nat := 2
  /-- rollback fuses blown, 0 to 64 (PRM_ROLLBACK.COUNTER); 18 R454; reset DESIGN CHOICE (log entry 14) 0. -/
  rollback : Nat := 0
  /-- Augon key slot digests, 4 × 32 bytes; 18 R453; reset DESIGN CHOICE (log entry 14) 0. -/
  keyDigests : List (List Byte) := List.replicate 4 (List.replicate 32 0)
  /-- revocation fuses, 4 bit (PRM_ROLLBACK.SLOTS_REVOKED); 18 R453; reset DESIGN CHOICE (log entry 14) 0. -/
  revoked : BitVec 4 := 0
  /-- serial number, 64 bit (PRM_ID); 18 R464; reset DESIGN CHOICE (log entry 14) 0. -/
  serial : Dword := 0
  deriving DecidableEq, Repr

/-- The secure NVM die (14 R367, 15 R391, 18 R458, R459, R462). -/
structure Nvm where
  /-- wear ledger by class × 256 + instance; 14 R367; reset empty (DESIGN CHOICE, log entry 14). -/
  ledger : Tbl LedgerEntry := []
  /-- LPDDR5X rows to repair at the next power-on; 15 R391; reset none. -/
  repairs : List Nat := []
  /-- tamper count, 32 bit (PRM_TAMPER_CNT); 18 R462; reset from NVM (0, DESIGN CHOICE, log entry 14). -/
  tamperCnt : Nat := 0
  /-- B, index blocks reserved, 32 bit (PRM_XMSS_BLOCKS); 18 R459; reset from NVM (0, DESIGN CHOICE, log entry 14). -/
  blocks : Nat := 0
  /-- secret seeds of the identity key; 18 R458; reset none. -/
  seeds : Option (List Byte) := none
  /-- identity signing disabled (R450); 18 Table 18-2; reset false. -/
  signOff : Bool := false
  /-- certificate of the identity key; 18 R450; reset none. -/
  cert : Option (List Byte) := none
  /-- installed owner key digest, 32 bytes; 18 R450; reset none. -/
  owner : Option (List Byte) := none
  deriving DecidableEq, Repr

/-- QSPI NOR: the firmware image and the stored bundle (16 R419, 18 R455). -/
structure Nor where
  /-- firmware image at offset 0; 18 R455; reset none (DESIGN CHOICE, log entry 14). -/
  image : Option FwImage := none
  /-- stored bundle: bytes and length (boot store); 16 R419; reset none (DESIGN CHOICE, log entry 14). -/
  bundle : Option (Mem × Nat) := none
  deriving DecidableEq, Repr

/-- A SEC command under way on Primrose (18 R451, R455, R460). -/
inductive SecWork where
  | attest (nonce : List Byte) (raddr : Nat)
  | lifecycle (target : Nat)
  | fwUpdate (img : FwImage) (usb : Bool)
  deriving DecidableEq, Repr

structure SecCmd where
  hdr : Hdr
  work : SecWork
  /-- index reserved for an attestation -/
  index : Nat := 0
  deriving DecidableEq, Repr

/-- Chapter 18: Primrose. -/
structure SecuritySt where
  fuses : Fuses := {}
  nvm : Nvm := {}
  nor : Nor := {}
  /-- NEXT of the index range, 40 bit (PRM_XMSS_NEXT) with its HI latch; 18 R459, Table 18-9; reset 0. -/
  next : Latched64 := {}
  /-- LIMIT of the index range; 18 R459; reset 0. -/
  limit : Nat := 0
  /-- HI word latched by a read of PRM_ID_LO, 32 bit; 18 R464; reset 0. -/
  idHi : Word := 0
  /-- measurement chain M, 32 bytes (PRM_BOOT_CHAIN); 18 R457; reset 0. -/
  chain : List Byte := List.replicate 32 0
  /-- identity public key, 68 bytes (PRM_ID_PUB); 18 Table 18-9; reset 0. -/
  idPub : List Byte := List.replicate 68 0
  /-- token nonce, 32 bytes (PRM_LC_NONCE), random; 18 R451; reset from Config.randomWord 0 to 3. -/
  nonce : List Byte := (List.range 4).flatMap fun i => toLe 8 (Config.randomWord i).toNat
  /-- random words taken from the random source so far (the model's own index of Config.randomWord); reset 4. -/
  randIx : Nat := 4
  /-- a tamper event since the previous attestation report; 18 Table 18-5; reset false. -/
  tampered : Bool := false
  /-- SEC commands under way and queued, oldest first; 18 R460, R463; reset none. -/
  cmds : List SecCmd := []
  /-- verified image that runs or booted; 18 R453; reset none. -/
  image : Option FwImage := none
  deriving DecidableEq, Repr

end Sys2Proof.Machine
end

