-- ==== Sys2Proof/Machine/State.lean ====
section
/-! DEFINITION. The state of the block: one record of plain data per chapter of the manual, and the queue of waiting
commands. What each chapter's record holds stands in the file named for it. -/

namespace Sys2Proof.Machine

/-- Faults: no command of this block raises one. Every access to an address that does not exist gets the answer the
manual gives it (a Completer Abort, an Unsupported Request, a discarded write, a violation), and the block goes on.
The type is kept for the interface. Safe. -/
inductive Fault where
  /-- raised by nobody; safe -/
  | never
  deriving DecidableEq, Repr

/-- Refusals. -/
inductive Refusal where
  /-- raised by an arm of exec whose command has no meaning yet; safe -/
  | notModelled (mnemonic : String)
  deriving DecidableEq, Repr

/-- The whole state. -/
structure State where
  /-- chapter 00 identity and grade -/
  ident : IdSt := {}
  /-- chapter 01 tick sources and registers -/
  tick : TickSt := {}
  /-- chapter 02 world model -/
  world : WorldSt := {}
  /-- chapter 03 Aster -/
  aster : AsterSt := {}
  /-- chapter 04 Lupin -/
  lupin : LupinSt := {}
  /-- chapter 05 Harebell -/
  harebell : HarebellSt := {}
  /-- chapter 06 Cornflower -/
  cornflower : CornflowerSt := {}
  /-- chapter 07 Poppy -/
  poppy : PoppySt := {}
  /-- chapter 08 Vetch -/
  vetch : VetchSt := {}
  /-- chapter 09 Hollyhock and Yarrow -/
  commit : CommitSt := {}
  /-- chapter 10 Zheda -/
  zheda : ZhedaSt := {}
  /-- chapter 11 Teasel -/
  teasel : TeaselSt := {}
  /-- chapter 12 Bindweed -/
  bindweed : BindweedSt := {}
  /-- chapter 12 Cowslip -/
  cowslip : CowslipSt := {}
  /-- chapter 13 commands and bundles -/
  cmd : CommandSt := {}
  /-- chapter 14 Campion and Thistle -/
  safety : SafetySt := {}
  /-- chapter 15 memories -/
  mem : MemorySt := {}
  /-- chapter 16 clocks, power and reset; 20 pins -/
  clock : ClockSt := {}
  /-- chapter 17 PCIe, Ethernet, PTP, USB -/
  host : HostSt := {}
  /-- chapter 18 Primrose -/
  sec : SecuritySt := {}
  /-- chapter 19 cascade -/
  casc : CascadeSt := {}
  /-- device time reached by the commands so far, ns; 01 R11; reset 0. -/
  now : Nat := 0
  /-- words that the last register or memory read returned to its reader (none: Completer Abort or bus error); 01 R43; reset none. -/
  rdata : List Word := []
  /-- index of the next free value (the model's own field, log entry 2; DESIGN CHOICE 0). -/
  freeIx : Nat := 0
  /-- commands waiting, first in first out (the model's queue); reset empty. -/
  pending : List Instr := []
  deriving DecidableEq, Repr

/-- The machine right after reset: every field at the value its record's file states. -/
def State.reset : State := {}

/-! ### Named updates, one per field -/

def State.onIdent (s : State) (f : IdSt → IdSt) : State := { s with ident := f s.ident }
def State.onTick (s : State) (f : TickSt → TickSt) : State := { s with tick := f s.tick }
def State.onWorld (s : State) (f : WorldSt → WorldSt) : State := { s with world := f s.world }
def State.onAster (s : State) (f : AsterSt → AsterSt) : State := { s with aster := f s.aster }
def State.onLupin (s : State) (f : LupinSt → LupinSt) : State := { s with lupin := f s.lupin }
def State.onHarebell (s : State) (f : HarebellSt → HarebellSt) : State := { s with harebell := f s.harebell }
def State.onCornflower (s : State) (f : CornflowerSt → CornflowerSt) : State := { s with cornflower := f s.cornflower }
def State.onPoppy (s : State) (f : PoppySt → PoppySt) : State := { s with poppy := f s.poppy }
def State.onVetch (s : State) (f : VetchSt → VetchSt) : State := { s with vetch := f s.vetch }
def State.onCommit (s : State) (f : CommitSt → CommitSt) : State := { s with commit := f s.commit }
def State.onZheda (s : State) (f : ZhedaSt → ZhedaSt) : State := { s with zheda := f s.zheda }
def State.onTeasel (s : State) (f : TeaselSt → TeaselSt) : State := { s with teasel := f s.teasel }
def State.onBindweed (s : State) (f : BindweedSt → BindweedSt) : State := { s with bindweed := f s.bindweed }
def State.onCowslip (s : State) (f : CowslipSt → CowslipSt) : State := { s with cowslip := f s.cowslip }
def State.onCmd (s : State) (f : CommandSt → CommandSt) : State := { s with cmd := f s.cmd }
def State.onSafety (s : State) (f : SafetySt → SafetySt) : State := { s with safety := f s.safety }
def State.onMem (s : State) (f : MemorySt → MemorySt) : State := { s with mem := f s.mem }
def State.onClock (s : State) (f : ClockSt → ClockSt) : State := { s with clock := f s.clock }
def State.onHost (s : State) (f : HostSt → HostSt) : State := { s with host := f s.host }
def State.onSec (s : State) (f : SecuritySt → SecuritySt) : State := { s with sec := f s.sec }
def State.onCasc (s : State) (f : CascadeSt → CascadeSt) : State := { s with casc := f s.casc }
def State.setNow (s : State) (x : Nat) : State := { s with now := x }
def State.setRdata (s : State) (x : List Word) : State := { s with rdata := x }
def State.setFreeIx (s : State) (x : Nat) : State := { s with freeIx := x }
def State.setPending (s : State) (x : List Instr) : State := { s with pending := x }

end Sys2Proof.Machine
end

