-- ==== Sys2Proof/Machine/Ops.lean ====
section
/-! DEFINITION. The named operations that commands of every chapter share: time, host memory, interrupts, completions
and the fault log. -/

namespace Sys2Proof.Machine

/-- What a command answers. -/
abbrev Out := Host.Outcome State Fault Refusal

/-! ### Time (01 R11, 17 R440) -/

/-- The tick number. -/
def State.tickNo (s : State) : Nat := s.tick.num.val.toNat

/-- Device time never runs back. -/
def State.advance (s : State) (t : Nat) : State := s.setNow (max s.now t)

/-- PTP time now. -/
def State.ptp (s : State) : Nat := s.host.ptpAt s.now

/-- A fresh free value (log entry 2). -/
def State.fresh (s : State) : BitVec 64 × State := (Config.freeValue s.freeIx, s.setFreeIx (s.freeIx + 1))

/-- Random words from the random source (log entry 3). -/
def State.random (s : State) (n : Nat) : List Byte × State :=
  ((List.range n).flatMap fun i => toLe 8 (Config.randomWord (s.sec.randIx + i)).toNat,
   s.onSec fun c => { c with randIx := c.randIx + n })

/-! ### Host memory over PCIe (17 R430, R431) -/

/-- Whether postings reach the host: outside, they are discarded and count as made (R430). -/
def HostSt.up (h : HostSt) : Bool := h.dlActive && !h.perst && !h.d3hot

/-- Bytes written to host memory, if postings reach it. -/
def HostSt.wr (h : HostSt) (a : Nat) (bs : List Byte) : HostSt := if h.up then { h with mem := h.mem.writes a bs } else h

def State.hostWrite (s : State) (a : Nat) (bs : List Byte) : State := s.onHost fun h => h.wr a bs

def State.hostRead (s : State) (a n : Nat) : List Byte := s.host.mem.reads a n

/-! ### Interrupts (17 R426, R444) -/

/-- The USB event of an interrupt request (R444): vector, source class 0 ring, 1 fault, 2 watch, 3 mailbox. -/
def HostSt.usbEvent (h : HostSt) (v cls : Nat) : HostSt :=
  if h.evtMask.getLsbD v && h.usbEn && h.usbConnected then
    { h with
      usbIn := h.usbIn ++ [.event v cls h.evtSeq]
      evtSeq := h.evtSeq + 1 }
  else h

/-- The MSI-X message of a request: held in the PBA while masked, else sent (R426). -/
def HostSt.msix (h : HostSt) (v : Nat) : HostSt :=
  let x := Tbl.get {} h.vecs v
  if x.masked || h.funcMask then { h with vecs := Tbl.put h.vecs v { x with pending := true } }
  else if h.up then { h with vecs := Tbl.put h.vecs v { x with sent := x.sent + 1 } }
  else h

/-- An interrupt request on vector v from a source class. -/
def State.interrupt (s : State) (v cls : Nat) : State := s.onHost fun h => (h.usbEvent v cls).msix v

/-- Vectors whose mask has cleared send their pending message (R426). -/
def HostSt.msixFlush (h : HostSt) : HostSt :=
  (List.range 64).foldl (fun h v =>
    let x := Tbl.get {} h.vecs v
    if x.pending && !x.masked && !h.funcMask then
      HostSt.msix { h with vecs := Tbl.put h.vecs v { x with pending := false } } v
    else h) h

/-! ### Completions (13 R325, R331; 12 R309; 17 R444) -/

/-- The class of an opcode (Table 13-7). -/
def opClass (op : Nat) : OpClass :=
  if op ∈ [0x0103, 0x0201, 0x0202, 0x0204, 0x0206, 0x0300, 0x0301, 0x0302, 0x0303, 0x0404, 0x0501, 0x0502, 0x0602,
      0x0800, 0x0802, 0x0803, 0x0805, 0x0A00, 0x0A01, 0x0A02] then .held
  else if op ∈ [0x0710, 0x0711, 0x0712, 0x0713, 0x0714, 0x0715, 0x0804, 0x0A03] then .long
  else if op ∈ [0x0203, 0x0304, 0x0306, 0x0307, 0x0308, 0x0402, 0x0403, 0x0503, 0x0901, 0x0B01, 0x0B02, 0x0C00,
      0x0C01, 0x0C02] then .tick
  else .short

/-- The 32 bytes of a completion entry with a phase (Table 13-4). -/
def Cpl.bytes (c : Cpl) (phase : Bool) : List Byte :=
  let b : List Byte := [1, BitVec.ofNat 8 (b2n c.final + 2 * b2n c.flow + 128 * b2n phase)] ++ toLe 2 c.status.code ++
    toLe 4 c.tag.toNat ++ toLe 4 c.seq.toNat ++ toLe 2 c.opcode ++ toLe 2 (min 12 c.data.length) ++
    (c.data ++ List.replicate 12 0).take 12
  b ++ toLe 4 (crc32c b).toNat

def State.ring (s : State) (r : Nat) : Ring := Tbl.get {} s.cmd.rings r
def State.setRing (s : State) (r : Nat) (g : Ring) : State := s.onCmd fun c => { c with rings := Tbl.put c.rings r g }
def State.updRing (s : State) (r : Nat) (f : Ring → Ring) : State := s.setRing r (f (s.ring r))

/-- Whether the completion ring has no room: head and tail stay one entry apart (log entry 40). -/
def Ring.full (r : Ring) : Bool := (r.cqTail + 1) % r.cqSize == r.cqHead

/-- The completion tail moved by one entry, the phase toggled on a wrap, and CQ_FULL set where no room is left (R322). -/
def Ring.push (r : Ring) : Ring :=
  let t := (r.cqTail + 1) % r.cqSize
  { r with
    cqTail := t
    phase := if t = 0 then !r.phase else r.phase
    cqFull := (t + 1) % r.cqSize == r.cqHead }

/-- Base address of a ring: bits [11:0] are ignored (Table 13-13). -/
def ringBase (b : Dword) : Nat := b.toNat / 4096 * 4096

/-- A completion entry written to the completion ring, with its interrupt (R322, R426). -/
def State.writeCpl (s : State) (r : Nat) (c : Cpl) : State :=
  let g := s.ring r
  let s := (s.hostWrite (ringBase g.cqBase + g.cqTail * 32) (c.bytes g.phase)).setRing r g.push
  if g.cqIe then s.interrupt g.vector.toNat 0 else s

/-- A guarded master's record (14 R359). -/
def State.master (s : State) (m : Nat) : ThiMaster := Tbl.get {} s.safety.masters m

/-- Whether the pair that serves a path is frozen (14 R360; 13 Table 13-1): pair A serves even rings, mailboxes 64 to 71
and USB, pair B the others; Primrose's mailboxes go to Primrose. -/
def State.pathFrozen (s : State) (r : Nat) : Bool :=
  let m := if 96 ≤ r then 4 else if r < 64 then 2 + r % 2 else if 72 ≤ r && r < 80 then 3 else 2
  (s.master m).frozen

/-- A completion for a ring pair: discarded while the ring is disabled or the link is down, held while there is no room
(R322, R430) or while the pair that serves the ring is frozen (11 Table 11-9). -/
def State.postRing (s : State) (r : Nat) (c : Cpl) : State :=
  let g := s.ring r
  if !g.en || !s.host.up then s
  else if !g.held.isEmpty || g.full || s.pathFrozen r then
    s.setRing r { g with
      held := g.held ++ [c]
      cqFull := g.cqFull || g.full }
  else s.writeCpl r c

def State.mbox (s : State) (m : Nat) : Mbox := Tbl.get {} s.cowslip.mboxes m
def State.setMbox (s : State) (m : Nat) (x : Mbox) : State :=
  s.onCowslip fun c => { c with mboxes := Tbl.put c.mboxes m x }

/-- A message put into an empty slot, with the interrupt of a host receiver (12 R310). -/
def State.fillMbox (s : State) (m : Nat) (bs : List Byte) : State :=
  let x := s.mbox m
  let s := s.setMbox m { x with
    slot := bs
    full := true }
  if x.fullIe && ((16 ≤ m && m < 32) || (36 ≤ m && m < 40)) then s.interrupt x.vector.toNat 3 else s

/-- The 64 bytes of a reply slot: the completion entry and the mailbox reply data (R309, R325). -/
def Cpl.slot (c : Cpl) : List Byte := c.bytes false ++ (c.mbData ++ List.replicate 32 0).take 32

/-- A reply for a mailbox: it waits where the slot is FULL (log entry 41) or its pair is frozen. -/
def State.postMbox (s : State) (m : Nat) (c : Cpl) : State :=
  if (s.mbox m).full || s.pathFrozen c.ring then
    s.onCmd fun x => { x with mbHeld := Tbl.upd [] x.mbHeld m (· ++ [c]) }
  else s.fillMbox m c.slot

/-- A completion for the USB path, with the reply data after it (17 R444, R445). -/
def State.postUsb (s : State) (c : Cpl) : State :=
  if s.host.usbEn && s.host.usbConnected then
    s.onHost fun h => { h with usbIn := h.usbIn ++ [.completion (c.bytes false ++ c.mbData)] }
  else s

/-- A completion posted on its path (Table 13-1; 96 to 99 stand for Primrose's mailboxes 32 to 35, log entry 46). -/
def State.post (s : State) (c : Cpl) : State :=
  if c.ring < 64 then s.postRing c.ring c
  else if c.ring < 80 then s.postMbox (c.ring - 48) c
  else if c.ring = 80 then s.postUsb c
  else s.postMbox (c.ring - 60) c

/-- A path's count of packets without their final completion, one fewer (R318). -/
def State.closeOne (s : State) (r : Nat) : State := s.updRing r fun g => { g with opened := g.opened - 1 }

/-- An interim completion (R325). -/
def State.interim (s : State) (h : Hdr) (op : Nat) (st : Status) (data : List Byte := []) : State :=
  s.post { ring := h.ring, final := false, status := st, tag := h.tag, seq := h.seq, opcode := op, data := data }

/-- Whether a final completion is left out: QUIET, class S or T, ST_OK (R325). -/
def quietDrop (h : Hdr) (op : Nat) (st : Status) : Bool :=
  h.quiet && st == .ok && (opClass op == .short || opClass op == .tick)

/-- The final completion of a packet (R325). -/
def State.final (s : State) (h : Hdr) (op : Nat) (st : Status) (data : List Byte := []) (mb : List Byte := []) : State :=
  let s := if quietDrop h op st then s else
    s.post { ring := h.ring, final := true, status := st, tag := h.tag, seq := h.seq, opcode := op, data := data, mbData := mb }
  s.closeOne h.ring

/-- Whether a RADDR and a reply length are valid on the path (R309, R324 check 5, R330). -/
def raddrOk (h : Hdr) (raddr len : Nat) : Bool :=
  if h.ring = 80 then raddr == 0 else if h.ring < 64 then true else raddr != 0 || decide (len ≤ 32)

/-- Whether the reply goes beside the completion: a mailbox or USB packet with RADDR 0 (R309, R444). -/
def inPlace (h : Hdr) (raddr : Nat) : Bool := decide (64 ≤ h.ring) && raddr == 0

/-- The final ST_OK of a command whose reply goes to RADDR; `data` is the DATA field where the table gives one, else the
number of bytes written (R309, R325). -/
def State.finalReply (s : State) (h : Hdr) (op raddr : Nat) (reply : List Byte) (data : List Byte) : State :=
  if inPlace h raddr then
    s.final h op .ok (if h.ring = 80 then data else toLe 4 reply.length) reply
  else (s.hostWrite raddr reply).final h op .ok data

/-! ### The fault log (14 R363, R364) -/

/-- FAULT_N is low from the assertion of POR_N until READY and while a bit at or above PIN_SEV is set (R364). -/
def State.pinUpdate (s : State) : State :=
  s.onClock fun c => { c with faultN := !c.ready || decide (s.safety.pend.toNat >>> s.safety.pinSev.toNat ≠ 0) }

/-- A fault entry (R363): numbered from 1, the oldest of 1,024 overwritten, its SEV bit set, its vector requested. -/
def State.logEntry (s : State) (cls inst code sev : Nat) (inj : Bool) (detail : List Byte) : State :=
  let t := s.tickNo
  let s := s.onSafety fun f =>
    let q := f.fltSeq + 1
    { f with
      fltSeq := q
      log := ({ seq := q, tick := t, unitClass := cls, inst := inst, code := code, sev := sev, injected := inj,
                detail := detail } :: f.log).take 1024
      pend := f.pend ||| BitVec.ofNat 4 (2 ^ sev) }
  (s.interrupt s.safety.fltVector.toNat 1).pinUpdate

/-- A fault entry whose DETAIL the manual does not state: free values (log entry 2). -/
def State.logFault (s : State) (cls inst code sev : Nat) (inj : Bool := false) : State :=
  let detail := toLe 8 (Config.freeValue s.freeIx).toNat ++ toLe 4 (Config.freeValue (s.freeIx + 1)).toNat
  (s.setFreeIx (s.freeIx + 2)).logEntry cls inst code sev inj detail

/-! ### SAFE_STATE_N (09 R245; 10 R256; 19 R470) -/

/-- Whether SAFE_STATE_N is driven low (HOL_STAT.SAFE_STATE): until the first decision item after READY, while the ESTOP
latch is set, while the last decision item queued a STOP or HOLD of a masked slot, while egress is frozen, in PAUSED and
REPLAY, and on a cascade member that is not in service. A member in service runs no C stage (R470). -/
def State.safeLow (s : State) : Bool :=
  let c := s.commit
  !s.clock.ready || c.estopLatch || c.egressFrozen || s.zheda.run == .paused || s.zheda.run == .replay ||
  (if s.clock.cascRole then c.safeFrames else !s.casc.memberInService)

/-! ### Checks that many commands make -/

/-- A packet that a check refuses: a final completion and nothing else (R324). -/
def State.refuse (s : State) (h : Hdr) (op : Nat) (st : Status) : State := s.final h op st

/-- Whether the device takes commands and runs ticks: READY and nothing holds it in reset (16 R418, R419). -/
def State.up (s : State) : Bool :=
  s.clock.ready && !s.clock.holds.por && !s.clock.holds.sysRst && !s.clock.holds.thermal && !s.clock.holds.supply

/-- The active bundle, if the active slot holds one (13 R335). -/
def State.bundle (s : State) : Option Bundle := s.cmd.active.map (·.bundle)

/-- Generation of a slot, 0 for an empty one (R335). -/
def genOf (b : Option BundleSlot) : Nat := (b.map (·.gen)).getD 0

end Sys2Proof.Machine
end

