-- ==== Sys2Proof/Machine/Accept.lean ====
section
/-! DEFINITION. Acceptance of configuration bundles and of context records: the conditions of 13 R338 and 11 R499,
one by one. -/

namespace Sys2Proof.Machine

/-! ### Context records (11 R499, Table 11-15) -/

/-- Byte ranges of regions 0x040 to 0xEFF that a record of J joints may fill (R499): Table 11-15, the region 0x800 and
the goal boxes; every other byte is 0. -/
def recNamed (j a : Nat) : Bool :=
  [(0x040, 0x057), (0x058, 0x05E), (0x0C0, 0x0C0 + 4 * j), (0x1C0, 0x1C0 + 8 * j), (0x3C0, 0x3C0 + 4 * j),
   (0x4C0, 0x4C6), (0x4C8, 0x4C8 + 2 * j), (0x548, 0x548 + 2 * j), (0x5D0, 0x5D7), (0x600, 0x61E), (0x620, 0x62C),
   (0x680, 0x900), (0x900, 0x900 + j)].any fun (r : Nat × Nat) => decide (r.1 ≤ a) && decide (a < r.2)

/-- FP32, finite and above 0. -/
def fpPos (w : Word) : Bool := fpFinite w && fpLt 0 w

/-- FP32, finite and not negative. -/
def fpNonNeg (w : Word) : Bool := fpFinite w && fpLe 0 w

/-- UNI_LO, UNI_HI of a joint in order, each read as its mode says (04 R130). -/
def uniOrdered (r : CtxRec) (jt : Joint) (j : Nat) : Bool :=
  if jt.cont && !r.uniRel j then decide (r.uniLo j ≤ r.uniHi j)
  else decide (sgn 32 (r.uniLo j) ≤ sgn 32 (r.uniHi j))

/-- Every field of Table 11-15 within its range. -/
def recRanges (js : List Joint) (r : CtxRec) : Bool :=
  [8, 16, 32, 64].contains r.waypoints && [16, 32, 64, 128].contains r.spheres && [2, 4, 8].contains r.knots &&
  decide (1 ≤ r.dc) && decide (r.req % 64 = 0) && decide (r.req ≤ 1048576) && decide (r.u 0x056 1 ≤ 1) &&
  decide (1 ≤ r.treeMax) && decide (r.treeMax ≤ 1048576) && decide (1 ≤ r.frontier) && decide (r.frontier ≤ 256) &&
  js.zipIdx.all (fun (p : Joint × Nat) =>
    decide (r.sigma p.2 ≤ 0x7FFFFFFF) && uniOrdered r p.1 p.2 && decide (r.u (0x900 + p.2) 1 ≤ 1)) &&
  decide (8 ≤ r.kDepth) && decide (r.kDepth ≤ 1024) && decide (1 ≤ r.ctgLayers) && decide (r.ctgLayers ≤ 8) &&
  r.gravity.all fpFinite && fpPos r.pTot && fpNonNeg r.wS && fpNonNeg r.wT && fpNonNeg r.wD &&
  decide (r.iterMax ≤ 8) && decide (16 ≤ r.pivotExp) && decide (r.pivotExp ≤ 30) && fpPos r.stepTol &&
  fpPos r.aStopMax && decide (1 ≤ r.stopTmax)

/-- The operating points and spread depths a bundle is tried at: in force and pending (01 R31). -/
def State.settings (s : State) : List RateSetting :=
  let c := s.clock
  let ops := c.op :: (c.change.map (·.target)).toList
  let depths := c.spreadDepth :: (c.spreadWaiting.map (·.1)).toList
  ops.flatMap fun o => depths.map fun d => ⟨o, d, c.xtalFail⟩

/-- The setting in force. -/
def State.setting (s : State) : RateSetting := ⟨s.clock.op, s.clock.spreadDepth, s.clock.xtalFail⟩

/-- MAX_UNITS of a bundle at a setting (01 R29, R39). -/
def Bundle.units (b : Bundle) (r : RateSetting) : Nat := unitCount b.program (programEnd (acPerTick b.periodUs r)) b.qMax

/-- The per-context conditions of a bundle (04 R138; 05 R148, R165; 14 R347; 02 R48; 08 R220). -/
def ctxFits (b : Bundle) (set : List RateSetting) (m : ModelEntry) (r : CtxRec) : Bool :=
  (m.shape r.waypoints r.spheres).isSome && decide (1 + m.model.nJ * r.knots ≤ 16 * r.q) &&
  shapeFits m.revolute m.prismatic m.model.eng.pairs.length r.spheres &&
  set.all (fun x => resultAreaFits (candPerEngine (b.units x) r.q) b.critic.isSome) &&
  horizonFits b.ageLimit b.periodUs b.emitUs r.dc b.layerMs &&
  stopFits b.ageLimit b.periodUs b.emitUs r.stopTmax b.layerMs

/-- Whether a record stands under R499 for a model of a bundle. -/
def recOk (b : Bundle) (set : List RateSetting) (m : ModelEntry) (r : CtxRec) : Bool :=
  (r.all fun c => decide (c.1 < 0x40) || decide (0xF00 ≤ c.1) || recNamed m.model.nJ c.1) &&
  recRanges m.model.joints r && ctxFits b set m r

/-! ### Conditions on a bundle alone -/

/-- The lead of an end-anchored item, 0 where the program has none of that name. -/
def TickProgram.lead (p : TickProgram) (n : ItemName) : Nat :=
  ((p.items.find? fun i => i.name == n && !i.edgeAnchored).map (·.pos)).getD 0

/-- The length of an item. -/
def TickProgram.itemLen (p : TickProgram) (n : ItemName) : Nat :=
  ((p.items.find? fun i => i.name == n).map (·.len)).getD 0

/-- The start of an edge-anchored item. -/
def TickProgram.edgePos (p : TickProgram) (n : ItemName) : Nat :=
  ((p.items.find? fun i => i.name == n && i.edgeAnchored).map (·.pos)).getD 0

/-- R31 for a tick program at every setting. -/
def Bundle.fits31 (b : Bundle) (p : TickProgram) (set : List RateSetting) : Bool :=
  set.all fun r => programFits p b.periodUs b.emitUs b.qMax r

/-- R92: FORMAT and PROFILE, of the bundle and of every graph. -/
def Bundle.profileOk (b : Bundle) : Bool :=
  b.format == 1 && b.profile == 1 && (b.predictor.all fun p => p.graph.profile == 1) &&
  (b.critic.all fun c => c.graph.profile == 1) && (b.models.all fun m => m.proposal.all fun g => g.profile == 1) &&
  b.graphs.all fun e => e.2.graph.profile == 1

/-- R94: the weights of all graphs per cluster. -/
def Bundle.weightsFit (b : Bundle) : Bool :=
  decide (((b.predictor.map (·.graph.weightBytes)).getD 0) + ((b.critic.map (·.graph.weightBytes)).getD 0) +
    sumN (b.models.map fun m => (m.proposal.map (·.weightBytes)).getD 0) +
    sumN (b.graphs.map fun e => e.2.graph.weightBytes) ≤ 8388608)

/-- A graph's length and staging in its slot (R104). -/
def graphFits (g : Graph) (slot : Nat) : Bool := decide (g.length + g.staging ≤ slot)

/-- R104 for a tick program. -/
def Bundle.graphsFit (b : Bundle) (p : TickProgram) : Bool :=
  (b.predictor.all fun x => graphFits x.graph (p.itemLen .predictor)) &&
  (b.critic.all fun x => graphFits x.graph (p.itemLen .critic)) &&
  b.models.all fun m => m.proposal.all fun g => graphFits g (p.itemLen .proposal)

/-- Conditions on world parameters, golden bricks and the predictor (R51, R71, R73, R97, R99). -/
def Bundle.worldOk (b : Bundle) : Bool :=
  (b.predictor.isSome || b.obsHold == 8) &&
  (!b.golden.contains 255) && decide (b.golden.length = 4096) && decide (67584 ≤ b.program.bcast) &&
  b.predictor.all fun p => historyFits p.histDepth p.histStride && p.trainedMs == b.layerMs

/-- Conditions on one robot model (R129, R144, R148, R207, R347, R500): the shapes it may run at are those that the golden set lists
(log entry 60). -/
def Bundle.modelOk (b : Bundle) (set : List RateSetting) (m : ModelEntry) : Bool :=
  (m.proposal.isNone || m.mixD == m.model.nJ * m.defaults.knots) &&
  (m.model.eng.spheres.all fun x => decide (x.rad ≤ 65535)) &&
  decide (m.model.dyn.length = m.model.nJ) && (m.model.dyn.all fun d => fpNonNeg d.mass) &&
  (m.shapes.all fun e => shapeFits m.revolute m.prismatic m.model.eng.pairs.length e.s) &&
  recOk b set m m.defaults

/-- R175: the transform and the wavefront in their windows. -/
def Bundle.cornflowerOk (b : Bundle) : Bool :=
  cornflowerFits b.sC (b.program.edgePos .assembly) (b.program.edgePos .transform + b.program.itemLen .transform) b.rings

/-- R375, R392: the work area, and the memory plan inside the bundle-placed region without overlap. -/
def Bundle.planOk (b : Bundle) : Bool :=
  let p := b.plan
  let areas := [(p.recBase, p.recSize), (p.jrnBase, p.jrnSize), (p.ckptBase, p.ckptSize), (p.otherBase, p.otherSize)]
  decide (b.workKib ≤ 2048) &&
  (areas.all fun (a : Nat × Nat) => decide (0x20000000 ≤ a.1) && decide (a.1 + a.2 ≤ 0x780000000)) &&
  areas.zipIdx.all fun (x : (Nat × Nat) × Nat) => areas.zipIdx.all fun (y : (Nat × Nat) × Nat) =>
    x.2 == y.2 || decide (x.1.1 + x.1.2 ≤ y.1.1) || decide (y.1.1 + y.1.2 ≤ x.1.1)

/-! ### Conditions on a bundle with the contexts in force (R198, R226; log entry 16) -/

/-- A foreground context as the acceptance checks see it. -/
structure FgCtx where
  slot : Nat
  q : Nat
  share : Nat
  req : Nat
  k : Nat
  roadmap : Bool
  vet : VetLen
  deriving DecidableEq, Repr

/-- The foreground contexts in slot order. -/
def State.fgCtxs (s : State) (b : Bundle) : List FgCtx :=
  let act := s.teasel.ctxs.filter fun e => e.2.state == .active && e.2.slot.isSome
  let l := act.map fun (e : Nat × Ctx) =>
    let r := e.2.inForce
    let n := e.2.slot.getD 0
    let sh := ((b.modelEntry e.2.model).shape r.waypoints r.spheres).getD {}
    ({ slot := n, q := r.q, share := r.share, req := r.req, k := r.kDepth, roadmap := r.wRoadmap != 0,
       vet := ⟨n, sh.lF, sh.lIt, sh.lS, sh.lReg⟩ } : FgCtx)
  sortBy (fun x y => decide (x.slot ≤ y.slot)) l

/-- R of R198: 1,023 for a context with a ROADMAP weight. -/
def FgCtx.kc (c : FgCtx) : Nat := c.k + (if c.roadmap then 1023 else 0)

/-- Rows of a cluster per context at MAX_UNITS: 16 engines of the context's candidates per engine (R116, R186). -/
def rowsAt (units : Nat) (l : List FgCtx) : List Nat :=
  (allocate units units (l.map fun c => ⟨c.slot, c.share, c.req, c.q, false⟩)).out.map fun o => o.count / 4

/-- The sum of the cluster selection lengths. -/
def selSumLen (units : Nat) (l : List FgCtx) : Nat :=
  sumN ((l.zip (rowsAt units l)).map fun (x : FgCtx × Nat) => lenSel x.2 x.1.kc)

/-- The end of each context's item where items of the given lengths run back to back. -/
def runningSums (l : List Nat) : List Nat := (l.foldl (fun (a : Nat × List Nat) x => (a.1 + x, a.2 ++ [a.1 + x])) (0, [])).2

/-- The critic length of one context and its re-rank (R103, R197). -/
def Bundle.criticLens (b : Bundle) (passes : Nat) (l : List FgCtx) : List Nat :=
  let g := (b.critic.map fun c => c.graph.length + c.graph.staging).getD 0
  l.map fun c => passes * g + lenRerank c.k

/-- R198. -/
def Bundle.poppyFits (b : Bundle) (p : TickProgram) (units : Nat) (l : List FgCtx) : Bool :=
  decide (selSumLen units l ≤ p.hPost - p.lead .dieMerge) &&
  decide (sumN (l.map fun c => lenMerge c.k c.kc b.critic.isSome) ≤ p.lead .dieMerge - p.lead .critic) &&
  (b.critic.isNone || decide (sumN (b.criticLens 1 l) ≤ p.lead .critic - b.vetLead))

/-- Whether a takeover fits (POP_STAT.TAKEOVER_OK, R198). -/
def takeoverFits (p : TickProgram) (units : Nat) (l : List FgCtx) : Bool :=
  decide (2 * selSumLen units l ≤ p.hPost - p.lead .dieMerge)

/-- R226: four logical units, the mandatory items of each in the window, and regeneration before it. -/
def Bundle.vetchFits (b : Bundle) (p : TickProgram) (l : List FgCtx) : Bool :=
  ((List.range 4).all fun u =>
    let mine := (l.filter fun c => c.slot % 4 == u).map (·.vet)
    (List.range mine.length).all fun i => vetFits 0 (b.vetLead - b.vetEndLead) mine i) &&
  (let ends := if b.critic.isSome then runningSums (b.criticLens 1 l)
      else runningSums (l.map fun c => lenMerge c.k c.kc false)
   let room := if b.critic.isSome then p.lead .critic - b.vetLead else p.lead .dieMerge - b.vetLead
   (l.zip ends).all fun (x : FgCtx × Nat) => decide (x.2 + x.1.vet.lReg ≤ room))

/-- R106, R107: the three-array variant under R31 and R104, with both critic passes and the re-rank in the window. -/
def Bundle.variantOk (b : Bundle) (set : List RateSetting) (l : List FgCtx) : Bool :=
  b.variant3.all fun p => b.fits31 p set && b.graphsFit p &&
    (b.critic.isNone || decide (sumN (b.criticLens 2 l) ≤ p.lead .critic - b.vetLead))

/-! ### Cascade (19 R468, R474, R480, R481) -/

/-- The time of a transfer of n bytes over h hops in ac, rounded up (R468). -/
def xferAc (op h n : Nat) : Nat := ceilDiv (fOp op * (26000 + 2600 * h + n)) 13000

/-- Members in service as this device sees them. -/
def State.inService (s : State) : List (Nat × Member) := s.casc.members.filter fun e => e.2.state == .inService

/-- R474 for the count in service, with R481 above four devices; the RESULT transfer carries k_c entries per slot. -/
def Bundle.cascadeOk (b : Bundle) (s : State) (set : List RateSetting) (l : List FgCtx) : Bool :=
  let n := 1 + s.inService.length
  if s.inService.isEmpty then true
  else match Tbl.find? b.cascade n with
  | none => false
  | some (p, bc) =>
    let h := maxN (s.inService.map fun e => e.2.hops)
    set.all fun r =>
      let e := programEnd (acPerTick b.periodUs r)
      let asmEnd := p.edgePos .assembly + p.itemLen .assembly
      let field := asmEnd + xferAc r.op h 1048576
      let bstart := if n ≤ 4 then bc else max bc (field + 64)
      let res := e - p.lead .dieMerge + p.itemLen .dieMerge +
        xferAc r.op h (sumN (l.map fun c => 64 + 16 * c.kc))
      decide (xferAc r.op h 131072 ≤ p.hCommit) && decide (field ≤ bstart) && decide (bstart + 67584 ≤ e) &&
      (if n ≤ 4 then decide (res ≤ e - p.lead .cascadeMerge)
       else decide (res + 64 + p.itemLen .cascadeMerge ≤ e))

/-- R480: every member in service holds a staged bundle of the same digest. -/
def State.membersStaged (s : State) (digest : List Byte) : Bool :=
  s.inService.all fun e => e.2.stagedDigest == some digest

/-! ### R291 and the whole -/

/-- R291: the contexts in force under a new bundle. -/
def Bundle.ctxsFit (b : Bundle) (set : List RateSetting) (t : TeaselSt) : Bool :=
  let live := t.ctxs.filter fun e => e.2.state != .free
  let fg := live.filter fun e => e.2.state == .active || e.2.state == .drain
  (live.all fun e => b.hasModel e.2.model && recOk b set (b.modelEntry e.2.model) e.2.inForce &&
    recOk b set (b.modelEntry e.2.model) e.2.pend) &&
  decide (fg.length ≤ b.nLim) && fg.all fun e => decide (e.2.slot.getD 0 < b.nLim)

/-- Conditions that depend on the bundle and the setting alone. -/
def Bundle.aloneOk (b : Bundle) (set : List RateSetting) (winUs : Nat) : Bool :=
  b.profileOk && b.fits31 b.program set && b.weightsFit && b.graphsFit b.program && b.worldOk &&
  (b.models.all (b.modelOk set)) && b.cornflowerOk && b.planOk &&
  decide (commitLength b.nLim b.qMax ≤ b.program.hCommit) && decide (2 ≤ b.ageLimit) && decide (b.ageLimit ≤ 15) &&
  decide (2 * (b.emitUs + winUs) ≤ b.periodUs)

/-- Every acceptance condition of the manual (R338), under the operating point, spread and contexts in force. -/
def Bundle.accepted (b : Bundle) (s : State) : Bool :=
  let set := s.settings
  let l := s.fgCtxs b
  b.aloneOk set (max 5 s.host.winUs.toNat) && b.ctxsFit set s.teasel && b.variantOk set l && b.vetchFits b.program l &&
  (set.all fun r => b.poppyFits b.program (b.units r) l) && b.cascadeOk s set l

end Sys2Proof.Machine
end

