-- ==== Sys2Proof/Machine/Gate.lean ====
section
/-! DEFINITION. The gate of every command packet: whether its path takes it, and checks 5 to 7 of Table 13-3 in their
order (13 R318, R324, R330; 19 R470). -/

namespace Sys2Proof.Machine

/-- Opcodes that a cascade member in service refuses with ST_BUSY (19 R470). -/
def memberRefused (op : Nat) : Bool :=
  op == 0x0202 || op == 0x0203 || (decide (0x0300 ≤ op) && decide (op < 0x0400) && op != 0x0305) ||
  op == 0x0400 || op == 0x0401 || op == 0x0402 || op == 0x0403 || op == 0x0503 || op == 0x0C00 || op == 0x0C01 ||
  op == 0x0710 || op == 0x0711 || op == 0x0712 || (decide (0x0800 ≤ op) && decide (op < 0x0900) && op != 0x0802)

/-- Whether a clock domain is being reset (16 R407). -/
def State.resetting (s : State) (d : Nat) : Bool := (Tbl.get {} s.clock.domains d).resetting

/-- Clock domain of the processor that serves a path: pair A, pair B, Primrose (16 Table 16-3). -/
def pathDomain (r : Nat) : Nat := if 96 ≤ r then 33 else if r < 64 then 31 + r % 2 else if 72 ≤ r && r < 80 then 32 else 31

/-- Clock domains that a command needs besides its processor's (16 R407): Teasel for contexts, flows and long operations,
Hollyhock for frames and REARM, the SHAKE engine for the SEC commands. -/
def opDomains (op : Nat) : List Nat :=
  let g := op / 256
  if g = 3 ∨ g = 6 ∨ g = 7 then [29] else if g = 5 then [36] else if g = 10 then [33, 34] else []

/-- Whether a path takes a packet now (13 R318, R321, R322; 14 R360; 18 R463): its processor runs and is not frozen, a
ring is enabled, not faulted and has room for completions, and a fenced packet has no earlier one open. -/
def State.takes (s : State) (h : Hdr) : Bool :=
  let g := s.ring h.ring
  let c := s.clock.holds
  (if 96 ≤ h.ring then !c.por && !c.sysRst && !c.thermal && !c.supply else s.up) && !s.pathFrozen h.ring &&
  !s.resetting (pathDomain h.ring) &&
  (decide (64 ≤ h.ring) || (g.en && !g.fault && !g.cqFull)) && (!h.fence || g.opened == 0)

/-- The outcome of checks 5 to 7, in their order (Table 13-3). -/
structure Checks where
  /-- check 5: fields valid for the opcode -/
  param : Bool := true
  /-- check 6: permitted for the lifecycle state and the path -/
  auth : Bool := true
  /-- check 7: the code of a refusal by the run state or the objects named -/
  state : Option Status := none
  deriving DecidableEq, Repr

/-- A packet taken from its path: counted as open, checked, then executed or refused (R318, R324). -/
def State.packet (s : State) (h : Hdr) (op : Nat) (c : Checks) (run : State → State) : State :=
  if !s.takes h then s
  else
    let s := s.updRing h.ring fun g => { g with opened := g.opened + 1 }
    if !c.param then s.refuse h op .badParam
    else if !c.auth then s.refuse h op .authFail
    else if (opDomains op).any s.resetting then s.refuse h op .domainOff
    else if s.casc.memberInService && memberRefused op then s.refuse h op .busy
    else match c.state with
      | some st => s.refuse h op st
      | none => run s

/-- The bytes of a packet: its header (Table 13-2) and its payload. -/
def Hdr.packet (h : Hdr) (op : Nat) (payload : List Byte) : List Byte :=
  let b : List Byte := [1, BitVec.ofNat 8 (b2n h.ref.isSome + 2 * b2n h.fence + 4 * b2n h.quiet)] ++ toLe 2 op ++
    toLe 4 h.tag.toNat ++ toLe 2 h.ctx ++ [0, 0] ++ toLe 4 h.seq.toNat ++ toLe 4 payload.length ++ toLe 8 (h.ref.getD 0)
  b ++ toLe 4 (crc32c (b ++ payload)).toNat ++ payload

/-- A context record. -/
def State.ctx (s : State) (c : Nat) : Ctx := Tbl.get {} s.teasel.ctxs c
def State.setCtx (s : State) (c : Nat) (x : Ctx) : State := s.onTeasel fun t => { t with ctxs := Tbl.put t.ctxs c x }

/-- Whether the context a packet names is allocated (R330). -/
def State.ctxLive (s : State) (h : Hdr) : Bool := (s.ctx h.ctx).state != .free

/-- The model entry of a context in the active bundle. -/
def State.modelOf (s : State) (c : Nat) : ModelEntry := ((s.bundle.map fun b => b.modelEntry (s.ctx c).model)).getD {}

/-- A device state word in DATA. -/
def word4 (n : Nat) : List Byte := toLe 4 n

end Sys2Proof.Machine
end

