-- ==== Sys2Proof/Machine/Contexts.lean ====
section
/-! DEFINITION. Chapter 11: planning contexts and their commands (R288 to R291, R499, R500; 13 Table 13-7 group 0x03). -/

namespace Sys2Proof.Machine

/-! ### Packets -/

/-- A class H context command: answered with ST_PENDING and applied at the next tick edge (R327). -/
def State.atEdgeHeld (s : State) (h : Hdr) (op : Nat) (c : EdgeCmd) (payload : List Byte := []) : State :=
  (s.interim h op .pending).onTeasel fun t => { t with waiting := t.waiting ++ [⟨h, c, h.packet op payload⟩] }

/-- A class T context command: final ST_OK, applied at the next tick edge (R327). -/
def State.atEdgeTick (s : State) (h : Hdr) (op : Nat) (c : EdgeCmd) (payload : List Byte := []) : State :=
  (s.onTeasel fun t => { t with waiting := t.waiting ++ [⟨h, c, h.packet op payload⟩] }).final h op .ok

def ctxAllocEffect (h : Hdr) (any model : Byte) (s : State) : State :=
  s.packet h 0x0300 { param := decide (any.toNat ≤ 1) } fun s =>
    s.atEdgeHeld h 0x0300 (.ctxAlloc (any == 1) model.toNat) [any, model]

def execCtxAlloc (h : Hdr) (any model : Byte) (s : State) : Out := .next (ctxAllocEffect h any model s)

def ctxFreeEffect (h : Hdr) (s : State) : State :=
  s.packet h 0x0301 { param := s.ctxLive h } fun s => s.atEdgeHeld h 0x0301 .ctxFree

def execCtxFree (h : Hdr) (s : State) : Out := .next (ctxFreeEffect h s)

/-- CTX_ACTIVATE is refused with ST_DOMAIN_OFF in OP3 (16 R412). -/
def ctxActivateEffect (h : Hdr) (s : State) : State :=
  s.packet h 0x0302 { param := s.ctxLive h, state := if s.clock.op = 3 then some .domainOff else none } fun s =>
    s.atEdgeHeld h 0x0302 .ctxActivate

def execCtxActivate (h : Hdr) (s : State) : Out := .next (ctxActivateEffect h s)

def ctxDeactivateEffect (h : Hdr) (s : State) : State :=
  s.packet h 0x0303 { param := s.ctxLive h } fun s => s.atEdgeHeld h 0x0303 .ctxDeactivate

def execCtxDeactivate (h : Hdr) (s : State) : Out := .next (ctxDeactivateEffect h s)

/-- Whether a CTX_WRITE stands: inside 0x040 to 0xEFF, and the pending copy after it as R499 demands. -/
def State.ctxWriteOk (s : State) (c off : Nat) (bs : List Byte) : Bool :=
  decide (1 ≤ bs.length) && decide (0x40 ≤ off) && decide (off + bs.length ≤ 0xF00) &&
  (match s.bundle with
   | none => false
   | some b => recOk b s.settings (b.modelEntry (s.ctx c).model) ((s.ctx c).pend.writes off bs))

/-- The bytes are stored in the pending copy, which replaces the record in force at the next tick edge (R288). -/
def ctxWriteEffect (h : Hdr) (off : Nat) (bs : List Byte) (s : State) : State :=
  s.packet h 0x0304 { param := s.ctxLive h && s.ctxWriteOk h.ctx off bs } fun s =>
    let x := s.ctx h.ctx
    (s.setCtx h.ctx { x with
      pend := x.pend.writes off bs
      pendDirty := true }).atEdgeTick h 0x0304 .ctxWrite (toLe 2 off ++ bs)

def execCtxWrite (h : Hdr) (offset : Half) (bytes : List Byte) (s : State) : Out :=
  .next (ctxWriteEffect h offset.toNat bytes s)

/-- Bytes of a context record, in force or pending (Table 13-7). -/
def ctxReadEffect (h : Hdr) (copy off len raddr : Nat) (s : State) : State :=
  s.packet h 0x0305
    { param := s.ctxLive h && decide (copy ≤ 1) && decide (len ≤ 4096) && decide (off + len ≤ 4096) &&
        raddrOk h raddr len } fun s =>
    s.finalReply h 0x0305 raddr ((List.range len).map fun i => (s.ctx h.ctx).byteAt (copy == 1) (off + i)) (word4 len)

def execCtxRead (h : Hdr) (copy : Byte) (offset : Half) (length : Word) (raddr : Dword) (s : State) : Out :=
  .next (ctxReadEffect h copy.toNat offset.toNat length.toNat raddr.toNat s)

def ctxSeedSetEffect (h : Hdr) (seed : Word) (s : State) : State :=
  s.packet h 0x0306 { param := s.ctxLive h } fun s => s.atEdgeTick h 0x0306 (.seedSet seed) (toLe 4 seed.toNat)

def execCtxSeedSet (h : Hdr) (seed : Word) (s : State) : Out := .next (ctxSeedSetEffect h seed s)

/-- The 24 bytes of a goal box. -/
def Box.bytes (b : Box) : List Byte :=
  [b.lo.x, b.lo.y, b.lo.z, b.hi.x, b.hi.y, b.hi.z].flatMap fun v => toLe 4 (unS 32 v)

def ctxGoalSetEffect (h : Hdr) (boxes : List Box) (s : State) : State :=
  s.packet h 0x0307 { param := s.ctxLive h && decide (boxes.length ≤ 16) } fun s =>
    s.atEdgeTick h 0x0307 (.goalSet boxes) (toLe 4 boxes.length ++ boxes.flatMap Box.bytes)

def execCtxGoalSet (h : Hdr) (boxes : List Box) (s : State) : Out := .next (ctxGoalSetEffect h boxes s)

def ctxTreeResetEffect (h : Hdr) (s : State) : State :=
  s.packet h 0x0308 { param := s.ctxLive h } fun s => s.atEdgeTick h 0x0308 .treeReset

def execCtxTreeReset (h : Hdr) (s : State) : Out := .next (ctxTreeResetEffect h s)

/-! ### At the tick edge (R115, R289, R290) -/

/-- Contexts that hold a foreground slot. -/
def TeaselSt.fgOf (t : TeaselSt) : List (Nat × Ctx) :=
  t.ctxs.filter fun e => (e.2.state == .active || e.2.state == .drain) && e.2.slot.isSome

/-- The context in a slot. -/
def TeaselSt.inSlot (t : TeaselSt) (n : Nat) : Option (Nat × Ctx) := t.fgOf.find? fun e => e.2.slot == some n

/-- The foreground slot limit of the active bundle. -/
def State.nLim (s : State) : Nat := (s.bundle.map (·.nLim)).getD 0

/-- The lowest free slot below N_lim (R289). -/
def State.freeSlot (s : State) : Option Nat :=
  (List.range (min 16 s.nLim)).find? fun n => (s.teasel.inSlot n).isNone

/-- The tree of a context discarded, with its pending insertions (04 R134). -/
def LupCtx.dropTree (l : LupCtx) : LupCtx :=
  { l with
    tree := none
    pendingInserts := [] }

def State.updLup (s : State) (c : Nat) (f : LupCtx → LupCtx) : State :=
  s.onLupin fun l => { l with ctxs := Tbl.upd {} l.ctxs c f }

/-- The record fields of a slot's window: those of the held record (09 Table 9-10; log entry 61). -/
def HolSlot.showRecord (x : HolSlot) : HolSlot :=
  { x with
    recState := x.record.state
    index := x.record.index
    t0 := { x.t0 with val := BitVec.ofNat 64 x.record.stopT0 }
    endT := { x.endT with val := BitVec.ofNat 64 x.record.stopEnd }
    ver := { x.ver with val := BitVec.ofNat 64 x.record.wvCheck } }

/-- What a context loses on leaving its slot: the published grids (06 R179), the previous hand-off (08 R223), the record
(09 R238, R240) and the parent table (04 R127). -/
def State.leaveSlot (s : State) (c n : Nat) : State :=
  let s := s.onCornflower fun f => { f with
    slots := Tbl.put f.slots n {}
    full := f.full.filter fun r => r.ctx != c }
  let s := s.onVetch fun v => { v with
    slots := Tbl.upd {} v.slots n fun x => { x with handoff := none, shiftRun := 0 } }
  let s := s.onCommit fun m => { m with
    slots := Tbl.upd {} m.slots n fun x =>
      HolSlot.showRecord { x with record := {}, drainDone := false, emittedPlan := false } }
  s.updLup c fun l => { l.dropTree with parents := [] }

/-- What entering a slot starts: ring 1 reads the reset grid (06 R179). -/
def State.enterSlot (s : State) (c n : Nat) : State :=
  s.onCornflower fun f => { f with
    ctgReset := true
    slots := Tbl.put f.slots n { valid := true, ctx := c, needReset := true } }

/-- The goal boxes in force of a context. -/
def Ctx.boxes (x : Ctx) : List Box := (List.range x.goals).map x.inForce.goal

/-- A goal set that changed: ring 1 of the slot reads the reset grid, and a full recompute of it is discarded
(06 R179, R182). -/
def State.goalChange (s : State) (c : Nat) (old : List Box) : State :=
  let x := s.ctx c
  if x.boxes == old then s
  else s.onCornflower fun f => { f with
    ctgReset := f.ctgReset || x.slot.isSome
    slots := match x.slot with
      | some n => Tbl.upd {} f.slots n fun y => { y with needReset := true }
      | none => f.slots
    full := f.full.filter fun r => r.ctx != c }

/-- A context allocated with the defaults of its model (R500). -/
def newCtx (m : ModelEntry) (model : Nat) : Ctx :=
  { state := .idle, model := model, gen := 1, inForce := m.defaults, pend := m.defaults }

/-- CTX_ALLOC at its turn (R290). -/
def State.applyAlloc (s : State) (h : Hdr) (any : Bool) (model : Nat) : State :=
  match s.bundle with
  | none => s.final h 0x0300 .badParam (toLe 2 0xFFFF)
  | some b =>
    if !b.hasModel model then s.final h 0x0300 .badParam (toLe 2 0xFFFF)
    else
      let c := if any then (List.range 1024).find? fun c => (s.ctx c).state == .free
        else if (s.ctx h.ctx).state == .free then some h.ctx else none
      match c with
      | none => s.final h 0x0300 .busy (toLe 2 0xFFFF)
      | some c => (s.setCtx c (newCtx (b.modelEntry model) model)).final h 0x0300 .ok (toLe 2 c)

/-- CTX_FREE at its turn (Table 11-8). -/
def State.applyFree (s : State) (h : Hdr) : State :=
  match (s.ctx h.ctx).state with
  | .idle => (s.setCtx h.ctx {}).final h 0x0301 .ok
  | .free => s.final h 0x0301 .badParam
  | _ => s.final h 0x0301 .busy

/-- CTX_ACTIVATE at its turn (Table 11-8). -/
def State.applyActivate (s : State) (h : Hdr) : State :=
  let x := s.ctx h.ctx
  match x.state with
  | .free => s.final h 0x0302 .badParam
  | .active => s.final h 0x0302 .ok [BitVec.ofNat 8 (x.slot.getD 0xFF)]
  | .drain => (s.setCtx h.ctx { x with state := .active }).final h 0x0302 .ok [BitVec.ofNat 8 (x.slot.getD 0xFF)]
  | .idle =>
    if s.clock.op = 3 then s.final h 0x0302 .domainOff
    else match s.freeSlot with
      | none => s.final h 0x0302 .busy
      | some n =>
        ((s.setCtx h.ctx { x with
          state := .active
          slot := some n }).enterSlot h.ctx n).final h 0x0302 .ok [BitVec.ofNat 8 n]

/-- A slot released: its context is IDLE (R240). -/
def State.releaseCtx (s : State) (c : Nat) : State :=
  let x := s.ctx c
  match x.slot with
  | none => s
  | some n => (s.setCtx c { x with
      state := .idle
      slot := none }).leaveSlot c n

/-- CTX_DEACTIVATE at its turn (Table 11-8; 09 R240; 04 R134). -/
def State.applyDeactivate (s : State) (h : Hdr) : State :=
  let x := s.ctx h.ctx
  match x.state with
  | .free => s.final h 0x0303 .badParam
  | .idle => s.final h 0x0303 .ok [0]
  | .drain => s.final h 0x0303 .ok [1]
  | .active =>
    let r := (Tbl.get {} s.commit.slots (x.slot.getD 0)).record.state
    if r == .held || r == .stopping then
      ((s.setCtx h.ctx { x with state := .drain }).updLup h.ctx LupCtx.dropTree).final h 0x0303 .ok [1]
    else (s.releaseCtx h.ctx).final h 0x0303 .ok [0]

/-- The pending copy put in force and CTX_GEN raised, once for all writes of the tick (R288). -/
def State.applyWrite (s : State) (c : Nat) : State :=
  let x := s.ctx c
  if x.pendDirty && x.state != .free then
    (s.setCtx c { x with
      inForce := x.pend
      pendDirty := false
      gen := if x.gen + 1 = 0 then 1 else x.gen + 1 }).goalChange c x.boxes
  else s

/-- Goal boxes written into both copies, and GOALS (R499). -/
def State.applyGoals (s : State) (c : Nat) (bs : List Box) : State :=
  let x := s.ctx c
  if x.state == .free then s
  else
    let bytes := bs.flatMap Box.bytes
    (s.setCtx c { x with
      goals := bs.length
      inForce := x.inForce.writes 0x680 bytes
      pend := x.pend.writes 0x680 bytes }).goalChange c x.boxes

/-- One waiting command applied (R289, R290). -/
def State.applyCtxCmd (s : State) (w : WaitingCmd) : State :=
  match w.cmd with
  | .ctxAlloc any model => s.applyAlloc w.hdr any model
  | .ctxFree => s.applyFree w.hdr
  | .ctxActivate => s.applyActivate w.hdr
  | .ctxDeactivate => s.applyDeactivate w.hdr
  | .ctxWrite => s.applyWrite w.hdr.ctx
  | .seedSet seed => if s.ctxLive w.hdr then s.setCtx w.hdr.ctx { s.ctx w.hdr.ctx with seed := seed } else s
  | .goalSet bs => s.applyGoals w.hdr.ctx bs
  | .treeReset => s.updLup w.hdr.ctx LupCtx.dropTree

/-- The waiting commands of a tick edge, in ring order and, within a ring, in the order taken (R115). -/
def State.applyCtxCmds (s : State) : State :=
  let l := sortBy (fun (x y : WaitingCmd) => decide (x.hdr.ring ≤ y.hdr.ring)) s.teasel.waiting
  l.foldl State.applyCtxCmd (s.onTeasel fun t => { t with waiting := [] })

end Sys2Proof.Machine
end

