-- ==== Sys2Proof/Machine/Sync.lean ====
section
/-! DEFINITION. Chapter 12: Bindweed counters, pairs and watches, Cowslip mailboxes and doorbells. -/

namespace Sys2Proof.Machine

/-! ### Guarded requests (14 R360) -/

/-- Base of the control space (15 R371). -/
def ctlBase : Nat := 0x2000000000

/-- A request of a master through its guard. The host reaches the device only while its link is up; a frozen host
ingress keeps serving reads and discards writes; a request of another frozen master is held (R360). -/
def State.guarded (s : State) (who : Master) (addr : Nat) (write : Bool) (k : State → State) : State :=
  if who == .host && !s.host.up then s
  else match who.num with
  | none => k s
  | some m =>
    if !(s.master m).frozen then k s
    else if m = 0 then (if write then s else k s)
    else s.onSafety fun f =>
      { f with masters := Tbl.upd {} f.masters m fun x => { x with held := x.held ++ [⟨addr, write⟩] } }

/-! ### Counters (R294 to R301) -/

/-- The unit of a counter: 0 the die unit, 1 + c the unit of cluster c (R294). -/
def counterUnit (n : Nat) : Nat := if n < 0x2000 then 0 else 1 + (n - 0x2000) / 0x1000

/-- Power domain of a unit: die core 2, cluster domain 3 + c (R294; 16 Table 16-5). -/
def unitDomain (u : Nat) : Nat := 2 + u

/-- Whether a power domain is on. -/
def State.domOn (s : State) (d : Nat) : Bool := s.clock.doms.getD d .off == .on

def BindweedSt.ctr (b : BindweedSt) (n : Nat) : Counter := Tbl.get {} b.ctrs n
def BindweedSt.pair (b : BindweedSt) (p : Nat) : Pair := Tbl.get {} b.pairs p

/-- The enabled pair a counter belongs to, if any (R299). -/
def BindweedSt.pairOf (b : BindweedSt) (n : Nat) : Option (Nat × Pair) :=
  List.find? (fun (e : Nat × Pair) => e.2.enabled && (e.2.prod == n || e.2.cons == n)) b.pairs

/-- a ≥ b in serial order (R295). -/
def serialGe (a b : Word) : Bool := decide ((a - b).toNat < 0x80000000)

/-- A counter with x added (R295). -/
def Counter.add (c : Counter) (x : Word) : Counter × Bool :=
  if c.seqMode then ({ c with value := c.value + x }, false)
  else if c.value.toNat + x.toNat < 2 ^ 32 then ({ c with value := c.value + x }, false)
  else ({ c with value := 0xFFFFFFFF, sat := true }, true)

/-- A SAT counter with x subtracted (R295). -/
def Counter.sub (c : Counter) (x : Word) : Counter × Bool :=
  if x.toNat ≤ c.value.toNat then ({ c with value := c.value - x }, false)
  else ({ c with value := 0, sat := true }, true)

/-- A counter's new value kept, and a saturation reported (R295). -/
def BindweedSt.store (b : BindweedSt) (n : Nat) (r : Counter × Bool) : BindweedSt :=
  let b := { b with ctrs := Tbl.put b.ctrs n r.1 }
  if r.2 then
    { b with
      satF := true
      satCnt := b.satCnt.incr }
  else b

/-- Whether an ADD of d to counter n is allowed by its pair (R300). -/
def BindweedSt.addAllowed (b : BindweedSt) (n : Nat) (d : Word) : Bool :=
  match b.pairOf n with
  | none => true
  | some (_, p) =>
    if p.prod = n then decide (((b.ctr n).value + d - (b.ctr p.cons).value).toNat ≤ p.bufs)
    else serialGe (b.ctr p.prod).value ((b.ctr n).value + d)

/-- The flag of a refusal's cause: 1 BAD_OP, 2 OVERFLOW, 3 UNDERFLOW, 4 STALL_TIMEOUT, 5 DOMAIN_OFF (Table 12-7). -/
def BindweedSt.flag (b : BindweedSt) (cause : Nat) : BindweedSt :=
  if cause = 1 then { b with badOp := true }
  else if cause = 2 then { b with overflow := true }
  else if cause = 3 then { b with underflow := true }
  else if cause = 4 then { b with stallTimeout := true }
  else { b with domainOff := true }

/-- A refused operation (R298, R313): counter and cause recorded; counted for a host write and for a domain that is
off. -/
def BindweedSt.refuse (b : BindweedSt) (n cause : Nat) (hostWrite : Bool) : BindweedSt :=
  let b := { b.flag cause with
    faultCause := BitVec.ofNat 4 cause
    faultCounter := BitVec.ofNat 15 n }
  if hostWrite || cause = 5 then { b with faultCnt := b.faultCnt.incr } else b

/-! ### Watches (R302 to R306) -/

/-- Whether a watch's condition holds against a value (R302). -/
def Watch.holds (w : Watch) (seqMode : Bool) (v : Word) : Bool :=
  if w.cond = 0 then (if seqMode then serialGe v w.target else decide (w.target.toNat ≤ v.toNat))
  else if w.cond = 1 then v == w.target
  else v != w.target

/-- Delivery of a fire (R306, Table 12-2). A wake of Teasel changes no state of Table 13-8 (log entry 43). -/
def State.deliver (s : State) (w : Nat) (x : Watch) (domOff : Bool) (v : Word) : State :=
  let m : WatchMsg := ⟨w, domOff, v⟩
  if x.dest = 1 then s.onBindweed fun b => { b with queueA := b.queueA ++ [m] }
  else if x.dest = 2 then s.onBindweed fun b => { b with queueB := b.queueB ++ [m] }
  else if x.dest = 3 then s.onBindweed fun b => { b with queuePrm := b.queuePrm ++ [m] }
  else if x.dest = 5 then
    (s.onBindweed fun b => { b with fired := Tbl.upd 0 b.fired (w / 32) (· ||| BitVec.ofNat 32 (2 ^ (w % 32))) }).interrupt
      (x.arg.toNat % 64) 2
  else s

/-- A fire: the watch is disarmed and FIRED, and its message delivered with the value after the fire (R304, R306). -/
def State.fireWatch (s : State) (w : Nat) (domOff : Bool) (v : Word) : State :=
  let x := Tbl.get {} s.bindweed.watches w
  (s.onBindweed fun b => { b with watches := Tbl.put b.watches w { x with armed := false, fired := true } }).deliver w x
    domOff v

/-- The armed watches on a counter in registration order (R302, R305). -/
def BindweedSt.armedOn (b : BindweedSt) (n : Nat) : List (Nat × Watch) :=
  sortBy (fun x y => decide ((x.2.seq - b.regSeq).toNat ≤ (y.2.seq - b.regSeq).toNat))
    (b.watches.filter fun e => e.2.armed && e.2.counter.toNat == n)

/-- One CONSUME watch taken in turn (R305 item 2). -/
def State.consumeOne (s : State) (n : Nat) (e : Nat × Watch) : State :=
  let c := s.bindweed.ctr n
  if e.2.holds c.seqMode c.value then
    let v := c.value - 1
    (s.onBindweed fun b => { b with ctrs := Tbl.put b.ctrs n { c with value := v } }).fireWatch e.1 false v
  else s

/-- Watches of a counter evaluated after an applied operation (R304, R305). -/
def State.evalWatches (s : State) (n : Nat) : State :=
  let c := s.bindweed.ctr n
  let all := s.bindweed.armedOn n
  let s := (all.filter fun e => !e.2.consume && e.2.holds c.seqMode c.value).foldl
    (fun s e => s.fireWatch e.1 false c.value) s
  (all.filter fun e => e.2.consume).foldl (fun s e => s.consumeOne n e) s

/-- Held operations of a unit applied, in arrival order, as long as one is allowed; the counters changed (R300). -/
def releaseStalls (u : Nat) : Nat → BindweedSt → BindweedSt × List Nat
  | 0, b => (b, [])
  | fuel + 1, b =>
    let q := Tbl.get [] b.stalls u
    match firstIx (fun a => b.addAllowed a.counter a.amount) q with
    | none => (b, [])
    | some i =>
      let a := q.getD i ⟨0, 0, .pairA⟩
      let b := { b with stalls := Tbl.put b.stalls u (q.eraseIdx i) }
      let r := releaseStalls u fuel (b.store a.counter ((b.ctr a.counter).add a.amount))
      (r.1, a.counter :: r.2)

/-- A counter changed: held operations that now fit, then the watches of all counters changed (R300, R314). -/
def State.counterChanged (s : State) (n : Nat) (b : BindweedSt) : State :=
  let r := releaseStalls (counterUnit n) 33 b
  r.2.foldl State.evalWatches ((s.onBindweed fun _ => r.1).evalWatches n)

/-- Address of counter n in window o (R296). -/
def counterAddr (o n : Nat) : Nat := ctlBase + 0x200000 + 0x20000 * (o + 1) + n * 4

/-- Whether the host may operate on a counter (R294). -/
def hostCounter (n : Nat) : Bool := decide (0x1000 ≤ n) && decide (n < 0x2000)

/-- An operation on a counter: through the guard, refused where the host may not operate on it (log entry 44) or its
domain is not on (R313). -/
def State.counterOp (s : State) (o n : Nat) (who : Master) (write : Bool) (k : State → State) : State :=
  s.guarded who (counterAddr o n) write fun s =>
    if who == .host && !hostCounter n then
      (if write then s.onBindweed fun b => { b with faultCnt := b.faultCnt.incr } else s.setRdata [])
    else if !s.domOn (unitDomain (counterUnit n)) then
      let s := s.onBindweed fun b => b.refuse n 5 (who == .host && write)
      if write then s else s.setRdata []
    else k s

/-- An ADD that its pair does not allow: held for a CORE pair with room in the stall queue, else refused (R300). -/
def State.addBlocked (s : State) (n : Nat) (x : Word) (who : Master) (p : Nat × Pair) : State :=
  let u := counterUnit n
  let q := Tbl.get [] s.bindweed.stalls u
  let hw := who == .host
  if p.2.cluster || u = 0 then
    let cause := if p.2.prod = n then 2 else 3
    (s.onBindweed fun b => b.refuse n cause hw).logFault 9 u 0x0130 1
  else if q.length < 32 then
    s.onBindweed fun b => { b with
      stalls := Tbl.put b.stalls u (q ++ [⟨n, x, who⟩])
      stallCnt := b.stallCnt.incr
      stalled := true }
  else s.onBindweed fun b => b.refuse n 4 hw

/-- An ADD of x to counter n (R296, R300). -/
def State.counterAdd (s : State) (n : Nat) (x : Word) (who : Master) : State :=
  if s.bindweed.addAllowed n x then
    s.counterChanged n (s.bindweed.store n ((s.bindweed.ctr n).add x))
  else match s.bindweed.pairOf n with
    | none => s
    | some p => s.addBlocked n x who p

def counterValueEffect (n : Nat) (who : Master) (x : Word) (s : State) : State :=
  s.counterOp 0 n who true fun s =>
    if (s.bindweed.pairOf n).isSome then s.onBindweed fun b => b.refuse n 1 (who == .host)
    else s.counterChanged n { s.bindweed with ctrs := Tbl.upd {} s.bindweed.ctrs n fun c => { c with value := x } }

def execCounterValue (n : Fin 24576) (who : Master) (x : Word) (s : State) : Out := .next (counterValueEffect n who x s)

def execCounterAdd (n : Fin 24576) (who : Master) (x : Word) (s : State) : Out :=
  .next (s.counterOp 1 n who true fun s => s.counterAdd n x who)

def counterSubEffect (n : Nat) (who : Master) (x : Word) (s : State) : State :=
  s.counterOp 2 n who true fun s =>
    if (s.bindweed.ctr n).seqMode then s.onBindweed fun b => b.refuse n 1 (who == .host)
    else s.counterChanged n (s.bindweed.store n ((s.bindweed.ctr n).sub x))

def execCounterSub (n : Fin 24576) (who : Master) (x : Word) (s : State) : Out := .next (counterSubEffect n who x s)

/-- Old value returned, then 1 added; a pair that does not allow it answers as for an ADD (R296, R298, R300). -/
def counterFetchIncEffect (n : Nat) (who : Master) (s : State) : State :=
  s.counterOp 3 n who false fun s =>
    let old := (s.bindweed.ctr n).value
    let ok := s.bindweed.addAllowed n 1
    (s.setRdata (if ok then [old] else [])).counterAdd n 1 who

def execCounterFetchInc (n : Fin 24576) (who : Master) (s : State) : Out := .next (counterFetchIncEffect n who s)

/-- A write of ATTR: SAT cleared by one, MODE changed where no pair and no armed watch names the counter (R295, R296). -/
def counterAttrEffect (n : Nat) (who : Master) (x : Word) (s : State) : State :=
  s.counterOp 4 n who true fun s => s.onBindweed fun b =>
    let c := b.ctr n
    let c := { c with sat := w1c c.sat x 1 }
    let free := (b.pairOf n).isNone && (b.armedOn n).isEmpty
    let c := if x.getLsbD 0 != c.seqMode && free then { c with seqMode := x.getLsbD 0, value := 0 } else c
    { b with ctrs := Tbl.put b.ctrs n c }

def execCounterAttr (n : Fin 24576) (who : Master) (x : Word) (s : State) : Out := .next (counterAttrEffect n who x s)

/-- A held operation that is still held after BND_STALL_LIMIT ac is refused (R300). -/
def coreStallTimeoutEffect (u ix : Nat) (s : State) : State :=
  let q := Tbl.get [] s.bindweed.stalls u
  match q[ix]? with
  | none => s
  | some a => s.onBindweed fun b =>
    let b := { b with stalls := Tbl.put b.stalls u (q.eraseIdx ix) }
    b.refuse a.counter 4 (a.master == .host)

def execCoreStallTimeout (unit : Fin 5) (ix : Nat) (s : State) : Out := .next (coreStallTimeoutEffect unit ix s)

/-- Whether a registration is refused (R303; Table 12-7). -/
def watchRefused (b : BindweedSt) (w : Nat) (x : Watch) : Bool :=
  let n := x.counter.toNat
  let host := decide (b.hostFirst.toNat ≤ w)
  decide (24576 ≤ n) ||
  (x.consume && (x.cond != 0 || x.target == 0 || (b.ctr n).seqMode)) ||
  (host && !hostCounter n) ||
  x.cond == 3 || decide (5 < x.dest.toNat) || (host && (x.dest != 0 && x.dest != 5))

/-- A registered watch evaluated at once (R304, R305). -/
def State.evalNew (s : State) (w : Nat) : State :=
  let x := Tbl.get {} s.bindweed.watches w
  let n := x.counter.toNat
  let c := s.bindweed.ctr n
  if !x.holds c.seqMode c.value then s
  else if x.consume then s.consumeOne n (w, x)
  else s.fireWatch w false c.value

/-- A write of BND_W_CFG (R302): registration, or MODE and COUNTER stored with the watch disarmed. Of an armed watch
only a write with ARM = 0 is taken. The host writes its own watches only. -/
def watchCfg (w : Nat) (who : Master) (cfg : Word) (s : State) : State :=
  let x := Tbl.get {} s.bindweed.watches w
  if who == .host && w < s.bindweed.hostFirst.toNat then s
  else if x.armed && cfg.getLsbD 31 then s
  else
    let y := { x with
      armed := false
      consume := cfg.getLsbD 17
      counter := fld cfg 0 15 }
    if !cfg.getLsbD 31 then s.onBindweed fun b => { b with watches := Tbl.put b.watches w y }
    else if watchRefused s.bindweed w y then
      s.onBindweed fun b => { b with
        watches := Tbl.put b.watches w y
        watchRefused := true }
    else
      (s.onBindweed fun b => { b with
        watches := Tbl.put b.watches w { y with armed := true, fired := false, seq := b.regSeq }
        regSeq := b.regSeq + 1 }).evalNew w

def execWatchArm (w : Fin 2048) (who : Master) (cfg : Word) (s : State) : Out :=
  .next (s.guarded who (ctlBase + 0x201000 + w * 16) true (watchCfg w who cfg))

/-- A read of BND_FIRED_i returns and clears it (Table 12-7). -/
def execFiredRead (i : Fin 64) (s : State) : Out :=
  .next (s.guarded .host (ctlBase + 0x200100 + i * 4) false fun s =>
    (s.setRdata [Tbl.get 0 s.bindweed.fired i]).onBindweed fun b => { b with fired := Tbl.del b.fired i })

/-- The domain of a cluster unit is switched off: armed watches on its counters fire with cause DOMAIN_OFF, counters,
pairs and stalls of the unit are lost (R307). -/
def State.unitOff (s : State) (u : Nat) : State :=
  let mine := fun (n : Nat) => counterUnit n == u
  let ws := s.bindweed.watches.filter fun e => e.2.armed && mine e.2.counter.toNat
  let s := ws.foldl (fun s e => s.fireWatch e.1 true 0) s
  s.onBindweed fun b => { b with
    ctrs := b.ctrs.filter fun e => !mine e.1
    pairs := b.pairs.filter fun e => !(e.2.enabled && mine e.2.prod)
    stalls := Tbl.del b.stalls u
    domainOff := b.domainOff || !ws.isEmpty }

/-! ### Mailboxes (R308 to R311, R313) -/

/-- The sender of a mailbox (Table 12-3). -/
def mboxSender (m : Nat) (who : Master) : Bool :=
  if m < 16 || (32 ≤ m && m < 36) then who == .host
  else if m < 24 || (40 ≤ m && m < 44) then who == .pairA
  else if m < 32 || (44 ≤ m && m < 48) then who == .pairB
  else if m < 40 then who == .primrose
  else if m % 4 < 2 then who == .pairA
  else match who with
    | .sequencer c => c.val == (m - 48) / 4
    | _ => false

/-- The receiver of a mailbox (Table 12-3). -/
def mboxReceiver (m : Nat) (who : Master) : Bool :=
  if m < 8 || (44 ≤ m && m < 48) then who == .pairA
  else if m < 16 || (40 ≤ m && m < 44) then who == .pairB
  else if m < 32 || (36 ≤ m && m < 40) then who == .host
  else if m < 36 then who == .primrose
  else if m % 4 < 2 then match who with
    | .sequencer c => c.val == (m - 48) / 4
    | _ => false
  else who == .pairA

/-- Home domain of a mailbox (Table 12-3): die core, secure, cluster c. -/
def mboxDomain (m : Nat) : Nat := if 32 ≤ m && m < 40 then 1 else if m < 48 then 2 else 3 + (m - 48) / 4

/-- A refused access to a mailbox (R311, R313). -/
def State.mboxRefuse (s : State) (m cause : Nat) : State :=
  let x := s.mbox m
  let s := if cause = 3 then s else s.setMbox m { x with refused := true }
  s.onCowslip fun c =>
    let c := { c with
      errCause := BitVec.ofNat 2 cause
      errTarget := BitVec.ofNat 8 m }
    if cause = 3 then { c with
      domainOff := true
      domoffCnt := c.domoffCnt.incr }
    else { c with
      refused := true
      refuseCnt := c.refuseCnt.incr }

/-- Why a write of slot data is refused (R311): 0 FULL, 2 written by the receiver, 1 by another master than the sender;
3 the home domain is not on (R313). -/
def State.mboxCause (s : State) (m : Nat) (who : Master) : Option Nat :=
  if !s.domOn (mboxDomain m) then some 3
  else if (s.mbox m).full then some 0
  else if mboxReceiver m who then some 2
  else if !mboxSender m who then some 1
  else none

/-- Address of a word of a mailbox slot (Table 12-6). -/
def mboxAddr (m w : Nat) : Nat := ctlBase + 0xB0000 + 0x1000 + m * 64 + w * 4

/-- A write to a word of the staging buffer (R310). -/
def mailboxStageEffect (m : Nat) (who : Master) (w : Nat) (v : Word) (s : State) : State :=
  s.guarded who (mboxAddr m w) true fun s =>
    match s.mboxCause m who with
    | some c => s.mboxRefuse m c
    | none =>
      let x := s.mbox m
      s.setMbox m { x with staging := x.staging.take (4 * w) ++ toLe 4 v.toNat ++ x.staging.drop (4 * w + 4) }

def execMailboxStageWrite (m : Fin 64) (who : Master) (word : Fin 15) (val : Word) (s : State) : Out :=
  .next (mailboxStageEffect m who word val s)

/-- A commit: the slot filled and FULL set (R310). -/
def mailboxCommitEffect (m : Nat) (who : Master) (w : MbWrite) (s : State) : State :=
  s.guarded who (mboxAddr m (match w with | .whole _ => 0 | .last _ => 15)) true fun s =>
    match s.mboxCause m who with
    | some c => s.mboxRefuse m c
    | none =>
      let bs := match w with
        | .whole b => (b ++ List.replicate 64 0).take 64
        | .last v => (s.mbox m).staging.take 60 ++ toLe 4 v.toNat
      s.fillMbox m bs

/-- The slot emptied, with the interrupt of a host sender (R310). -/
def State.emptyMbox (s : State) (m : Nat) : State :=
  let x := s.mbox m
  let s := s.setMbox m { x with full := false }
  if x.emptyIe && mboxSender m .host then s.interrupt x.vector.toNat 3 else s

/-- A write of COW_MB_CTRL_m: the read-write fields, REFUSED cleared by one, and ACK by the receiver; an ACK of another
master counts as WRONG_SENDER (R310, R311, R316). -/
def mailboxCtrlEffect (m : Nat) (who : Master) (val : Word) (s : State) : State :=
  s.guarded who (ctlBase + 0xB0100 + m * 4) true fun s =>
    if !s.domOn (mboxDomain m) then s.mboxRefuse m 3
    else
      let x := s.mbox m
      let s := s.setMbox m { x with
        vector := fld val 16 6
        refused := w1c x.refused val 4
        emptyIe := val.getLsbD 3
        fullIe := val.getLsbD 2 }
      if !val.getLsbD 1 then s
      else if mboxReceiver m who then s.emptyMbox m
      else s.mboxRefuse m 1

/-! ### Doorbells (R312) -/

/-- Whether a master writes a doorbell (Table 12-4). -/
def bellWriter (d : Nat) (who : Master) : Bool :=
  if d < 128 then who == .host
  else who == .teasel || who == .primrose || (if d < 192 then who == .pairB else who == .pairA)

/-- The receiver of a doorbell (Table 12-4). -/
def bellReceiver (d : Nat) : Master :=
  if d < 128 then (if d % 2 = 0 then .pairA else .pairB) else if d < 192 then .pairA else .pairB

/-- A value stored: PENDING set, or COALESCED raised where it was set already (R312). -/
def Doorbell.ring (b : Doorbell) (v : Word) : Doorbell :=
  if b.pending then { b with
    value := v
    coalesced := if b.coalesced = 255 then 255 else b.coalesced + 1 }
  else { b with
    value := v
    pending := true }

def State.ringBell (s : State) (d : Nat) (v : Word) : State :=
  s.onCowslip fun c => { c with bells := Tbl.upd {} c.bells d fun b => b.ring v }

/-- The receiver's read: PENDING and COALESCED cleared (R312). -/
def State.serveBell (s : State) (d : Nat) : State :=
  s.onCowslip fun c => { c with bells := Tbl.upd {} c.bells d fun b => { b with pending := false, coalesced := 0 } }

/-- A doorbell write refused under R311. -/
def State.bellRefuse (s : State) (d : Nat) : State :=
  s.onCowslip fun c => { c with
    errCause := 1
    errTarget := BitVec.ofNat 8 (0x80 + (d - 128))
    refused := true
    refuseCnt := c.refuseCnt.incr }

/-- A write to a doorbell by its writer; another master's write is refused (R312). -/
def doorbellEffect (d : Nat) (who : Master) (v : Word) (s : State) : State :=
  s.guarded who (ctlBase + 0xB2000 + d * 4) true fun s =>
    if bellWriter d who then s.ringBell d v else s.bellRefuse d

/-- The receiver's service read returns VALUE and INFO and clears; a read by another master returns VALUE (R312). -/
def doorbellServiceEffect (d : Nat) (who : Master) (s : State) : State :=
  s.guarded who (ctlBase + 0xB2400 + d * 4) false fun s =>
    let b := Tbl.get {} s.cowslip.bells d
    if who == bellReceiver d then
      (s.setRdata [b.value, packWord [(8, b2n b.pending), (0, b.coalesced.toNat)]]).serveBell d
    else s.setRdata [b.value]

def execDoorbellServiceRead (d : Fin 256) (who : Master) (s : State) : Out := .next (doorbellServiceEffect d who s)

end Sys2Proof.Machine
end

