-- ==== Sys2Proof/Machine/Mem.lean ====
section
/-! DEFINITION. Chapter 15: errors of the memories, BAR2, scrub and the secure region; and Thistle's violations
(14 R359 to R362), which guard every access. -/

namespace Sys2Proof.Machine

/-! ### Thistle (14 R360 to R362) -/

/-- Whether a master is a foreground master (Table 14-5): 14 on a cascade member only. -/
def State.foregroundMaster (s : State) (m : Nat) : Bool := (5 ≤ m && m ≤ 12) || (m == 14 && s.casc.memberInService)

/-- A violation (R360, R365): the master frozen, VSEQ raised and the request recorded; of a frozen master it is only
counted. -/
def State.violate (s : State) (m : Nat) (cls : BitVec 4) (addr : Dword) (write secure : Bool) (len : BitVec 7)
    (inj : Bool := false) : State :=
  let x := s.master m
  if x.frozen then s.onSafety fun f => { f with violCnt := f.violCnt.incr }
  else
    let fg := s.foregroundMaster m
    let s := s.onSafety fun f => { f with
      masters := Tbl.put f.masters m { x with
        frozen := true
        vseq := x.vseq + 1
        cls := cls
        addr := addr
        write := write
        secure := secure
        len := len
        releaseAtEdge := false } }
    let s := s.onCommit fun c => { c with
      freezeNow := c.freezeNow || fg
      egressFrozen := c.egressFrozen || m == 13 }
    if cls = 6 then s.logFault 8 m 0x0121 2 inj
    else s.logFault 8 m 0x0120 (if m = 4 then 3 else if fg then 2 else 1) inj

def execThistleViolation (m : Fin 15) (cls : BitVec 4) (addr : Dword) (write : Bool) (secure : Bool) (len : BitVec 7)
    (s : State) : Out := .next (s.violate m cls addr write secure len)

/-- A master let go: its held reads answered with errors, its held writes discarded (R362). -/
def State.releaseMaster (s : State) (m : Nat) : State :=
  let s := s.onSafety fun f => { f with
    masters := Tbl.upd {} f.masters m fun x => { x with frozen := false, releaseAtEdge := false, held := [] } }
  s.onCommit fun c => { c with egressFrozen := c.egressFrozen && m != 13 }

/-- A write of THI_REC_UNFREEZE (R362): a foreground master is released at the next tick edge, another at once; Primrose
not at all. -/
def thiUnfreezeEffect (val : Word) (s : State) : State :=
  let m := fldN val 16 16
  let x := s.master m
  if decide (m < 15) && x.frozen && !x.releaseAtEdge && x.vseq == fld val 0 16 && m != 4 then
    let s := s.onSafety fun f => { f with unfreezeCnt := f.unfreezeCnt.incr }
    if s.foregroundMaster m then
      s.onSafety fun f => { f with
        masters := Tbl.upd {} f.masters m fun x => { x with held := [], releaseAtEdge := true } }
    else s.releaseMaster m
  else s

/-! ### Answers to the host (17 R428) -/

/-- A Completer Abort, or the log of one for a discarded write (R428). -/
def State.completerAbort (s : State) : State :=
  s.onHost fun h => { h with
    caCnt := h.caCnt.incr
    aerLogged := h.aerLogged + 1 }

/-- An Unsupported Request (R428). -/
def State.unsupported (s : State) : State := s.onHost fun h => { h with aerLogged := h.aerLogged + 1 }

/-- A read refused: no data, Completer Abort; a write refused: discarded, Completer Abort logged (R428). -/
def State.abortAccess (s : State) (write : Bool) : State :=
  if write then s.completerAbort else (s.setRdata []).completerAbort

/-! ### Errors of the memories (R382, R383, R389, R391) -/

/-- A corrected granule of LPDDR5X (R389). -/
def State.ddrCorrected (s : State) (a : Nat) : State :=
  let c := ddrChannel a
  s.onMem fun m => { m with
    ddrCe := true
    ddrCeCnt := m.ddrCeCnt.incr
    channels := modAt (fun x => { x with ce := satU 16 (x.ce + 1) }) m.channels c }

/-- The row of an address, as the repair list names it (log entry 47): channel and channel-local address in 2 KiB. -/
def ddrRow (a : Nat) : Nat := ddrLocal a / 2048 * 8 + ddrChannel a

/-- A row added to the repair list (R391). -/
def State.listRow (s : State) (a : Nat) : State :=
  s.onSec fun x => { x with nvm := { x.nvm with
    repairs := if ddrRow a ∈ x.nvm.repairs then x.nvm.repairs else x.nvm.repairs ++ [ddrRow a] } }

/-- An uncorrectable granule of LPDDR5X (R389, R391). -/
def State.ddrUncorrectable (s : State) (a : Nat) : State :=
  let s := s.onMem fun m => { m with
    ddrUe := true
    ddrUeCnt := m.ddrUeCnt.incr
    ueAddr := { m.ueAddr with val := BitVec.ofNat 64 a } }
  (s.listRow a).logFault 10 (ddrChannel a) 0x0131 1

/-- What an access to LPDDR5X meets, before its own effect (R389). -/
def State.granule (s : State) (a : Nat) (e : GranErr) : State :=
  match e with
  | .clean => s
  | .corrected => s.ddrCorrected a
  | .uncorrectable => s.ddrUncorrectable a

/-- Corrected words of SRAM (R383). -/
def State.sramCorrected (s : State) (n : Nat) : State :=
  if n = 0 then s else s.onMem fun m => { m with
    sramCe := true
    sramCeCnt := m.sramCeCnt.add n }

/-- An uncorrectable word of SRAM (R383). -/
def State.sramUncorrectable (s : State) (a : Nat) : State :=
  (s.onMem fun m => { m with
    sramUe := true
    sramUeCnt := m.sramUeCnt.incr
    ueAddr := { m.ueAddr with val := BitVec.ofNat 64 (a % 2 ^ 48 + 2 ^ 63) } }).logFault 10 0 0x0131 1

/-- The tick is marked TIMING_NONREPRO (10 Table 10-7). -/
def State.nonrepro (s : State) : State := s.onZheda fun z => { z with trace := { z.trace with nonrepro := true } }

/-- Two foreground ports that met in one bank slot (R382). -/
def State.conflict (s : State) (c : Conflict) : State :=
  (s.onMem fun m => { m with
    conflictF := true
    conflictCnt := m.conflictCnt.incr
    conflictLast := packWord [(28, c.memory), (24, if c.memory = 5 then c.core else 0), (16, c.bank), (8, c.winner),
      (0, c.loser)] }).nonrepro

/-- A foreground item that waited (11 R274). -/
def State.lateItem (s : State) : State :=
  (s.onTeasel fun t => { t with
    lateF := true
    lateCnt := t.lateCnt.incr }).nonrepro

/-- What a foreground item met in the memories (11 R274; 15 R382, R383). -/
def State.itemFault (s : State) (m : ItemFault) : State :=
  let s := if m.late then s.lateItem else s
  let s := (m.conflicts.foldl State.conflict s).sramCorrected m.corrected
  match m.uncorrectable with
  | none => s
  | some a => s.sramUncorrectable a

/-! ### BAR2 (R392, R393; Table 15-3) -/

/-- The device address of a BAR2 offset (R393). -/
def State.bar2Addr (s : State) (off : Nat) : Nat := s.mem.bar2Sel.toNat * 0x100000000 + off

/-- Bundle slots: staged, active, previous from 0x1000_0000, 64 MiB each (Table 15-7). -/
def bundleSlotBase : Nat := 0x10000000

/-- The byte of a bundle slot; the staged slot shows its chunks while it holds no bundle. -/
def State.bundleByte (s : State) (o : Nat) : Byte :=
  let i := o / 0x4000000
  let slot := if i = 0 then s.cmd.staged else if i = 1 then s.cmd.active else s.cmd.previous
  match slot with
  | some b => Mem.read b.bytes (o % 0x4000000)
  | none => if i = 0 then Mem.read s.cmd.chunks (o % 0x4000000) else 0

/-- The byte of LPDDR5X at a device address (R392). -/
def State.ddrByte (s : State) (a : Nat) : Byte :=
  if bundleSlotBase ≤ a && a < 0x1C000000 then s.bundleByte (a - bundleSlotBase) else Mem.read s.mem.ddr a

/-- The windows of host ingress in LPDDR5X (Table 15-3): none, read-only bundle slots, the bundle-placed region. -/
def hostWindow (a : Nat) : Option Bool :=
  if 0x20000000 ≤ a && a < ddrEnd then some true else if bundleSlotBase ≤ a && a < 0x1C000000 then some false else none

/-- Bytes of LPDDR5X as words for a reader. -/
def wordsOf (bs : List Byte) : List Word := (chunks 4 bs.length bs).map fun c => BitVec.ofNat 32 (leNat c)

/-- A host access to BAR2 (R393, R389; 14 R360; 17 R428): data present for a write. -/
def bar2Effect (off len : Nat) (data : Option (List Byte)) (err : GranErr) (s : State) : State :=
  let a := s.bar2Addr off
  let wr := data.isSome
  if !s.host.up then s.unsupported
  else if (s.master 0).frozen then (if wr then s else s.abortAccess false)
  else if ddrEnd < a + len then s.abortAccess wr
  else match hostWindow a with
  | none => (s.violate 0 1 (BitVec.ofNat 64 a) wr false (BitVec.ofNat 7 len)).abortAccess wr
  | some rw =>
    if wr && !rw then (s.violate 0 2 (BitVec.ofNat 64 a) true false (BitVec.ofNat 7 len)).abortAccess true
    else
      let s := s.granule a err
      if err = .uncorrectable then (if wr && len % 32 = 0 && a % 32 = 0 then
          s.onMem fun m => { m with ddr := m.ddr.writes a (data.getD []) }
        else s.abortAccess wr)
      else match data with
      | some bs => s.onMem fun m => { m with ddr := m.ddr.writes a bs }
      | none => s.setRdata (wordsOf ((List.range len).map fun i => s.ddrByte (a + i)))

def execBar2Access (off : Nat) (len : Nat) (data : Option (List Byte)) (err : GranErr) (s : State) : Out :=
  .next (bar2Effect off len data err s)

def execBar2WindowSelect (val : Word) (s : State) : Out :=
  .next (s.guarded .host (ctlBase + 0x110004) true fun s => s.onMem fun m => { m with bar2Sel := fld val 0 3 })

/-! ### Patrol scrub (R390, R391) -/

/-- One granule read by the patrol scrub (R390): the next in ascending address; a corrected one written back unless
another write came between; the pass ends at the end of usable LPDDR5X and its row counts start anew. -/
def scrubGranuleEffect (err : GranErr) (s : State) : State :=
  if !s.mem.scrubEn then s
  else
    let a := s.mem.scrubPos * 256
    let s := s.granule a err
    let s := if err = .corrected then
        let n := Tbl.get 0 s.mem.rowCe (ddrRow a) + 1
        let s := s.onMem fun m => { m with rowCe := Tbl.put m.rowCe (ddrRow a) n }
        if 16 < n then s.listRow a else s
      else s
    s.onMem fun m =>
      if ddrEnd ≤ a + 256 then { m with
        scrubPos := 0
        rowCe := [] }
      else { m with scrubPos := m.scrubPos + 1 }

def execScrubGranule (err : GranErr) (_otherWrite : Bool) (s : State) : Out := .next (scrubGranuleEffect err s)

/-! ### The secure region (R386) -/

/-- A wipe begins: every access to the region is refused until it ends. -/
def State.startWipe (s : State) : State := s.onMem fun m => { m with secure := .wiping }

/-- The wipe ends (R386); while a tamper source is active another follows at once (18 R462). -/
def secureWipeDoneEffect (ok : Bool) (s : State) : State :=
  if s.mem.secure = .wiping then
    let s := s.onMem fun m => { m with
      secWiped := true
      wipes := satU 16 (m.wipes + 1)
      secure := if !ok then .closed else if s.clock.tamperSrc = 0 then .opened else .wiping
      verifyFail := m.verifyFail || !ok
      sram := m.sram.clearRange 0x1000000000 0x1000100000 }
    if ok then s else s.logFault 10 0 0x0131 3
  else s

def execSecureWipeDone (ok : Bool) (s : State) : Out := .next (secureWipeDoneEffect ok s)

end Sys2Proof.Machine
end

