-- ==== Sys2Proof/Machine/View.lean ====
section
/-! DEFINITION. The device address space as a reader sees it (15 R370, R374 to R377): the bytes of the typed state at the
addresses of Tables 15-1, 15-4 and 15-5, and raw SRAM elsewhere. -/

namespace Sys2Proof.Machine

/-! ### What a field takes at a cut-off (02 R57 to R59, R72; 06 R176) -/

/-- The records of one source's snapshot in force, in segment order (R56, R57). -/
def SourceSt.recs (x : SourceSt) (cov : Box) (stale : Bool) : SourceRecs :=
  let segs := ((x.used.map (·.2)).getD [])
  { full := segs.flatMap (·.full), part := segs.flatMap (·.part), coverage := cov, stale := stale }

/-- All sources as the cut-off left them, source 0 first (R58, R59). -/
def WorldSt.taken (w : WorldSt) (b : Bundle) : Taken :=
  takeSources w.origin ((sortBy (fun (x y : SourceDecl) => decide (x.id ≤ y.id)) b.sources).map fun d =>
    (Tbl.get {} w.sources d.id).recs d.coverage (w.srcStale.getLsbD d.id))

/-- SOFT of a field cell: the bundle's byte of the map cell (06 R176); outside the region the manual states none (log entry
19). -/
def Bundle.softAt (b : Bundle) (origin : V3) (cell : Nat) : Nat :=
  let d := ((cellOf cell).add (origin.fdiv 2560)).sub b.smap.corner
  if decide (0 ≤ d.x) && decide (d.x < b.smap.nx) && decide (0 ≤ d.y) && decide (d.y < b.smap.ny) &&
     decide (0 ≤ d.z) && decide (d.z < b.smap.nz) then
    Tbl.get 0 b.soft ((d.z.toNat * b.smap.ny + d.y.toNat) * b.smap.nx + d.x.toNat)
  else Config.softOutside.toNat

/-- The soft-cost layer of a cut-off. -/
def Bundle.softLayer (b : Bundle) (origin : V3) : List Nat := (List.range 65536).map (b.softAt origin)

/-- The bitmap of a cell with every partial record of it, one bitmap per cell in order of first appearance (R57). -/
def mergeParts (l : List PartRec) : List PartRec :=
  l.foldl (fun acc r =>
    match firstIx (fun (p : PartRec) => p.cell == r.cell) acc with
    | some i => modAt (fun p => { p with bm := p.bm.zipWith (fun (a b : Byte) => a ||| b) r.bm }) acc i
    | none => acc ++ [r]) []

/-- A byte of the observed-layer image (Table 15-4): cell entries, then bitmaps, in the form of R52. -/
def Taken.imageByte (t : Taken) (origin : V3) (o : Nat) : Byte :=
  let parts := mergeParts t.part
  if o < 131072 then
    let c := (cellOf (o / 2)).add (origin.fdiv 2560)
    let e := if t.full.contains c then 0xFFFF
      else match firstIx (fun (p : PartRec) => p.cell == c) parts with | some i => i + 1 | none => 0
    (toLe 2 e).getD (o % 2) 0
  else ((parts.getD ((o - 131072) / 64) {}).bm).getD ((o - 131072) % 64) 0

/-! ### Die shared memory (R374) -/

def HistFrame.byte (f : HistFrame) (o : Nat) : Byte := BitVec.ofNat 8 (f.cells.getD o 0)

/-- A byte of a hand-off: header, then entries of 0xA00 bytes (08 R225). -/
def HandOff.byte (h : HandOff) (o : Nat) : Byte :=
  if o < 64 then h.header.getD o 0 else ((h.entries.map HEntry.bytes).getD ((o - 64) / 0xA00) []).getD ((o - 64) % 0xA00) 0

/-- A byte of die shared memory at an offset. -/
def State.dieByte (s : State) (o : Nat) : Byte :=
  if o < 0x100000 then Mem.read s.mem.sram (0x1000000000 + o)
  else if o < 0x500000 then (s.ctx ((o - 0x100000) / 4096)).byteAt false ((o - 0x100000) % 4096)
  else if o < 0x900000 then
    let f := Tbl.get {} s.teasel.flows ((o - 0x500000) / 16)
    (f.words.flatMap fun w => toLe 4 w.toNat).getD (o % 16) 0
  else if o < 0x1100000 then
    match Tbl.find? s.teasel.pool ((o - 0x900000) / 64) with
    | some e => e.bytes.getD (o % 64) 0
    | none => 0
  else if o < 0x1300000 then
    (toLe 2 ((s.bundle.map fun b => Tbl.get 0 b.smap.entries ((o - 0x1100000) / 2)).getD 0)).getD (o % 2) 0
  else if o < 0x1700000 then
    (((s.bundle.map (·.smap.bitmaps)).getD []).getD ((o - 0x1300000) / 64) []).getD (o % 64) 0
  else if o < 0x1B00000 then (s.aster.history.getD ((o - 0x1700000) / 65536) {}).byte (o % 65536)
  else if o < 0x1B50000 then
    (((Tbl.get {} s.poppy.slots ((o - 0x1B00000) / 0x5000)).result.map DieRes.bytes).getD []).getD ((o - 0x1B00000) % 0x5000) 0
  else if o < 0x1BA4000 then
    match (Tbl.get {} s.vetch.slots ((o - 0x1B50000) / 0x5400)).handoff with
    | some h => h.byte ((o - 0x1B50000) % 0x5400)
    | none => 0
  else if o < 0x1BAC000 then
    match s.safety.log.find? fun f => f.seq.toNat % 1024 == (o - 0x1BA4000) / 32 with
    | some f => f.bytes.getD (o % 32) 0
    | none => 0
  else if o < 0x1BBC000 then
    BitVec.ofNat 8 ((s.bundle.map fun b => b.softAt s.world.origin (o - 0x1BAC000)).getD 0)
  else if o < 0x1DDC000 then
    match s.bundle with
    | some b => (s.world.taken b).imageByte s.world.origin (o - 0x1BBC000)
    | none => 0
  else if 0x1DEC000 ≤ o ∧ o < 0x1DFC000 then
    match Tbl.find? s.host.egress ((o - 0x1DEC000) / 0x1000) with
    | some e => e.payload.getD (o % 0x1000) 0
    | none => Mem.read s.mem.sram (0x1000000000 + o)
  else Mem.read s.mem.sram (0x1000000000 + o)

/-! ### Cluster memories, scratchpads and Field Stores (R375 to R377) -/

/-- A byte of a cluster memory: the field image, the published grids, raw SRAM elsewhere. -/
def State.clusterByte (s : State) (c o : Nat) : Byte :=
  if o < 0x100000 then
    match s.world.built with
    | some f => if c ∈ f.lost then 0 else Mem.read f.img o
    | none => 0
  else if o < 0x500000 then
    let x := Tbl.get {} s.cornflower.slots ((o - 0x100000) / 0x40000)
    let first := decide ((o - 0x100000) % 0x40000 < 0x20000)
    let g := if first then x.buf0 else x.buf1
    if c ∈ (if first then x.lost0 else x.lost1) then 0
    else (toLe 2 (g.getD ((o - 0x100000) % 0x20000 / 2) 0)).getD (o % 2) 0
  else Mem.read s.mem.sram (0x1010000000 + c * 0x1000000 + o)

/-- A byte of a core scratchpad: the roadmap bitmaps and the result area (05 R163, R164, R166), raw SRAM elsewhere. -/
def State.coreByte (s : State) (n o : Nat) : Byte :=
  if 0x7F800 ≤ o && o < 0x80000 then
    match s.teasel.inSlot' ((o - 0x7F800) / 0x80) with
    | some c => match (Tbl.get {} s.lupin.ctxs c).rmBits with
      | some bits => BitVec.ofNat 8 (ofBits ((bits.drop (o % 0x80 * 8)).take 8))
      | none => 0
    | none => 0
  else if 0x80000 ≤ o then
    let ne := s.lupin.liveTotal / (64 * s.casc.count)
    let i := (o - 0x80000) / 16
    let live (e k : Nat) : Option LiveRec := (s.harebell.live.filter fun r => r.engine == e)[k]?
    if i < 4 * ne then
      match live (4 * n + i / ne) (i % ne) with | some r => r.rr.bytes.getD (o % 16) 0 | none => 0
    else if o - 0x80000 < 320 * ne then
      let j := (o - 0x80000 - 64 * ne) / 64
      match live (4 * n + j / ne) (j % ne) with
      | some r => r.summary.getD ((o - 0x80000 - 64 * ne) % 64) 0
      | none => 0
    else Mem.read s.mem.sram (0x1020000000 + n * 0x200000 + o)
  else Mem.read s.mem.sram (0x1020000000 + n * 0x200000 + o)

/-- A byte of a Field Store replica as stored; flipped bits stay in `flips`. -/
def State.storeByte (s : State) (t o : Nat) : Byte := Mem.read (Tbl.get {} s.world.stores t).img o

/-- Regions of Table 15-1 in SRAM, aliases to their plain address; none outside. -/
def sramPlain (a : Nat) : Option Nat :=
  if a < 0x1000000000 then none
  else if a < 0x1006000000 then some (0x1000000000 + (a - 0x1000000000) % 0x2000000)
  else if 0x1010000000 ≤ a && a < 0x101C000000 then some (0x1010000000 + (a - 0x1010000000) % 0x4000000)
  else if 0x1020000000 ≤ a && a < 0x1026000000 then some (0x1020000000 + (a - 0x1020000000) % 0x2000000)
  else if 0x1040000000 ≤ a && a < 0x1052000000 then some a
  else none

/-- The byte of a device address in LPDDR5X or SRAM, where it falls in a region (R370). -/
def State.devByte? (s : State) (a : Nat) : Option Byte :=
  if a < ddrEnd then some (s.ddrByte a)
  else (sramPlain a).map fun p =>
    if p < 0x1010000000 then s.dieByte (p - 0x1000000000)
    else if p < 0x1020000000 then s.clusterByte ((p - 0x1010000000) / 0x1000000) (p % 0x1000000)
    else if p < 0x1040000000 then s.coreByte ((p - 0x1020000000) / 0x200000) (p % 0x200000)
    else s.storeByte ((p - 0x1040000000) / 0x400000) (p % 0x100000)

def State.devByte (s : State) (a : Nat) : Byte := (s.devByte? a).getD 0
def State.devBytes (s : State) (a n : Nat) : List Byte := (List.range n).map fun i => s.devByte (a + i)

/-- Bytes stored at a device address by a background item: LPDDR5X or raw SRAM. -/
def State.devWrite (s : State) (a : Nat) (bs : List Byte) : State :=
  if a < ddrEnd then s.onMem fun m => { m with ddr := m.ddr.writes a bs }
  else match sramPlain a with
    | some p => s.onMem fun m => { m with sram := m.sram.writes p bs }
    | none => s

/-- Whether an address is the device's (Table 15-1); every other address names host memory (log entry 18). -/
def isDevice (a : Nat) : Bool := decide (a < ddrEnd) || (sramPlain a).isSome

/-- Bytes read by an item from a device address, or from host memory by reference (11 R282). -/
def State.itemRead (s : State) (a n : Nat) : List Byte := if isDevice a then s.devBytes a n else s.hostRead a n

/-- Result bytes of an item (11 R286). -/
def State.itemWrite (s : State) (a : Nat) (bs : List Byte) : State :=
  if isDevice a then s.devWrite a bs else s.hostWrite a bs

end Sys2Proof.Machine
end

