-- ==== Sys2Proof/Machine/Plan.lean ====
section
/-! DEFINITION. What the foreground items of a tick read of a slot: the latched context, its model, its anchor, its
candidates and what an engine evaluates them with (04 R112, R115, R125; 05 R143, R160; 19 R476). -/

namespace Sys2Proof.Machine

/-! ### The latched context -/

/-- A model entry of the active bundle. -/
def State.entryOf (s : State) (m : Nat) : ModelEntry := ((s.bundle.map fun b => b.modelEntry m)).getD {}

/-- Whether the robot model of a context's number differs between two bundles. -/
def modelChanged (old new : Option Bundle) (m : Nat) : Bool :=
  match old, new with
  | some a, some b => (a.modelEntry m).model != (b.modelEntry m).model
  | none, none => false
  | _, _ => true

/-- The context of a slot as latched at ac 0 (R115). -/
def State.fgSlot (s : State) (n : Nat) : Option FgSlot := Tbl.find? s.teasel.fg n

def FgSlot.js (f : FgSlot) (s : State) : List Joint := (s.entryOf f.model).model.joints
def FgSlot.nJ (f : FgSlot) (s : State) : Nat := (f.js s).length

/-- Slots that plan in this tick, ascending: a slot in DRAIN takes no candidates, selection or Vetch time (09 R240). -/
def State.planSlots (s : State) : List (Nat × FgSlot) := s.teasel.fg.filter fun e => !e.2.drain

def State.lupSlot (s : State) (n : Nat) : LupSlot := Tbl.get {} s.lupin.slots n
def State.holSlot (s : State) (n : Nat) : HolSlot := Tbl.get {} s.commit.slots n
def State.vetSlot (s : State) (n : Nat) : VetSlot := Tbl.get {} s.vetch.slots n
def State.popSlot (s : State) (n : Nat) : PopSlot := Tbl.get {} s.poppy.slots n
def State.cflSlot (s : State) (n : Nat) : CflSlot := Tbl.get {} s.cornflower.slots n
def State.store (s : State) (t : Nat) : FieldStore := Tbl.get {} s.world.stores t
def State.lupCtx (s : State) (c : Nat) : LupCtx := Tbl.get {} s.lupin.ctxs c

def State.updLupSlot (s : State) (n : Nat) (f : LupSlot → LupSlot) : State :=
  s.onLupin fun l => { l with slots := Tbl.upd {} l.slots n f }
def State.updHolSlot (s : State) (n : Nat) (f : HolSlot → HolSlot) : State :=
  s.onCommit fun c => { c with slots := Tbl.upd {} c.slots n f }
def State.updVetSlot (s : State) (n : Nat) (f : VetSlot → VetSlot) : State :=
  s.onVetch fun v => { v with slots := Tbl.upd {} v.slots n f }
def State.updPopSlot (s : State) (n : Nat) (f : PopSlot → PopSlot) : State :=
  s.onPoppy fun p => { p with slots := Tbl.upd {} p.slots n f }
def State.updCflSlot (s : State) (n : Nat) (f : CflSlot → CflSlot) : State :=
  s.onCornflower fun c => { c with slots := Tbl.upd {} c.slots n f }
def State.updStore (s : State) (t : Nat) (f : FieldStore → FieldStore) : State :=
  s.onWorld fun w => { w with stores := Tbl.upd {} w.stores t f }
def State.updTile (s : State) (t : Nat) (f : TileSt → TileSt) : State :=
  s.onSafety fun x => { x with tiles := Tbl.put x.tiles t (f (x.tile t)) }
def State.updHbTile (s : State) (t : Nat) (f : HbTile → HbTile) : State :=
  s.onHarebell fun x => { x with tiles := Tbl.upd {} x.tiles t f }

/-- Changes of the running tick's progress and trace. -/
def State.updProg (s : State) (f : TickProgress → TickProgress) : State := s.onTick fun t => { t with prog := f t.prog }
def State.updTrace (s : State) (f : TickTrace → TickTrace) : State := s.onZheda fun z => { z with trace := f z.trace }

/-- Whether the tick program runs: an item of it has its place in a running tick only. -/
def State.running (s : State) : Bool := s.up && s.tick.prog.running

/-! ### Instants and robot states -/

/-- T_s of the running tick, ns (R112). -/
def State.tsNow (s : State) : Nat := s.tick.stamp + (s.tick.periodUs + s.tick.emitUs) * 1000

def State.input (s : State) (c : Nat) : CtxInput := Tbl.get {} s.world.inputs c

/-- The robot state taken at the cut-off of tick k − 1, behind F(k−1) (02 R60). -/
def State.statePrev (s : State) (c : Nat) : Option RobotState := (s.input c).prev.map (·.1)

/-- The robot state taken at the cut-off of tick k. -/
def State.stateNow (s : State) (c : Nat) : Option RobotState := (s.input c).taken.map (·.1)

/-- The root frame of a context and whether its position saturated (05 R143, R151). -/
def State.rootOf (s : State) (f : FgSlot) (st : Option RobotState) : Frame × Bool :=
  let r := st.getD {}
  rootFrame (s.entryOf f.model).model.eng.root r.base r.yaw.toNat

/-! ### The anchor (04 R125; 09 R502) -/

/-- The plan emitted for a slot at the start of the tick, if its segment was a plan. -/
def State.planInForce (s : State) (n : Nat) : Option KnotForm :=
  if (s.holSlot n).emittedPlan then
    (s.commit.frames.find? fun q => q.slot == n && q.frame.kind == 0).map fun q => q.frame.toRecord.form
  else none

/-- Whether the third case of R125 holds: nothing emitted, or a joint count other than the model's. -/
def State.fromState (s : State) (n : Nat) (f : FgSlot) : Bool :=
  let r := (s.holSlot n).record
  match s.planInForce n with
  | some k => k.anchor.length != f.nJ s
  | none => r.state == .empty || r.form.anchor.length != f.nJ s

/-- The anchor of a slot's candidates in the running tick, and the plan in force (R125). -/
def State.anchorOf (s : State) (n : Nat) (f : FgSlot) : Option (JVec × Option KnotForm) :=
  if s.casc.memberInService then Tbl.find? s.casc.anchors n
  else if s.fromState n f then (s.statePrev f.ctx).map fun r => (r.q.map fun w => sgn 32 w.toNat, none)
  else match s.planInForce n with
    | some k => some (k.eval (f.js s) ((s.tsNow : Int) - k.ts) 1000, some k)
    | none => some ((s.holSlot n).record.configAt (f.js s) s.tsNow, none)

/-! ### Candidates -/

/-- What a slot's candidates are generated from (R115, R142); a parent of another joint count than the model's is no valid member of
the parent table (log entry 179). -/
def State.genCtx (s : State) (n : Nat) (f : FgSlot) : GenCtx :=
  let l := s.lupSlot n
  let x := s.lupCtx f.ctx
  let a := (s.anchorOf n f).getD ([], none)
  { ctx := f.ctx, slot := n, tick := s.tickNo, seed := f.seed, period := s.tick.periodUs, ts := s.tsNow, params := f.rec',
    joints := f.js s, base := l.base, alloc := l.alloc, count := l.count, anchor := a.1, plan := a.2,
    parents := x.parents.filter fun k => k.anchor.length == f.nJ s,
    mix := x.mix, routes := x.routes, frontier := (x.tree.map (·.frontier)).getD [] }

/-- The grid the engines of the tick read for a slot: the published buffer, 0 everywhere where none is (06 R178). -/
def CflSlot.published (x : CflSlot) : Grid :=
  match x.engSel with
  | some sel => if sel then x.buf1 else x.buf0
  | none => List.replicate 65536 0

/-- What a tile evaluates a slot's candidates with. -/
def State.evalEnv (s : State) (n : Nat) (f : FgSlot) (t : Nat) : EvalEnv :=
  let st := s.store t
  { fs := st, mode := if st.valid then .live else .invalid, model := (s.entryOf f.model).model.eng, w := f.rec'.waypoints,
    s := f.rec'.spheres, params := f.rec', root := (s.rootOf f (s.statePrev f.ctx)).1, ctg := (s.cflSlot n).published }

/-- Cascade engine numbers of this device's engine e (19 R476): slots of a context that it evaluates, in order. -/
def State.slotsOf (s : State) (e count : Nat) : List Nat :=
  let w := 64 * s.casc.count
  let g := 64 * s.casc.ix + e
  (List.range ((count + w - 1 - g) / w)).map fun i => g + i * w

/-- The device's engine that evaluates slot j of a context, if it is one of this device (R118, 19 R476). -/
def State.engineOf (s : State) (j : Nat) : Option Nat :=
  let g := j % (64 * s.casc.count)
  if g / 64 = s.casc.ix then some (g % 64) else none

/-- The substitution delay of a tile that serves a position away from home (05 R161). -/
def State.dSub (s : State) (t : Nat) : Nat :=
  match (s.safety.tile t).serves with
  | some p => if p = t % 18 then 0 else (Config.substDelay (t % 18) p).toNat % 65
  | none => 0

/-! ### The program in force (01 R25; 03 R106; 19 R474) -/

/-- Arrays in service. -/
def State.arraysUp (s : State) : Nat := (s.aster.arrays.filter fun a => !a.failed).length

/-- The tick program in force. -/
def State.program (s : State) : TickProgram :=
  match s.bundle with
  | none => TickProgram.reference
  | some b =>
    if s.aster.degraded then b.variant3.getD b.program
    else if s.casc.count = 1 then b.program
    else ((Tbl.find? b.cascade s.casc.count).map (·.1)).getD b.program

/-- Φ of the running tick. -/
def State.phi (s : State) : Int := phiLen s.program s.tick.acE

/-- H_pre + Φ, where the collision phase ends. -/
def State.phaseEnd (s : State) : Nat := ((s.program.hPre : Int) + s.phi).toNat

/-- k_c of a slot (07 R186): K_DEPTH and the repeat count, at least 8. -/
def State.kDepth (f : FgSlot) : Nat := f.rec'.kDepth

end Sys2Proof.Machine
end

