-- ==== Sys2Proof/Machine/UlbSend.lean ====
section
/-! DEFINITION. Frames and transfers that a device sends on the Ublar link (19 R466, R469, R473). -/

namespace Sys2Proof.Machine

/-- The bytes of a link frame (Table 19-1). -/
def LinkFrame.bytes (f : LinkFrame) : List Byte :=
  let b : List Byte := [BitVec.ofNat 8 f.type, BitVec.ofNat 8 f.src, BitVec.ofNat 8 f.dst,
    BitVec.ofNat 8 (f.hops % 16 + 16 * b2n f.last)] ++ toLe 2 f.seq.toNat ++ toLe 2 f.data.length ++ f.data ++ toLe 4 f.tick
  b ++ toLe 4 (crc32c b).toNat

/-- The frame that received bytes hold, with the outcome of its CRC (Table 19-1). -/
def linkFrameOf (bs : List Byte) : LinkFrame :=
  let n := leAt bs 6 2
  { type := leAt bs 0 1, src := leAt bs 1 1, dst := leAt bs 2 1, hops := leAt bs 3 1 % 16, last := bit (leAt bs 3 1) 4,
    seq := BitVec.ofNat 16 (leAt bs 4 2), data := (bs.drop 8).take n, tick := leAt bs (8 + n) 4,
    crcOk := bs.length == 16 + n && leAt bs (12 + n) 4 == (crc32c (bs.take (12 + n))).toNat }

/-- Members in service beside the master. -/
def CascadeSt.serving (c : CascadeSt) : List Nat :=
  (c.members.filter fun e => e.1 != 0 && e.2.state == .inService).map (·.1)

/-- Whether this device is the master of a cascade with a member in service (R469). -/
def State.leads (s : State) : Bool := s.clock.cascRole && !s.casc.serving.isEmpty

/-- Devices present beside the master. -/
def CascadeSt.others (c : CascadeSt) : List (Nat × Member) := c.members.filter fun e => e.1 != 0 && e.2.present

/-- HOPS of a broadcast frame on a port: the devices of that side, or half of a ring (R469). -/
def CascadeSt.castHops (c : CascadeSt) (port : Nat) : Nat :=
  if c.ring then (if port = 0 then ceilDiv c.others.length 2 else c.others.length / 2)
  else (c.others.filter fun e => e.2.port == port).length

/-- The data bytes of a transfer cut into frames of at most 4,096 bytes, the last marked LAST (R466). -/
def frameData (bs : List Byte) : List (List Byte × Bool) :=
  let l := chunks 4096 (bs.length + 1) bs
  if l.isEmpty then [([], true)] else l.zipIdx.map fun p => (p.1, p.2 + 1 == l.length)

/-- Frames sent on one port that is up, numbered by its SEQ (R465, R466). -/
def CascadeSt.emit (c : CascadeSt) (port type dst hops tick : Nat) (bs : List Byte) : CascadeSt :=
  let p := c.ports.getD port {}
  let fs := frameData bs
  let frames := fs.zipIdx.map fun x =>
    (port, ({ type := type, src := c.position, dst := dst, hops := hops, last := x.1.2, seq := p.txSeq + BitVec.ofNat 16 x.2,
              data := x.1.1, tick := tick % 2 ^ 32 } : LinkFrame))
  if !p.trained then c
  else { c with
    sent := c.sent ++ frames
    ports := setAt c.ports port { p with txSeq := p.txSeq + BitVec.ofNat 16 fs.length } }

/-- A transfer to every member: on each port that has devices on its side (R469). -/
def CascadeSt.castAll (c : CascadeSt) (type tick : Nat) (bs : List Byte) : CascadeSt :=
  [0, 1].foldl (fun c p => if c.castHops p = 0 then c else c.emit p type 0xFF (c.castHops p) tick bs) c

/-- A transfer to one position, on the port of its route (R469). -/
def CascadeSt.castTo (c : CascadeSt) (pos type tick : Nat) (bs : List Byte) : CascadeSt :=
  let m := Tbl.get {} c.members pos
  c.emit m.port type pos m.hops tick bs

/-- A transfer of the master to every member, in a cascade with members in service (R473). -/
def State.castAll (s : State) (type : Nat) (m : CasMsg) : State :=
  if s.leads then s.onCasc fun c => c.castAll type s.tickNo (Config.casBytes m) else s

/-- A transfer of a member in service to the master (R473). -/
def State.castMaster (s : State) (type : Nat) (m : CasMsg) : State :=
  if s.casc.memberInService then s.onCasc fun c => c.castTo 0 type s.tickNo (Config.casBytes m) else s

/-- The digests of this device's active and staged bundles (R480). -/
def State.digestMsg (s : State) : CasMsg := .digests (s.cmd.active.map (·.digest)) (s.cmd.staged.map (·.digest))

/-- A numbered member reports its digests to the master (R480). -/
def State.reportDigests (s : State) : State :=
  if !s.clock.cascRole && s.casc.position != 0 then
    s.onCasc fun c => c.castTo 0 9 s.tickNo (Config.casBytes s.digestMsg)
  else s

/-- The FIELD transfer: the image and its CRC (R473). -/
def State.castField (s : State) (f : BuiltField) : State :=
  if s.leads then
    s.onCasc fun c => c.castAll 4 s.tickNo (f.img.reads 0 imageBytes ++ toLe 4 f.crc.toNat)
  else s

end Sys2Proof.Machine
end

