-- ==== Sys2Proof/Machine/WorldItems.lean ====
section
/-! DEFINITION. The items of the W stage: predictor, distance transform, wavefront, field assembly and field broadcast
(01 R21, R34, R35; 02 R50 to R74; 03 R96 to R98, R105; 06 R170 to R180). -/

namespace Sys2Proof.Machine

/-- What a foreground item meets in the memories; an uncorrectable word puts ST_ECC_UNCORR into the tick's status. -/
def State.fgFault (s : State) (m : ItemFault) : State :=
  let s := s.itemFault m
  if m.uncorrectable.isSome then s.updTrace fun t => { t with fault := true } else s

/-- An item of the tick program: it acts only while the program runs. -/
def State.item (s : State) (run : State → State) : State := if s.running then run s else s

/-! ### Occupancy predictor (03 R96 to R98, R105) -/

/-- The history value of a cell in a frame, shifted into the current origin; uncovered cells read 0 (R97). -/
def HistFrame.shifted (f : HistFrame) (origin : V3) : List Nat :=
  let d := (origin.sub f.origin).fdiv 2560
  (List.range 65536).map fun c =>
    let o := (cellOf c).add d
    if fieldCells.has o then f.cells.getD (cellIndex o) 0 else 0

/-- Frames of the history binding: a frame that does not exist yet is all 0 (R97). -/
def AsterSt.historyIn (a : AsterSt) (p : Predictor) (origin : V3) : List Nat :=
  (List.range p.histDepth).flatMap fun h =>
    match a.history[h * p.histStride]? with
    | some f => f.shifted origin
    | none => List.replicate 65536 0

/-- Occupied voxels of a cell in the static map (R96). -/
def StaticMap.count (m : StaticMap) (c : V3) : Nat :=
  ((List.range 512).filter fun i => m.occ (V3.add ⟨c.x * 8, c.y * 8, c.z * 8⟩ (voxelOf i))).length

/-- The static binding of the predictor (R96). -/
def staticIn (m : StaticMap) (origin : V3) : List Nat :=
  (List.range 65536).map fun c => histValue (m.count ((cellOf c).add (origin.fdiv 2560)))

/-- The words of a robot state that a feature program reads. -/
def RobotState.words (r : RobotState) : List Int :=
  [r.base.x, r.base.y, r.base.z, (r.yaw.toNat : Int)] ++ r.q.map (fun w => (w.toNat : Int)) ++ r.v

/-- The input tensors of the predictor (Table 3-5). -/
def State.predictorIn (s : State) (b : Bundle) (p : Predictor) : Tbl Tensor :=
  let base : Tbl Tensor :=
    [(0, { fmt := .uint8, data := s.aster.historyIn p s.world.origin }),
     (1, { fmt := .uint8, data := staticIn b.smap s.world.origin })]
  match p.stateFeat with
  | none => base
  | some f => base ++
      [(2, fp32Tensor (Config.features f (((s.stateNow b.focusCtx).map RobotState.words).getD [])))]

/-- Conversions counted (R82, R98, R109). -/
def AsterSt.counted (a : AsterSt) (c : ConvCnt) : AsterSt :=
  { a with
    satCnt := a.satCnt.add c.sat
    nanCnt := a.nanCnt.add c.nan
    satSeen := a.satSeen || decide (0 < c.sat)
    nanSeen := a.nanSeen || decide (0 < c.nan) }

/-- Whether the arrays run the items of the program in force: all four, or three in the three-array variant (R105, R106). -/
def State.astersRun (s : State) : Bool := s.arraysUp == 4 || (s.aster.degraded && s.arraysUp == 3)

/-- The predictor (R96, R98); an item that cannot complete leaves no predicted layers (R105). -/
def occupancyPredictorEffect (m : ItemFault) (s : State) : State := s.item fun s =>
  match s.bundle.bind fun b => b.predictor.map fun p => (b, p) with
  | none => s
  | some (b, p) =>
    if s.casc.memberInService then s
    else
      let s := s.fgFault m
      if m.uncorrectable.isSome || !s.astersRun then s
      else
        let r := p.graph.eval { seed := b.worldSeed, base := 0xA0000000, tick := s.tickNo } (s.predictorIn b p)
        let probs := r.1.words.map probOf
        (s.onAster fun a => a.counted ((probs.map (·.2)).foldl ConvCnt.plus r.2)).onWorld fun w => { w with
          pred := some (probs.map (·.1)) }

def execOccupancyPredictor (m : ItemFault) (s : State) : Out := .next (occupancyPredictorEffect m s)

/-! ### Distance transform (06 R171 to R174) -/

/-- The inputs of the field of the tick (02 R50, R57 to R61, R72). -/
def State.fieldInputs (s : State) (b : Bundle) : FieldInputs :=
  let t := s.world.taken b
  { origin := s.world.origin, smap := b.smap, full := t.full, part := t.part, failSafe := t.boxes,
    zones := s.world.zones.map (·.2), pred := s.world.pred.getD [],
    thr := b.predictor.map fun _ => s.zheda.ctl.predThr, obsLayers := b.obsHold, wall := b.wall }

/-- Whether the transform completes: no Cornflower has failed and the predicted layers are there (06 R180, R183; 03 R105;
log entry 28). -/
def State.transformRuns (s : State) (b : Bundle) : Bool :=
  s.cornflower.failedMask == 0 && (b.predictor.isNone || s.world.pred.isSome)

/-- The transform computes the coarse layer; the bricks are computed where field assembly stores them (06 R171 to R174). A
member takes the master's field (19 R473). -/
def cornflowerTransformEffect (s : State) : State := s.item fun s =>
  match s.bundle with
  | none => s
  | some b =>
    if s.casc.memberInService then s
    else if s.transformRuns b then s.onWorld fun w => { w with coarse := some (s.fieldInputs b).coarse }
    else s.onCornflower fun c => { c with
      edtIncomplete := true
      ctgHeld := true }

def execCornflowerTransform (s : State) : Out := .next (cornflowerTransformEffect s)

/-! ### Wavefront rings (06 R176 to R180) -/

/-- Goal boxes latched at ac 0. -/
def FgSlot.boxes (f : FgSlot) : List Box := (List.range f.goals).map f.rec'.goal

/-- What the rings of a slot read beside the source grid (R176). -/
def ringParams (f : FgSlot) (coarse soft : List Nat) (origin : V3) : RingParams :=
  { step1 := f.rec'.step1, step2 := f.rec'.step2, step3 := f.rec'.step3,
    blocked := blockedCells coarse f.rec'.ctgLayers f.rec'.ctgClr soft,
    goals := goalCells origin f.boxes, soft := soft }

/-- The source of ring 1: the reset grid, an adopted grid, or the published buffer, shifted with the origin (R178 to R182). -/
def CflSlot.source (x : CflSlot) (goals : List Bool) : Grid :=
  if x.needReset then resetGrid goals
  else shiftGrid x.shift (x.adopted.getD (if x.pubSel then x.buf1 else x.buf0))

/-- A grid published for a slot: the other buffer, the pointer flipped, the tick number (R178). -/
def CflSlot.publish (x : CflSlot) (g : Grid) (tick : Dword) : CflSlot :=
  { x with
    buf0 := if x.pubSel then g else x.buf0
    buf1 := if x.pubSel then x.buf1 else g
    lost0 := if x.pubSel then [] else x.lost0
    lost1 := if x.pubSel then x.lost1 else []
    pubSel := !x.pubSel
    pubValid := true
    pub := { x.pub with val := tick }
    needReset := false
    adopted := none
    shift := {} }

/-- The rings of one slot; a context with no goal boxes has every value 0 (R176 to R178). -/
def State.slotRings (s : State) (b : Bundle) (coarse : List Nat) (n : Nat) (f : FgSlot) : State :=
  let soft := b.softLayer s.world.origin
  let p := ringParams f coarse soft s.world.origin
  let x := s.cflSlot n
  let r := ringsRun b.rings p (x.source p.goals)
  let g := if f.goals = 0 then List.replicate 65536 0 else r.1
  let changed := if f.goals = 0 then ((List.range 65536).filter fun c => (x.source p.goals).at c != 0).length else r.2
  let met := (List.range 65536).any fun c => p.goals.getD c false && p.blocked.getD c false
  (s.onCornflower fun c => { c with goalBlocked := c.goalBlocked || met }).updCflSlot n fun y =>
    { (y.publish g s.tick.num.val) with changed := changed }

/-- The coarse layer the wavefront of this device reads: its own, or that of the field a member received (19 R473). -/
def State.coarseNow (s : State) : Option (List Nat) :=
  if s.casc.memberInService then
    s.casc.fieldIn.map fun f => (List.range 524288).map fun i => (Mem.read f.img i).toNat
  else s.world.coarse

/-- RINGS rings per slot, then the publish (R178); WF_EN 0 skips them; without a coarse layer no publish completes (R180). -/
def wavefrontRingsEffect (s : State) : State := s.item fun s =>
  match s.bundle with
  | none => s
  | some b =>
    let s := s.onCornflower fun c => { c with ringsRanThisTick := true }
    if !s.zheda.ctl.wfEn then s
    else match s.coarseNow with
      | none => s.onCornflower fun c => { c with ctgHeld := true }
      | some coarse =>
        if s.cornflower.failedMask != 0 then s.onCornflower fun c => { c with ctgHeld := true }
        else s.teasel.fg.foldl (fun s (e : Nat × FgSlot) => s.slotRings b coarse e.1 e.2) s

def execWavefrontRings (s : State) : Out := .next (wavefrontRingsEffect s)

/-! ### Field assembly (02 R59, R67 to R72) -/

/-- The assembled field and what it reports: demand and use of bricks, records outside, overflow (R59, R70, R72). -/
def fieldAssemblyEffect (s : State) : State := s.item fun s =>
  match s.bundle, s.world.coarse with
  | some b, some coarse =>
    if s.casc.memberInService then s
    else
      let inp := s.fieldInputs b
      let t := s.world.taken b
      let range := s.zheda.ctl.brickRange
      let ranking := brickRanking coarse inp.solid range s.world.focus
      let img := inp.image coarse range s.world.focus b.golden
      let f : BuiltField :=
        { version := s.tickNo, origin := s.world.origin, t0 := s.tick.stamp, layerMs := b.layerMs, img := img,
          crc := crc32c (img.reads 0 imageBytes) }
      let s := s.onWorld fun w => { w with
        built := some f
        demand := ranking.length
        used := min 380 ranking.length
        brickShort := w.brickShort || decide (380 < ranking.length)
        ingestOvf := w.ingestOvf || t.ovf
        dropCnt := w.dropCnt.add t.outside }
      ((s.updProg fun p => { p with assembled := true }).updTrace fun z => { z with fieldCrc := f.crc }).castField f
  | _, _ => s

def execFieldAssembly (s : State) : Out := .next (fieldAssemblyEffect s)

/-! ### Field broadcast (02 R73, R74; 01 R34, R35; 19 R473) -/

/-- Tiles that receive a broadcast: every tile that is not declared failed (R73). -/
def State.receives (s : State) (t : Nat) : Bool := (s.safety.tile t).role != .failed

/-- The start of the broadcast: BCAST 1, VALID 0 in every receiving tile (R73 item 1). -/
def State.startBcast (s : State) : State :=
  if s.tick.prog.bcastStarted then s
  else
    let s := s.updProg fun p => { p with bcastStarted := true }
    (List.range 72).foldl (fun s t => if s.receives t then
      s.updStore t fun f => { f with
        bcast := true
        valid := false }
      else s) s

/-- A tile reported as failed: declared failed at the next tick edge (14 R352), with its log entry (R365). -/
def State.tileFails (s : State) (t code : Nat) (inj : Bool := false) : State :=
  (s.updTile t fun x => { x with failWaiting := true }).logFault 1 t code 1 inj

/-- The end of the broadcast check in one tile: the image, then its registers and VALID, or REPLICA_BAD (R73, R74). -/
def FieldStore.load (x : FieldStore) (f : BuiltField) (bad : List Nat) : FieldStore :=
  let x := { x with
    bcast := false
    interrupted := false
    img := f.img
    flips := [] }
  if bad.isEmpty then
    { x with
      valid := true
      version := { x.version with val := BitVec.ofNat 64 f.version }
      origin := f.origin
      t0 := { x.t0 with val := BitVec.ofNat 64 f.t0 }
      crc := f.crc
      layerMs := f.layerMs }
  else { x with
    valid := false
    replicaBad := x.replicaBad ||| BitVec.ofNat 4 (bad.foldl (fun m r => m ||| 2 ^ r) 0) }

/-- The broadcast check of one tile. -/
def State.bcastTile (s : State) (f : BuiltField) (t : Nat) (bad : List Nat) : State :=
  if s.receives t then
    let s := s.updStore t fun x => x.load f bad
    if bad.isEmpty then s else s.tileFails t 0x0105
  else s

/-- The field that is broadcast in the running tick, if it is fully assembled (01 R35) or was received (19 R473). -/
def State.fieldToSend (s : State) : Option BuiltField :=
  if s.casc.memberInService then s.casc.fieldIn
  else if s.tick.prog.assembled then s.world.built else none

/-- The broadcast of the tick; `bad` names replicas (tile, replica) whose CRC did not match. Without an assembled field
the Field Stores keep the older one, and FIELD_HELD is set (R35). -/
def fieldBroadcastEffect (bad : List (Nat × Nat)) (s : State) : State := s.item fun s =>
  if s.tick.prog.bcastDone then s
  else match s.fieldToSend with
    | none =>
      (s.onWorld fun w => { w with fieldHeld := true }).updTrace fun z => { z with fieldHeld := true }
    | some f =>
      let s := (s.onWorld fun w => { w with built := some f }).startBcast
      let s := (List.range 72).foldl
        (fun s t => s.bcastTile f t ((bad.filter fun p => p.1 == t).map (·.2))) s
      s.updProg fun p => { p with bcastDone := true }

def execFieldBroadcast (bad : List (Nat × Nat)) (s : State) : Out := .next (fieldBroadcastEffect bad s)

/-- The running tick is known to have reached an ac: an assembled field's broadcast has started from the broadcast ac on
(R73; 01 R19). -/
def State.reachAc (s : State) (ac : Nat) : State :=
  let s := s.updProg fun p => { p with ac := max p.ac ac }
  if s.running && decide (bcastStart s.program s.tick.acE ≤ (ac : Int)) && s.fieldToSend.isSome && !s.tick.prog.bcastDone
  then s.startBcast else s

/-! ### Peeks (02 R75) -/

/-- Bits flipped in the 64-bit word and check bits of a replica that holds an address. -/
def FieldStore.flipsAt (x : FieldStore) (replica addr : Nat) : List Nat :=
  (x.flips.filter fun f => f.replica == replica && f.word == addr / 8).map (·.bit)

/-- A peek that returns no data: DATA 0 and PEEK_ERR. -/
def FieldStore.peekNone (x : FieldStore) : FieldStore :=
  { x with
    peekBusy := false
    peekErr := true
    peekData := 0 }

/-- A wear count of a unit (14 R367). -/
def State.wear (s : State) (cls inst : Nat) (f : LedgerEntry → LedgerEntry) : State :=
  s.onSafety fun x => { x with wear := Tbl.upd {} x.wear (cls * 256 + inst) f }

/-- Corrected words of a tile (R155), with the count of code 0x0107 (14 R365). -/
def State.tileCorrected (s : State) (t n : Nat) : State :=
  if n = 0 then s
  else
    let s := (s.onHarebell fun h => { h with
      fsCe := true
      ceCnt := h.ceCnt.add n }).wear 1 t fun l => { l with corrected := l.corrected + n }
    let x := s.safety.tile t
    let lim := s.safety.ceLimit.toNat
    let s := s.updTile t fun y => { y with ceCount := y.ceCount + n }
    if x.ceCount ≤ lim && decide (lim < x.ceCount + n) then
      let s := s.logFault 1 t 0x0107 0
      match x.serves with
      | some p => s.onSafety fun f => { f with rots := modAt (fun r => { r with nextPtr := some p }) f.rots (t / 18) }
      | none => s
    else s

/-- Uncorrectable words of a tile (R155): counted, and the tile reported once in the phase (log entry 30). -/
def State.tileUncorrectable (s : State) (t n : Nat) : State :=
  if n = 0 then s
  else ((s.onHarebell fun h => { h with
      fsUe := true
      ueCnt := h.ueCnt.add n }).wear 1 t fun l => { l with uncorrected := l.uncorrected + n }).tileFails t 0x0106

/-- The end of a peek (R75): corrected, uncorrectable, or no data where the tile is failed or was interrupted. -/
def State.peekEnd (s : State) (t : Nat) : State :=
  let x := s.store t
  let a := x.peekAddr.toNat
  let fl := x.flipsAt (a / 0x100000) (a % 0x100000)
  if (s.safety.tile t).role == .failed || (!x.valid && x.interrupted) then s.updStore t FieldStore.peekNone
  else
    let s := if fl.isEmpty then s else if fl.length = 1 then s.tileCorrected t 1 else s.tileUncorrectable t 1
    s.updStore t fun y =>
      if 2 ≤ fl.length then y.peekNone
      else { y with
        peekBusy := false
        peekData := Mem.read y.img (a % 0x100000) }

/-- A write of FS_PEEK_ADDR starts a peek: it completes now, or waits while BCAST is 1 (R75). -/
def fsPeekStartEffect (t : Nat) (val : Word) (s : State) : State :=
  let s := s.updStore t fun x => { x with
    peekAddr := val.setWidth 22
    peekBusy := true }
  if (s.store t).bcast then s else s.peekEnd t

/-- A peek that waited completes once the broadcast and its check have (R75); the truncating edge ends it otherwise. -/
def peekCompleteEffect (t : Nat) (s : State) : State :=
  if (s.store t).peekBusy && !(s.store t).bcast then s.peekEnd t else s

def execPeekComplete (tile : Fin 72) (s : State) : Out := .next (peekCompleteEffect tile s)

end Sys2Proof.Machine
end

