-- ==== Sys2Proof/Machine/LoadItems.lean ====
section
/-! DEFINITION. The context-load item of a tick: what a member takes from its master, prepared mixtures, edge records, tree
insertion and the repeat maps (04 R128, R132 to R139; 07 R187; 19 R473). -/

namespace Sys2Proof.Machine

/-! ### What a member takes from its master (19 R473, R476) -/

/-- The slots of a member follow those of the master: a context that left or entered its slot, or whose goal set changed
(06 R179). -/
def State.memberSlots (s : State) (fg : Tbl FgSlot) : State :=
  (List.range 16).foldl (fun s n =>
    match s.fgSlot n, Tbl.find? fg n with
    | some a, none => s.leaveSlot a.ctx n
    | none, some b => s.enterSlot b.ctx n
    | some a, some b =>
      if a.ctx != b.ctx then (s.leaveSlot a.ctx n).enterSlot b.ctx n
      else if a.boxes == b.boxes then s
      else s.updCflSlot n fun x => { x with needReset := true }
    | none, none => s) s

/-- A route set or grid that the master adopted in the tick: the member adopts its own copy (19 R475). -/
def State.takeAdopted (s : State) (e : JEntry) : State :=
  if e.ty = 4 then s.updLup e.id fun l => { l with
    routes := if l.waitingRoutes.isSome then l.waitingRoutes else l.routes
    waitingRoutes := none }
  else if e.ty = 5 then
    match s.cornflower.full.find? fun r => r.ctx == e.id && r.done with
    | some r => (s.updCflSlot r.slot fun x => { x with
        adopted := some r.grid
        needReset := false
        shift := (s.world.origin.sub r.origin).fdiv 2560 }).onCornflower fun c => { c with
          full := c.full.filter fun y => y.ctx != e.id }
    | none => s
  else s

/-- INPUTS: the latched slots, the budget, the allocation and the robot states; a member without them plans nothing. -/
def State.takeInputs (s : State) : State :=
  match s.casc.inputsIn.bind Config.casMsg with
  | some (.inputs fg eff maxU alloc states entries order) =>
    let s := (entries.foldl State.takeAdopted (s.memberSlots fg)).onTeasel fun t => { t with fg := fg }
    let s := s.onTick fun t => { t with
      effUnits := eff
      maxUnits := maxU }
    let s := s.onLupin fun l => { l with slots := alloc }
    let s := s.onWorld fun w => { w with inputs := states }
    s.onCasc fun c => { c with
      count := order.length
      ix := (firstIx (fun p => p == c.position) order).getD 0 }
  | _ => s.onTeasel fun t => { t with fg := [] }

/-- DECISION: the anchor of every slot. -/
def State.takeDecision (s : State) : State :=
  match s.casc.decisionIn.bind Config.casMsg with
  | some (.decision l) => s.onCasc fun c => { c with anchors := l }
  | _ => s.onCasc fun c => { c with anchors := [] }

/-- HANDOFF: parent tables, tree nodes and SHIFT_RUN, taken once. -/
def State.takeHandoff (s : State) : State :=
  let msg := s.casc.handoffIn.bind Config.casMsg
  let s := s.onCasc fun c => { c with handoffIn := none }
  match msg with
  | some (.handoff l) =>
    l.foldl (fun s (e : Nat × HandoffCopy) =>
      match s.fgSlot e.1 with
      | some f => (s.updLup f.ctx fun x => { x with
          parents := e.2.forms
          pendingInserts := e.2.nodes }).updVetSlot e.1 fun v => { v with shiftRun := e.2.shiftRun }
      | none => s) s
  | _ => s

/-! ### Mixtures (R128) -/

/-- The mixture buffer that tick k reads for a context: buffer k & 1, if it is VALID (03 R101). -/
def State.mixOf (s : State) (c : Nat) : Option (List Word) :=
  let b := Tbl.get {} s.aster.mixes (c * 2 + s.tickNo % 2)
  if b.valid then some b.data else none

/-- The prepared mixture of a foreground context; PROPOSAL_BAD where no component is usable (R128). -/
def State.loadMix (s : State) (f : FgSlot) : State :=
  match s.mixOf f.ctx with
  | none => s.updLup f.ctx fun x => { x with mix := none }
  | some d =>
    let m := prepareMix (f.js s) f.rec'.knots d
    (s.onLupin fun l => { l with proposalBad := l.proposalBad || m.isNone }).updLup f.ctx fun x => { x with mix := m }

/-! ### Edge records (R137) -/

/-- One edge checked in the last collision phase: CHECKED and BLOCKED over the slots that hold it. -/
def Roadmap.check (r : Roadmap) (l : List (Nat × Nat × Bool)) : Roadmap :=
  { r with edges := r.edges.zipIdx.map fun e =>
      match l.filter fun x => x.1 == e.2 with
      | [] => e.1
      | x :: xs => { e.1 with
          checked := x.2.1
          blocked := (x :: xs).any fun y => !y.2.2 } }

/-- The checked edges of a context: bits of engines that were excluded are ignored (14 R349). -/
def LupCtx.checkedEdges (x : LupCtx) (excl : List Nat) : List (Nat × Nat × Bool) :=
  match x.rmBits with
  | none => []
  | some bs => (x.rmEdges.zipIdx.filterMap fun p => p.1.bind fun e =>
      if e.2.1 ∈ excl then none else some (e.1, e.2.2, bs.getD p.2 false))

def LupCtx.updateEdges (x : LupCtx) (excl : List Nat) : LupCtx :=
  { x with
    roadmap := x.roadmap.check (x.checkedEdges excl)
    rmEdges := [] }

/-! ### Trees (R132, R134) -/

/-- A node inserted: it enters the frontier ring, and the oldest entry leaves it (R134). -/
def Tree.insert (t : Tree) (frontier parent tick : Nat) (q : JVec) : Tree :=
  let n := t.nodes.length
  let fr := t.frontier ++ [⟨n, q⟩]
  { nodes := t.nodes ++ [{ parent := parent, depth := (((t.nodes.getD parent ⟨0, 0, 0, []⟩).depth) + 1) % 65536, tick := tick, q := q }]
    frontier := fr.drop (fr.length - frontier) }

/-- Insertion of the pending nodes in rank order; the flag says that TREE_MAX stopped it (R134). -/
def Tree.insertAll (t : Tree) (treeMax frontier tick : Nat) : List (Nat × JVec) → Tree × Bool
  | [] => (t, false)
  | p :: ps =>
    if treeMax ≤ t.nodes.length then (t, true)
    else Tree.insertAll (t.insert frontier p.1 tick p.2) treeMax frontier tick ps

/-- The root of a new tree: the anchor of the first tick with a non-empty TREE block (R132). -/
def rootTree (tick : Nat) (q : JVec) : Tree :=
  { nodes := [{ parent := 0xFFFFFFFF, depth := 0, tick := tick, q := q }], frontier := [⟨0, q⟩] }

/-- The tree of a foreground context in the context-load item. -/
def State.loadTree (s : State) (n : Nat) (f : FgSlot) : State :=
  let x := s.lupCtx f.ctx
  let r := f.rec'
  match x.tree with
  | none =>
    if 0 < (s.lupSlot n).blocks.tree then
      match s.anchorOf n f with
      | some a => s.updLup f.ctx fun x => { x with
          tree := some (rootTree s.tickNo a.1)
          pendingInserts := [] }
      | none => s
    else s
  | some t =>
    if s.zheda.ctl.treeGrow then
      let u := t.insertAll r.treeMax r.frontier s.tickNo x.pendingInserts
      (s.onLupin fun l => { l with treeFull := l.treeFull || u.2 }).updLup f.ctx fun x => { x with
        tree := some u.1
        pendingInserts := [] }
    else s.updLup f.ctx fun x => { x with pendingInserts := [] }

/-! ### The item -/

/-- The repeat count of a slot's ROADMAP block (07 R187). -/
def State.repeatCount (s : State) (n : Nat) (f : FgSlot) : Nat :=
  match (s.lupCtx f.ctx).routes with
  | some rs => rs.repeats (s.lupSlot n).blocks.roadmap
  | none => 0

/-- Pending insertions and edge updates abandoned (R139). -/
def State.dropPending (s : State) : State :=
  s.onLupin fun l => { l with
    ctxs := l.ctxs.map fun e => (e.1, { e.2 with pendingInserts := [], rmEdges := [] }) }

/-- One foreground context loaded. -/
def State.loadSlot (s : State) (n : Nat) (f : FgSlot) : State :=
  let s := s.loadMix f
  let s := (s.updLup f.ctx fun x => x.updateEdges s.safety.exclMask).loadTree n f
  s.updPopSlot n fun p => { p with repCount := s.repeatCount n f }

/-- The context-load item; an uncorrectable word abandons its insertions and edge updates as a truncation does (R139,
15 R389; log entry 31). -/
def contextLoadEffect (m : ItemFault) (s : State) : State := s.item fun s =>
  let s := s.fgFault m
  let s := if s.casc.memberInService then s.takeInputs.takeDecision.takeHandoff else s
  let s := if m.uncorrectable.isSome then s.dropPending else s
  (s.teasel.fg.foldl (fun s (e : Nat × FgSlot) => s.loadSlot e.1 e.2) s).updProg fun p => { p with loaded := true }

def execContextLoad (m : ItemFault) (s : State) : Out := .next (contextLoadEffect m s)

end Sys2Proof.Machine
end

