-- ==== Sys2Proof/Machine/Collision.lean ====
section
/-! DEFINITION. The collision phase: live and golden candidates on the active engines, what they leave, and Campion's
checks (05 R143 to R169; 14 R347 to R349, R354, R365). -/

namespace Sys2Proof.Machine

/-! ### Live candidates (R160, R163) -/

/-- A live candidate with the engine and tile that evaluated it; PADDING has no evaluation (R163). -/
structure Evald where
  slot : Nat
  shape : Nat
  cand : Cand
  engine : Nat
  tile : Nat
  eval : Option CandEval

/-- The live candidates of one slot on this device (R118; 19 R476); an engine without a tile evaluates nothing (14 R353). -/
def State.slotEvals (s : State) (n : Nat) (f : FgSlot) : List Evald :=
  (s.genCtx n f).cands.filterMap fun c =>
    (s.engineOf c.slotPos).bind fun e => (s.safety.serving e).map fun t =>
      { slot := n, shape := f.rec'.waypoints * f.rec'.spheres, cand := c, engine := e, tile := t,
        eval := if c.src = .padding then none else some ((s.evalEnv n f t).eval c.form) }

/-- The live candidates of the tick; none while no tile holds a valid field (01 R34). -/
def State.liveEvals (s : State) : List Evald :=
  if s.tick.prog.noCands then []
  else s.planSlots.flatMap fun (e : Nat × FgSlot) => s.slotEvals e.1 e.2

/-- The record of a live candidate (R163), with its summary where the bundle holds a critic (R164). -/
def Evald.live (x : Evald) (w s : Nat) (critic : Bool) : LiveRec :=
  { engine := x.engine,
    rr := match x.eval with
      | some e => e.record x.cand.index x.slot x.cand.src.code
      | none => paddingRecord x.cand.index x.slot,
    summary := match x.eval with
      | some e => if critic then e.summary w s x.cand.src.code else []
      | none => [] }

def State.liveRec (s : State) (x : Evald) : LiveRec :=
  let r : CtxRec := ((s.fgSlot x.slot).map (·.rec')).getD []
  x.live r.waypoints r.spheres (s.bundle.bind (·.critic)).isSome

/-! ### Golden candidates (R167, R168; 14 R347) -/

/-- What sets the golden candidates of a tick: the model, its shape entry, the weights and the slot. -/
structure GoldSetup where
  model : ModelEntry
  shape : ShapeEntry
  params : CtxRec
  slot : Nat

def GoldSetup.q (g : GoldSetup) : Nat := candCost g.shape.w g.shape.s

/-- The context that sets q_g: the largest q, the lowest slot among equals (R160). -/
def TeaselSt.goldSlot (t : TeaselSt) : Option (Nat × FgSlot) :=
  t.fg.foldl (fun m e => match m with
    | none => some e
    | some x => if x.2.rec'.q < e.2.rec'.q then some e else m) none

/-- The golden set-up of the tick: that context's, or the first model's with no foreground context (R167, R168). -/
def State.goldSetup (s : State) : Option GoldSetup :=
  if s.tick.prog.noCands then none
  else match s.teasel.goldSlot with
    | some (n, f) =>
      let m := s.entryOf f.model
      (m.shape f.rec'.waypoints f.rec'.spheres).map fun e => ⟨m, e, f.rec', n⟩
    | none => (s.bundle.bind fun b => b.models.head?).bind fun m =>
        m.shapes.head?.map fun e => ⟨m, e, m.defaults, 0⟩

def GoldSetup.form (g : GoldSetup) (i : Nat) : GoldenForm := if i = 0 then g.shape.gold0 else g.shape.gold1

/-- Golden candidate i on a tile; a tile without a valid field gives D = 0 and FSERR (R156). -/
def State.goldEval (s : State) (g : GoldSetup) (t i : Nat) : CandEval :=
  let x := g.form i
  let st := s.store t
  let e := EvalEnv.eval
    { fs := if st.valid then st else {}, mode := .golden, model := g.model.model.eng, w := g.shape.w, s := g.shape.s,
      params := g.params, root := { b := x.rot, p := x.base }, layers := x.layers } x.form
  if st.valid then e else { e with fserr := true }

/-- A golden result of an engine on its tile. -/
structure GoldRun where
  engine : Nat
  tile : Nat
  e0 : CandEval
  e1 : CandEval
  corrupt : List Nat

/-- The injected corruptions of a tile's golden signatures: kind GOLDEN_SIG (14 R366). -/
def SafetySt.corrupts (x : SafetySt) (t : Nat) : List Nat :=
  (x.armed.filter fun i => i.target == 1 && i.kind == 1 && i.inst == t).map fun i => i.arg % 2

/-- The golden candidates of every active engine that has a tile. -/
def State.goldRuns (s : State) (g : GoldSetup) : List GoldRun :=
  (List.range 64).filterMap fun e => (s.safety.serving e).map fun t =>
    ⟨e, t, s.goldEval g t 0, s.goldEval g t 1, s.safety.corrupts t⟩

def GoldRun.eval (r : GoldRun) (i : Nat) : CandEval := if i = 0 then r.e0 else r.e1

/-- The signature of a golden candidate; an injection makes it another value (14 R366; log entry 2). -/
def State.goldSig (s : State) (r : GoldRun) (i : Nat) : Word :=
  let sig := (r.eval i).signature
  if i ∈ r.corrupt then sig + 1 + BitVec.ofNat 32 ((Config.freeValue s.freeIx).toNat % (2 ^ 32 - 1)) else sig

/-- The golden results of an engine (R163, R167; 04 R119). -/
def State.goldRes (s : State) (g : GoldSetup) (r : GoldRun) : GoldenRes :=
  let ix (i : Nat) : Nat := s.lupin.goldBase.toNat + 2 * r.engine + i
  { engine := r.engine, rec0 := r.e0.record (ix 0) g.slot 6, rec1 := r.e1.record (ix 1) g.slot 6,
    sig0 := s.goldSig r 0, sig1 := s.goldSig r 1 }

/-- COST with CAUSE bit 5 of a golden record. -/
def ResRec.pair (r : ResRec) : Nat × Nat := (r.cost, r.cause / 32 % 2)

def GoldenRes.record (r : GoldenRes) (i : Nat) : ResRec := if i = 0 then r.rec0 else r.rec1
def GoldenRes.sig (r : GoldenRes) (i : Nat) : Word := if i = 0 then r.sig0 else r.sig1

/-- Whether at least 33 active engines report a pair for golden i (14 R348). -/
def majority (l : List GoldenRes) (i : Nat) (p : Nat × Nat) : Bool :=
  decide (33 ≤ (l.filter fun r => (r.record i).pair == p).length)

/-- Whether golden i of an engine is mismatched (14 R348). -/
def GoldenRes.bad (r : GoldenRes) (l : List GoldenRes) (x : GoldenForm) (i : Nat) : Bool :=
  let c := r.record i
  r.sig i != x.sig || c.minClr != x.minClr || c.feas != x.feas || c.cause % 32 != x.cause % 32 ||
  c.minWp != x.minWp || c.minSph != x.minSph || c.minLayer != x.minLayer || !majority l i c.pair

/-! ### What the phase leaves -/

/-- Words corrected and uncorrectable, and bad index entries, that a tile met. -/
structure TileMet where
  ce : Nat := 0
  ue : Nat := 0
  bad : Nat := 0

def TileMet.add (m : TileMet) (e : CandEval) : TileMet := ⟨m.ce + e.ce, m.ue + e.ue, m.bad + e.badIndex⟩

/-- What a tile met over its live and golden candidates. -/
def tileMet (t : Nat) (live : List Evald) (gold : List GoldRun) : TileMet :=
  let a := live.foldl (fun m x => if x.tile = t then (match x.eval with | some e => m.add e | none => m) else m)
    ({} : TileMet)
  gold.foldl (fun m r => if r.tile = t then (m.add r.e0).add r.e1 else m) a

/-- The counts of one tile at the end of the phase (R155; 02 R69). -/
def State.tileCounts (s : State) (live : List Evald) (gold : List GoldRun) (t : Nat) : State :=
  let m := tileMet t live gold
  let s := if m.bad = 0 then s else s.updStore t fun f => { f with badIndexCnt := f.badIndexCnt.add m.bad }
  (s.tileUncorrectable t m.ue).tileCorrected t m.ce

/-- The HB_T window of a tile after the phase (Table 5-14). -/
def State.hbTile (s : State) (live : List Evald) (gold : List GoldenRes) (g : GoldSetup) (e t : Nat) : HbTile :=
  let mine := live.filter fun x => x.engine == e
  let r := gold.find? fun r => r.engine == e
  { queries := 2 * g.shape.w * g.shape.s + sumN (mine.map (·.shape)), cands := mine.length,
    start := s.program.hPre + s.dSub t + 960 + 2 * g.q, gsig0 := (r.map (·.sig0)).getD 0, gsig1 := (r.map (·.sig1)).getD 0 }

/-- The roadmap bitmap of a context and what its next context-load item makes of it (R166; 04 R136, R137). -/
def State.roadmapBits (s : State) (live : List Evald) (n : Nat) (f : FgSlot) : State :=
  let b := (s.lupSlot n).blocks
  let at_ (r : Nat) : Option Evald := live.find? fun x => x.slot == n && x.cand.rmPos == some r
  let bits := (List.range (min 1024 b.roadmap)).map fun r =>
    match at_ r with
    | some x => match x.eval with | some e => e.feas | none => false
    | none => false
  let edges := (List.range (min 1024 b.roadmap)).map fun r =>
    (at_ r).bind fun x => x.cand.edge.map fun e => (e, x.engine, (s.store x.tile).version.val.toNat)
  s.updLup f.ctx fun x => { x with
    rmBits := some bits
    rmEdges := edges }

/-- Fallbacks of a slot (04 R124). -/
def State.fallbacks (s : State) (live : List Evald) (n : Nat) : State :=
  let l := live.filterMap fun x => if x.slot = n then x.cand.fellBack else none
  if l.isEmpty then s
  else (s.onLupin fun x => { x with
      fallbackF := true
      fallbackCnt := x.fallbackCnt.add l.length }).updLupSlot n fun x => { x with
      fallback := l.foldl (fun m src => m ||| BitVec.ofNat 6 (2 ^ src.code)) x.fallback }

/-- Positions saturated: of the candidates, and of each context's root once in the tick (R151; log entry 32). -/
def State.posSats (s : State) (live : List Evald) (gold : List GoldRun) : Nat :=
  sumN (live.map fun x => ((x.eval.map (·.posSat)).getD 0)) + sumN (gold.map fun r => r.e0.posSat + r.e1.posSat) +
  (if s.tick.prog.noCands then 0 else
    (s.planSlots.filter fun (e : Nat × FgSlot) => (s.rootOf e.2 (s.statePrev e.2.ctx)).2).length)

/-- The counts of the whole phase (Table 5-13). -/
def HarebellSt.phaseCounts (h : HarebellSt) (live : List Evald) (sats : Nat) (gold : List GoldRun) : HarebellSt :=
  let es := live.filterMap (·.eval)
  let count (p : CandEval → Bool) : Nat := (es.filter p).length
  { h with
    costSat := h.costSat || es.any CandEval.costSat || gold.any fun r => r.e0.costSat || r.e1.costSat
    posSat := h.posSat || decide (0 < sats)
    posSatCnt := h.posSatCnt.add sats
    tickFeas := count CandEval.feas
    tickInfeas := count fun e => !e.feas
    causeClr := count (·.clr)
    causeSelf := count (·.self)
    causeLimit := count fun e => e.pos || e.vel
    causeFserr := count (·.fserr)
    ran := true }

/-- Campion's verdict on one engine (14 R348, R349): counted, logged, masked, its tile declared failed at the next edge. -/
def State.campion (s : State) (all : List GoldenRes) (g : GoldSetup) (r : GoldRun) : State :=
  match all.find? fun x => x.engine == r.engine with
  | none => s
  | some x =>
    if x.bad all g.shape.gold0 0 || x.bad all g.shape.gold1 1 then
      let s := s.onSafety fun f => { f with
        mismatchCnt := f.mismatchCnt.incr
        goldF := true
        maskNow := if r.engine ∈ f.maskNow then f.maskNow else f.maskNow ++ [r.engine] }
      (s.updTrace fun t => { t with fault := true }).tileFails r.tile 0x0101 (!r.corrupt.isEmpty)
    else s

/-- Soft errors that struck the Field Stores before or in the phase (R155). -/
def State.flipStores (s : State) (flips : List (Nat × FsFlip)) : State :=
  flips.foldl (fun s p => s.updStore p.1 fun x => { x with flips := x.flips ++ [p.2] }) s

/-- Whether an active tile runs without a valid field (R156). -/
def State.fieldInvalidNow (s : State) : Bool :=
  (List.range 64).any fun e => match s.safety.serving e with
    | some t => !(s.store t).valid
    | none => false

/-- The collision phase. -/
def collisionPhaseEffect (m : ItemFault) (flips : List (Nat × FsFlip)) (s : State) : State := s.item fun s =>
  let s := (s.fgFault m).flipStores flips
  let live := s.liveEvals
  let setup := s.goldSetup
  let runs := (setup.map s.goldRuns).getD []
  let gold := match setup with | some g => runs.map (s.goldRes g) | none => []
  let recs := live.map s.liveRec
  let sats := s.posSats live runs
  let used := runs.any fun r => !r.corrupt.isEmpty
  let tiles : Tbl HbTile := match setup with
    | some g => (List.range 64).foldl (fun acc e => match s.safety.serving e with
        | some t => Tbl.put acc t (s.hbTile live gold g e t)
        | none => acc) []
    | none => []
  let s := s.onHarebell fun h => { (h.phaseCounts live sats runs) with
    live := recs
    golden := gold
    tiles := tiles
    fieldInvalid := h.fieldInvalid || (!s.tick.prog.noCands && s.fieldInvalidNow) }
  let s := if live.any fun x => ((x.eval.map (·.fserr)).getD false) then s.updTrace fun t => { t with fault := true } else s
  let s := if s.tick.prog.noCands then s else s.planSlots.foldl (fun s (e : Nat × FgSlot) =>
    (s.roadmapBits live e.1 e.2).fallbacks live e.1) s
  let s := match setup with | some g => runs.foldl (fun s r => s.campion gold g r) s | none => s
  let s := if used then (s.setFreeIx (s.freeIx + 1)).onSafety fun f => { f with
      armed := f.armed.filter fun i => !(i.target == 1 && i.kind == 1) }
    else s
  (List.range 72).foldl (fun s t => s.tileCounts live runs t) s

def execCollisionPhase (m : ItemFault) (flips : List (Nat × FsFlip)) (s : State) : Out :=
  .next (collisionPhaseEffect m flips s)

/-! ### Roster tags (14 R354) -/

/-- A write that a router turned away: ghost traffic of a failed tile, or a stale or forged generation. -/
def rosterTagRejectEffect (t : Nat) (gen : Half) (s : State) : State :=
  let x := s.safety.tile t
  if x.role = .failed then
    let s := s.onSafety fun f => { f with
      ghostCnt := f.ghostCnt.incr
      ghostF := true }
    if x.ghostLogged then s
    else (s.updTile t fun y => { y with ghostLogged := true }).logFault 1 t 0x0104 0
  else if gen = (s.safety.rots.getD (t / 18) {}).gen then s
  else
    let s := s.onSafety fun f => { f with
      tagCnt := f.tagCnt.incr
      maskNow := match x.serves with
        | some p => if 16 * (t / 18) + p ∈ f.maskNow then f.maskNow else f.maskNow ++ [16 * (t / 18) + p]
        | none => f.maskNow }
    s.tileFails t 0x0103

def execRosterTagReject (tile : Fin 72) (gen : Half) (s : State) : Out := .next (rosterTagRejectEffect tile gen s)

end Sys2Proof.Machine
end

