-- ==== Sys2Proof/Machine/Flows.lean ====
section
/-! DEFINITION. Query flows, their items, the delay lists and host timers (11 R276, R278 to R287, R292; 07 R200 to R202;
13 Table 13-7 group 0x06). -/

namespace Sys2Proof.Machine

/-! ### Time, servers and free intervals (R270, R271, R276) -/

/-- TSL_NOW: µs since READY, 48 bits. -/
def State.tslNow (s : State) : Nat :=
  match s.teasel.readyAt with
  | none => 0
  | some r => ((s.now - r) / 1000) % 2 ^ 48

/-- Servers of a class in service (Table 11-1); in OP3 only the command processors (16 R412). -/
def State.servers (s : State) (c : ServerClass) : List Nat :=
  if c != .cp && s.clock.op == 3 then []
  else match c with
    | .eng => (List.range 64).filter fun e => (s.safety.serving e).isSome
    | .ast => (List.range 4).filter fun a => !(s.aster.arrays.getD a {}).failed
    | .cfl => (List.range 4).filter fun i => !s.cornflower.failedMask.getLsbD i
    | .pop => (List.range 4).filter fun i => !s.poppy.failedMask.getLsbD i
    | .vet => List.range s.vetch.phys.length
    | .cp => [0, 1]

/-- The unit of Table 1-4 behind a server class; the command processors carry no foreground item (R277). -/
def ServerClass.unit : ServerClass → Option PUnit
  | .eng => some .harebell
  | .ast => some .aster
  | .cfl => some .cornflower
  | .pop => some .poppy
  | .vet => some .vetch
  | .cp => none

/-- Whether an item of `len` ac fits the longest free interval of a class under a program of A and E ac (R276). -/
def fitsClass (p : TickProgram) (a e : Nat) (c : ServerClass) (len : Nat) : Bool :=
  match c.unit with
  | none => true
  | some u => ((0 : Int) :: (e : Int) :: (busyIntervals p e u).map (·.2)).any fun t => mayStart p a e u t.toNat len

/-- A and E of a bundle under the setting in force (01 R26, R27). -/
def State.acOf (s : State) (b : Bundle) : Nat × Nat :=
  let a := acPerTick b.periodUs s.setting
  (a, programEnd a)

/-- Whether an item may start on a class at an ac: a unit is free while no tick runs (01 R37; 10 R256). -/
def State.startsAt (s : State) (c : ServerClass) (ac len : Nat) : Bool :=
  match c.unit with
  | none => true
  | some u => !s.tick.prog.running || mayStart s.program s.tick.acA s.tick.acE u ac len

/-! ### Pool entries (R282, R283, Tables 11-4, 11-5) -/

/-- KIND of a pool entry. -/
def itemKind (b : List Byte) : Nat := (b.getD 0 0).toNat
def itemRef (b : List Byte) : Bool := (b.getD 1 0).getLsbD 0
def itemDelayed (b : List Byte) : Bool := (b.getD 1 0).getLsbD 1
def itemCtx (b : List Byte) : Nat := leAt b 2 2 % 1024
def itemTag (b : List Byte) : Word := BitVec.ofNat 32 (leAt b 4 4)
def itemResult (b : List Byte) : Nat := leAt b 8 8
def itemDue (b : List Byte) : Nat := leAt b 16 8

/-- The server class of a kind (Table 11-5). -/
def itemClass (b : List Byte) : ServerClass :=
  match itemKind b with
  | 3 => .pop
  | 4 => .pop
  | 5 => .ast
  | _ => .eng

/-- Bytes of the arguments of an item (Table 11-5; widths of rows 3 to 5 in log entry 21). -/
def State.argBytes (s : State) (b : List Byte) : Nat :=
  match itemKind b with
  | 1 => 8 + ((s.ctx (itemCtx b)).inForce.knots + 1) * 4 * (s.modelOf (itemCtx b)).model.joints.length
  | 2 => 36
  | 5 => 24
  | _ => 16

/-- Bytes that the payload holds, inline or by reference. -/
def argRoom (b : List Byte) : Nat := if itemRef b then leAt b 32 4 else 40

/-- The argument bytes of an item (R282). -/
def State.itemArgs (s : State) (b : List Byte) : List Byte :=
  if itemRef b then s.itemRead (leAt b 24 8) (s.argBytes b) else (b.drop 24).take (s.argBytes b)

/-- n of a SELECT or UNIQUE item. -/
def rowLen (a : List Byte) : Nat := leAt a 8 4
/-- k of a SELECT or UNIQUE item. -/
def rowDepth (a : List Byte) : Nat := leAt a 12 4

/-- The background graph that a GRAPH item names. -/
def State.bgGraph (s : State) (a : List Byte) : Option BgGraph :=
  s.bundle.bind fun b => List.find? (fun (e : Nat × BgGraph) => e.1 == leAt a 0 4) b.graphs |>.map (·.2)

/-- Length of a slice of an item (Table 11-5; 07 R200, R201; 03 R95). -/
def State.itemLen (s : State) (b : List Byte) : Nat :=
  let a := s.itemArgs b
  match itemKind b with
  | 1 => 1344 + (s.ctx (itemCtx b)).inForce.q
  | 2 => 64
  | 3 => lenSel (rowLen a) (rowDepth a)
  | 4 => lenUnique (rowLen a) (rowDepth a)
  | _ => ((s.bgGraph a).map (·.sliceLen)).getD 0

/-- Whether a pushed item's fields are valid (R276, R282, R283; 07 R202). -/
def State.itemOk (s : State) (h : Hdr) (b : List Byte) : Bool :=
  let a := s.itemArgs b
  let k := itemKind b
  decide (1 ≤ k) && decide (k ≤ 5) && decide ((b.getD 1 0).toNat < 4) && decide (leAt b 2 2 < 1024) &&
  (itemDelayed b || itemDue b == 0) && decide (s.argBytes b ≤ argRoom b) &&
  (h.ring != 80 || (isDevice (itemResult b) && (!itemRef b || isDevice (leAt b 24 8)))) &&
  (k != 2 || decide (leAt a 35 1 ≤ 3)) &&
  ((k != 3 && k != 4) || (decide (1 ≤ rowDepth a) && decide (rowDepth a ≤ 1024))) &&
  (k != 5 || (s.bgGraph a).isSome)

/-- Whether a row is too long (07 R202). -/
def State.rowTooLong (s : State) (b : List Byte) : Bool :=
  (itemKind b == 3 || itemKind b == 4) && decide (262144 < rowLen (s.itemArgs b))

/-- Whether an item's slice fits the longest free interval of its class (R276). -/
def State.itemFits (s : State) (b : List Byte) : Bool :=
  match s.bundle with
  | none => true
  | some x => fitsClass s.program (s.acOf x).1 (s.acOf x).2 (itemClass b) (s.itemLen b)

/-! ### Records -/

def State.flow (s : State) (f : Nat) : Flow := Tbl.get {} s.teasel.flows f
def State.updFlow (s : State) (f : Nat) (g : Flow → Flow) : State :=
  s.onTeasel fun t => { t with flows := Tbl.upd {} t.flows f g }

def State.poolEntry (s : State) (n : Nat) : Option PoolEntry := Tbl.find? s.teasel.pool n
def State.updPool (s : State) (n : Nat) (g : PoolEntry → PoolEntry) : State :=
  s.onTeasel fun t => { t with pool := match Tbl.find? t.pool n with | some e => Tbl.put t.pool n (g e) | none => t.pool }

/-- The least number a table does not hold. -/
def leastFree {α : Type} : Nat → Tbl α → Nat
  | i, [] => i
  | i, (k, _) :: t => if k = i then leastFree (i + 1) t else i

/-! ### Delay lists (R278) -/

/-- Whether an entry goes before another: by due tick, then by insertion sequence. -/
def delayLe (a b : DelayEntry) : Bool := decide (a.due < b.due) || (a.due == b.due && decide (a.seq ≤ b.seq))

/-- Room left in a delay list. -/
def TeaselSt.delayRoom (t : TeaselSt) (l : Nat) : Nat := t.dlCap.getD l 0 - (t.delays.getD l []).length

/-- An insertion. -/
def TeaselSt.delayPut (t : TeaselSt) (l due : Nat) (o : DelayOwner) : TeaselSt :=
  { t with
    delays := modAt (insertBy delayLe ⟨due, t.delaySeq, o⟩) t.delays l
    delaySeq := t.delaySeq + 1 }

/-- The entries of an owner removed. -/
def TeaselSt.delayDrop (t : TeaselSt) (l : Nat) (o : DelayOwner) : TeaselSt :=
  { t with delays := modAt (List.filter fun e => e.owner != o) t.delays l }

/-- What a refused insertion leaves (R278). -/
def TeaselSt.delayRefused (t : TeaselSt) : TeaselSt :=
  { t with
    refuseCnt := t.refuseCnt.incr
    delayFull := true }

/-! ### Readiness (R285) -/

/-- The entries of a flow that are ready take the release instant now (R285). -/
def State.refreshFlow (s : State) (f : Nat) : State :=
  let x := s.flow f
  let l := if x.atomic then (if x.insvc = 0 then x.waiting.take 1 else []) else if x.insvc < 64 then x.waiting else []
  l.foldl (fun s n => s.updPool n fun e => { e with release := some (e.release.getD s.tslNow) }) s

/-! ### Completion of items (R286; 13 R322, R325) -/

/-- Whether a completion posted on a path now waits instead (13 R322; 12 R309). -/
def State.wouldHold (s : State) (r : Nat) : Bool :=
  if r < 64 then (s.ring r).en && s.host.up && (!(s.ring r).held.isEmpty || (s.ring r).full || s.pathFrozen r)
  else if r < 80 then (s.mbox (r - 48)).full || s.pathFrozen r
  else if r = 80 then false
  else (s.mbox (r - 60)).full || s.pathFrozen r

/-- A closing flow whose last entry is gone: CLOSED, and its FLOW_CLOSE completes (Table 11-6). -/
def State.closeFlow (s : State) (f : Nat) : State :=
  let x := s.flow f
  if x.state = .closing && x.queued = 0 then
    let s := s.updFlow f fun y => { y with
      state := .closed
      closer := none }
    match x.closer with
    | some h => s.final h 0x0602 .ok
    | none => s
  else s

/-- A pool entry freed (R286). -/
def State.freeItem (s : State) (n : Nat) : State :=
  match s.poolEntry n with
  | none => s
  | some e =>
    ((s.onTeasel fun t => { t with
      pool := Tbl.del t.pool n
      free := t.free + 1 }).updFlow e.flow fun x => { x with queued := x.queued - 1 }).closeFlow e.flow

/-- The completion entry of an item (13 R325). -/
def PoolEntry.cpl (e : PoolEntry) (n ring : Nat) (st : Status) : Cpl :=
  { ring := ring, final := true, flow := true, status := st, tag := itemTag e.bytes, seq := e.seq, opcode := 0x0601,
    data := toLe 4 e.flow, pool := some n }

/-- An item leaves the queue, service or delay list it stands in. -/
def State.unplaceItem (s : State) (n : Nat) (e : PoolEntry) : State :=
  (s.updFlow e.flow fun x => { x with
    waiting := x.waiting.filter fun m => m != n
    insvc := if e.place = .inService then x.insvc - 1 else x.insvc }).onTeasel fun t =>
    { (t.delayDrop 0 (.flowItem n)) with running := t.running.filter fun r => r.work != .flow n }

/-- An item ends with a status: its result written at RESULT, a GRAPH item's at its output address too (log entry 53), its completion posted, its entry freed once that is posted (R286;
13 R322). -/
def State.endItem (s : State) (n : Nat) (st : Status) (out : List Byte) : State :=
  match s.poolEntry n with
  | none => s
  | some e =>
    if e.place = .completing then s
    else
      let s := if st = .ok then s.itemWrite (itemResult e.bytes) out else s
      let s := if st = .ok && itemKind e.bytes == 5 then s.itemWrite (leAt (s.itemArgs e.bytes) 12 8) out else s
      let s := s.unplaceItem n e
      let c := e.cpl n (s.flow e.flow).cq st
      let hold := s.wouldHold c.ring
      let s := s.post c
      let s := if hold then s.updPool n fun x => { x with place := .completing } else s.freeItem n
      s.refreshFlow e.flow

/-! ### Pushes (R284) -/

/-- The credit of a flow. -/
def State.credit (s : State) (f : Nat) : Nat := min ((s.flow f).qlimit - (s.flow f).queued) s.teasel.free

/-- One item put into the pool and, unless it is delayed, at the tail of its flow (R279 to R282). -/
def State.putItem (s : State) (f : Nat) (b : List Byte) : State :=
  let n := leastFree 0 s.teasel.pool
  let x := s.flow f
  let d := itemDelayed b
  let s := s.updFlow f fun y => { y with
    seqNext := y.seqNext + 1
    queued := y.queued + 1
    waiting := if d then y.waiting else y.waiting ++ [n] }
  s.onTeasel fun t =>
    let t := { t with
      pool := Tbl.put t.pool n { flow := f, seq := x.seqNext, bytes := b, place := if d then .delayed else .waiting }
      free := t.free - 1
      poolEmpty := t.poolEmpty || t.free ≤ 1 }
    if d then t.delayPut 0 (itemDue b) (.flowItem n) else t

/-- Items of a push that go to delay list 0. -/
def delayedCount (items : List (List Byte)) : Nat := (items.filter itemDelayed).length

/-- A push refused with ST_QUEUE_FULL. -/
def State.pushFull (s : State) (h : Hdr) (delay : Bool) : State :=
  (s.onTeasel fun t =>
    let t := if delay then t.delayRefused else { t with refuseCnt := t.refuseCnt.incr }
    { t with queueFull := true }).final h 0x0601 .queueFull

/-- A push taken with all its items, unless delay list 0 has no room for its delayed ones (R278, R284). -/
def State.takePush (s : State) (h : Hdr) (f : Nat) (items : List (List Byte)) : State :=
  if s.teasel.delayRoom 0 < delayedCount items then s.pushFull h true
  else ((items.foldl (fun s b => s.putItem f b) s).refreshFlow f).final h 0x0601 .ok

/-- The held pushes that the credit covers, in the order submitted, each flow's own in order (R284); a held push posts its
final completion whatever QUIET says. -/
def State.retryHeld (s : State) : State :=
  let l := s.teasel.heldPushes
  (l.foldl (fun (a : State × List Nat) p =>
    if a.2.contains p.flow then a
    else if p.items.length ≤ a.1.credit p.flow then
      ((a.1.onTeasel fun t => { t with heldPushes := t.heldPushes.filter fun q => q != p }).takePush
        { p.hdr with quiet := false } p.flow p.items, a.2)
    else (a.1, a.2 ++ [p.flow])) (s, [])).1

/-- An item of any flow completes, and the held pushes are retried (R284, R286). -/
def State.completeItem (s : State) (n : Nat) (st : Status) (out : List Byte) : State := (s.endItem n st out).retryHeld

/-! ### Packets -/

def State.openFlow (s : State) (f : Nat) (atomic refuse : Bool) (level cq dlExp qlimit : Nat) : State :=
  s.updFlow f fun _ => { state := .opened, atomic := atomic, refuse := refuse, level := level, cq := cq, dlExp := dlExp, qlimit := qlimit }

/-- FLOW_OPEN (R287). -/
def flowOpenEffect (h : Hdr) (f atomic policy level cq dlExp qlimit : Nat) (s : State) : State :=
  s.packet h 0x0600
    { param := decide (f < 0x40000) && decide (atomic ≤ 1) && decide (policy ≤ 1) && decide (1 ≤ level) &&
        decide (level ≤ 63) && decide (cq ≤ 63) && decide (dlExp ≤ 31) && decide (1 ≤ qlimit) && decide (qlimit ≤ 32767) &&
        (s.flow f).state == .closed } fun s =>
    (s.openFlow f (atomic == 1) (policy == 1) level cq dlExp qlimit).final h 0x0600 .ok

def execFlowOpen (h : Hdr) (flow : Word) (atomic policy level cq dlExp : Byte) (qlimit : Half) (s : State) : Out :=
  .next (flowOpenEffect h flow.toNat atomic.toNat policy.toNat level.toNat cq.toNat dlExp.toNat qlimit.toNat s)

/-- FLOW_PUSH (R276, R284, R287; 07 R202; Table 11-9). -/
def flowPushEffect (h : Hdr) (f : Nat) (items : List (List Byte)) (s : State) : State :=
  let long := items.any s.rowTooLong
  s.packet h 0x0601
    { param := decide (f < 0x40000) && decide (1 ≤ items.length) && decide (items.length ≤ 16) &&
        (s.flow f).state == .opened && items.all (s.itemOk h) && (long || items.all s.itemFits) } fun s =>
    if long then
      (s.onPoppy fun p => { p with rowRefused := true }).final h 0x0601 .rowTooLong
    else if items.any fun b => (s.servers (itemClass b)).isEmpty then s.final h 0x0601 .domainOff
    else if items.length ≤ s.credit f then s.takePush h f items
    else if (s.flow f).refuse then s.pushFull h false
    else if 64 ≤ s.teasel.heldPushes.length then s.final h 0x0601 .busy
    else (s.interim h 0x0601 .pending).onTeasel fun t => { t with heldPushes := t.heldPushes ++ [⟨h, f, items⟩] }

def execFlowPush (h : Hdr) (flow : Word) (items : List (List Byte)) (s : State) : Out :=
  .next (flowPushEffect h flow.toNat items s)

/-- The held pushes of a flow (Table 11-6, Table 11-9). -/
def State.heldPushesOf (s : State) (f : Nat) : List HeldPush := s.teasel.heldPushes.filter fun p => p.flow == f

/-- The held pushes of a flow answered with ST_CANCELLED. -/
def State.cancelHeld (s : State) (f : Nat) : State :=
  (s.heldPushesOf f).foldl (fun s p => s.final p.hdr 0x0601 .cancelled)
    (s.onTeasel fun t => { t with heldPushes := t.heldPushes.filter fun p => p.flow != f })

/-- FLOW_CLOSE (Table 11-6). -/
def flowCloseEffect (h : Hdr) (f : Nat) (s : State) : State :=
  s.packet h 0x0602 { param := decide (f < 0x40000) && (s.flow f).state == .opened } fun s =>
    (((s.interim h 0x0602 .pending).updFlow f fun x => { x with
      state := .closing
      closer := some h }).cancelHeld f).closeFlow f

def execFlowClose (h : Hdr) (flow : Word) (s : State) : Out := .next (flowCloseEffect h flow.toNat s)

/-- Waiting and delayed entries of a flow in sequence order (R281). -/
def State.flushable (s : State) (f : Nat) : List Nat :=
  let l := s.teasel.pool.filter fun (e : Nat × PoolEntry) =>
    e.2.flow == f && (e.2.place == .waiting || e.2.place == .delayed)
  let base := (s.flow f).seqNext
  (sortBy (fun (a b : Nat × PoolEntry) => decide ((a.2.seq - base).toNat ≤ (b.2.seq - base).toNat)) l).map (·.1)

/-- The item of a held push that a flush cancels: it takes the next sequence number and completes (Table 11-6; log entry 51). -/
def State.flushHeldItem (s : State) (f : Nat) (b : List Byte) : State :=
  let x := s.flow f
  (s.updFlow f fun y => { y with seqNext := y.seqNext + 1 }).post
    { ring := x.cq, final := true, flow := true, status := .cancelled, tag := itemTag b, seq := x.seqNext, opcode := 0x0601,
      data := toLe 4 f }

/-- FLOW_FLUSH (Table 11-6): the held pushes of other flows are retried after it (R284). -/
def flowFlushEffect (h : Hdr) (f : Nat) (s : State) : State :=
  s.packet h 0x0603 { param := decide (f < 0x40000) && (s.flow f).state != .closed } fun s =>
    let l := s.flushable f
    let held := (s.heldPushesOf f).flatMap (·.items)
    let s := l.foldl (fun s n => s.endItem n .cancelled []) s
    let s := (held.foldl (fun s b => s.flushHeldItem f b) s).cancelHeld f
    s.retryHeld.final h 0x0603 .ok (toLe 4 (l.length + held.length))

def execFlowFlush (h : Hdr) (flow : Word) (s : State) : Out := .next (flowFlushEffect h flow.toNat s)

/-- FLOW_READ: words 0 to 2 of the record. -/
def flowReadEffect (h : Hdr) (f : Nat) (s : State) : State :=
  s.packet h 0x0604 { param := decide (f < 0x40000) } fun s =>
    s.final h 0x0604 .ok (((s.flow f).words.take 3).flatMap fun w => toLe 4 w.toNat)

def execFlowRead (h : Hdr) (flow : Word) (s : State) : Out := .next (flowReadEffect h flow.toNat s)

/-! ### Host timers (R278, Table 11-2) -/

/-- TIMER_SET: an MSI-X vector or a counter named in ARG. -/
def timerSetEffect (h : Hdr) (due dest arg : Nat) (s : State) : State :=
  s.packet h 0x0605
    { param := (dest == 0 && decide (arg < 64)) || (dest == 1 && decide (arg < 24576)) } fun s =>
    if s.teasel.delayRoom 2 = 0 then (s.onTeasel TeaselSt.delayRefused).final h 0x0605 .queueFull
    else
      let n := s.teasel.timerNext
      (s.onTeasel fun t => { (t.delayPut 2 due (.timer n (dest == 1) arg)) with timerNext := (n + 1) % 2 ^ 32 }).final
        h 0x0605 .ok (toLe 4 n)

def execTimerSet (h : Hdr) (due : Dword) (dest : Byte) (arg : Half) (s : State) : Out :=
  .next (timerSetEffect h due.toNat dest.toNat arg.toNat s)

/-- Whether a delay-list entry is a timer's. -/
def DelayEntry.isTimer (e : DelayEntry) (n : Nat) : Bool :=
  match e.owner with
  | .timer m _ _ => m == n
  | _ => false

/-- TIMER_CANCEL: ST_BAD_PARAM once released. -/
def timerCancelEffect (h : Hdr) (n : Nat) (s : State) : State :=
  s.packet h 0x0606 { param := (s.teasel.delays.getD 2 []).any fun e => e.isTimer n } fun s =>
    (s.onTeasel fun t => { t with delays := modAt (List.filter fun e => !e.isTimer n) t.delays 2 }).final h 0x0606 .ok

def execTimerCancel (h : Hdr) (number : Word) (s : State) : Out := .next (timerCancelEffect h number.toNat s)

/-! ### What an item computes (R283; 02 R66; 05 R151 to R159; 07 R200, R201; 03 R91) -/

/-- A context read as a latched slot, for the items that read the record in force. -/
def Ctx.asSlot (x : Ctx) (c : Nat) : FgSlot :=
  { ctx := c, drain := false, model := x.model, goals := x.goals, seed := x.seed, gen := x.gen, rec' := x.inForce }

/-- The published cost-to-go grid of a context, none where nothing is published (06 R178). -/
def State.publishedOf (s : State) (c : Nat) : Option Grid :=
  (s.ctx c).slot.bind fun n =>
    let x := s.cflSlot n
    if x.pubValid then some (if x.pubSel then x.buf1 else x.buf0) else none

/-- The knot form of a PATH_CHECK: T_S, the anchor, and P knots (Table 11-5). -/
def pathForm (r : CtxRec) (j : Nat) (a : List Byte) : KnotForm :=
  let vec (i : Nat) : JVec := (List.range j).map fun x => sgn 32 (leAt a (8 + (i * j + x) * 4) 4)
  { ts := leAt a 0 8, dc := r.dc, anchor := vec 0, knots := (List.range r.knots).map fun i => vec (i + 1) }

/-- What background work evaluates a context's candidates with on a tile (R283): G is 0 where no grid is published. -/
def State.bgEnv (s : State) (c t : Nat) : EvalEnv :=
  let x := s.ctx c
  let f := x.asSlot c
  let st := s.store t
  let g := s.publishedOf c
  { fs := st, mode := if st.valid then .live else .invalid, model := (s.entryOf x.model).model.eng, w := f.rec'.waypoints,
    s := f.rec'.spheres, params := if g.isSome then f.rec' else f.rec'.writes 0x4C4 [0, 0],
    root := (s.rootOf f (s.statePrev c)).1, ctg := g.getD [] }

/-- A PATH_CHECK on a tile (R283): a live candidate of the context. -/
def State.pathEval (s : State) (c t : Nat) (a : List Byte) : CandEval :=
  let f := (s.ctx c).asSlot c
  (s.bgEnv c t).eval (pathForm f.rec' (f.nJ s) a)

/-- The record of a PATH_CHECK; SLOT of a context in no slot and SOURCE are not stated: free (log entry 52). -/
def State.pathRecord (s : State) (c : Nat) (b : List Byte) (e : CandEval) : ResRec :=
  let v := (Config.freeValue s.freeIx).toNat
  e.record (itemTag b).toNat (((s.ctx c).slot).getD (v % 16)) (v / 16 % 8)

/-- A point of a POINT_DIST. -/
def pointAt (a : List Byte) (i : Nat) : V3 :=
  ⟨sgn 24 (leAt a (9 * i) 3), sgn 24 (leAt a (9 * i + 3) 3), sgn 24 (leAt a (9 * i + 6) 3)⟩

/-- The queries of a POINT_DIST, point i on replica i / 2. -/
def State.pointQueries (s : State) (t : Nat) (a : List Byte) : List QRes :=
  let fs := s.store t
  let l := layerOf (leAt a 27 8) fs.t0.val.toNat fs.layerMs
  (List.range (leAt a 35 1)).map fun i => if fs.valid then liveQuery fs (i / 2) l false { p := pointAt a i } else {}

/-- Elements of a width from a byte stream, lowest bits first. -/
def elems (w n : Nat) (bs : List Byte) : List Nat :=
  let v := leNat bs
  (List.range n).map fun i => v / 2 ^ (w * i) % 2 ^ w

/-- The bytes of a tensor: its elements, then its scales. -/
def Tensor.bytes (t : Tensor) : List Byte :=
  let w := t.fmt.width
  toLe ((t.data.length * w + 7) / 8) (t.data.reverse.foldl (fun v e => v * 2 ^ w + e % 2 ^ w) 0) ++
  t.scales.map fun x => BitVec.ofNat 8 x

/-- The input tensor of a background graph at an address. -/
def State.graphIn (s : State) (g : BgGraph) (addr : Nat) : Tensor :=
  let n := (g.inCount * g.inFmt.width + 7) / 8
  { fmt := g.inFmt, data := elems g.inFmt.width g.inCount (s.itemRead addr n),
    scales := (s.itemRead (addr + n) g.inScales).map BitVec.toNat }

/-- What a slice computes: result, status, corrected and uncorrectable words met on a tile, conversions. -/
structure ItemOut where
  out : List Byte := []
  status : Status := .ok
  ce : Nat := 0
  ue : Nat := 0
  bad : Nat := 0
  sat : Nat := 0
  nan : Nat := 0

/-- The result of an item whose slice starts now on a server (R283, Table 11-5); an uncorrectable Field Store word in a
used read faults the item (R286). -/
def State.itemRun (s : State) (server : Nat) (e : PoolEntry) : ItemOut :=
  let b := e.bytes
  let a := s.itemArgs b
  let t := ((s.safety.serving server)).getD 0
  let c := itemCtx b
  match itemKind b with
  | 1 =>
    let v := s.pathEval c t a
    let st : Status := if (s.store t).valid && v.fserr then .eccUncorr else .ok
    { out := (s.pathRecord c b v).bytes ++ toLe 8 (s.store t).version.val.toNat ++ toLe 4 e.seq.toNat ++ toLe 2 st.code ++ [0, 0],
      status := st, ce := v.ce, ue := v.ue, bad := v.badIndex }
  | 2 =>
    let q := s.pointQueries t a
    { out := (List.range 3).flatMap (fun i => toLe 4 (q.getD i {}).d.toNat) ++ toLe 4 0,
      status := if q.any (·.fserr) then .eccUncorr else .ok,
      ce := sumN (q.map (·.ce)), ue := sumN (q.map (·.ue)), bad := (q.filter (·.badIndex)).length }
  | 3 =>
    let row := chunks 8 (rowLen a) (s.itemRead (leAt a 0 8) (8 * rowLen a))
    { out := { bgSelect (rowDepth a) (row.map fun r => (leAt r 0 4, leAt r 4 4)) with tick := s.tickNo }.bytes }
  | 4 =>
    let row := chunks 4 (rowLen a) (s.itemRead (leAt a 0 8) (4 * rowLen a))
    { out := bgUnique (rowDepth a) (row.map fun r => leAt r 0 4) }
  | _ =>
    match s.bgGraph a with
    | none => { status := .badParam }
    | some g =>
      let r := g.graph.eval { seed := BitVec.ofNat 32 (leAt a 20 4), base := 0xA0300000, tick := e.startTick.getD s.tickNo }
        [(0, s.graphIn g (leAt a 4 8))]
      { out := r.1.bytes, sat := r.2.sat, nan := r.2.nan }

end Sys2Proof.Machine
end

