-- ==== Sys2Proof/Machine/Selection.lean ====
section
/-! DEFINITION. Cluster selection, the die merge, the cascade merge, the critic and the re-rank of a tick (07 R185 to R199;
03 R102 to R107; 19 R477, R478). -/

namespace Sys2Proof.Machine

/-! ### Publication (07 R196) -/

/-- VALID and RERANKED of every slot cleared (R196). -/
def PoppySt.unpublish (p : PoppySt) : PoppySt :=
  { p with slots := p.slots.map fun e => (e.1, { e.2 with valid := false, reranked := false, merged := none, scores := none, clusters := [] }) }

/-- A die result published for a slot (R196). -/
def State.publish (s : State) (n : Nat) (d : DieRes) : State :=
  (s.onPoppy fun p => { p with
    sumSat := p.sumSat || d.selSum == 2 ^ 64 - 1 || d.leftSum == 2 ^ 64 - 1 }).updPopSlot n fun x => { x with
      valid := true
      reranked := d.reranked
      ctx := d.ctx
      kc := d.kc
      k := d.k
      repeats := d.dupN
      validN := d.validN
      tie := d.tieLeft
      kth := d.kthKey
      feas := d.feasN
      infeas := d.infeasN
      top := (d.entries.head?.map (·.index)).getD 0xFFFFFFFF
      result := some d }

/-- Whether die results are published in the tick at all: the mask within its limit, no cluster short, the merge unit and
every Lupin in service (14 R349, R353, Table 14-4; 07 R199). -/
def State.publishes (s : State) : Bool :=
  !s.safety.overLimit && !(s.safety.rots.any (·.short)) && !s.poppy.mergeFailed && !s.safety.lupinFailed &&
  !s.tick.prog.noCands

/-! ### Cluster selection (07 R186 to R190) -/

/-- The row of a slot in a cluster, without the engines of the mask (R186; 14 R349). -/
def State.rowOf (s : State) (n : Nat) (f : FgSlot) (c : Nat) : List RowRec :=
  let g := s.genCtx n f
  let b := g.blocks
  (s.harebell.live.filter fun r => r.rr.slot == n && r.engine / 16 == c && !(r.engine ∈ s.safety.maskNow)).map fun r =>
    { rr := r.rr
      rep := r.rr.source == 2 && (match g.routes with
        | some rs =>
          -- the record's slot: one of those whose edge carries its index, on its engine
          (List.range (min 1024 b.roadmap)).any fun q =>
            g.roadmapIndex rs q == r.rr.index && s.engineOf (b.startRm + q) == some r.engine && rs.isRepeat q
        | none => false) }

/-- The cluster that selects the rows of a cluster: itself, or the next that has not failed, under a takeover (R199). -/
def PoppySt.selector (p : PoppySt) (c : Nat) : Option Nat :=
  if !p.failedMask.getLsbD c then some c
  else if p.takeoverEn && p.takeoverOk then
    ([1, 2, 3].map fun i => (c + i) % 4).find? fun d => !p.failedMask.getLsbD d
  else none

/-- Cluster results of one slot; none where a failed cluster is not taken over (R199). -/
def State.selectSlot (s : State) (n : Nat) (f : FgSlot) : State :=
  let x := s.popSlot n
  let kc := f.rec'.kDepth + x.repCount
  let ok := [0, 1, 2, 3].all fun c => (s.poppy.selector c).isSome
  let rs := if ok then (List.range 4).map fun c => selectCluster kc (s.rowOf n f c) else []
  s.updPopSlot n fun y => { y with clusters := rs }

/-- Length of a slot's cluster selection (Table 7-3). -/
def State.selLenOf (s : State) (n : Nat) (f : FgSlot) : Nat :=
  lenSel (16 * ((s.lupSlot n).count / (64 * s.casc.count))) (f.rec'.kDepth + (s.popSlot n).repCount)

/-- POP_LEN_SEL: the largest total over the selecting clusters, a takeover included (Table 7-9). -/
def State.selLen (s : State) : Nat :=
  let one := sumN (s.planSlots.map fun (e : Nat × FgSlot) => s.selLenOf e.1 e.2)
  maxN ((List.range 4).map fun d => one * ([0, 1, 2, 3].filter fun c => s.poppy.selector c == some d).length)

/-- Cluster selection at H_pre + Φ: the mask is final (14 R349), the slots read VALID 0 (R196), and every planning slot is
selected in every cluster (R189). A takeover sets TAKEOVER; an uncorrectable word stops the item (R199). -/
def clusterSelectionEffect (m : ItemFault) (s : State) : State := s.item fun s =>
  let s := (s.fgFault m).onPoppy PoppySt.unpublish
  let s := s.onSafety fun f => { f with exclMask := f.maskNow }
  let excess := decide (s.zheda.ctl.maxExclude < s.safety.maskNow.length)
  let s := if excess then (s.onSafety fun f => { f with
      overLimit := true
      exclF := true }).logFault 1 0 0x0102 2 else s
  let s := s.onPoppy fun p => { p with
    lenSel := s.selLen
    lenRerank := if (s.bundle.bind (·.critic)).isSome then
      sumN (s.planSlots.map fun (e : Nat × FgSlot) => lenRerank e.2.rec'.kDepth) else 0
    lenMerge := 0
    takeoverF := p.takeoverF || (p.failedMask != 0 && p.takeoverEn && p.takeoverOk) }
  if m.uncorrectable.isSome then s
  else s.planSlots.foldl (fun s (e : Nat × FgSlot) => s.selectSlot e.1 e.2) s

def execClusterSelection (m : ItemFault) (s : State) : Out := .next (clusterSelectionEffect m s)

/-! ### Die merge (07 R192 to R196) -/

/-- Whether a slot has a result to merge: its clusters were selected and it has an anchor (09 R502). -/
def State.mergeable (s : State) (n : Nat) : Bool :=
  s.publishes && !(s.popSlot n).clusters.isEmpty && !(s.lupSlot n).nostate

/-- A formed die result: published, or kept for the critic and the re-rank (R196). -/
def State.formed (s : State) (n : Nat) (d : DieRes) : State :=
  if (s.bundle.bind (·.critic)).isSome then s.updPopSlot n fun x => { x with merged := some d }
  else s.publish n d

/-- Whether some cluster's rows were taken over (R199). -/
def PoppySt.takenOver (p : PoppySt) : Bool := p.failedMask != 0 && p.takeoverEn && p.takeoverOk

/-- The merge of one slot: the die result of a single device, or the result with k_c entries of a device of a cascade
(R192, R193; 19 R477). -/
def State.mergeSlot (s : State) (n : Nat) (f : FgSlot) : State :=
  let x := s.popSlot n
  let k := f.rec'.kDepth
  let kc := k + x.repCount
  let s := s.onPoppy fun p => { p with lenMerge := p.lenMerge + lenMerge k kc (s.bundle.bind (·.critic)).isSome }
  if !s.mergeable n then s
  else if s.leads || s.casc.memberInService then
    let r := deviceMerge kc x.repCount f.ctx n s.tickNo s.poppy.takenOver x.clusters
    (s.onPoppy fun p => { p with dupSeen := p.dupSeen || r.2 }).onCasc fun c => { c with
      ownResults := Tbl.put c.ownResults n r.1 }
  else
    let r := dieMerge k kc x.repCount f.ctx n s.tickNo s.poppy.takenOver x.clusters
    (s.onPoppy fun p => { p with dupSeen := p.dupSeen || r.2 }).formed n r.1

/-- The die merge of every planning slot; a member sends its results to the master (19 R473). -/
def dieMergeEffect (m : ItemFault) (s : State) : State := s.item fun s =>
  let s := (s.fgFault m).onCasc fun c => { c with ownResults := [] }
  let s := if m.uncorrectable.isSome then s
    else s.planSlots.foldl (fun s (e : Nat × FgSlot) => s.mergeSlot e.1 e.2) s
  s.castMaster 5 (.result (s.planSlots.map fun (e : Nat × FgSlot) => (e.1, Tbl.find? s.casc.ownResults e.1)))

def execDieMerge (m : ItemFault) (s : State) : Out := .next (dieMergeEffect m s)

/-! ### Cascade merge (19 R477, R478) -/

/-- The result of a position for a slot: this device's own at position 0, a member's as received, the empty one of a
position not in service; none where a member in service has none (R478). -/
def State.resultAt (s : State) (n p : Nat) : Option DieRes :=
  if p = 0 then Tbl.find? s.casc.ownResults n
  else if p ∈ s.casc.serving then
    (s.casc.results.find? fun r => r.position == p && r.slot == n && !r.noResult).map (·.res)
  else some {}

/-- One slot merged over the cascade; a missing member result publishes nothing and sets RESULT_MISSING (R478). -/
def State.cascadeSlot (s : State) (n : Nat) (f : FgSlot) : State :=
  let rs := (List.range 8).map (s.resultAt n)
  let s := if s.casc.serving.any fun p => (s.resultAt n p).isNone then s.onCasc fun c => { c with resultMissing := true } else s
  if rs.all Option.isSome then
    let k := f.rec'.kDepth
    let r := cascadeTree k (k + (s.popSlot n).repCount) (rs.map fun d => d.getD {})
    (s.onPoppy fun p => { p with dupSeen := p.dupSeen || r.2 }).formed n r.1
  else s

/-- The cascade merge of the master. -/
def cascadeMergeEffect (s : State) : State := s.item fun s =>
  if s.leads then s.planSlots.foldl (fun s (e : Nat × FgSlot) => s.cascadeSlot e.1 e.2) s else s

def execCascadeMerge (s : State) : Out := .next (cascadeMergeEffect s)

/-! ### Critic (03 R102, R103, R105, R107) -/

/-- A tile that holds a valid field, to evaluate a candidate of another device again. -/
def State.anyTile (s : State) : Nat := ((List.range 72).find? fun t => (s.store t).valid).getD 0

/-- The feature record of a ranked candidate: its summary, and the knots as regenerated (05 R164; 07 R194). A summary that
another device holds is formed again from the same bits (01 R7). -/
def State.featureRow (s : State) (n : Nat) (f : FgSlot) (c : Critic) (ix : Nat) : List Byte :=
  let g := s.genCtx n f
  match g.candOfIndex ix with
  | none => List.replicate c.features 0
  | some cand =>
    let w := f.rec'.waypoints
    let sp := f.rec'.spheres
    let summary := match s.harebell.live.find? fun r => r.rr.slot == n && r.rr.index == ix with
      | some r => r.summary
      | none => ((s.evalEnv n f s.anyTile).eval cand.form).summary w sp cand.src.code
    featureRecord summary (f.js s) cand.form c.features

/-- The rows of array a: ranks 256a to 256a + 255, null ranks as zero rows (R102). -/
def State.criticRows (s : State) (n : Nat) (f : FgSlot) (c : Critic) (d : DieRes) (a : Nat) : Tensor :=
  { fmt := .int8, data := (List.range 256).flatMap fun i => match d.entries[256 * a + i]? with
      | some e => (s.featureRow n f c e.index).map fun b => b.toNat
      | none => List.replicate c.features 0 }

/-- Scores by rank, and what the conversions counted (R102, R107). -/
def State.criticScores (s : State) (n : Nat) (f : FgSlot) (c : Critic) (d : DieRes) : List Word × ConvCnt :=
  (List.range 4).foldl (fun acc a =>
    let r := c.graph.eval { seed := f.seed, base := 0xA0200000, tick := s.tickNo } [(0, s.criticRows n f c d a)]
    (acc.1 ++ ((r.1.words ++ List.replicate 256 0).take 256), acc.2.plus r.2)) ([], {})

/-- The critic of a slot: scores for its merged result, or, where it cannot complete, the merge order published with
CRITIC_SKIPPED (R105, R195). -/
def criticEffect (n : Nat) (m : ItemFault) (s : State) : State := s.item fun s =>
  match s.bundle.bind (·.critic), s.fgSlot n, (s.popSlot n).merged with
  | some c, some f, some d =>
    let s := s.fgFault m
    if m.uncorrectable.isSome || !s.astersRun then
      ((s.onAster fun a => { a with
        criticSkipped := true
        tickCriticSkipped := true }).publish n { d with criticSkipped := true }).updPopSlot n fun x => { x with merged := none }
    else
      let r := s.criticScores n f c d
      let nans := ((r.1.take d.validN).filter fpIsNan).length
      (s.onAster fun a => a.counted (r.2.plus ⟨0, nans⟩)).updPopSlot n fun x => { x with scores := some r.1 }
  | _, _, _ => s

def execCritic (slot : Fin 16) (m : ItemFault) (s : State) : Out := .next (criticEffect slot m s)

/-! ### Re-rank (07 R195) -/

/-- The re-rank of a slot after its critic item, and the publication (R195, R196). -/
def reRankEffect (n : Nat) (s : State) : State := s.item fun s =>
  let x := s.popSlot n
  match s.bundle.bind (·.critic), x.merged, x.scores with
  | some c, some d, some sc =>
    let keys := d.entries.zipIdx.map fun (e : PEntry × Nat) => (criticKey c.shift e.1.cost (sc.getD e.2 0)).1
    (s.publish n (d.rerank keys)).updPopSlot n fun y => { y with
      merged := none
      scores := none }
  | _, _, _ => s

def execReRank (slot : Fin 16) (s : State) : Out := .next (reRankEffect slot s)

end Sys2Proof.Machine
end

