-- ==== Sys2Proof/Machine/Long.lean ====
section
/-! DEFINITION. Long operations: their handles, states and slices, and what each computes (13 R331 to R333, Table 13-8;
04 R135; 06 R181, R182; 14 R355; 15 R390; 18 R458). -/

namespace Sys2Proof.Machine

/-! ### Handles and states (R331, R332) -/

def State.longAt (s : State) (n : Nat) : Option LongOp := Tbl.find? s.cmd.longs n
def State.setLong (s : State) (n : Nat) (o : LongOp) : State := s.onCmd fun c => { c with longs := Tbl.put c.longs n o }

/-- The code of a state (Table 13-12); none is given for an operation that has ended. -/
def LongState.code : LongState → Nat
  | .queued => 1
  | .running => 2
  | .suspendPending => 3
  | .suspended => 4
  | .cancelPending => 5
  | .ended => 0

/-- Whether every handle slot is in use. -/
def State.longsFull (s : State) : Bool := decide (64 ≤ leastFree 0 s.cmd.longs)

/-- A long operation accepted: a handle slot, its use count raised past 0, ST_PENDING with the handle (R331). -/
def State.issueLong (s : State) (h : Hdr) (op : Nat) (cls : ServerClass) (work : LongWork) : State :=
  let n := leastFree 0 s.cmd.longs
  let u := if Tbl.get 0 s.cmd.useCounts n + 1 = 1024 then 1 else Tbl.get 0 s.cmd.useCounts n + 1
  let hd := n + 64 * u
  (s.onCmd fun c => { c with
    longs := Tbl.put c.longs n { handle := hd, hdr := h, opcode := op, work := work, cls := cls }
    useCounts := Tbl.put c.useCounts n u }).interim h op .pending (toLe 2 hd)

/-- The handle slot that a handle names, if it is in use under that use count and has not ended. -/
def State.slotOf (s : State) (hd : Nat) : Option Nat :=
  match s.longAt (hd % 64) with
  | some o => if o.handle = hd && o.state != .ended then some (hd % 64) else none
  | none => none

/-- A handle slot freed. -/
def State.freeLong (s : State) (n : Nat) : State := s.onCmd fun c => { c with longs := Tbl.del c.longs n }

/-- What an ending operation leaves behind elsewhere: its slice, delay entry, recompute, tile test, and the run state of a
replay (10 R255). -/
def State.unplaceLong (s : State) (n : Nat) (o : LongOp) : State :=
  let s := s.onTeasel fun t =>
    { (t.delayDrop 1 (.longOp o.handle)) with running := t.running.filter fun r => r.work != .long n }
  let s := s.onCornflower fun c => { c with full := c.full.filter fun r => r.handle != o.handle }
  match o.work with
  | .tileRequalify t => s.updTile t fun x => { x with requal := .none }
  | .replay _ => s.onZheda fun z => { z with run := if z.run = .replay then .paused else z.run }
  | _ => s

/-- A long operation ends: its final completion with the handle, and its slot free once that is posted (R331, R332). -/
def State.endLong (s : State) (n : Nat) (st : Status) (data : List Byte := []) (mb : List Byte := []) : State :=
  match s.longAt n with
  | none => s
  | some o =>
    if o.state = .ended then s
    else
      let s := s.unplaceLong n o
      let hold := s.wouldHold o.hdr.ring
      let s := (s.post { ring := o.hdr.ring, final := true, status := st, tag := o.hdr.tag, seq := o.hdr.seq, opcode := o.opcode,
                         data := toLe 2 o.handle ++ data, mbData := mb, long := some n }).closeOne o.hdr.ring
      if hold then s.setLong n { o with state := .ended } else s.freeLong n

/-- A long operation ends with a reply at RADDR, or beside its completion (R309, R325; 17 R444). -/
def State.endReply (s : State) (n : Nat) (h : Hdr) (raddr : Nat) (bs data : List Byte) : State :=
  if inPlace h raddr then s.endLong n .ok data bs else (s.hostWrite raddr bs).endLong n .ok data

/-- An interim completion of a long operation. -/
def State.interimLong (s : State) (o : LongOp) (st : Status) : State := s.interim o.hdr o.opcode st (toLe 2 o.handle)

/-! ### LONG_STATUS, LONG_SUSPEND, LONG_RESUME, LONG_CANCEL -/

def longStatusEffect (h : Hdr) (hd : Nat) (s : State) : State :=
  s.packet h 0x0700 { param := (s.slotOf hd).isSome } fun s =>
    match s.longAt (hd % 64) with
    | none => s
    | some o => s.final h 0x0700 .ok
        ([BitVec.ofNat 8 o.state.code, 0] ++ toLe 2 o.opcode ++ toLe 4 o.slices ++ [BitVec.ofNat 8 o.hdr.ring, 0, 0, 0])

def execLongStatus (h : Hdr) (handle : Half) (s : State) : Out := .next (longStatusEffect h handle.toNat s)

/-- The state of the operation that a handle names. -/
def State.stateOf (s : State) (hd : Nat) : Option LongState := (s.slotOf hd).bind fun n => (s.longAt n).map (·.state)

def longSuspendEffect (h : Hdr) (hd : Nat) (s : State) : State :=
  s.packet h 0x0701 { param := match s.stateOf hd with | some st => st != .cancelPending | none => false } fun s =>
    let s := s.final h 0x0701 .ok
    match s.longAt (hd % 64) with
    | none => s
    | some o => match o.state with
      | .queued => (s.setLong (hd % 64) { o with state := .suspended }).interimLong o .suspended
      | .running => s.setLong (hd % 64) { o with state := .suspendPending }
      | _ => s

def execLongSuspend (h : Hdr) (handle : Half) (s : State) : Out := .next (longSuspendEffect h handle.toNat s)

/-- LONG_RESUME (Table 13-8): at once, or through delay list 1 (R278). -/
def longResumeEffect (h : Hdr) (hd tick : Nat) (s : State) : State :=
  s.packet h 0x0702
    { param := match s.stateOf hd with | some st => st == .suspended || st == .suspendPending | none => false } fun s =>
    match s.longAt (hd % 64) with
    | none => s
    | some o =>
      if o.state = .suspendPending then (s.setLong (hd % 64) { o with state := .running }).final h 0x0702 .ok
      else
        let u := s.onTeasel fun t => t.delayDrop 1 (.longOp hd)
        if tick = 0 then (u.setLong (hd % 64) { o with
            state := .queued
            delayed := false }).final h 0x0702 .ok
        else if u.teasel.delayRoom 1 = 0 then (s.onTeasel TeaselSt.delayRefused).final h 0x0702 .queueFull
        else ((u.onTeasel fun t => t.delayPut 1 tick (.longOp hd)).setLong (hd % 64) { o with delayed := true }).final h 0x0702 .ok

def execLongResume (h : Hdr) (handle : Half) (tick : Dword) (s : State) : Out :=
  .next (longResumeEffect h handle.toNat tick.toNat s)

def longCancelEffect (h : Hdr) (hd : Nat) (s : State) : State :=
  s.packet h 0x0703 { param := match s.stateOf hd with | some st => st != .cancelPending | none => false } fun s =>
    let s := s.final h 0x0703 .ok
    match s.longAt (hd % 64) with
    | none => s
    | some o =>
      if o.state = .queued || o.state = .suspended then s.endLong (hd % 64) .cancelled
      else s.setLong (hd % 64) { o with state := .cancelPending }

def execLongCancel (h : Hdr) (handle : Half) (s : State) : Out := .next (longCancelEffect h handle.toNat s)

/-! ### Packets that start an operation -/

/-- A packet of class L: checked, then queued under a handle (R331). -/
def State.longPacket (s : State) (h : Hdr) (op : Nat) (c : Checks) (cls : ServerClass) (work : LongWork) : State :=
  s.packet h op { c with state := c.state <|> (if s.longsFull then some .busy else none) } fun s => s.issueLong h op cls work

def roadmapBuildEffect (h : Hdr) (nodes : Nat) (seed : Word) (s : State) : State :=
  let held := sumN (s.lupin.ctxs.map fun e => e.2.roadmap.nodes.length)
  s.longPacket h 0x0710 { param := s.ctxLive h && decide (held + nodes ≤ 16777216) } .cp (.roadmap nodes seed)

def execRoadmapBuild (h : Hdr) (nodes seed : Word) (s : State) : Out := .next (roadmapBuildEffect h nodes.toNat seed s)

/-- WAVEFRONT_FULL serves a foreground context (06 R181); with no Cornflower in service it is refused with ST_DOMAIN_OFF (11 R292). -/
def wavefrontFullEffect (h : Hdr) (s : State) : State :=
  s.longPacket h 0x0711
    { param := s.ctxLive h,
      state := if (s.servers .cfl).isEmpty then some .domainOff else if (s.ctx h.ctx).slot.isSome then none else some .busy }
    .cfl .wavefront

def execWavefrontFull (h : Hdr) (s : State) : Out := .next (wavefrontFullEffect h s)

def deepPlanEffect (h : Hdr) (count k tick raddr : Nat) (s : State) : State :=
  s.longPacket h 0x0712
    { param := s.ctxLive h && decide (count % 64 = 0) && decide (64 ≤ count) && decide (count ≤ 16777216) &&
        decide (8 ≤ k) && decide (k ≤ 1024) && raddrOk h raddr (64 + 16 * k) } .cp (.deepPlan count k tick raddr)

def execDeepPlan (h : Hdr) (count : Word) (k : Half) (tick raddr : Dword) (s : State) : Out :=
  .next (deepPlanEffect h count.toNat k.toNat tick.toNat raddr.toNat s)

/-- An origin is a whole number of coarse cells (02 R45). -/
def fieldRebuildEffect (h : Hdr) (o : V3) (raddr : Nat) (s : State) : State :=
  s.longPacket h 0x0713 { param := o.fmod 2560 == {} && raddrOk h raddr imageBytes } .cp (.fieldRebuild o raddr)

def execFieldRebuild (h : Hdr) (origin : V3) (raddr : Dword) (s : State) : Out :=
  .next (fieldRebuildEffect h origin raddr.toNat s)

def memScrubEffect (h : Hdr) (start len : Nat) (s : State) : State :=
  s.longPacket h 0x0714 { param := decide (start + len ≤ ddrEnd) } .cp (.memScrub start len 0 0)

def execMemScrub (h : Hdr) (start length : Dword) (s : State) : Out := .next (memScrubEffect h start.toNat length.toNat s)

/-- TILE_REQUALIFY (14 R355): a tile declared failed 4 times or more completes with result 1 and runs no test. -/
def tileRequalifyEffect (h : Hdr) (t : Nat) (s : State) : State :=
  let x := s.safety.tile t
  s.packet h 0x0715
    { param := decide (t < 72) && x.role == .failed,
      state := if x.requal != .none || s.longsFull then some .busy else none } fun s =>
    let n := leastFree 0 s.cmd.longs
    let s := s.issueLong h 0x0715 .cp (.tileRequalify t)
    if 4 ≤ (Tbl.get {} s.sec.nvm.ledger (256 + t)).declared then s.endLong n .ok [1]
    else s.updTile t fun y => { y with requal := .testing 0, test := .running 0 }

def execTileRequalify (h : Hdr) (tile : Byte) (s : State) : Out := .next (tileRequalifyEffect h tile.toNat s)

/-! ### The copies of the first slice (R333) -/

/-- What a context's candidates outside the tick program are generated from: the record in force, the anchor of the
running tick or the accepted robot state; without either, no candidates (04 R125; 09 R502). -/
def State.deepGen (s : State) (c count basis : Nat) : GenCtx :=
  let x := s.ctx c
  let f := x.asSlot c
  let l := s.lupCtx c
  let a : Option (JVec × Option KnotForm) := match x.slot.bind fun n => (s.fgSlot n).bind fun _ => s.anchorOf n f with
    | some a => some a
    | none => (s.statePrev c).map fun (r : RobotState) => (r.q.map fun w => sgn 32 w.toNat, none)
  let n := if a.isSome then count else 0
  { ctx := c, slot := x.slot.getD ((Config.freeValue s.freeIx).toNat % 16), tick := basis, seed := x.seed,
    period := s.tick.periodUs, ts := s.tsNow, params := x.inForce, joints := f.js s, alloc := n, count := n,
    anchor := (a.getD ([], none)).1, plan := (a.getD ([], none)).2,
    parents := l.parents.filter fun k => k.anchor.length == f.nJ s, mix := l.mix, routes := l.routes,
    frontier := (l.tree.map (·.frontier)).getD [] }

/-- Everything that foreground work or commands may change, copied at the first slice. -/
def State.longCopies (s : State) (o : LongOp) : LongCopies :=
  let c := o.hdr.ctx
  let base : LongCopies := { ctx := s.ctx c, world := s.world, bundle := s.bundle, lup := s.lupCtx c, tick := s.tickNo }
  match o.work with
  | .deepPlan count _ basis _ => { base with
      gen := s.deepGen c count basis
      env := s.bgEnv c s.anyTile }
  | _ => base

/-- The coarse layer whose blocked map a full recompute copies, and its run from the reset grid (06 R181). -/
def State.startFull (s : State) (n : Nat) (o : LongOp) : State :=
  match s.bundle, s.coarseNow, (s.ctx o.hdr.ctx).slot with
  | some b, some coarse, some slot =>
    let p := ringParams ((s.ctx o.hdr.ctx).asSlot o.hdr.ctx) coarse (b.softLayer s.world.origin) s.world.origin
    s.onCornflower fun c => { c with full := c.full ++
      [{ handle := o.handle, ctx := o.hdr.ctx, slot := slot, start := s.tickNo, params := p, origin := s.world.origin,
         grid := resetGrid p.goals }] }
  | _, _, _ => s.endLong n .cancelled

/-- The first slice of an operation starts (Table 13-8). -/
def State.firstSlice (s : State) (n : Nat) (o : LongOp) : State :=
  let s := s.setLong n { o with
    state := .running
    copies := some (s.longCopies o) }
  let s := match o.work with
    | .deepPlan _ _ _ _ => s.setFreeIx (s.freeIx + 1)
    | _ => s
  if o.work = .wavefront then s.startFull n o else s

/-- A slice starts: the first takes the copies; a resumed one only runs. -/
def State.sliceStarts (s : State) (n : Nat) (o : LongOp) : State :=
  if o.copies.isNone then s.firstSlice n o
  else if o.state = .queued then s.setLong n { o with state := .running }
  else s

/-! ### Results -/

/-- Die result of a DEEP_PLAN (Tables 7-1, 7-2): the candidates of the copies, selected and merged as a tick's. -/
def deepResult (x : LongCopies) (k basis : Nat) : DieRes :=
  let g := x.gen
  let rep (c : Cand) : Bool := match c.rmPos, g.routes with
    | some r, some rs => c.src == .roadmap && rs.isRepeat r
    | _, _ => false
  let recs := g.cands.map fun c =>
    (c.slotPos % 64 / 16, ({ rr := if c.src = .padding then paddingRecord c.index g.slot
      else (x.env.eval c.form).record c.index g.slot c.src.code, rep := rep c } : RowRec))
  let r := match g.routes with | some rs => rs.repeats g.blocks.roadmap | none => 0
  let cs := (List.range 4).map fun c => selectCluster (k + r) ((recs.filter fun p => p.1 == c).map (·.2))
  (dieMerge k (k + r) r g.ctx g.slot basis false cs).1

/-- The inputs of a rebuilt field: the copies taken at the given origin, the predicted layers moved with it (02 R50 to R61). -/
def rebuildInputs (w : WorldSt) (b : Bundle) (thr : List Nat) (o : V3) : FieldInputs :=
  let t := ({ w with origin := o } : WorldSt).taken b
  let d := (o.sub w.origin).fdiv 2560
  let pred := match w.pred with
    | none => []
    | some p => (List.range 8).flatMap fun l => (List.range 65536).map fun c =>
        let q := (cellOf c).add d
        if fieldCells.has q then p.getD (l * 65536 + cellIndex q) 0 else 0
  { origin := o, smap := b.smap, full := t.full, part := t.part, failSafe := t.boxes, zones := w.zones.map (·.2), pred := pred,
    thr := b.predictor.map fun _ => thr, obsLayers := b.obsHold, wall := b.wall }

/-- The image of a FIELD_REBUILD. -/
def State.rebuilt (s : State) (x : LongCopies) (o : V3) : List Byte :=
  match x.bundle with
  | none => List.replicate imageBytes 0
  | some b =>
    let inp := rebuildInputs x.world b s.zheda.ctl.predThr o
    (inp.image inp.coarse s.zheda.ctl.brickRange x.world.focus b.golden).reads 0 imageBytes

/-- A free number below a bound (log entry 23). -/
def freeBelow (ix bound : Nat) : Nat := (Config.freeValue ix).toNat % bound

/-- The roadmap that a build leaves: which nodes and edges it adds is not stated (log entry 23). -/
def Roadmap.grow (r : Roadmap) (model nodes joints ix : Nat) : Roadmap :=
  let r := if r.model = model then r else {}
  let new := (List.range nodes).map fun i => (List.range joints).map fun j =>
    sgn 32 (freeBelow (ix + 1 + i * joints + j) (2 ^ 32))
  let all := r.nodes ++ new
  let ne := freeBelow ix (2 ^ 24)
  let at_ := ix + 1 + nodes * joints
  { model := model, nodes := all,
    edges := r.edges ++ (List.range (if all.isEmpty then 0 else ne)).map fun i =>
      { a := freeBelow (at_ + 2 * i) all.length, b := freeBelow (at_ + 2 * i + 1) all.length } }

/-- Free values that a build uses. -/
def buildUses (nodes joints ix : Nat) : Nat := 1 + nodes * joints + 2 * freeBelow ix (2 ^ 24)

/-- The routes that the background search finds are not stated (log entry 23): up to 16 of up to 64 edges, none of them BLOCKED
(04 R137). -/
def Roadmap.search (r : Roadmap) (ix : Nat) : List (List RouteEdge) :=
  let free := (List.range r.edges.length).filter fun e => !(r.edges.getD e ⟨0, 0, 0, false⟩).blocked
  if free.isEmpty then []
  else (List.range (freeBelow ix 17)).map fun i => (List.range (freeBelow (ix + 1 + 65 * i) 65)).map fun j =>
    let e := free.getD (freeBelow (ix + 2 + 65 * i + j) free.length) 0
    let x := r.edges.getD e ⟨0, 0, 0, false⟩
    { edge := e, a := r.nodes.getD x.a [], b := r.nodes.getD x.b [] }

/-- The bytes of a route set that its digest covers (log entry 23). -/
def routeBytes (rs : List (List RouteEdge)) : List Byte :=
  rs.flatMap fun r => toLe 4 r.length ++ r.flatMap fun e => toLe 4 e.edge ++ (e.a ++ e.b).flatMap fun v => toLe 4 (unS 32 v)

/-- A copy of a context's route set or grid sent to every member in service, whose acknowledgements are awaited (19 R475). -/
def State.sendCopy (s : State) (c : Nat) (grid : Bool) (m : CasMsg) : State :=
  (s.onCasc fun x => { x with acks := x.acks.filter fun a => a.2 != (c, grid) }).castAll 8 m

/-- A ROADMAP_BUILD ends: the roadmap, and the completed search that waits for the next tick edge, unless the robot model it was
computed under is no longer in force (04 R135). -/
def State.roadmapDone (s : State) (o : LongOp) (nodes : Nat) (x : LongCopies) : State × List Byte :=
  let c := o.hdr.ctx
  let j := ((x.bundle.map fun b => (b.modelEntry x.ctx.model).model.joints.length)).getD 0
  let ix := s.freeIx
  let r := (s.lupCtx c).roadmap.grow x.ctx.model nodes j ix
  let at_ := ix + buildUses nodes j ix
  let routes := r.search at_
  let g := ((s.lupCtx c).routeGen + 1) % 2 ^ 32
  let rs : RouteSet := { gen := g, model := x.ctx.model, modelGen := ((x.bundle.map (·.gen))).getD 0,
                         digest := shake256 (routeBytes routes), routes := routes }
  let s := (s.setFreeIx (at_ + 1 + 16 * 65)).updLup c fun l => { l with
    roadmap := r
    routeGen := g }
  let s := if modelChanged x.bundle s.bundle x.ctx.model then s
    else (s.updLup c fun l => { l with waitingRoutes := some rs }).sendCopy c false (.routes c rs)
  (s, toLe 4 r.nodes.length ++ toLe 4 r.edges.length)

/-- An identity key generated (18 R458): seeds from the random source, the reservation counter 0, any certificate erased. -/
def State.newKey (s : State) : State × List Byte :=
  let (seeds, s) := s.random 12
  let pub := (Config.xmssmtPublic seeds ++ List.replicate 68 0).take 68
  (s.onSec fun p => { p with
    nvm := { p.nvm with
      seeds := some seeds
      blocks := 0
      cert := none
      signOff := false }
    next := {}
    limit := 0
    idPub := pub }, pub)

/-- The last slice of a running operation ends: its results, its reply, its final completion (R331, R332). -/
def State.finishLong (s : State) (n : Nat) (o : LongOp) : State :=
  let x := o.copies.getD {}
  match o.work with
  | .roadmap nodes _ =>
    let r := s.roadmapDone o nodes x
    r.1.endLong n .ok r.2
  | .deepPlan _ k basis raddr =>
    let bs := (deepResult x k basis).bytes
    s.endReply n o.hdr raddr bs (toLe 4 bs.length)
  | .fieldRebuild origin raddr =>
    let bs := s.rebuilt x origin
    s.endReply n o.hdr raddr bs (toLe 4 (crc32c bs).toNat)
  | .memScrub _ _ ce ue => s.endLong n .ok (toLe 4 ce ++ toLe 4 ue)
  | .keygen raddr =>
    let r := s.newKey
    r.1.endReply n o.hdr raddr r.2 (toLe 4 r.2.length)
  | _ => s

/-! ### Slices -/

/-- One ring of a full recompute (06 R181): it is done after a ring that changes no cell, or after 4,096. -/
def FullRun.step (r : FullRun) : FullRun :=
  let w := ring r.params r.grid
  let same := (List.range 65536).all fun c => w.at c == r.grid.at c
  { r with
    grid := w
    ringsDone := r.ringsDone + 1
    converged := same
    done := same || decide (4096 ≤ r.ringsDone + 1) }

/-- What a slice of a full recompute leaves: NOT_CONVERGED after 4,096 rings (06 R181). -/
def State.fullSlice (s : State) (hd : Nat) : State :=
  s.onCornflower fun c =>
    let l := c.full.map fun r => if r.handle = hd then r.step else r
    { c with
      full := l
      notConverged := c.notConverged || l.any fun r => r.handle == hd && r.done && !r.converged }

/-- A full recompute that has ended is copied to the members (19 R475). -/
def State.fullSent (s : State) (hd : Nat) : State :=
  match s.cornflower.full.find? fun r => r.handle == hd && r.done with
  | some r => s.sendCopy r.ctx true (.grid r.ctx r.origin r.grid)
  | none => s

/-- One granule that a MEM_SCRUB slice met with an error, counted and repaired as the patrol scrub does (15 R390, R391). -/
def State.scrubMet (s : State) (e : Nat × GranErr) : State :=
  let s := s.granule e.1 e.2
  if e.2 = .corrected then
    let k := Tbl.get 0 s.mem.rowCe (ddrRow e.1) + 1
    let s := s.onMem fun m => { m with rowCe := Tbl.put m.rowCe (ddrRow e.1) k }
    if 16 < k then s.listRow e.1 else s
  else s

/-- What a slice makes visible at its end. -/
def State.sliceResult (s : State) (n : Nat) (o : LongOp) (errs : List (Nat × GranErr)) : State :=
  match o.work with
  | .wavefront => (s.fullSlice o.handle).fullSent o.handle
  | .memScrub a len ce ue =>
    let l := errs.filter fun e => decide (a ≤ e.1) && decide (e.1 < a + len)
    let w := LongWork.memScrub a len (ce + (l.filter fun e => e.2 == .corrected).length)
      (ue + (l.filter fun e => e.2 == .uncorrectable).length)
    (l.foldl State.scrubMet s).setLong n { o with work := w }
  | _ => s

/-- Whether a full recompute has done its last ring. -/
def State.fullDone (s : State) (o : LongOp) : Bool := s.cornflower.full.any fun r => r.handle == o.handle && r.done

/-- A slice of a long operation ends (Table 13-8). A full recompute that is done keeps its handle until the tick edge that
adopts or discards it (06 R182; log entry 54). -/
def State.longSliceEnd (s : State) (n : Nat) (last ue : Bool) (errs : List (Nat × GranErr)) : State :=
  match s.longAt n with
  | none => s
  | some o =>
    let s := s.onTeasel fun t => { t with running := t.running.filter fun r => r.work != .long n }
    let o := { o with slices := o.slices + 1 }
    let s := s.setLong n o
    if ue then s.endLong n .eccUncorr
    else match o.state with
      | .cancelPending => s.endLong n .cancelled
      | .suspendPending =>
        let s := s.sliceResult n o errs
        match s.longAt n with
        | some p => (s.setLong n { p with state := .suspended }).interimLong p .suspended
        | none => s
      | .running =>
        let s := s.sliceResult n o errs
        match s.longAt n with
        | some p => if last && p.work != .wavefront then s.finishLong n p else s
        | none => s
      | _ => s

end Sys2Proof.Machine
end

