-- ==== Sys2Proof/Machine/Background.lean ====
section
/-! DEFINITION. Background dispatch, the ends of slices and items, and the test slices (11 R272 to R275, R286, R292;
14 R352, R355 to R358, R366). -/

namespace Sys2Proof.Machine

/-! ### What a server may start (R272) -/

/-- Lexicographic order of choice keys. -/
def keyLt : List Nat → List Nat → Bool
  | a :: s, b :: t => decide (a < b) || (a == b && keyLt s t)
  | _, _ => false

/-- A piece of work that a server may start, with its key: level; flow items before long operations before firmware; the
deadline; the flow or handle; the item sequence (R272). -/
structure Choice where
  key : List Nat
  work : BgWork
  len : Nat
  deriving DecidableEq, Repr

/-- Whether work has a slice in service. -/
def TeaselSt.inService (t : TeaselSt) (w : BgWork) : Bool := t.running.any fun r => r.work == w

/-- Whether a flow lets an entry start now: a pre-empted item restarts; a waiting one is the head of its flow (R275, R285). -/
def State.mayItem (s : State) (n : Nat) (e : PoolEntry) : Bool :=
  let f := s.flow e.flow
  match e.place with
  | .inService => !s.teasel.inService (.flow n)
  | .waiting => f.waiting.head? == some n && e.release.isSome && (if f.atomic then f.insvc == 0 else decide (f.insvc < 64))
  | _ => false

/-- The flow items that a server may start at an ac. -/
def State.itemChoices (s : State) (c : ServerClass) (ac : Nat) : List Choice :=
  if !s.teasel.flowEn then []
  else s.teasel.pool.filterMap fun (p : Nat × PoolEntry) =>
    let e := p.2
    let f := s.flow e.flow
    let len := s.itemLen e.bytes
    if itemClass e.bytes == c && s.mayItem p.1 e && s.startsAt c ac len then
      some ⟨[f.level, 0, e.release.getD 0 + 2 ^ f.dlExp, e.flow, (e.seq - f.seqNext).toNat], .flow p.1, len⟩
    else none

/-- States in which an operation has slices to run (Table 13-8). -/
def LongState.slices : LongState → Bool
  | .queued => true
  | .running => true
  | .suspendPending => true
  | .cancelPending => true
  | _ => false

/-- Whether a long operation has a slice to start (Table 13-8); a tile test and a replay have events of their own. -/
def State.mayLong (s : State) (n : Nat) (o : LongOp) : Bool :=
  !s.teasel.inService (.long n) &&
  o.state.slices &&
  (match o.work with
    | .tileRequalify _ => false
    | .replay _ => false
    | .wavefront => if o.copies.isNone then s.coarseNow.isSome else !s.fullDone o
    | _ => true)

/-- The long operations that a server may start a slice of; a ring of a full recompute takes 2,048 ac (06 R181). -/
def State.longChoices (s : State) (c : ServerClass) (ac len : Nat) : List Choice :=
  s.cmd.longs.filterMap fun (p : Nat × LongOp) =>
    let o := p.2
    let l := if o.work = .wavefront then 2048 else len
    if o.cls == c && s.mayLong p.1 o && s.startsAt c ac l then some ⟨[o.level, 1, 0, o.handle, 0], .long p.1, l⟩ else none

/-- The firmware services in the command-processor queue (Table 11-1). -/
def State.fwChoices (s : State) (c : ServerClass) : List Choice :=
  if c == .cp then s.teasel.fwReady.filterMap fun w =>
      if s.teasel.inService (.firmware w.id) then none else some ⟨[w.level, 2, 0, w.id, 0], .firmware w.id, w.len⟩
  else []

/-- The best choice (R272). -/
def State.bestChoice (s : State) (c : ServerClass) (ac len : Nat) : Option Choice :=
  (s.itemChoices c ac ++ s.longChoices c ac len ++ s.fwChoices c).foldl (fun m x => match m with
    | none => some x
    | some y => if keyLt x.key y.key then some x else some y) none

/-- CAM_COV number of the unit behind a server: Aster, Cornflower, Poppy (14 Table 14-10). -/
def covOf (c : ServerClass) (server : Nat) : Option Nat :=
  match c with
  | .ast => some server
  | .cfl => some (4 + server)
  | .pop => some (8 + server)
  | _ => none

/-- The clock domain of a server (16 Table 16-3). -/
def State.serverDomain (s : State) (c : ServerClass) (i : Nat) : Nat :=
  match c with
  | .eng => 7 * (i / 16)
  | .ast => 7 * i + 2
  | .cfl => 7 * i + 5
  | .pop => 7 * i + 4
  | .vet => match s.vetch.phys[i]? with
    | some p => if p < 4 then 7 * p + 3 else 29
    | none => 29
  | .cp => 31 + i

/-- Whether a server is in service and free: no slice, no test slice, its pair not frozen, its domain not being
reset (R270, Table 11-9; 16 R407). -/
def State.serverFree (s : State) (c : ServerClass) (server : Nat) : Bool :=
  (s.servers c).contains server && !s.teasel.running.any (fun r => r.cls == c && r.server == server) &&
  !(match covOf c server with | some u => s.safety.testing.any fun t => t.unit == u | none => false) &&
  !(c == .cp && (s.master (2 + server)).frozen) && !s.resetting (s.serverDomain c server)

/-- An item's slice starts: it leaves the queue, counts as in service, and its results go to the working buffer (R275, R285). -/
def State.startItem (s : State) (c : ServerClass) (server ac len n : Nat) (e : PoolEntry) : State :=
  let e := { e with startTick := some (e.startTick.getD s.tickNo) }
  let r := s.itemRun server e
  let s := if itemKind e.bytes = 1 then s.setFreeIx (s.freeIx + 1) else s
  let s := s.updFlow e.flow fun f => { f with
    waiting := f.waiting.filter fun m => m != n
    insvc := if e.place = .inService then f.insvc else f.insvc + 1 }
  let s := s.updPool n fun _ => { e with place := .inService }
  let s := (s.onTeasel fun t => { t with running := t.running ++
    [{ cls := c, server := server, work := .flow n, start := ac, len := len, out := r.out, status := r.status, sat := r.sat, nan := r.nan }] }).refreshFlow
      e.flow
  match s.safety.serving server with
  | some t =>
    if c == .eng then
      let s := if r.bad = 0 then s else s.updStore t fun x => { x with badIndexCnt := x.badIndexCnt.add r.bad }
      (s.tileUncorrectable t r.ue).tileCorrected t r.ce
    else s
  | none => s

/-- The best work started on a server; an item whose context is FREE completes with ST_BAD_PARAM instead, and the choice
is made again (Table 11-9). -/
def State.dispatch : Nat → ServerClass → Nat → Nat → Nat → State → State
  | 0, _, _, _, _, s => s
  | fuel + 1, c, server, ac, len, s =>
    match s.bestChoice c ac len with
    | none => s
    | some x => match x.work with
      | .flow n => match s.poolEntry n with
        | none => s
        | some e =>
          if (s.ctx (itemCtx e.bytes)).state == .free then
            State.dispatch fuel c server ac len (s.completeItem n .badParam [])
          else s.startItem c server ac x.len n e
      | .long n => match s.longAt n with
        | none => s
        | some o =>
          (s.onTeasel fun t => { t with running := t.running ++
            [{ cls := c, server := server, work := .long n, start := ac, len := x.len }] }).sliceStarts n o
      | .firmware w => s.onTeasel fun t => { t with running := t.running ++
          [{ cls := c, server := server, work := .firmware w, start := ac, len := x.len }] }

/-- A server became free, or a free interval of its unit opened, at an ac: the chosen slice starts 4 ac later (R272).
`len` is the declared length of a long operation's slice. -/
def backgroundDispatchEffect (c : ServerClass) (server ac len : Nat) (s : State) : State :=
  if s.up && s.teasel.bgEn && s.zheda.run != .replay && s.serverFree c server then
    State.dispatch (s.teasel.pool.length + 1) c server (ac + 4) len (s.reachAc ac)
  else s

def execBackgroundDispatch (cls : ServerClass) (server : Fin 64) (ac len : Nat) (s : State) : Out :=
  .next (backgroundDispatchEffect cls server.val ac len s)

/-! ### Ends (R275, R286, R332) -/

/-- The slice in service on a server. -/
def State.runningOn (s : State) (c : ServerClass) (server : Nat) : Option Running :=
  s.teasel.running.find? fun r => r.cls == c && r.server == server

/-- A flow item ends: statistics of its context, the counts of its unit, its result and completion (R286; 07 R203). -/
def State.itemDone (s : State) (r : Running) (n : Nat) (ue : Bool) : State :=
  match s.poolEntry n with
  | none => s
  | some e =>
    let c := itemCtx e.bytes
    let x := s.ctx c
    let s := s.setCtx c { x with stats := modAt (fun v => if v = BitVec.allOnes 48 then v else v + 1) x.stats 4 }
    let s := if r.cls = .pop then s.onPoppy fun p => { p with bgCnt := p.bgCnt.incr } else s
    let s := if ue then s else s.onAster fun a => { a with
      satCnt := a.satCnt.add r.sat
      nanCnt := a.nanCnt.add r.nan
      satSeen := a.satSeen || decide (0 < r.sat)
      nanSeen := a.nanSeen || decide (0 < r.nan) }
    s.completeItem n (if ue then .eccUncorr else r.status) r.out

/-- FLOW_ITEM_COMPLETE on a server. -/
def flowItemCompleteEffect (c : ServerClass) (server : Nat) (ue : Bool) (s : State) : State :=
  match s.runningOn c server with
  | some r => match r.work with
    | .flow n => s.itemDone r n ue
    | _ => s
  | none => s

/-- BACKGROUND_SLICE_END on a server: the last slice of an item completes it; a slice of a long operation reaches its safe
point. -/
def backgroundSliceEndEffect (c : ServerClass) (server : Nat) (last ue : Bool) (errs : List (Nat × GranErr)) (s : State) :
    State :=
  match s.runningOn c server with
  | none => s
  | some r =>
    match r.work with
    | .flow n =>
      if last || ue then s.itemDone r n ue
      else (s.updPool n fun e => { e with slicesDone := e.slicesDone + 1 }).onTeasel fun t =>
        { t with running := t.running.filter fun x => x.work != .flow n }
    | .long n => s.longSliceEnd n last ue errs
    | .firmware w => s.onTeasel fun t => { t with
        running := t.running.filter fun x => x.work != .firmware w
        fwReady := if last then t.fwReady.filter fun x => x.id != w else t.fwReady }

/-! ### Test slices (14 R352, R355 to R358) -/

/-- The number of a unit under test: CAM_COV_u, 100 + tile, 200 for the Vetch spare. -/
def testNum : TestUnit → Nat
  | .cov u => u.val
  | .tile t => 100 + t.val
  | .vetSpare => 200

/-- Slice length and slices per pass of a unit (Table 14-4; R352; the Vetch test). -/
def testShape (u : Nat) : Nat × Nat :=
  if u < 4 then (16384, 512) else if u < 8 then (8192, 256) else if u < 12 then (4096, 128) else if u = 12 then (4096, 64)
  else if u < 29 then (2048, 128) else if u < 93 then (1024, 64) else if u < 200 then (65536, 368) else (65536, 96)

/-- The intervals in which a unit is not free for a test (Table 14-4; R352): the tile test avoids the broadcast, Lupin its
items, the merge unit the merge and the re-rank, and a clock monitor is tested in the guard band. -/
def State.testBusy (s : State) (u : Nat) : List (Int × Int) :=
  let p := s.program
  let e := s.tick.acE
  let items (f : ItemName → Bool) : List (Int × Int) :=
    (p.items.filter fun i => f i.name).map fun i => (i.start e, i.start e + (i.len : Int))
  if u < 4 then busyIntervals p e .aster
  else if u < 8 then busyIntervals p e .cornflower
  else if u < 12 then busyIntervals p e .poppy
  else if u = 12 then items fun n => n == .dieMerge || n == .critic || n == .cascadeMerge
  else if u < 29 then items (fun n => n == .contextLoad) ++ [((p.hPre : Int), (p.hPre : Int) + s.phi)]
  else if u < 93 then [(0, (e : Int))]
  else if u < 200 then [(bcastStart p e, bcastStart p e + (p.bcast : Int))]
  else []

/-- Whether a test slice of a unit may start at an ac: its length and 256 ac fit before the next foreground interval and
before A (R357); any time while no tick runs. -/
def State.testFits (s : State) (u ac : Nat) : Bool :=
  let fin : Int := ((ac + (testShape u).1 + 256 : Nat) : Int)
  !s.tick.prog.running ||
  ((s.testBusy u).all (fun b => decide (fin ≤ b.1) || decide (b.2 ≤ (ac : Int))) && decide (fin ≤ (s.tick.acA : Int)))

/-- The TILE_REQUALIFY of a tile, by handle slot. -/
def State.requalOp (s : State) (t : Nat) : Option (Nat × LongOp) :=
  List.find? (fun (p : Nat × LongOp) => p.2.work == .tileRequalify t && p.2.state != .ended) s.cmd.longs

/-- Whether a unit has a test slice to run: units in service with power; a tile released for test or under requalification;
the released Vetch spare until it has passed (R351, R355, R356; 16 R412). -/
def State.testable (s : State) (u : TestUnit) : Bool :=
  match u with
  | .cov u =>
    let n := u.val
    if n < 4 then !(s.aster.arrays.getD n {}).failed && s.clock.op != 3
    else if n < 8 then !s.cornflower.failedMask.getLsbD (n - 4) && s.clock.op != 3
    else if n < 12 then !s.poppy.failedMask.getLsbD (n - 8) && s.clock.op != 3
    else if n = 12 then !s.poppy.mergeFailed
    else if n < 29 then !s.safety.lupinFailed && s.clock.op != 3
    else !(Tbl.get {} s.clock.domains (n - 29)).monOff
  | .tile t =>
    let x := s.safety.tile t.val
    s.clock.op != 3 &&
    (match x.test with | .running _ => true | _ => false) &&
    (match x.role with
      | .testing => true
      | .failed => ((s.requalOp t.val).map fun p => p.2.state.slices).getD false
      | _ => false)
  | .vetSpare => s.vetch.spare.isSome && decide (s.safety.vetTest < 96)

/-- Whether background work occupies the unit. -/
def State.unitBusy (s : State) (u : Nat) : Bool :=
  s.safety.testing.any (fun t => t.unit == u) || s.teasel.running.any fun r => covOf r.cls r.server == some u

/-- TEST_SLICE_START (R357): the first slice of a pass starts the pass (R358), and of a requalification the operation. -/
def testSliceStartEffect (u : TestUnit) (ac : Nat) (s : State) : State :=
  let n := testNum u
  if s.up && s.testable u && !s.unitBusy n && s.testFits n ac then
    let tick := s.tickNo
    let s := (s.reachAc ac).onSafety fun f => { f with
      testing := f.testing ++ [⟨n, ac, (testShape n).1⟩]
      cov := if n < 93 then Tbl.upd {} f.cov n fun c => { c with startTick := some (c.startTick.getD tick) } else f.cov }
    match u with
    | .tile t => match s.requalOp t.val with
      | some p => if p.2.state = .queued then s.setLong p.1 { p.2 with state := .running } else s
      | none => s
    | _ => s
  else s

def execTestSliceStart (unit : TestUnit) (ac : Nat) (s : State) : Out := .next (testSliceStartEffect unit ac s)

/-- Fault class and instance of a unit under test (R363). -/
def State.testId (s : State) (u : Nat) : Nat × Nat :=
  if u < 4 then (2, u) else if u < 8 then (3, u - 4) else if u < 12 then (4, u - 8) else if u = 12 then (4, 4)
  else if u < 29 then (5, u - 13) else if u < 93 then (7, u - 29) else if u < 200 then (1, u - 100)
  else (6, (s.vetch.spare).getD 0)

/-- SEV of a failed slice (Table 14-4): of an Aster by what the next edge will do (03 R79, R80, R106). -/
def State.testSev (s : State) (u : Nat) (f : Option AsterFail) : Nat :=
  if u < 4 then
    let a := s.aster.arrays.getD u {}
    match f with
    | some (.column _) =>
      if a.colmap.length + a.waiting.length < 4 then 0
      else if s.aster.degradedEn && ((s.bundle.bind (·.variant3)).isSome) && s.arraysUp == 4 then 1 else 3
    | _ => if s.aster.degradedEn && ((s.bundle.bind (·.variant3)).isSome) && s.arraysUp == 4 then 1 else 3
  else if u < 8 then 3
  else if u < 12 then (if s.poppy.takeoverEn && s.poppy.takeoverOk && s.poppy.failedMask == 0 then 1 else 3)
  else if u < 29 then 3
  else 1

/-- A unit of Table 14-4 found failed, declared at the next tick edge (R356). -/
def State.covFails (s : State) (u : Nat) (f : Option AsterFail) (inj : Bool) : State :=
  let id := s.testId u
  let s := s.logFault id.1 id.2 0x0110 (s.testSev u f) inj
  if u < 4 then s.onAster fun a => { a with
      arrays := modAt (fun (x : AsterArray) => { x with waiting := x.waiting ++ [f.getD .postUnit] }) a.arrays u }
  else if u < 8 then s.onCornflower fun c => { c with failWaiting := c.failWaiting ||| BitVec.ofNat 4 (2 ^ (u - 4)) }
  else if u < 12 then s.onPoppy fun p => { p with failWaiting := p.failWaiting ||| BitVec.ofNat 4 (2 ^ (u - 8)) }
  else if u = 12 then s.onPoppy fun p => { p with mergeFailWaiting := true }
  else if u < 29 then s.onSafety fun x => { x with lupinFails := x.lupinFails ++ [u - 13] }
  else s.onClock fun c => { c with domains := Tbl.upd {} c.domains (u - 29) fun d => { d with monFail := true } }

/-- A slice of a unit of Table 14-4 passed: the last of a pass ends the pass (R356, R358; R367). -/
def State.covPasses (s : State) (u : Nat) : State :=
  let c := Tbl.get {} s.safety.cov u
  if c.done + 1 < (testShape u).2 then
    s.onSafety fun f => { f with cov := Tbl.put f.cov u { c with done := c.done + 1 } }
  else
    let tick := s.tickNo
    let s := s.onSafety fun f => { f with cov := Tbl.put f.cov u {} }
    if u < 29 then s.wear (s.testId u).1 (s.testId u).2 fun l => { l with
        testsPassed := l.testsPassed + 1
        lastPass := tick }
    else s

/-- The requalification of a tile ends with a result (R355). -/
def State.requalEnd (s : State) (t res : Nat) : State :=
  match s.requalOp t with
  | some p => s.endLong p.1 .ok [BitVec.ofNat 8 res]
  | none => s

/-- A tile test passed (R350, R352, R355): a requalified tile runs it twice, then joins; a tile that owns no position becomes
SPARE. -/
def State.tilePasses (s : State) (t : Nat) : State :=
  let tick := s.tickNo
  let s := s.wear 1 t fun l => { l with
    testsPassed := l.testsPassed + 1
    lastPass := tick }
  let s := s.updTile t fun x => { x with
    tested := some tick
    covTick := tick
    covLogged := false }
  match (s.safety.tile t).requal with
  | .testing 0 => s.updTile t fun x => { x with
      requal := .testing 1
      test := .running 0 }
  | .testing _ => s.updTile t fun x => { x with
      requal := .joining
      test := .passed }
  | _ => s.updTile t fun x => { x with
      test := .passed
      role := if x.role == .testing && x.owns.isNone then .spare else x.role }

/-- A tile test failed (R352, R355; code 0x0108). -/
def State.tileTestFails (s : State) (t : Nat) (inj : Bool) : State :=
  let s := s.wear 1 t fun l => { l with testsFailed := l.testsFailed + 1 }
  if (s.safety.tile t).requal == .none then s.tileFails t 0x0108 inj
  else ((s.logFault 1 t 0x0108 1 inj).updTile t fun x => { x with test := .none }).requalEnd t 1

/-- A slice of a tile's test ends; of a requalification it is a slice of the long operation (Table 13-8). -/
def State.tileSlice (s : State) (t : Nat) (pass inj : Bool) : State :=
  let s := match s.requalOp t with
    | some p => s.setLong p.1 { p.2 with slices := p.2.slices + 1 }
    | none => s
  match s.requalOp t with
  | some (n, o) =>
    if o.state = .cancelPending then s.endLong n .cancelled
    else
      let k := match (s.safety.tile t).test with | .running k => k + 1 | _ => 0
      let s := if !pass then s.tileTestFails t inj
        else if k < 368 then s.updTile t fun x => { x with test := .running k }
        else s.tilePasses t
      match s.longAt n with
      | some p => if p.state = .suspendPending then (s.setLong n { p with state := .suspended }).interimLong p .suspended else s
      | none => s
  | none =>
    let k := match (s.safety.tile t).test with | .running k => k + 1 | _ => 0
    if !pass then s.tileTestFails t inj
    else if k < 368 then s.updTile t fun x => { x with test := .running k }
    else s.tilePasses t

/-- The Vetch spare's test (14, before R356; 08 R206). -/
def State.vetSlice (s : State) (pass inj : Bool) : State :=
  match s.vetch.spare with
  | none => s
  | some v =>
    let tick := s.tickNo
    if pass then
      let s := s.onSafety fun f => { f with vetTest := f.vetTest + 1 }
      if s.safety.vetTest = 96 then s.wear 6 v fun l => { l with
          testsPassed := l.testsPassed + 1
          lastPass := tick }
      else s
    else ((s.logFault 6 v 0x0110 1 inj).wear 6 v fun l => { l with testsFailed := l.testsFailed + 1 }).onVetch fun x =>
      { x with failWaiting := x.failWaiting ||| BitVec.ofNat 5 (2 ^ v) }

/-- The injection that fails the next test slice of a unit (R366). -/
def SafetySt.failNext (f : SafetySt) (cls inst : Nat) : Option Injection :=
  f.armed.find? fun i => i.kind == 4 && i.target == cls && i.inst == inst

/-- A free part of an Aster array for an injected failure, which names none (log entry 2). -/
def freePart (ix : Nat) : AsterFail :=
  let v := (Config.freeValue ix).toNat
  if v % 3 = 0 then .column (v / 3 % 128) else if v % 3 = 1 then .row else .postUnit

/-- TEST_SLICE_END (R356): the slice that runs on the unit passes or fails. -/
def testSliceEndEffect (u : TestUnit) (r : TestResult) (s : State) : State :=
  let n := testNum u
  if !s.safety.testing.any fun t => t.unit == n then s
  else
    let id := s.testId n
    let inj := s.safety.failNext id.1 id.2
    let s := s.onSafety fun f => { f with
      testing := f.testing.filter fun t => t.unit != n
      armed := match inj with | some i => f.armed.erase i | none => f.armed }
    let pass := r == .pass && inj.isNone
    let part : Option AsterFail := match r with
      | .failAster f => some f
      | .pass => if inj.isSome then some (freePart s.freeIx) else none
      | .fail => none
    let s := if inj.isSome && r == .pass then s.setFreeIx (s.freeIx + 1) else s
    match u with
    | .cov c =>
      if pass then s.covPasses c.val
      else
        let s := if c.val < 29 then s.wear id.1 id.2 fun l => { l with testsFailed := l.testsFailed + 1 } else s
        s.covFails c.val part inj.isSome
    | .tile t => s.tileSlice t.val pass inj.isSome
    | .vetSpare => s.vetSlice pass inj.isSome

/-- COVERAGE_EXCEEDED (R358): logged once for the pass or tile. -/
def coverageExceededEffect (u : TestUnit) (s : State) : State :=
  let n := testNum u
  let late (s : State) (logged : Bool) : State :=
    let s := s.onSafety fun f => { f with covF := true }
    if logged then s else s.logFault (s.testId n).1 (s.testId n).2 0x0111 0
  match u with
  | .cov _ =>
    let c := Tbl.get {} s.safety.cov n
    match c.startTick with
    | some k =>
      if s.safety.covUnit.toNat < s.tickNo - k then
        (late s c.late).onSafety fun f => { f with cov := Tbl.upd {} f.cov n fun x => { x with late := true } }
      else s
    | none => s
  | .tile t =>
    let x := s.safety.tile t.val
    if x.role != .failed && decide (s.safety.covTile.toNat < s.tickNo - x.covTick) then
      (late s x.covLogged).updTile t.val fun y => { y with covLogged := true }
    else s
  | .vetSpare => s

def execCoverageExceeded (unit : TestUnit) (s : State) : Out := .next (coverageExceededEffect unit s)

end Sys2Proof.Machine
end

