-- ==== Sys2Proof/Machine/Operands.lean ====
section
/-! DEFINITION. The operand forms of command packets: the header of Table 13-2 and the payload fields of Table 13-7, read from the
bytes of a packet (13 R323, R329; 10 R268; 14 R366; 18 R450). -/

namespace Sys2Proof.Machine

/-! ### Fields of a payload -/

def pByte (p : List Byte) (o : Nat) : Byte := p.getD o 0
def pHalf (p : List Byte) (o : Nat) : Half := BitVec.ofNat 16 (leAt p o 2)
def pWord (p : List Byte) (o : Nat) : Word := BitVec.ofNat 32 (leAt p o 4)
def pDword (p : List Byte) (o : Nat) : Dword := BitVec.ofNat 64 (leAt p o 8)

/-- Three signed words: x, y, z. -/
def pV3 (p : List Byte) (o : Nat) : V3 := ⟨sgn 32 (leAt p o 4), sgn 32 (leAt p (o + 4) 4), sgn 32 (leAt p (o + 8) 4)⟩

/-- Six signed words: min x, y, z, max x, y, z. -/
def pBox (p : List Byte) (o : Nat) : Box := ⟨pV3 p o, pV3 p (o + 12)⟩

/-- A probe of 16 bytes (10 R268). -/
def pProbe (p : List Byte) (o : Nat) : Probe :=
  { kind := leAt p o 1, slot := leAt p (o + 1) 1, wp := leAt p (o + 2) 1, sph := leAt p (o + 3) 1, index := leAt p (o + 4) 4,
    arg := leAt p (o + 8) 4 }

/-! ### The header (Table 13-2) -/

def hdrVersion (b : List Byte) : Nat := leAt b 0 1
def hdrRef (b : List Byte) : Bool := bit (leAt b 1 1) 0
def hdrOpcode (b : List Byte) : Nat := leAt b 2 2
def hdrLen (b : List Byte) : Nat := leAt b 16 4
def hdrAddr (b : List Byte) : Nat := leAt b 20 8
def hdrCrc (b : List Byte) : Nat := leAt b 28 4

/-- The fields of a header that a command keeps. -/
def hdrOf (path : Nat) (b : List Byte) : Hdr :=
  { ring := path, tag := pWord b 4, seq := pWord b 12, ctx := leAt b 8 2 % 1024, fence := bit (leAt b 1 1) 1,
    quiet := bit (leAt b 1 1) 2, ref := if hdrRef b then some (hdrAddr b) else none }

/-- Submission entries of 64 bytes that a packet occupies (13 R320). -/
def hdrEntries (b : List Byte) : Nat := if hdrRef b then 1 else (32 + hdrLen b + 63) / 64

/-! ### Payloads (Table 13-7) -/

/-- A payload of exactly n bytes. -/
def sized (p : List Byte) (n : Nat) (i : Instr) : Option Instr := if p.length = n then some i else none

/-- Group 0x01. -/
def devCmd (op : Nat) (h : Hdr) (p : List Byte) : Option Instr :=
  match op with
  | 0x0100 => sized p 0 (.nop h)
  | 0x0101 => sized p 8 (.devInfo h (pDword p 0))
  | 0x0102 => sized p 0 (.devStatus h)
  | 0x0103 => sized p 16 (.devFaultLog h (pWord p 0) (pWord p 4) (pDword p 8))
  | 0x0104 => sized p 0 (.devReset h)
  | _ => none

/-- Group 0x02. -/
def cfgCmd (op : Nat) (h : Hdr) (p : List Byte) : Option Instr :=
  match op with
  | 0x0200 => if 5 ≤ p.length ∧ p.length ≤ 4092 then some (.configWrite h (pWord p 0) (p.drop 4)) else none
  | 0x0201 => sized p 52 (.configLoad h (pWord p 0) (pByte p 4) (pDword p 8) (pWord p 16) (p.drop 20))
  | 0x0202 => sized p 4 (.configCommit h (pWord p 0))
  | 0x0203 => sized p 4 (.configRollback h (pWord p 0))
  | 0x0204 => sized p 20 (.configRead h (pByte p 0) (pWord p 4) (pWord p 8) (pDword p 12))
  | 0x0205 => sized p 0 (.configDiscard h)
  | 0x0206 => sized p 0 (.configStore h)
  | _ => none

/-- Group 0x03. -/
def ctxCmd (op : Nat) (h : Hdr) (p : List Byte) : Option Instr :=
  match op with
  | 0x0300 => sized p 2 (.ctxAlloc h (pByte p 0) (pByte p 1))
  | 0x0301 => sized p 0 (.ctxFree h)
  | 0x0302 => sized p 0 (.ctxActivate h)
  | 0x0303 => sized p 0 (.ctxDeactivate h)
  | 0x0304 => if 3 ≤ p.length ∧ p.length ≤ 3778 then some (.ctxWrite h (pHalf p 0) (p.drop 2)) else none
  | 0x0305 => sized p 16 (.ctxRead h (pByte p 0) (pHalf p 2) (pWord p 4) (pDword p 8))
  | 0x0306 => sized p 4 (.ctxSeedSet h (pWord p 0))
  | 0x0307 => sized p (4 + 24 * leAt p 0 1) (.ctxGoalSet h ((List.range (leAt p 0 1)).map fun i => pBox p (4 + 24 * i)))
  | 0x0308 => sized p 0 (.ctxTreeReset h)
  | _ => none

/-- Groups 0x04 and 0x05. -/
def worldCmd (op : Nat) (h : Hdr) (p : List Byte) : Option Instr :=
  match op with
  | 0x0400 => some (.worldOcc h p)
  | 0x0401 => some (.worldState h p)
  | 0x0402 => sized p 28 (.worldKeepoutSet h (pByte p 0) (pByte p 1) (pBox p 4))
  | 0x0403 => sized p 1 (.worldKeepoutClear h (pByte p 0))
  | 0x0404 => sized p 8 (.worldFieldRead h (pDword p 0))
  | 0x0500 => sized p 16 (.planFrameRead h (pByte p 0) (pDword p 8))
  | 0x0501 => sized p 16 (.planResultRead h (pByte p 0) (pDword p 8))
  | 0x0502 => sized p 16 (.planHandoffRead h (pByte p 0) (pDword p 8))
  | 0x0503 => sized p 0 (.rearm h)
  | _ => none

/-- Group 0x06. -/
def flowCmd (op : Nat) (h : Hdr) (p : List Byte) : Option Instr :=
  match op with
  | 0x0600 => sized p 12 (.flowOpen h (pWord p 0) (pByte p 4) (pByte p 5) (pByte p 6) (pByte p 7) (pByte p 8) (pHalf p 10))
  | 0x0601 => sized p (8 + 64 * leAt p 4 1) (.flowPush h (pWord p 0) ((List.range (leAt p 4 1)).map fun i => (p.drop (8 + 64 * i)).take 64))
  | 0x0602 => sized p 4 (.flowClose h (pWord p 0))
  | 0x0603 => sized p 4 (.flowFlush h (pWord p 0))
  | 0x0604 => sized p 4 (.flowRead h (pWord p 0))
  | 0x0605 => sized p 12 (.timerSet h (pDword p 0) (pByte p 8) (pHalf p 10))
  | 0x0606 => sized p 4 (.timerCancel h (pWord p 0))
  | _ => none

/-- Group 0x07. -/
def longCmd (op : Nat) (h : Hdr) (p : List Byte) : Option Instr :=
  match op with
  | 0x0700 => sized p 2 (.longStatus h (pHalf p 0))
  | 0x0701 => sized p 2 (.longSuspend h (pHalf p 0))
  | 0x0702 => sized p 16 (.longResume h (pHalf p 0) (pDword p 8))
  | 0x0703 => sized p 2 (.longCancel h (pHalf p 0))
  | 0x0710 => sized p 8 (.roadmapBuild h (pWord p 0) (pWord p 4))
  | 0x0711 => sized p 0 (.wavefrontFull h)
  | 0x0712 => sized p 24 (.deepPlan h (pWord p 0) (pHalf p 4) (pDword p 8) (pDword p 16))
  | 0x0713 => sized p 20 (.fieldRebuild h (pV3 p 0) (pDword p 12))
  | 0x0714 => sized p 16 (.memScrub h (pDword p 0) (pDword p 8))
  | 0x0715 => sized p 1 (.tileRequalify h (pByte p 0))
  | _ => none

/-- Groups 0x08 and 0x09. -/
def snapCmd (op : Nat) (h : Hdr) (p : List Byte) : Option Instr :=
  match op with
  | 0x0800 => sized p 0 (.snapPause h)
  | 0x0801 => sized p 0 (.snapResume h)
  | 0x0802 => sized p 16 (.snapSave h (pByte p 0) (pByte p 1) (pDword p 8))
  | 0x0803 => sized p 16 (.snapLoad h (pByte p 0) (pByte p 1) (pDword p 8))
  | 0x0804 => sized p (40 + 16 * leAt p 3 1) (.replay h (pByte p 0) (pByte p 1) (pByte p 2) (pDword p 8) (pDword p 16)
      (pDword p 24) (pDword p 32) ((List.range (leAt p 3 1)).map fun i => pProbe p (40 + 16 * i)))
  | 0x0805 => sized p 24 (.zhdExport h (pDword p 0) (pWord p 8) (pByte p 12) (pDword p 16))
  | 0x0900 => sized p 24 (.diagRead h (pDword p 0) (pWord p 8) (pDword p 16))
  | 0x0901 => sized p 16 (.diagInject h (pByte p 0) (pByte p 1) (pByte p 2) (pDword p 4) (pWord p 12))
  | _ => none

/-- Groups 0x0A to 0x0C. The NVM die confirms the increment that a packet needs (log entry 58). -/
def secCmd (op : Nat) (h : Hdr) (p : List Byte) : Option Instr :=
  match op with
  | 0x0A00 => sized p 40 (.secAttest h (p.take 32) (pDword p 32) true)
  | 0x0A01 => sized p (8 + leAt p 4 4) (.secLifecycle h (pByte p 0) (p.drop 8))
  | 0x0A02 => sized p 12 (.secFwUpdate h (pDword p 0) (pWord p 8))
  | 0x0A03 => sized p 8 (.xmssKeygen h (pDword p 0))
  | 0x0B00 => sized p 0 (.cascStatus h)
  | 0x0B01 => sized p 1 (.cascMemberRemove h (pByte p 0))
  | 0x0B02 => sized p 1 (.cascMemberAdd h (pByte p 0))
  | 0x0C00 => sized p 1 (.pwrOpSet h (pByte p 0))
  | 0x0C01 => sized p 2 (.clkSpreadSet h (pByte p 0) (pByte p 1))
  | 0x0C02 => sized p 2 (.pwrClusterSet h (pByte p 0) (pByte p 1))
  | 0x0C03 => sized p 0 (.pwrStatus h)
  | _ => none

/-- The opcodes of Table 13-7. -/
def opcodes : List Nat :=
  [0x0100, 0x0101, 0x0102, 0x0103, 0x0104, 0x0200, 0x0201, 0x0202, 0x0203, 0x0204, 0x0205, 0x0206, 0x0300, 0x0301,
    0x0302, 0x0303, 0x0304, 0x0305, 0x0306, 0x0307, 0x0308, 0x0400, 0x0401, 0x0402, 0x0403, 0x0404, 0x0500, 0x0501,
    0x0502, 0x0503, 0x0600, 0x0601, 0x0602, 0x0603, 0x0604, 0x0605, 0x0606, 0x0700, 0x0701, 0x0702, 0x0703, 0x0710,
    0x0711, 0x0712, 0x0713, 0x0714, 0x0715, 0x0800, 0x0801, 0x0802, 0x0803, 0x0804, 0x0805, 0x0900, 0x0901, 0x0A00,
    0x0A01, 0x0A02, 0x0A03, 0x0B00, 0x0B01, 0x0B02, 0x0C00, 0x0C01, 0x0C02, 0x0C03]

/-- The command that an opcode and a payload spell; none where the payload is not valid for the opcode (check 5). Bytes that the
tables give as 0 are not examined. -/
def cmdOf (op : Nat) (h : Hdr) (p : List Byte) : Option Instr :=
  match op / 256 with
  | 1 => devCmd op h p
  | 2 => cfgCmd op h p
  | 3 => ctxCmd op h p
  | 4 => worldCmd op h p
  | 5 => worldCmd op h p
  | 6 => flowCmd op h p
  | 7 => longCmd op h p
  | 8 => snapCmd op h p
  | 9 => snapCmd op h p
  | _ => secCmd op h p

end Sys2Proof.Machine
end

