-- ==== Sys2Proof/Machine/Link.lean ====
section
/-! DEFINITION. Chapter 17: the host link, USB and the PTP timer as events from outside change them. -/

namespace Sys2Proof.Machine

/-! ### PCIe (R424 to R431) -/

/-- SYS_RING_CFG.EN written 0: FAULTED is cleared, and completions that wait for room are discarded (R321, R430). -/
def Ring.disable (g : Ring) : Ring :=
  { g with
    en := false
    fault := false
    faultCode := 0
    cqFull := false
    held := [] }

/-- Every ring pair disabled (R430 step 1). -/
def State.disableRings (s : State) : State :=
  s.onCmd fun c => { c with rings := c.rings.map fun e => (e.1, e.2.disable) }

/-- What PERST_N, Function Level Reset and DL_Down do alike (R430 steps 1 and 3). -/
def State.hostGone (s : State) : State := (s.disableRings).releaseMaster 0

/-- Configuration space at its reset values (R430): the MSI-X table and masks. -/
def HostSt.confReset (h : HostSt) : HostSt :=
  { h with
    vecs := []
    funcMask := false
    d3hot := false }

/-- A clock domain put into reset (16 R407). -/
def State.resetDomain (s : State) (d : Nat) : State :=
  s.onClock fun c => { c with domains := Tbl.upd {} c.domains d fun x => { x with resetting := true } }

/-- PERST_N goes low (R430; 16 R418): domains 48 and 49 are reset as well. -/
def perstAssertEffect (s : State) : State :=
  let s := s.onHost fun h => { h.confReset with
    perst := true
    dlActive := false
    width := 0
    speed := 0
    perstSeen := true }
  ((s.hostGone).resetDomain 48).resetDomain 49

def functionLevelResetEffect (s : State) : State := (s.onHost fun h => { h.confReset with flrSeen := true }).hostGone

/-- DL_Down keeps configuration space (R430). -/
def pcieLinkDownEffect (s : State) : State :=
  (s.onHost fun h => { h with
    dlActive := false
    width := 0
    speed := 0
    linkDown := true }).hostGone

/-- The PCIe domains leave reset and the link may train (R446, 16 R407). -/
def perstReleaseEffect (s : State) : State := s.onHost fun h => { h with perst := false }

def execPerstRelease (s : State) : Out := .next (perstReleaseEffect s)

/-- The data link comes up with the width and speed negotiated (R423); PERST_N holds it down while low. -/
def pcieLinkUpEffect (w : BitVec 6) (v : BitVec 4) (s : State) : State :=
  if s.host.perst then s
  else s.onHost fun h => { h with
    dlActive := true
    width := w
    speed := v }

def execPcieLinkUp (width : BitVec 6) (speed : BitVec 4) (s : State) : Out := .next (pcieLinkUpEffect width speed s)

/-- D3hot: configuration requests only, postings discarded; the return to D0 keeps register contents (R431). Vectors
that became pending are sent on the return. -/
def powerStateEffect (d3 : Bool) (s : State) : State := s.onHost fun h => { h with d3hot := d3 }

def execPowerStateChange (d3 : Bool) (s : State) : Out := .next (powerStateEffect d3 s)

/-- A link error requests the vector of PCI_ERR_VEC (R426; log entry 48). -/
def State.linkError (s : State) : State := s.interrupt s.host.errVec.toNat 1

/-- A request that the device cannot serve (R428, Table 17-2). The accesses with a command of their own answer their
own refusals; `refused` stands for the others. -/
def pcieRequestEffect (r : PcieReq) (s : State) : State :=
  match r with
  | .outsideBars w => if w then s.unsupported else (s.setRdata []).unsupported
  | .unsupportedKind => s.unsupported
  | .unreachable w => if w then s.unsupported else (s.setRdata []).unsupported
  | .poisonedWrite => (s.onHost fun h => { h with
      poisonRx := true
      aerLogged := h.aerLogged + 1 }).linkError
  | .refused w => s.abortAccess w

def execPcieRequestRx (r : PcieReq) (s : State) : Out := .next (pcieRequestEffect r s)

/-- A vector mask or the function mask cleared: pending messages are sent (R426). -/
def msixUnmaskEffect (v : Option (Fin 64)) (s : State) : State :=
  s.onHost fun h =>
    match v with
    | none => HostSt.msixFlush { h with funcMask := false }
    | some i => HostSt.msixFlush { h with vecs := Tbl.upd {} h.vecs i fun x => { x with masked := false } }

def execMsixVectorUnmask (v : Option (Fin 64)) (s : State) : Out := .next (msixUnmaskEffect v s)

/-! ### USB (R443 to R445) -/

/-- Untaken packets and pending IN transfers discarded (R445). -/
def HostSt.usbDiscard (h : HostSt) : HostSt :=
  { h with
    usbOut := []
    usbIn := [] }

/-- The host enumerates and configures the port (R443), unless the USB PHY is out of service (16 R400). -/
def usbConnectEffect (ss : Bool) (s : State) : State :=
  if s.clock.usbOff then s
  else s.onHost fun h => { h with
    usbConnected := true
    usbConfigured := true
    usbSuper := ss
    usbSuspended := false }

def execUsbConnect (superspeed : Bool) (s : State) : Out := .next (usbConnectEffect superspeed s)

/-- A bus reset, disconnect or disable (R445): the port is no longer connected until it is enumerated again. -/
def usbBusResetEffect (s : State) : State :=
  s.onHost fun h => { h.usbDiscard with
    usbConnected := false
    usbConfigured := false
    usbSuspended := false }

def execUsbBusReset (s : State) : Out := .next (usbBusResetEffect s)

def execUsbSuspend (s : State) : Out := .next (s.onHost fun h => { h with usbSuspended := h.usbConnected })

/-- The bus resumes: the held IN transfers may leave, in their order (R445). The queue is kept until a bus reset: the
host's reads of it are no command of the table (log entry 50). -/
def usbResumeEffect (s : State) : State := s.onHost fun h => { h with usbSuspended := false }

def execUsbResume (s : State) : Out := .next (usbResumeEffect s)

/-! ### Ethernet signals and the PTP timer (R440 to R442) -/

def ethLosEffect (p : Nat) (los lock : Bool) (s : State) : State :=
  s.onHost fun h => { h with ports := modAt (fun x => { x with rxLos := los, blockLock := lock }) h.ports p }

def execEthLossOfSignal (port : Fin 2) (los : Bool) (lock : Bool) (s : State) : Out := .next (ethLosEffect port los lock s)

/-- The timer counted up to now, so that its rate or its value can change (R440). -/
def HostSt.rebase (h : HostSt) (now : Nat) : HostSt :=
  { h with
    ptpBase := h.ptpAt now
    ptpSince := now }

/-- Synchronisation is lost: LOCKED 0 and TICK_LOST (R17, R442). -/
def State.loseSync (s : State) : State :=
  (s.onHost fun h => { h with
    locked := false
    goodSyncs := 0 }).onTick fun t => { t with
    syncLost := true
    lostF := true }

/-- Synchronisation is regained (R442). -/
def State.gainSync (s : State) : State :=
  (s.onHost fun h => { h with locked := true }).onTick fun t => { t with syncLost := false }

def execSyncLost (time : Nat) (s : State) : Out := .next ((s.advance time).loseSync)

/-- The rate correction the servo chooses: the manual gives only its bound of 250 ppm, so it is a free value in that
range, in parts of 2^32 (log entry 2). -/
def servoRate (v : BitVec 64) : Int := (v.toNat % 2147483 : Nat) - 1073741

/-- A Sync with Follow_Up (R441, R442): a large offset steps the timer and loses synchronisation, a smaller one corrects
the rate; four in a row within LOCK_NS regain it. The offset is the timer minus the master (log entry 49). -/
def ptpSyncEffect (time port : Nat) (offset : Int) (s : State) : State :=
  let s := s.advance time
  let h := s.host
  if h.xtalOut || !((h.ports.getD port {}).en) then s
  else
    let s := s.onHost fun h => { h with
      ptpOffset := offset
      slavePort := port == 1 }
    if h.stepNs.toNat < offset.natAbs then
      (s.onHost fun h => { h with
        ptpBase := ((h.ptpAt s.now : Int) - offset).toNat
        ptpSince := s.now
        stepped := true }).loseSync
    else
      let (v, s) := s.fresh
      let n := if offset.natAbs ≤ h.lockNs.toNat then min 4 (h.goodSyncs + 1) else 0
      let s := s.onHost fun h => { h.rebase s.now with
        ptpRate := servoRate v
        goodSyncs := n }
      if n = 4 && !(h.gm && !h.profileE2E && !h.gmOk) then s.gainSync else s

def execPtpSyncRx (time : Nat) (port : Fin 2) (offset : Int) (s : State) : Out := .next (ptpSyncEffect time port offset s)

/-- The best master clock algorithm makes the device grandmaster or slave (R440, R442). -/
def bestMasterEffect (time : Nat) (gm : Bool) (s : State) : State :=
  let s := (s.advance time).onHost fun h => { h with gm := gm }
  if gm && !s.host.profileE2E then
    if s.host.gmOk && !s.host.xtalOut then s.gainSync else s.loseSync
  else s

def execBestMasterChange (time : Nat) (gm : Bool) (s : State) : Out := .next (bestMasterEffect time gm s)

end Sys2Proof.Machine
end

