-- ==== Sys2Proof/Machine/ConfigCmds.lean ====
section
/-! DEFINITION. The configuration commands and their ends (13 R335 to R341, Table 13-7 group 0x02). The switch itself takes
place at the tick edge. -/

namespace Sys2Proof.Machine

/-- A load, commit or rollback was refused (SYS_CFG_STAT.REJECTED). -/
def State.rejected (s : State) : State := s.onCmd fun c => { c with rejected := true }

/-- A packet of CONFIG_LOAD, CONFIG_COMMIT or CONFIG_ROLLBACK: a refusal also sets REJECTED. -/
def State.cfgPacket (s : State) (h : Hdr) (op : Nat) (c : Checks) (run : State → State) : State :=
  let t := s.packet h op c run
  if s.takes h && (!c.param || (s.casc.memberInService && memberRefused op) || c.state.isSome) then t.rejected else t

/-- Whether the run state lets bundles be loaded, committed and rolled back (R340). -/
def State.cfgLive (s : State) : Bool := s.zheda.run == .live

/-- Whether a commit is being staged or waits for its edge (R341). -/
def CommandSt.committing (c : CommandSt) : Bool :=
  match c.phase with
  | .staging _ _ => true
  | .switchPending => true
  | _ => false

/-- Whether a load is under way. -/
def CommandSt.isLoading (c : CommandSt) : Bool :=
  match c.phase with
  | .loading _ _ _ _ _ => true
  | _ => false

/-! ### CONFIG_WRITE, CONFIG_LOAD (R337) -/

/-- Bundle bytes placed in the staged slot. -/
def configWriteEffect (h : Hdr) (off : Nat) (bs : List Byte) (s : State) : State :=
  s.packet h 0x0200
    { param := decide (1 ≤ bs.length) && decide (bs.length ≤ 4088) && decide (off + bs.length ≤ 0x4000000) } fun s =>
    (s.onCmd fun c => { c with chunks := c.chunks.writes off bs }).final h 0x0200 .ok

def execConfigWrite (h : Hdr) (offset : Word) (bytes : List Byte) (s : State) : Out :=
  .next (configWriteEffect h offset.toNat bytes s)

/-- CONFIG_LOAD: over USB from the chunks only (R330). A load during a load is refused (log entry 56). -/
def configLoadEffect (h : Hdr) (gen source addr len : Nat) (digest : List Byte) (s : State) : State :=
  s.cfgPacket h 0x0201
    { param := decide (source ≤ 1) && (h.ring != 80 || (source == 1 && addr == 0)),
      state := if !s.cfgLive || s.cmd.committing || s.cmd.isLoading then some .busy else none } fun s =>
    (s.interim h 0x0201 .pending).onCmd fun c => { c with
      phase := .loading h gen (if source = 0 then some addr else none) len digest }

def execConfigLoad (h : Hdr) (gen : Word) (source : Byte) (addr : Dword) (length : Word) (digest : List Byte) (s : State) :
    Out := .next (configLoadEffect h gen.toNat source.toNat addr.toNat length.toNat digest s)

/-- A bundle with GEN taken as 0, whose digest is CFG_DIGEST (10 R248). -/
def noGen (bs : List Byte) : List Byte := bs.take 4 ++ [0, 0, 0, 0] ++ bs.drop 8

/-- The slot that loaded bytes fill. -/
def slotOfBytes (bs : List Byte) (b : Bundle) : BundleSlot :=
  { gen := leAt bs 4 4, bytes := Mem.ofBytes bs, length := bs.length, bundle := b, digest := shake256 (noGen bs) }

/-- Steps 2 to 4 of R337 over the bytes of a load; a bundle that spells no configuration is rejected (log entry 7). -/
def loadOutcome (gen len : Nat) (digest bs : List Byte) : Status × Option BundleSlot :=
  if gen = 0 || gen != leAt bs 4 4 || len != leAt bs 8 4 || decide (0x4000000 < len) then (.badParam, none)
  else if shake256 bs != digest then (.badCrc, none)
  else if leAt bs 0 2 ≠ 1 || leAt bs 2 1 ≠ 1 then (.configRejected, none)
  else match Config.parseBundle bs with
    | none => (.configRejected, none)
    | some b => (.ok, some (slotOfBytes bs b))

/-- The bytes of a load: at ADDR, or the chunks (R337 step 1). -/
def State.loadBytes (s : State) (src : Option Nat) (len : Nat) : List Byte :=
  match src with
  | some a => s.hostRead a (min len 0x4000000)
  | none => s.cmd.chunks.reads 0 (min len 0x4000000)

/-- The end of a load: an accepted one replaces any staged bundle, a refused one leaves the slot empty (R337). -/
def configLoadDoneEffect (s : State) : State :=
  match s.cmd.phase with
  | .loading h gen src len digest =>
    if s.pathFrozen h.ring then s
    else
      let r := loadOutcome gen len digest (s.loadBytes src len)
      let s := s.onCmd fun c => { c with
        phase := .idle
        chunks := []
        staged := r.2 }
      (if r.1 = .ok then s else s.rejected).final h 0x0201 r.1 (toLe 4 gen)
  | _ => s

/-! ### CONFIG_COMMIT, CONFIG_ROLLBACK, CONFIG_DISCARD (R338, R339) -/

/-- Why a commit is refused (R338, R340, R341). -/
def State.commitRefusal (s : State) (gen : Nat) : Option Status :=
  if !s.cfgLive || s.cmd.committing || s.cmd.isLoading || s.cmd.rollback then some .busy
  else match s.cmd.staged with
    | none => some .badParam
    | some b => if b.gen ≠ gen then some .badParam else if b.bundle.accepted s then none else some .configRejected

/-- CONFIG_COMMIT: validated, then staged over the previous bundle's bank, which is lost from then on (R338). -/
def configCommitEffect (h : Hdr) (gen : Nat) (s : State) : State :=
  s.cfgPacket h 0x0202 { state := s.commitRefusal gen } fun s =>
    (s.interim h 0x0202 .pending).onCmd fun c => { c with
      phase := .staging h gen
      previous := none }

def execConfigCommit (h : Hdr) (gen : Word) (s : State) : Out := .next (configCommitEffect h gen.toNat s)

/-- The end of staging (R338, R341); it waits while the pair that carries the commit is frozen, and during a replay. -/
def configStagingDoneEffect (ue : Bool) (s : State) : State :=
  match s.cmd.phase with
  | .staging h gen =>
    if s.pathFrozen h.ring || s.zheda.run == .replay then s
    else if ue then (s.onCmd fun c => { c with phase := .idle }).final h 0x0202 .eccUncorr (toLe 4 gen)
    else (s.onCmd fun c => { c with phase := .switchPending }).final h 0x0202 .ok (toLe 4 gen)
  | _ => s

/-- Why a rollback is refused (R339 to R341); a second one while the first waits too (log entry 56). -/
def State.rollbackRefusal (s : State) (gen : Nat) : Option Status :=
  if !s.cfgLive || s.cmd.committing || s.cmd.rollback then some .busy
  else match s.cmd.previous with
    | none => some .badParam
    | some b => if b.gen ≠ gen then some .badParam else if b.bundle.accepted s then none else some .configRejected

def configRollbackEffect (h : Hdr) (gen : Nat) (s : State) : State :=
  s.cfgPacket h 0x0203 { state := s.rollbackRefusal gen } fun s =>
    (s.onCmd fun c => { c with rollback := true }).final h 0x0203 .ok

def execConfigRollback (h : Hdr) (prevGen : Word) (s : State) : Out := .next (configRollbackEffect h prevGen.toNat s)

def configDiscardEffect (h : Hdr) (s : State) : State :=
  s.packet h 0x0205 { state := if s.cmd.committing || s.cmd.isLoading then some .busy else none } fun s =>
    (s.onCmd fun c => { c with
      staged := none
      chunks := [] }).final h 0x0205 .ok

def execConfigDiscard (h : Hdr) (s : State) : Out := .next (configDiscardEffect h s)

/-! ### CONFIG_READ, CONFIG_STORE -/

/-- A bundle slot by its number in CONFIG_READ. -/
def CommandSt.slotNo (c : CommandSt) (n : Nat) : Option BundleSlot :=
  if n = 0 then c.active else if n = 1 then c.previous else if n = 2 then c.staged else none

/-- CONFIG_READ: bytes inside a slot that holds a bundle. -/
def configReadEffect (h : Hdr) (n off len raddr : Nat) (s : State) : State :=
  s.packet h 0x0204
    { param := (match s.cmd.slotNo n with | some b => decide (off + len ≤ b.length) | none => false) &&
        raddrOk h raddr len } fun s =>
    match s.cmd.slotNo n with
    | some b => (s.interim h 0x0204 .pending).finalReply h 0x0204 raddr (b.bytes.reads off len) (toLe 4 len)
    | none => s

def execConfigRead (h : Hdr) (bundle : Byte) (offset length : Word) (raddr : Dword) (s : State) : Out :=
  .next (configReadEffect h bundle.toNat offset.toNat length.toNat raddr.toNat s)

/-- CONFIG_STORE: the active bundle goes to the boot store; an empty slot is refused with ST_BAD_PARAM. -/
def configStoreEffect (h : Hdr) (s : State) : State :=
  s.packet h 0x0206 { param := s.cmd.active.isSome, state := if s.cmd.storing.isSome then some .busy else none } fun s =>
    match s.cmd.active with
    | some b => (s.interim h 0x0206 .pending).onCmd fun c => { c with storing := some (h, b) }
    | none => s

def execConfigStore (h : Hdr) (s : State) : Out := .next (configStoreEffect h s)

/-- The bundle is written and verified; until it verifies, the command stays open and the store keeps its former bundle. -/
def configStoreDoneEffect (ok : Bool) (s : State) : State :=
  match s.cmd.storing with
  | none => s
  | some (h, b) =>
    if !ok then s
    else ((s.onCmd fun c => { c with storing := none }).onSec fun p => { p with
      nor := { p.nor with bundle := some (b.bytes, b.length) } }).final h 0x0206 .ok (toLe 4 b.gen)

end Sys2Proof.Machine
end

