-- ==== Sys2Proof/Machine/VetchItems.lean ====
section
/-! DEFINITION. The Vetch window, the proposal network and the hand-off item of a tick (08 R205, R213 to R225; 03 R100, R101,
R105; 04 R126, R127, R134). -/

namespace Sys2Proof.Machine

/-! ### Units and window (08 R205, R221, R223) -/

/-- n_V, the logical units in service. -/
def VetchSt.nV (v : VetchSt) : Nat := v.phys.length

/-- The Vetch lengths of a slot: values of the bundle for its model and shape (R221). -/
def State.vetLen (s : State) (n : Nat) (f : FgSlot) : VetLen :=
  match (s.entryOf f.model).shape f.rec'.waypoints f.rec'.spheres with
  | some e => ⟨n, e.lF, e.lIt, e.lS, e.lReg⟩
  | none => ⟨n, 0, 0, 0, 0⟩

/-- The contexts of a slot's logical unit in slot order (R205). -/
def State.unitLens (s : State) (n : Nat) : List VetLen :=
  (s.planSlots.filter fun e => e.1 % s.vetch.nV == n % s.vetch.nV).map fun (e : Nat × FgSlot) => s.vetLen e.1 e.2

/-- V_s and V_e (R221), with 64 ac of reserve before the latter. -/
def State.vetStart (s : State) : Nat := s.tick.acE - ((s.bundle.map (·.vetLead)).getD 180000)
def State.vetEnd (s : State) : Nat := s.tick.acE - ((s.bundle.map (·.vetEndLead)).getD 40000)

/-- Place of a slot among the contexts of its unit. -/
def State.vetPlace (s : State) (n : Nat) : Nat := (firstIx (fun (l : VetLen) => l.slot == n) (s.unitLens n)).getD 0

/-- D_R of a slot (R221). -/
def State.vetDeadlineOf (s : State) (n : Nat) : Nat := vetDeadline s.vetStart s.vetEnd (s.unitLens n) (s.vetPlace n)

/-- Whether the mandatory items of a slot fit on its unit (R223). -/
def State.vetFitsSlot (s : State) (n : Nat) : Bool :=
  decide (0 < s.vetch.nV) && vetFits s.vetStart s.vetEnd (s.unitLens n) (s.vetPlace n)

/-- D_V of the unit that serves a slot: 0 for a logical unit on its own physical unit (R205; log entry 34). -/
def State.vetDelayOf (s : State) (n : Nat) : Nat :=
  let v := n % s.vetch.nV
  let p := s.vetch.phys.getD v v
  if p = v then 0 else (Config.vetDelay p v).toNat % 65

/-- The slots before a slot on its unit whose items run. -/
def State.vetEarlier (s : State) (n : Nat) : List Nat :=
  ((s.unitLens n).map (·.slot)).filter fun m => decide (m < n) && s.vetFitsSlot m

/-- Whether a slot's feasibility item is the next item of its unit: the contexts before it have ended theirs (R205, R221). -/
def State.vetTurn (s : State) (n : Nat) : Bool :=
  s.vetFitsSlot n && (s.vetEarlier n).all fun m => (s.vetSlot m).phase == .done || (s.vetSlot m).phase == .cut

/-- The ac at which a slot's feasibility item starts, its unit's delay left out (R221). -/
def State.vetBegin (s : State) (n : Nat) : Nat := (s.vetEarlier n).foldl (fun a m => max a (s.vetSlot m).nextAc) s.vetStart

/-- A slot's context, where it plans in the running tick of a device that runs Vetch (19 R473). -/
def State.vetFg (s : State) (n : Nat) : Option FgSlot :=
  if s.casc.memberInService then none
  else match s.fgSlot n with
    | some f => if f.drain then none else some f
    | none => none

/-- The die result that was published for a slot in the running tick (07 R196). -/
def State.vetResult (s : State) (n : Nat) : Option DieRes :=
  if (s.popSlot n).valid then ((s.popSlot n).result).filter fun d => d.tick == s.tickNo else none

/-- The robot model of a slot, and its root frame in the tick. -/
def State.vetModel (s : State) (f : FgSlot) : RobotModel := (s.entryOf f.model).model
def State.vetRoot (s : State) (f : FgSlot) : Frame := (s.rootOf f (s.statePrev f.ctx)).1

/-! ### Feasibility (R213) -/

/-- The entry of rank r before refinement: null beyond VALID_N, else the candidate as Lupin regenerates it, checked. -/
def State.vetEntry (s : State) (n : Nat) (f : FgSlot) (d : DieRes) (blank : Word) (r : Nat) : HEntry :=
  let null : HEntry := { rank := r, peakTau := blank, peakPow := blank, gnCost0 := blank, gnCost := blank, blank := blank }
  match d.entries[r]? with
  | none => null
  | some p =>
    match (s.genCtx n f).candOfIndex p.index with
    | none => null
    | some c =>
      let x := dynFeas (s.vetModel f) f.rec' (s.vetRoot f) c.form f.rec'.waypoints
      { null with
        index := p.index
        key := p.key
        cost := p.cost
        valid := true
        dynOk := x.ok
        cause := x.cause
        peakTau := x.peakTau
        peakPow := x.peakPow.getD 0
        worstJoint := x.peakJoint
        worstWp := x.peakWp
        form := c.form
        minClr := p.minClr
        source := c.src.code
        treeParent := c.treeParent }

/-- What follows an item of the slot: another iteration where one may start, else the stop item (R218, R221, R222). -/
def State.vetNext (s : State) (n : Nat) (f : FgSlot) : State :=
  let v := s.vetSlot n
  let go := v.refRank.isSome && decide (v.itersTried < f.rec'.iterMax) &&
    decide (v.nextAc + (s.vetLen n f).lIt ≤ s.vetDeadlineOf n)
  s.updVetSlot n fun v => { v with phase := if go then .refining else .stopping }

/-- GN_COST0 and GN_COST of the entry that refinement takes (R214). -/
def State.vetCost0 (s : State) (f : FgSlot) (e : HEntry) : HEntry :=
  let c := iterCost (s.vetModel f) f.rec' (s.vetRoot f) e.form f.rec'.waypoints
  { e with
    gnCost0 := c
    gnCost := c }

/-- The feasibility item of a slot; a word it cannot read makes the hand-off SHIFTED (R223). -/
def vetchFeasibilityEffect (n : Nat) (m : ItemFault) (s : State) : State := s.item fun s =>
  match s.vetFg n with
  | none => s
  | some f =>
    if (s.vetSlot n).phase != .idle || !s.vetTurn n then s
    else
      let at0 := s.vetBegin n
      let s := s.fgFault m
      if m.uncorrectable.isSome then s.updVetSlot n fun v => { v with
        phase := .cut
        nextAc := at0 }
      else
        let r := s.fresh
        let s := r.2
        let es := match s.vetResult n with
          | some d => (List.range 8).map (s.vetEntry n f d (r.1.setWidth 32))
          | none => []
        let best := firstIx HEntry.dynOk es
        let es := match best with
          | some i => modAt (s.vetCost0 f) es i
          | none => es
        let s := s.updVetSlot n fun v => { v with
          work := es
          refRank := best
          itersTried := 0
          nextAc := at0 + (s.vetLen n f).lF }
        s.vetNext n f

def execVetchFeasibility (slot : Fin 16) (m : ItemFault) (s : State) : Out := .next (vetchFeasibilityEffect slot m s)

/-! ### Refinement (R214 to R218) -/

/-- Pivots replaced in an iteration (R216). -/
def VetchSt.pivots (v : VetchSt) (k : Nat) : VetchSt :=
  if k = 0 then v
  else { v with
    pivotReg := true
    pivotCnt := v.pivotCnt.add k }

/-- An accepted iterate (R218). -/
def HEntry.accept (e : HEntry) (k : KnotForm) (cost : Word) (replaced : Nat) : HEntry :=
  { e with
    form := k
    gnCost := cost
    refined := true
    iters := e.iters + 1
    pivotReg := e.pivotReg || decide (0 < replaced) }

/-- A refinement made invalid: the entry as iterate 0 (R217). -/
def HEntry.invalidate (e : HEntry) (form0 : KnotForm) (replaced : Nat) : HEntry :=
  { e with
    form := form0
    gnCost := e.gnCost0
    refined := false
    refineInvalid := true
    iters := 0
    pivotReg := e.pivotReg || decide (0 < replaced) }

/-- One iteration on the entry of a slot (R218). -/
def State.vetIterate (s : State) (n : Nat) (f : FgSlot) (r : Nat) (e : HEntry) : State :=
  let len := (s.vetLen n f).lIt
  let put (s : State) (e : HEntry) : State := s.updVetSlot n fun v => { v with
    work := v.work.set r e
    itersTried := v.itersTried + 1
    nextAc := v.nextAc + len }
  let stop (s : State) : State := s.updVetSlot n fun v => { v with phase := .stopping }
  match gnIterate (s.vetModel f) f.rec' (s.vetRoot f) e.form f.rec'.waypoints e.gnCost with
  | .accepted k cost _ replaced converged =>
    let s := put (s.onVetch fun v => v.pivots replaced) (e.accept k cost replaced)
    if converged then stop s else s.vetNext n f
  | .rejected replaced =>
    stop (put (s.onVetch fun v => v.pivots replaced) { e with pivotReg := e.pivotReg || decide (0 < replaced) })
  | .invalid replaced =>
    let form0 := (((s.genCtx n f).candOfIndex e.index).map (·.form)).getD e.form
    stop (put (s.onVetch fun v => { v.pivots replaced with overflowF := true }) (e.invalidate form0 replaced))

/-- An iteration of a slot. -/
def vetchIterationEffect (n : Nat) (m : ItemFault) (s : State) : State := s.item fun s =>
  let v := s.vetSlot n
  match s.vetFg n, v.refRank.bind fun r => (v.work[r]?).map fun e => (r, e) with
  | some f, some (r, e) =>
    if v.phase != .refining then s
    else
      let s := s.fgFault m
      if m.uncorrectable.isSome then s.updVetSlot n fun v => { v with phase := .cut }
      else s.vetIterate n f r e
  | _, _ => s

def execVetchIteration (slot : Fin 16) (m : ItemFault) (s : State) : Out := .next (vetchIterationEffect slot m s)

/-! ### Stop manoeuvre (R219) -/

/-- The stop of an entry. -/
def State.vetStopEntry (s : State) (f : FgSlot) (e : HEntry) : HEntry :=
  if e.dynOk then
    let st := stopOf (s.vetModel f) f.rec' (s.vetRoot f) e.form f.rec'.waypoints s.tick.periodUs
    { e with
      stop := st
      stopOk := st.isSome
      stopNone := st.isNone }
  else e

/-- The stop item of a slot. -/
def vetchStopEffect (n : Nat) (m : ItemFault) (s : State) : State := s.item fun s =>
  let v := s.vetSlot n
  match s.vetFg n with
  | none => s
  | some f =>
    if v.phase != .stopping then s
    else
      let s := s.fgFault m
      if m.uncorrectable.isSome then s.updVetSlot n fun v => { v with phase := .cut }
      else
        let es := v.work.map (s.vetStopEntry f)
        (s.onVetch fun x => { x with stopNone := x.stopNone || es.any HEntry.stopNone }).updVetSlot n fun v => { v with
          work := es
          nextAc := v.nextAc + (s.vetLen n f).lS
          phase := .done }

def execVetchStop (slot : Fin 16) (m : ItemFault) (s : State) : Out := .next (vetchStopEffect slot m s)

/-- An item or an iteration abandoned: CUT and its count (R222). -/
def VetchSt.cut (v : VetchSt) : VetchSt :=
  { v with
    cutF := true
    cutCnt := v.cutCnt.incr }

/-- The window's cuts, which only a tick that a stall has marked meets (R222): a refinement past its deadline keeps its last
accepted iterate; a feasibility or stop item unfinished at V_e − 64 makes the hand-off SHIFTED. -/
def vetchWindowCutEffect (n : Nat) (s : State) : State := s.item fun s =>
  if (s.vetFg n).isNone || !s.zheda.trace.nonrepro then s
  else match (s.vetSlot n).phase with
    | .refining => (s.onVetch VetchSt.cut).updVetSlot n fun v => { v with
        cutNow := v.itersTried + 1
        phase := .stopping }
    | .idle => if s.vetTurn n then (s.onVetch VetchSt.cut).updVetSlot n fun v => { v with phase := .cut } else s
    | .stopping => (s.onVetch VetchSt.cut).updVetSlot n fun v => { v with phase := .cut }
    | _ => s

def execVetchWindowCut (slot : Fin 16) (s : State) : Out := .next (vetchWindowCutEffect slot s)

/-! ### Proposal network (03 R100, R101, R105) -/

/-- The proposal network of a slot's context, for the next tick: its buffer is VALID only when the last element is written. -/
def proposalNetworkEffect (n : Nat) (m : ItemFault) (s : State) : State := s.item fun s =>
  match s.fgSlot n with
  | none => s
  | some f =>
    match (s.entryOf f.model).proposal with
    | none => s
    | some g =>
      let key := f.ctx * 2 + (s.tickNo + 1) % 2
      let s := s.fgFault m
      if m.uncorrectable.isSome || !s.astersRun then
        s.onAster fun a => { a with
          mixes := Tbl.put a.mixes key {}
          proposalInvalid := true }
      else
        let words := (((s.stateNow f.ctx).map RobotState.words).getD [])
        let r := g.eval { seed := f.seed, base := 0xA0100000, tick := s.tickNo }
          [(0, fp32Tensor (Config.features (Mem.reads f.rec' 0x800 256) words))]
        s.onAster fun a => { (a.counted r.2) with
          mixes := Tbl.put a.mixes key { valid := true, data := r.1.words } }

def execProposalNetwork (slot : Fin 16) (m : ItemFault) (s : State) : Out := .next (proposalNetworkEffect slot m s)

/-! ### The hand-off item (08 R223 to R225; 04 R126, R127, R134) -/

/-- The hand-off that a slot's context wrote in tick k − 1, if it did and its robot model is in force (R223). -/
def State.handoffPrev (s : State) (n ctx : Nat) : Option HandOff :=
  ((s.vetSlot n).handoff).filter fun h => h.ctx == ctx && h.tick + 1 == s.tickNo

/-- A form shifted by one tick, as an entry of a SHIFTED hand-off takes it (04 R126; 09 R232). -/
def State.shiftForm (s : State) (js : List Joint) (k : KnotForm) : KnotForm :=
  { ts := s.tsNow, dc := k.dc, anchor := k.eval js s.tick.periodUs 1,
    knots := k.shiftKnots js k.knots.length k.dc s.tick.periodUs }

/-- The entries of a SHIFTED hand-off (R223). -/
def State.shiftEntries (s : State) (f : FgSlot) (h : HandOff) : List HEntry :=
  h.entries.map fun e => { e with
    form := if e.valid then s.shiftForm (f.js s) e.form else e.form
    shiftAge := e.shiftAge + 1
    shifted := true }

/-- Why a slot's hand-off is not its own: cut, faulted, not finished, or not fitting (R223). -/
def State.vetShifted (s : State) (n : Nat) (m : ItemFault) : Bool :=
  m.uncorrectable.isSome || !s.vetFitsSlot n || (s.vetSlot n).phase != .done

/-- The SHIFTED hand-off of a slot, before SHIFT_RUN is counted (R223). -/
def State.shiftedHandoff (s : State) (n : Nat) (f : FgSlot) : HandOff :=
  match (s.handoffPrev n f.ctx).filter fun h => !h.stale with
  | some h => { h with
      slot := n
      state := .shifted
      tick := s.tickNo
      entries := s.shiftEntries f h }
  | none => { ctx := f.ctx, slot := n, state := .shifted, tick := s.tickNo }

/-- The hand-off of a slot, before SHIFT_RUN is counted: SHIFTED, NONE, PLAN or NO_FEASIBLE (R223, R225; 09 R502). -/
def State.ownHandoff (s : State) (n : Nat) (f : FgSlot) (m : ItemFault) : HandOff :=
  if s.vetShifted n m then s.shiftedHandoff n f
  else match s.vetResult n with
    | none => { ctx := f.ctx, slot := n, state := .none, tick := s.tickNo }
    | some d =>
      let es := (s.vetSlot n).work
      { ctx := f.ctx, slot := n, state := if es.any fun e => e.dynOk && e.stopOk then .plan else .noFeasible,
        iters := maxN (es.map (·.iters)), tick := s.tickNo, entries := es, version := s.zheda.trace.heldVer,
        stateTick := (s.input f.ctx).prev.map (·.2), infIndex := d.infIndex, infCost := d.infCost,
        criticSkipped := d.criticSkipped }

/-- SHIFT_RUN counted, and STOP_REQ from SHIFT_LIMIT on (R224). -/
def HandOff.counted (h : HandOff) (run limit : Nat) : HandOff :=
  if h.state = .shifted then
    let r := min 255 (run + 1)
    { h with
      shiftRun := r
      state := if max 1 limit ≤ r then .stopReq else .shifted }
  else { h with shiftRun := 0 }

/-- The slot window after the Vetch window (Table 8-8). -/
def VetSlot.window (v : VetSlot) (h : HandOff) (l : VetLen) (unit deadline delay : Nat) : VetSlot :=
  { v with
    valid := true
    unit := unit
    ctx := h.ctx
    lenF := l.lF
    lenIt := l.lIt
    lenS := l.lS
    deadline := deadline
    endAc := v.nextAc + delay
    shiftRun := h.shiftRun
    state := h.state.code
    cutIter := v.cutNow
    iters := h.iters
    handoff := some h }

/-- The nodes that the next context-load item inserts: the feasible TREE candidates of the top-8, each at its own last knot
with its tree parent (04 R134). -/
def State.treeNodes (s : State) (n : Nat) (f : FgSlot) (h : HandOff) : List (Nat × JVec) :=
  if h.state == .plan || h.state == .noFeasible then
    h.entries.filterMap fun e => if e.valid then
      e.treeParent.map fun p =>
        (p, ((((s.genCtx n f).candOfIndex e.index).map (·.form)).getD e.form).knots.getLastD [])
      else none
  else []

/-- What Lupin takes from a hand-off: the parent table and the nodes to insert (04 R127, R134). -/
def State.lupinTake (s : State) (n : Nat) (f : FgSlot) (h : HandOff) : State :=
  s.updLup f.ctx fun x => { x with
    parents := (h.entries.filter (·.valid)).map (·.form)
    pendingInserts := s.treeNodes n f h }

/-- The hand-off of one slot written. -/
def State.handoffSlot (s : State) (n : Nat) (f : FgSlot) (m : ItemFault) : State :=
  let v := s.vetSlot n
  let run := if v.valid && v.ctx == f.ctx then v.shiftRun else 0
  let h := (s.ownHandoff n f m).counted run s.zheda.ctl.shiftLimit
  let sh := h.state == .shifted || h.state == .stopReq
  let s := s.onVetch fun x => { x with
    shiftedF := x.shiftedF || sh
    shiftCnt := if sh then x.shiftCnt.incr else x.shiftCnt
    stopReq := x.stopReq || h.state == .stopReq }
  let unit := n % s.vetch.nV
  ((s.updVetSlot n fun v => v.window h (s.vetLen n f) unit (s.vetDeadlineOf n) (s.vetDelayOf n)).lupinTake n f h)

/-- What the members take of the hand-offs (19 R473). -/
def State.handoffCopies (s : State) : Tbl HandoffCopy :=
  s.planSlots.map fun (e : Nat × FgSlot) =>
    let x := s.lupCtx e.2.ctx
    (e.1, ⟨x.parents, x.pendingInserts, (s.vetSlot e.1).shiftRun⟩)

/-- STATUS of a member, sent at its program end, where the hand-off item ends (19 R473): its throttle level, the fault entries of the
tick, and its exclusion mask. -/
def State.memberStatus (s : State) : CasMsg :=
  .status (s.tick.maxUnits - s.tick.effUnits) (s.safety.log.filter fun f => f.tick == s.tickNo) s.safety.maskNow

/-- The hand-off item: every planning slot's hand-off, and the windows of the slots that held no planning context. -/
def handoffEffect (m : ItemFault) (s : State) : State := s.item fun s =>
  if s.tick.prog.handedOff then s
  else if s.casc.memberInService then
    (s.updProg fun p => { p with handedOff := true }).castMaster 6 s.memberStatus
  else
    let s := s.fgFault m
    let s := s.onVetch fun v => { v with slots := v.slots.map fun e => (e.1, { e.2 with valid := e.2.valid && (s.vetFg e.1).isSome }) }
    let s := s.planSlots.foldl (fun s (e : Nat × FgSlot) => s.handoffSlot e.1 e.2 m) s
    (s.updProg fun p => { p with handedOff := true }).castAll 7 (.handoff s.handoffCopies)

def execHandoff (m : ItemFault) (s : State) : Out := .next (handoffEffect m s)

end Sys2Proof.Machine
end

