-- ==== Sys2Proof/Machine/CommitItems.lean ====
section
/-! DEFINITION. The C stage of a tick and the egress of its frames: check jobs, the decision item, the egress-select instant,
the transmission gates and the frames sent (09 R228 to R245; 14 R343, R345; 17 R436 to R439, R444). -/

namespace Sys2Proof.Machine

/-! ### Check jobs (09 R229 to R231) -/

/-- The hand-off that the C stage uses for a slot: the one its context wrote in tick e − 1; a draining slot has none
(R228, R240). -/
def State.handoffIn (s : State) (n : Nat) : Option HandOff :=
  match s.fgSlot n with
  | some f => if f.drain then none else s.handoffPrev n f.ctx
  | none => none

/-- The tile that runs check job 8s + r (R229). -/
def State.jobTile (s : State) (n r : Nat) : Option Nat := s.safety.serving ((8 * n + r) % 64)

/-- Both checks of an entry on a tile. -/
def State.runChecks (s : State) (n : Nat) (f : FgSlot) (t : Nat) (e : HEntry) : EntryCheck :=
  let v := s.evalEnv n f t
  { ran := true, seg := segCheck v e.form,
    stop := match e.stop with
      | some st => stopCheck v e.form st.tauB st.tStop
      | none => {} }

/-- What the queries of a check counted (05 R151, R155; 02 R69; 10 R262 FLAGS). -/
def State.checkCounts (s : State) (t : Nat) (c : CheckRes) : State :=
  let s := s.onHarebell fun h => { h with
    posSat := h.posSat || decide (0 < c.posSat)
    posSatCnt := h.posSatCnt.add c.posSat }
  let s := if c.badIndex = 0 then s else s.updStore t fun x => { x with badIndexCnt := x.badIndexCnt.add c.badIndex }
  let s := if c.fserr then s.updTrace fun z => { z with fault := true } else s
  (s.tileUncorrectable t c.ue).tileCorrected t c.ce

/-- The check job of one entry; a null entry, a plan of a model no longer in force, and an engine without a tile give no
check (R233). -/
def commitCheckJobEffect (n r : Nat) (s : State) : State := s.item fun s =>
  if s.casc.memberInService || s.tick.prog.decided then s
  else match s.fgSlot n, s.handoffIn n, s.jobTile n r with
    | some f, some h, some t =>
      match h.entries[r]? with
      | none => s
      | some e =>
        if !e.valid || h.stale then s
        else
          let c := s.runChecks n f t e
          ((s.checkCounts t c.seg).checkCounts t c.stop).updHolSlot n fun x =>
            { x with checks := setAt ((x.checks ++ List.replicate 8 ({} : EntryCheck)).take 8) r c }
    | _, _, _ => s

def execCommitCheckJob (slot : Fin 16) (rank : Fin 8) (s : State) : Out := .next (commitCheckJobEffect slot rank s)

/-! ### The decision item (09 R232 to R241) -/

/-- The egress instant t_x (R232). -/
def State.txInstant (s : State) : Nat := s.tick.stamp + s.tick.emitUs * 1000

/-- Ages of R241: MAX, A_CHECK, A_STATE, A_PLAN; without a robot state behind the plan A_STATE is 255. -/
def agesOf (e wvPlan wvCheck : Nat) (stateTick : Option Nat) : List Nat :=
  let p := min 255 (e - wvPlan)
  let c := min 255 (e - wvCheck)
  let t := match stateTick with | some k => min 255 (e - k) | none => 255
  [max (max p t) c, c, t, p]

/-- What the decision reads for a slot. -/
structure SlotView where
  n : Nat
  f : FgSlot
  h : Option HandOff
  checks : List EntryCheck
  /-- record with its state at t_x -/
  record : HolRecord
  tx : Nat
  grace : Nat

def State.slotView (s : State) (n : Nat) (f : FgSlot) : SlotView :=
  let x := s.holSlot n
  let tx := s.txInstant
  { n := n, f := f, h := s.handoffIn n, checks := x.checks, record := { x.record with state := x.record.stateAt tx },
    tx := tx, grace := s.zheda.ctl.graceNs }

def SlotView.entries (v : SlotView) : List HEntry := (v.h.map (·.entries)).getD []

/-- The first entry in rank order that passes R232. -/
def SlotView.pick (v : SlotView) : Option (Nat × HEntry) := firstPass v.entries v.checks v.tx v.grace

/-- The ages of the plan candidate of a slot (R241). -/
def SlotView.planAges (v : SlotView) (e heldVer : Nat) : List Nat :=
  match v.h with
  | some h => agesOf e h.version heldVer h.stateTick
  | none => [0, 0, 0, 0]

/-- The causes of Table 9-1 that hold for a slot. A slot whose hand-off of the tick before was never written, though the plan was
not discarded, has NO_RESULT (log entry 181). -/
def State.causes (s : State) (v : SlotView) : Causes :=
  let st := v.h.map (·.state)
  let pick := v.pick
  let new := v.f.drain || !(s.holSlot v.n).wasFg
  let c : Causes :=
    { estop := s.commit.estopLatch, frozen := s.commit.freezePrev,
      truncated := s.tick.prog.prevShort,
      stopReq := st == some .stopReq, noResult := st == some .none || (st.isNone && !s.tick.prog.prevShort && !new),
      stale := pick.isSome && decide (s.commit.ageLimit < (v.planAges s.tickNo s.zheda.trace.heldVer).headD 0),
      noFeasible := (st == some .plan || st == some .noFeasible || st == some .shifted) && pick.isNone &&
        !allLateOnly v.entries v.checks,
      lateBranch := lateBranch v.entries v.checks v.tx v.grace, shifted := st == some .shifted, drain := v.f.drain,
      noHandoff := new }
  { c with empty := (c.stops || c.noFeasible || pick.isNone) && v.record.state == .empty }

/-- FLAGS that every frame of the tick carries (Table 9-2). -/
def State.tickFlags (s : State) : Nat :=
  b2n s.tick.prog.throttled + 32 * b2n s.zheda.trace.nonrepro + 64 * b2n s.tick.prog.lost +
  128 * b2n (decide (s.zheda.trace.heldVer + 1 < s.tickNo))

/-- The header fields of a slot's frame (R235, R236). -/
def State.baseFrame (s : State) (v : SlotView) (c : Causes) : TrajFrame :=
  let p := v.f.rec'
  { ctx := v.f.ctx, status := c.status, flags := s.tickFlags, tick := s.tickNo, j := v.f.nJ s, p := p.knots, dc := p.dc,
    infIndex := (v.h.map (·.infIndex)).getD 0xFFFFFFFF, infCost := (v.h.map (·.infCost)).getD 0,
    reasons := c.bits + 65536 * rejectBits v.entries v.checks v.tx v.grace }

/-- AGE and INPUT_AGE of a frame (Table 9-2). -/
def TrajFrame.aged (f : TrajFrame) (stateTick : Option Nat) : TrajFrame :=
  let a := agesOf f.tick f.wvPlan f.wvCheck stateTick
  { f with
    age := a.getD 3 0
    inputAge := a.headD 0 }

/-- The held stop of a slot as a frame, and the cut-off that accepted the robot state behind it (R239). -/
def State.heldOf (s : State) (v : SlotView) (base : TrajFrame) : TrajFrame × Option Nat :=
  let x := s.input v.f.ctx
  let pos := ((x.taken.map fun r => r.1.q.map fun w => sgn 32 w.toNat)).getD []
  let st := if v.record.state == .empty then x.taken.map (·.2) else v.record.stateTick
  let base := if v.record.state == .empty then { base with
      reasons := base.reasons ||| 512
      j := pos.length } else base
  ((heldFrame base (v.f.js s) v.record v.record.state pos base.p v.tx).aged st, st)

/-- The PLAN frame of the entry picked (R233, R236). -/
def State.planOf (s : State) (v : SlotView) (base : TrajFrame) (h : HandOff) (r : Nat) (e : HEntry) : TrajFrame :=
  let f := planFrame base r e (v.checks.getD r {}) h.version s.zheda.trace.heldVer
  { f with flags := f.flags + 2 * b2n (h.state == HState.shifted) + 4 * b2n e.refined + 8 * b2n e.pivotReg +
      16 * b2n h.criticSkipped }.aged h.stateTick

/-- The frame of a slot: none where there is no configuration to hold (R502), else the PLAN picked with its prepared STOP,
or the held stop (R233, R239, R243). -/
def State.frameOf (s : State) (v : SlotView) (c : Causes) : Option QueuedFrame :=
  if v.record.state == .empty && (s.input v.f.ctx).taken.isNone then none
  else
    let base := s.baseFrame v c
    let held := s.heldOf v base
    match v.h, v.pick with
    | some h, some (r, e) =>
      if c.stops then some { slot := v.n, frame := held.1, stateTick := held.2 }
      else some { slot := v.n, frame := s.planOf v base h r e, prepared := some held.1, stateTick := h.stateTick }
    | _, _ => some { slot := v.n, frame := held.1, stateTick := held.2 }

/-! ### Transmission (09 R238; 14 R345; 17 R436, R437) -/

/-- The egress destination of a context: none for 0xFF, a number above 63, or an unused destination (17 R437). -/
def HostSt.destOf (h : HostSt) (ctx : Nat) : Option EthDest :=
  let d := (Tbl.get 0xFF h.ctxMap ctx).toNat
  if d < 64 then (some (Tbl.get {} h.dests d)).filter fun x => x.ports != 0 else none

/-- D, the largest part of a payload (17 R436). -/
def HostSt.partSize (h : HostSt) (d : EthDest) : Nat :=
  if [0, 1].all fun p => !d.ports.getLsbD p || (h.ports.getD p {}).jumbo then 8972 else 1472

/-- A protected frame: the header of Table 14-1 and the payload (14 R343). -/
def protected_ (id counter time : Nat) (data : List Byte) : List Byte :=
  let h := toLe 2 id ++ toLe 2 counter ++ toLe 4 data.length ++ toLe 8 time
  h ++ toLe 4 (crc32c (h ++ data)).toNat ++ data

/-- A 48-bit saturating count, one more. -/
def satInc48 (v : BitVec 48) : BitVec 48 := if v = BitVec.allOnes 48 then v else v + 1

/-- The window of a slot given a frame's KIND, RANK, STATUS and REASONS (Table 9-10). -/
def HolSlot.showFrame (x : HolSlot) (f : TrajFrame) : HolSlot :=
  { x with
    kind := f.kind
    rank := f.rank
    status := f.status.code
    reasons := f.reasons }

/-- A frame transmitted does what R238 says to the record, and is counted (09 R238, R247; 11 Table 11-7); the window shows the
frame sent and the record it leaves (log entry 61). -/
def State.frameEmitted (s : State) (q : QueuedFrame) : State :=
  let f := q.frame
  let x := s.ctx f.ctx
  let s := s.setCtx f.ctx { x with stats := modAt satInc48 x.stats (1 + f.kind) }
  let s := if f.kind = 0 then s else s.onCommit fun c => { c with stopFrameCnt := c.stopFrameCnt.incr }
  s.updHolSlot q.slot fun y => HolSlot.showRecord (HolSlot.showFrame { y with
    emittedPlan := f.kind == 0
    record := if f.kind = 0 then f.toRecord q.stateTick
      else if f.kind = 1 && y.record.state == .held then { y.record with state := .stopping }
      else y.record } f)

/-- The COUNTER values of a transmitted payload: consecutive for its parts (14 R345). -/
def State.takeCounter (s : State) (ctx parts : Nat) : Half × State :=
  let c := Tbl.get (0 : Half) s.safety.outCounters ctx
  (c, s.onSafety fun f => { f with outCounters := Tbl.put f.outCounters ctx (c + BitVec.ofNat 16 parts) })

/-- The frame of a slot replaced. -/
def State.updFrame (s : State) (n : Nat) (g : QueuedFrame → QueuedFrame) : State :=
  s.onCommit fun c => { c with frames := c.frames.map fun q => if q.slot = n then g q else q }

/-- A payload written to the egress area; that of a context without a destination counts as transmitted (17 R437). -/
def State.writeEgress (s : State) (q : QueuedFrame) : State :=
  let ctx := q.frame.ctx
  let put (s : State) (k : Option Half) : State := s.onHost fun h => { h with
    egress := Tbl.put h.egress q.slot { ctx := ctx, payload := q.frame.bytes, time := s.txInstant, counter := k } }
  match s.host.destOf ctx with
  | some _ => put s none
  | none =>
    let r := s.takeCounter ctx 1
    ((put r.2 (some r.1)).frameEmitted q).updFrame q.slot fun y => { y with
      sent := true
      counter := some r.1 }

/-! ### The decision (09 R233, R234, R247) -/

/-- The sticky flags and counts of a slot's causes (Tables 9-9 and 9-10). -/
def CommitSt.counted (c : CommitSt) (k : Causes) (late : Bool) : CommitSt :=
  { c with
    frozenF := c.frozenF || k.frozen
    timeoutF := c.timeoutF || k.truncated || k.stopReq || k.noResult || k.lateBranch
    noFeasF := c.noFeasF || k.noFeasible
    lateF := c.lateF || late
    staleF := c.staleF || k.stale
    staleCnt := if k.stale then c.staleCnt.incr else c.staleCnt }

/-- Whether an entry failed only the instant of R232. -/
def SlotView.anyLate (v : SlotView) : Bool :=
  v.entries.zipIdx.any fun (e : HEntry × Nat) => entrySound e.1 (v.checks.getD e.2 {}) && !entryInTime e.1 v.tx v.grace

/-- The windows of a slot at the end of the decision item (Table 9-10); without a frame only VALID and ages change (R502). -/
def HolSlot.window (x : HolSlot) (v : SlotView) (q : Option QueuedFrame) : HolSlot :=
  match q with
  | none => { x with
      valid := false
      ages := modAt (fun _ => 255) (modAt (fun _ => 255) x.ages 0) 2 }
  | some q =>
    let f := q.frame
    HolSlot.showRecord (HolSlot.showFrame { x with
      valid := true
      drain := v.f.drain
      ages := agesOf f.tick f.wvPlan f.wvCheck q.stateTick } f)

/-- The decision of one slot. -/
def State.decideSlot (s : State) (n : Nat) (f : FgSlot) : State :=
  let v := s.slotView n f
  let c := s.causes v
  let q := s.frameOf v c
  let hold := match q with | some q => q.frame.kind != 0 | none => true
  let s := (s.onCommit fun m => { (m.counted c v.anyLate) with
      frames := m.frames ++ q.toList
      safeFrames := m.safeFrames || (hold && m.safeMask.getLsbD n) }).updHolSlot n fun x => { x with
    record := { x.record with state := x.record.stateAt v.tx }
    drainDone := f.drain && v.record.state == .atRest }
  let s := if c.frozen then s.updTrace fun t => { t with fault := true } else s
  let s := match q with | some q => s.writeEgress q | none => s
  s.updHolSlot n fun x => x.window v q

/-- The anchor that a slot's frame leaves, as a DECISION transfer gives it (19 R473). -/
def State.decisionAnchors (s : State) : Tbl (JVec × Option KnotForm) :=
  s.planSlots.filterMap fun (e : Nat × FgSlot) =>
    let plan := s.commit.frames.any fun q => q.slot == e.1 && q.frame.kind == 0
    ((s.updHolSlot e.1 fun x => { x with emittedPlan := plan }).anchorOf e.1 e.2).map fun a => (e.1, a)

/-- The decision item: every foreground or draining slot in ascending order (R233, R236, R245). -/
def decisionItemEffect (s : State) : State := s.item fun s =>
  if s.casc.memberInService || s.tick.prog.decided then s
  else
    let s := (s.updProg fun p => { p with decided := true }).updTrace fun t => { t with
      estopDecision := s.commit.estopLatch }
    let s := s.onCommit fun c => { c with
      frames := []
      selected := false
      safeFrames := false
      slots := c.slots.map fun e => (e.1, { e.2 with valid := false }) }
    let s := s.teasel.fg.foldl (fun s (e : Nat × FgSlot) => s.decideSlot e.1 e.2) s
    s.castAll 3 (.decision s.decisionAnchors)

def execDecisionItem (s : State) : Out := .next (decisionItemEffect s)

/-! ### Egress (09 R243; 17 R437 to R439) -/

/-- Ports on which a context's payload can leave: in the mask, enabled and in service (17 R437; 16 R400). -/
def HostSt.openPorts (h : HostSt) (ctx : Nat) : List Nat :=
  match h.destOf ctx with
  | some d => [0, 1].filter fun p => d.ports.getLsbD p && (h.ports.getD p {}).en && !h.xtalOut
  | none => []

/-- The prepared STOP in place of a PLAN (R243). -/
def QueuedFrame.toStop (q : QueuedFrame) (stateTick : Option Nat) : QueuedFrame :=
  match q.prepared with
  | some f => { q with
      frame := { f with
        status := .estop
        reasons := f.reasons ||| 1 }
      prepared := none
      stateTick := stateTick
      sent := false
      counter := none }
  | none => q

/-- One frame at the egress-select instant. -/
def State.selectFrame (s : State) (q : QueuedFrame) : State :=
  let latched := s.commit.estopLatch && q.prepared.isSome
  let q' := if latched then q.toStop (s.holSlot q.slot).record.stateTick else q
  let s := s.updFrame q.slot fun _ => { q' with todo := s.host.openPorts q.frame.ctx }
  if latched then s.writeEgress q' else s

/-- The egress-select instant: the latch is sampled, and the frames are given to their ports (R243; 17 R438). -/
def egressSelectEffect (time : Nat) (s : State) : State :=
  let s := s.advance time
  if !s.running || !s.tick.prog.decided || s.commit.selected then s
  else
    let s := (s.onCommit fun c => { c with selected := true }).updTrace fun t => { t with estopEgress := s.commit.estopLatch }
    s.commit.frames.foldl State.selectFrame s

def execEgressSelect (time : Nat) (s : State) : Out := .next (egressSelectEffect time s)

/-- The gate of a port opens (17 R438). -/
def egressGateOpenEffect (p time : Nat) (s : State) : State :=
  let s := s.advance time
  s.onHost fun h => { h with ports := modAt (fun x => { x with gate := x.en }) h.ports p }

def execEgressGateOpen (port : Fin 2) (time : Nat) (s : State) : Out := .next (egressGateOpenEffect port time s)

/-- The gate of a port closes: what has not been sent on it is discarded and counted (17 R438). -/
def egressGateCloseEffect (p : Nat) (s : State) : State :=
  let late := (s.commit.frames.filter fun q => p ∈ q.todo).length
  let s := s.onCommit fun c => { c with frames := c.frames.map fun q => { q with todo := q.todo.filter (· != p) } }
  s.onHost fun h => { h with
    txLate := h.txLate || decide (0 < late)
    ports := modAt (fun x => { x with
      gate := false
      txLateCnt := x.txLateCnt.add late }) h.ports p }

def execEgressGateClose (port : Fin 2) (s : State) : Out := .next (egressGateCloseEffect port s)

/-- The parts of a payload as frames of a port: encapsulation header, protection header and data (17 R434, R436). -/
def wireFrames (p : Nat) (d : EthDest) (parts : List (List Byte)) (total ctx counter time : Nat) : List WireFrame :=
  parts.zipIdx.map fun (x : List Byte × Nat) =>
    { port := p, dest := d.mac, tci := d.tci,
      bytes := [1, 0, BitVec.ofNat 8 x.2, BitVec.ofNat 8 parts.length] ++ toLe 4 total ++
        protected_ (0x3000 + ctx) ((counter + x.2) % 65536) time x.1 }

/-- The copies that EP3 IN mirrors of a payload that Ethernet sends (17 R444). -/
def HostSt.mirror (h : HostSt) (ws : List WireFrame) : HostSt :=
  if h.trajMirror && h.usbEn && h.usbConnected then
    { h with usbIn := h.usbIn ++ ws.map fun w => .mirror (w.bytes.drop 8) }
  else h

/-- Whether a port sends a frame now: its gate is open, egress is not frozen, and no earlier frame of the tick waits on it
(17 R438; 09 R246). -/
def State.sendsNow (s : State) (q : QueuedFrame) (p : Nat) : Bool :=
  s.commit.selected && !s.commit.egressFrozen && (s.host.ports.getD p {}).gate && (s.host.openPorts q.frame.ctx).contains p &&
  q.todo.contains p && s.commit.frames.all fun o => !(decide (o.slot < q.slot) && o.todo.contains p)

/-- The last part of a slot's payload has been sent whole on a port (17 R437 to R439; 14 R345; 09 R238). -/
def trajFrameSentEffect (n p : Nat) (s : State) : State :=
  match s.commit.frames.find? fun q => q.slot == n with
  | none => s
  | some q =>
    match s.host.destOf q.frame.ctx with
    | none => s
    | some d =>
      if !s.up || !s.sendsNow q p then s
      else
        let data := q.frame.bytes
        let parts := chunks (s.host.partSize d) data.length data
        let r := match q.counter with
          | some c => (c, s)
          | none => s.takeCounter q.frame.ctx parts.length
        let ws := wireFrames p d parts data.length q.frame.ctx r.1.toNat s.txInstant
        let first := !q.sent
        let s := (r.2.updFrame n fun y => { y with
          sent := true
          counter := some r.1
          todo := y.todo.filter (· != p) }).onHost fun h => { h with
            wire := h.wire ++ ws
            ports := modAt (fun x => { x with txCnt := x.txCnt.add parts.length }) h.ports p
            egress := Tbl.upd { ctx := 0, payload := [], time := 0, counter := none } h.egress n fun x => { x with counter := some r.1 } }
        if first then (s.onHost fun h => h.mirror ws).frameEmitted q else s

def execTrajFrameSent (slot : Fin 16) (port : Fin 2) (s : State) : Out := .next (trajFrameSentEffect slot port s)

end Sys2Proof.Machine
end

