-- ==== Sys2Proof/Machine/Zheda.lean ====
section
/-! DEFINITION. Snapshots, checkpoints, Zheda records and the snapshot commands (10 R255 to R264; 13 Table 13-7 group 0x08).
What a replay step runs stands beside the tick edge, which it uses. -/

namespace Sys2Proof.Machine

/-! ### S(k) (R259, Table 10-5) -/

/-- The configuration of a foreground slot's grid as section 8 holds it. -/
def CflSlot.snap (n : Nat) (x : CflSlot) : SnapGrid :=
  { slot := n, ctx := x.ctx, pubValid := x.pubValid, grid := if x.pubSel then x.buf1 else x.buf0, pub := x.pub.val.toNat }

/-- Section 6 of a context; nothing where it is empty. -/
def LupCtx.snap (l : LupCtx) : LupSnap :=
  { parents := l.parents, inserts := l.pendingInserts, frontier := (l.tree.map (·.frontier)).getD [],
    nodes := (l.tree.map (·.nodes.length)).getD 0, tree := l.tree.isSome }

/-- F(k − 1): the field of the lowest tile in service that holds a valid one (R259). -/
def State.heldField (s : State) : Option BuiltField :=
  ((List.range 72).find? fun t => (s.safety.tile t).role != .failed && (s.store t).valid).map fun t =>
    let f := s.store t
    { version := f.version.val.toNat, origin := f.origin, t0 := f.t0.val.toNat, layerMs := f.layerMs, img := f.img, crc := f.crc }

/-- S(k), from the state that the ticks before k left. -/
def State.takeSnap (s : State) (k : Nat) : Snapshot :=
  { k := k, profile := s.ident.profile.toNat, fw := s.zheda.fw, cfgDigest := s.zheda.digest, stamp := s.tick.stamp,
    effUnits := s.tick.effUnits, recoverCnt := s.tick.recoverCnt, estopLatch := s.commit.estopLatch,
    slots := s.teasel.fg.map fun e => (e.1, (e.2.ctx, e.2.drain)),
    origin := s.world.origin, zones := s.world.zones, srcStale := s.world.srcStale, ctl := s.zheda.ctl,
    field := s.heldField, history := s.aster.history.take 63,
    sources := s.world.sources.map fun e => (e.1, { e.2 with held := [] }),
    inputs := s.world.inputs.map fun e => (e.1, { e.2 with waiting := [], prev := none }),
    ctxs := s.teasel.ctxs,
    mixes := s.teasel.fg.filterMap fun e => (Tbl.find? s.aster.mixes (2 * e.2.ctx + k % 2)).map fun m => (2 * e.2.ctx + k % 2, m),
    lupin := s.lupin.ctxs.map fun e => (e.1, e.2.snap),
    routes := s.lupin.ctxs.filterMap fun e => e.2.routes.map fun r => (e.1, r),
    grids := (s.cornflower.slots.filter fun e => e.2.valid).map fun e => e.2.snap e.1,
    handoffs := s.vetch.slots.filterMap fun e => e.2.handoff,
    records := s.commit.slots.map fun e => (e.1, e.2.record) }

/-! ### A loaded S(k) (R258) -/

/-- The segments and stamps of the ingest store: frames held for a later cut-off stay (R256). -/
def WorldSt.loadInputs (w : WorldSt) (x : Snapshot) : WorldSt :=
  let keys := (List.range 16)
  { w with
    sources := keys.foldl (fun t i =>
      let o := Tbl.get {} w.sources i
      Tbl.put t i { o with used := (Tbl.get {} x.sources i).used }) w.sources
    inputs := (List.range 1024).foldl (fun t c =>
      if (Tbl.find? w.inputs c).isSome || (Tbl.find? x.inputs c).isSome then
        Tbl.put t c { Tbl.get {} w.inputs c with
          taken := (Tbl.get {} x.inputs c).taken
          prev := none }
      else t) w.inputs }

/-- The Lupin state of a context from a snapshot; tree nodes outside the frontier are not in S(k): those held stay, and the
count is made up with blank nodes. -/
def LupCtx.load (l : LupCtx) (x : Option LupSnap) (r : Option RouteSet) : LupCtx :=
  let l := { l with
    mix := none
    routes := r }
  match x with
  | none => { l with
      parents := []
      pendingInserts := []
      tree := none }
  | some x =>
    let old := ((l.tree.map (·.nodes)).getD []).take x.nodes
    { l with
      parents := x.parents
      pendingInserts := x.inserts
      tree := if x.tree then some {
          nodes := old ++ List.replicate (x.nodes - old.length) ⟨0, 0, 0, []⟩
          frontier := x.frontier } else none }

/-- The field of a snapshot in every tile that is not failed. -/
def State.loadField (s : State) (x : Snapshot) : State :=
  (List.range 72).foldl (fun s t =>
    if (s.safety.tile t).role == .failed then s
    else s.updStore t fun f => match x.field with
      | none => { f with valid := false }
      | some b => { f with
          valid := true
          version := { f.version with val := BitVec.ofNat 64 b.version }
          origin := b.origin
          t0 := { f.t0 with val := BitVec.ofNat 64 b.t0 }
          layerMs := b.layerMs
          img := b.img
          crc := b.crc
          flips := [] }) s

/-- The state of the device replaced with an S(k). A set ESTOP latch stays set (R256). -/
def State.restore (s : State) (x : Snapshot) : State :=
  let s := s.onTick fun t => { t with
    stamp := x.stamp
    effUnits := x.effUnits
    recoverCnt := x.recoverCnt }
  let s := s.onCommit fun c => { c with
    estopLatch := c.estopLatch || x.estopLatch
    frames := []
    slots := (List.range 16).foldl (fun t n =>
      let drain := (Tbl.get (0, false) x.slots n).2
      Tbl.upd {} t n fun y => { y with
        record := Tbl.get {} x.records n
        emittedPlan := false
        drainDone := drain && (Tbl.get {} x.records n).state == .atRest }) c.slots }
  let s := s.onWorld fun w => { (w.loadInputs x) with
    origin := x.origin
    zones := x.zones
    srcStale := x.srcStale }
  let s := s.onZheda fun z => { z with ctl := x.ctl }
  let s := s.onTeasel fun t => { t with
    ctxs := x.ctxs
    fg := x.slots.map fun (e : Nat × (Nat × Bool)) =>
      let c := Tbl.get {} x.ctxs e.2.1
      (e.1, { ctx := e.2.1, drain := e.2.2, model := c.model, goals := c.goals, seed := c.seed, gen := c.gen, rec' := c.inForce }) }
  let s := s.onAster fun a => { a with
    history := x.history
    mixes := x.mixes }
  let keys := (s.lupin.ctxs.map (·.1)) ++ x.lupin.map (·.1) ++ x.routes.map (·.1)
  let s := s.onLupin fun l => { l with
    ctxs := keys.foldl (fun t c => Tbl.put t c ((Tbl.get {} l.ctxs c).load (Tbl.find? x.lupin c) (Tbl.find? x.routes c))) l.ctxs }
  let s := s.onCornflower fun f => { f with
    slots := x.grids.foldl (fun t g => Tbl.put t g.slot {
      (Tbl.get {} t g.slot) with
      valid := true
      ctx := g.ctx
      pubValid := g.pubValid
      pubSel := false
      buf0 := g.grid
      buf1 := []
      needReset := !g.pubValid
      adopted := none
      shift := {}
      pub := { val := BitVec.ofNat 64 g.pub } }) (f.slots.map fun e => (e.1, { e.2 with
        valid := false
        pubValid := false })) }
  let s := s.onVetch fun v => { v with
    slots := x.handoffs.foldl (fun t h => Tbl.upd {} t h.slot fun y => { y with
      valid := true
      ctx := h.ctx
      shiftRun := h.shiftRun
      handoff := some h }) (v.slots.map fun e => (e.1, { e.2 with
        handoff := none
        shiftRun := 0 })) }
  s.loadField x

/-! ### Image bytes (R260) -/

/-- The image of an S(k). -/
def Snapshot.image (x : Snapshot) : List Byte := snapImage x (Config.snapSections x)

/-- Whether the image digest matches: format, length, CRC and section digest of the header (R258, R260). -/
def imageOk (b : List Byte) : Bool :=
  leAt b 0 2 == 1 && leAt b 48 4 == b.length && decide (240 ≤ b.length) &&
  leAt b 52 4 == (crc32c (b.take 52 ++ (b.drop 64).take 176)).toNat &&
  (b.drop 56).take 8 == (shake256 (b.drop 240)).take 8

/-- The S(k) that an image spells, with the fields of its header. -/
def imageSnap (b : List Byte) : Option Snapshot :=
  (Config.snapOf (b.drop 240)).map fun (x : Snapshot) => { x with
    k := leAt b 8 8
    profile := leAt b 2 1
    fw := BitVec.ofNat 32 (leAt b 4 4)
    cfgDigest := (b.drop 16).take 32 }

/-- The bytes of an image in host memory: as many as its LENGTH says, at most 26,180 KiB (R259). -/
def State.hostImage (s : State) (a : Nat) : List Byte := s.hostRead a (min (leAt (s.hostRead a 64) 48 4) (26180 * 1024))

/-- The image that a command names: a checkpoint slot or host memory. An empty slot and an image that spells no state have no
digest that matches (R258). -/
def State.imageAt (s : State) (src slot addr : Nat) : Option Snapshot :=
  if src = 0 then Tbl.find? s.zheda.ckpts slot
  else
    let b := s.hostImage addr
    if imageOk b then imageSnap b else none

/-- Checks 1 to 3 of R258. -/
def State.imageCheck (s : State) (x : Option Snapshot) : Option Status :=
  match x with
  | none => some .badCrc
  | some x =>
    if x.profile ≠ s.ident.profile.toNat || x.fw != s.zheda.fw then some .replayMismatch
    else if x.cfgDigest != s.zheda.digest then some .configRejected
    else none

/-! ### Rings and REACH (R264) -/

/-- The placing of rings and checkpoints. -/
def State.memPlan (s : State) : MemPlan := ((s.bundle.map (·.plan))).getD {}

/-- Whether two byte ranges overlap. -/
def overlap (a n b m : Nat) : Bool := decide (a < b + m) && decide (b < a + n)

/-- The record of a tick still in the ring. -/
def ZhedaSt.recAt (z : ZhedaSt) (k : Nat) : Option ZRecord := z.records.find? fun r => r.tick == k
def ZhedaSt.jrnAt (z : ZhedaSt) (k : Nat) : Option JTick := z.journal.find? fun r => r.tick == k

/-- Whether every record after a checkpoint's tick, up to LAST, is there without GAP, with its entries (R264). -/
def ZhedaSt.reaches (z : ZhedaSt) (k : Nat) : Bool :=
  let last := z.last.val.toNat
  (List.range (last + 1 - k)).all fun i =>
    match z.recAt (k + i) with
    | none => false
    | some r => (i == 0 || !r.gap) && (!z.journalEn || (z.jrnAt (k + i)).isSome)

/-- REACH after a change of the checkpoints, the records or the journal: REACH_MOVED where its checkpoint is still retained
(Table 10-11). -/
def ZhedaSt.reachUpdate (z : ZhedaSt) : ZhedaSt :=
  let ks := sortBy (fun a b => decide (a ≤ b)) (z.ckpts.map fun e => e.2.k)
  match ks.find? z.reaches with
  | none => z
  | some k => { z with
      reachMoved := z.reachMoved || (decide (z.reach.val.toNat < k) && ks.contains z.reach.val.toNat)
      reach := { z.reach with val := BitVec.ofNat 64 k } }

/-- The place of the next entry of a ring: contiguous, at 0 where the rest of the ring is too short. -/
def ringPlace (pos len size : Nat) : Nat := if pos + len ≤ size then pos else 0

/-- A record put into the record ring, over the oldest (R264); the bytes stand in LPDDR5X (15 R392). -/
def State.putRecord (s : State) (tick : Nat) (bs : List Byte) : State :=
  let p := s.memPlan
  let at_ := ringPlace s.zheda.recPos bs.length p.recSize
  (s.onMem fun m => { m with ddr := m.ddr.writes (p.recBase + at_) bs }).onZheda fun z => { z with
    records := (z.records.filter fun r => !overlap at_ bs.length r.pos r.bytes.length) ++ [⟨tick, bs, at_⟩]
    recPos := at_ + bs.length
    last := { z.last with val := BitVec.ofNat 64 tick } }

/-- The entries of a tick put into the journal ring, over the oldest (R264). -/
def State.putJournal (s : State) (tick : Nat) (l : List JEntry) : State :=
  let p := s.memPlan
  let bs := l.flatMap JEntry.enc
  let at_ := ringPlace s.zheda.jrnPos bs.length p.jrnSize
  (s.onMem fun m => { m with ddr := m.ddr.writes (p.jrnBase + at_) bs }).onZheda fun z => { z with
    journal := (z.journal.filter fun r => !overlap at_ bs.length r.pos r.len) ++ [⟨tick, l, at_, bs.length⟩]
    jrnPos := at_ + bs.length }

/-- A record that is not written (R264). -/
def ZhedaSt.gapped (z : ZhedaSt) : ZhedaSt := { z with
  prevTrace := none
  gapF := true
  gapCnt := z.gapCnt.incr }

/-- ZHEDA_RECORD_WRITE (R262, R264): the record of the tick before, which waits in `prevTrace`. -/
def zhedaRecordWriteEffect (ok : Bool) (s : State) : State :=
  if !s.up then s
  else match s.zheda.prevTrace with
    | none => s
    | some t =>
      if !ok then s.onZheda ZhedaSt.gapped
      else
        let z := s.zheda
        let bs := t.record z.records.getLast? z.fw s.ident.profile.toNat
        let s := s.putRecord t.tick bs
        let s := if z.journalEn then s.putJournal t.tick t.entries else s
        s.onZheda fun z => ({ z with
          prevTrace := none
          faultTick := z.faultTick || t.fault }).reachUpdate

def execZhedaRecordWrite (ok : Bool) (s : State) : Out := .next (zhedaRecordWriteEffect ok s)

/-! ### Checkpoints (R261) -/

/-- CKPT_KEEP in force: 0 acts as 1, above 16 as 16 (Table 10-11). -/
def ZhedaSt.keepN (z : ZhedaSt) : Nat := max 1 (min 16 z.keep.toNat)

/-- CKPT_INTERVAL in force: 0 none, 1 to 15 act as 16 (Table 10-11). -/
def ZhedaSt.intervalN (z : ZhedaSt) : Nat := if z.interval = 0 then 0 else max 16 z.interval.toNat

/-- The slot that a checkpoint goes to: an empty one, else the oldest (R261). -/
def ZhedaSt.oldestSlot (z : ZhedaSt) : Nat :=
  let l := List.range z.keepN
  match l.find? fun i => (Tbl.find? z.ckpts i).isNone with
  | some i => i
  | none => l.foldl (fun b i =>
      if ((Tbl.find? z.ckpts i).map (·.k)).getD 0 < ((Tbl.find? z.ckpts b).map (·.k)).getD 0 then i else b) 0

/-- A checkpoint abandoned (R261). -/
def ZhedaSt.abandon (z : ZhedaSt) : ZhedaSt :=
  match z.capture with
  | none => z
  | some _ => { z with
      capture := none
      ckptAbandoned := true
      abnCnt := z.abnCnt.incr }

/-- The image of a checkpoint slot in LPDDR5X: the slots share the checkpoint area in equal parts (15 R392). -/
def State.putCkpt (s : State) (n : Nat) (x : Snapshot) : State :=
  let p := s.memPlan
  (s.onMem fun m => { m with ddr := m.ddr.writes (p.ckptBase + n * (26180 * 1024)) x.image }).onZheda fun z =>
    ({ z with ckpts := Tbl.put z.ckpts n x }).reachUpdate

/-- CHECKPOINT_CAPTURE (R261): every section copied within its window, or not. -/
def checkpointCaptureEffect (ok : Bool) (s : State) : State :=
  if !s.up then s
  else match s.zheda.capture with
    | none => s
    | some c =>
      if !ok then s.onZheda ZhedaSt.abandon
      else
        let s := s.putCkpt s.zheda.oldestSlot c.snap
        (s.updTrace fun t => { t with ckpt := true }).onZheda fun z => { z with
          capture := none
          ckptDone := true }

def execCheckpointCapture (ok : Bool) (s : State) : Out := .next (checkpointCaptureEffect ok s)

/-! ### SNAP_PAUSE, SNAP_RESUME (R255, R257) -/

/-- Whether the device is PAUSED and not on its way back to LIVE. -/
def ZhedaSt.parked (z : ZhedaSt) : Bool := z.run == .paused && z.resumedAt.isNone

def snapPauseEffect (h : Hdr) (s : State) : State :=
  s.packet h 0x0800 { state := if s.zheda.run == .live then none else some .busy } fun s =>
    (s.interim h 0x0800 .pending).onZheda fun z => { z with
      run := .pausing
      pauser := some h }

def execSnapPause (h : Hdr) (s : State) : Out := .next (snapPauseEffect h s)

/-- Why SNAP_RESUME is refused: the run state, or a loaded state that would move the tick number back (R258). -/
def State.resumeRefusal (s : State) : Option Status :=
  let z := s.zheda
  if z.run == .pausing then none
  else if !z.parked then some .busy
  else match z.snapIn with
    | none => none
    | some x => if s.tickNo ≤ x.k - 1 then none else some .badParam

/-- SNAP_RESUME: a pause withdrawn, whose SNAP_PAUSE ends cancelled; or LIVE from the next accepted edge (Table 10-4, R257). -/
def snapResumeEffect (h : Hdr) (s : State) : State :=
  s.packet h 0x0801 { state := s.resumeRefusal } fun s =>
    if s.zheda.run = .pausing then
      let p := s.zheda.pauser
      let s := s.onZheda fun z => { z with
        run := .live
        pauser := none }
      let s := match p with
        | some q => s.final q 0x0800 .cancelled
        | none => s
      s.final h 0x0801 .ok
    else
      let k := (s.zheda.snapIn.map fun x => x.k - 1).getD s.tickNo
      let s := s.onTick fun t => { t with
        num := { t.num with val := BitVec.ofNat 64 k }
        lastEdge := some s.now }
      (s.onZheda fun z => { z with resumedAt := some s.now }).final h 0x0801 .ok

def execSnapResume (h : Hdr) (s : State) : Out := .next (snapResumeEffect h s)

/-! ### SNAP_SAVE, SNAP_LOAD (R258, R261) -/

/-- Whether a source or destination of an image is valid: a retained checkpoint slot, or host memory, which USB cannot name
(R330). -/
def State.placeOk (s : State) (h : Hdr) (kind slot : Nat) : Bool :=
  if kind = 0 then decide (slot < s.zheda.keepN) else kind == 1 && h.ring != 80

def snapSaveEffect (h : Hdr) (dest slot addr : Nat) (s : State) : State :=
  s.packet h 0x0802
    { param := s.placeOk h dest slot && (h.ring != 80 || addr == 0),
      state := if s.zheda.run != .paused || s.cmd.saving.isSome then some .busy else none } fun s =>
    let x := s.zheda.current.getD (s.takeSnap (s.tickNo + 1))
    (s.interim h 0x0802 .pending).onCmd fun c => { c with
      saving := some { hdr := h, snap := x, slot := if dest = 0 then some slot else none, addr := addr } }

def execSnapSave (h : Hdr) (dest slot : Byte) (addr : Dword) (s : State) : Out :=
  .next (snapSaveEffect h dest.toNat slot.toNat addr.toNat s)

/-- SNAP_SAVE_DONE: the image is written. -/
def snapSaveDoneEffect (s : State) : State :=
  match s.cmd.saving with
  | none => s
  | some j =>
    let s := s.onCmd fun c => { c with saving := none }
    let s := match j.slot with
      | some n => s.putCkpt n j.snap
      | none => s.hostWrite j.addr j.snap.image
    s.final j.hdr 0x0802 .ok (toLe 4 j.snap.image.length)

/-- SNAP_LOAD: the image checked, then the state replaced. -/
def snapLoadEffect (h : Hdr) (src slot addr : Nat) (s : State) : State :=
  let x := s.imageAt src slot addr
  s.packet h 0x0803
    { param := s.placeOk h src slot && (h.ring != 80 || addr == 0),
      state := if !s.zheda.parked then some .busy else s.imageCheck x } fun s =>
    match x with
    | none => s
    | some x => (((s.interim h 0x0803 .pending).restore x).onZheda fun z => { z with
        loaded := true
        snapIn := some x
        current := some x }).final h 0x0803 .ok

def execSnapLoad (h : Hdr) (source slot : Byte) (addr : Dword) (s : State) : Out :=
  .next (snapLoadEffect h source.toNat slot.toNat addr.toNat s)

/-! ### REPLAY as a packet (R265, R268) -/

/-- The entries that bytes spell from an offset on: TYPE, ID, TIME, LEN and the bytes (R263). -/
def entryAt (b : List Byte) (o : Nat) : JEntry × Nat :=
  let n := leAt b (o + 11) 4
  ({ ty := leAt b o 1, id := leAt b (o + 1) 2, time := leAt b (o + 3) 8, bytes := (b.drop (o + 15)).take n }, o + 15 + n)

/-- Whether entries match the three digests of a record (R265 step 3). -/
def entriesMatch (r : List Byte) (l : List JEntry) : Bool :=
  (r.drop 128).take 32 == entryDigest (fun y => decide (y ≤ 2)) l &&
  (r.drop 160).take 32 == entryDigest (fun y => y == 3) l &&
  (r.drop 192).take 32 == entryDigest (fun y => decide (4 ≤ y)) l

/-- The entries of a record in an export: the shortest sequence after it that its digests match. -/
def State.entriesAt (s : State) (r : List Byte) : Nat → Nat → List JEntry → Option (List JEntry × Nat)
  | 0, _, _ => none
  | fuel + 1, a, l =>
    if entriesMatch r l then some (l, a)
    else
      let n := leAt (s.hostRead a 15) 11 4
      s.entriesAt r fuel (a + 15 + n) (l ++ [(entryAt (s.hostRead a (15 + n)) 0).1])

/-- A record and its entries at a host address, and the address after them. -/
def State.exportAt (s : State) (a : Nat) : Option ((ZRecord × List JEntry) × Nat) :=
  let r := s.hostRead a (min (leAt (s.hostRead a 8) 4 4) 39680)
  (s.entriesAt r 4096 (a + r.length) []).map fun e => (({ tick := leAt r 8 8, bytes := r }, e.1), e.2)

/-- The input of a replay step from host memory: record after record from the first (R265). -/
def State.exportTick (s : State) (k : Nat) : Nat → Nat → Option (ZRecord × List JEntry)
  | 0, _ => none
  | fuel + 1, a => match s.exportAt a with
    | none => none
    | some (e, b) => if e.1.tick = k then some e else s.exportTick k fuel b

/-- Record and entries of a tick for a replay: the device's rings, or an export in host memory from the tick K on. -/
def State.replayInput (s : State) (fromHost : Bool) (addr first k : Nat) : Option (ZRecord × List JEntry) :=
  if fromHost then s.exportTick k (k + 1 - first) addr
  else (s.zheda.recAt k).map fun r => (r, ((s.zheda.jrnAt k).map (·.entries)).getD [])

/-- Whether the records that a replay needs are there, and none but the target carries FAULT (R265 step 1, R267). -/
def State.recordsOk (s : State) (fromHost : Bool) (addr first target : Nat) : Bool :=
  (List.range (target + 1 - first)).all fun i => match s.replayInput fromHost addr first (first + i) with
    | none => false
    | some (r, _) => first + i == target || !r.fault

/-- Whether a probe may be asked: its kind known, its waypoint and sphere inside a shape of a slot of the snapshot (R268). -/
def Probe.ok (p : Probe) (x : Snapshot) : Bool :=
  decide (1 ≤ p.kind) && decide (p.kind ≤ 10) &&
  (p.kind != 1 || x.slots.any fun (e : Nat × (Nat × Bool)) =>
    let r : CtxRec := (Tbl.get {} x.ctxs e.2.1).inForce
    decide (p.wp < r.waypoints) && decide (p.sph < r.spheres))

/-- REPLAY. -/
def replayEffect (h : Hdr) (src slot inputs image target input raddr : Nat) (probes : List Probe) (s : State) : State :=
  let x := s.imageAt src slot image
  let y := x.getD {}
  let host := inputs == 1
  s.packet h 0x0804
    { param := s.placeOk h src slot && decide (inputs ≤ 1) && decide (probes.length ≤ 64) &&
        raddrOk h raddr 33 && (h.ring != 80 || (inputs == 0 && image == 0 && input == 0)) &&
        (x.isNone || (decide (y.k ≤ target) && probes.all fun p => p.ok y)),
      state := if !s.zheda.parked || s.longsFull then some .busy
        else match s.imageCheck x with
          | some st => some st
          | none => if s.recordsOk host input y.k target then none else some .replayMismatch } fun s =>
    (s.issueLong h 0x0804 .cp (.replay { snap := y, target := target, next := y.k, fromHost := host, inputAddr := input,
                                         raddr := raddr, probes := probes })).onZheda fun z => { z with run := .replay }

def execReplay (h : Hdr) (source slot inputs : Byte) (image target input raddr : Dword) (probes : List Probe) (s : State) : Out :=
  .next (replayEffect h source.toNat slot.toNat inputs.toNat image.toNat target.toNat input.toNat raddr.toNat probes s)

/-! ### ZHD_EXPORT -/

/-- The bytes of an export: each record of the ticks asked for that the ring still holds, with its entries after it. -/
def ZhedaSt.exported (z : ZhedaSt) (first count : Nat) (journal : Bool) : List Byte :=
  (z.records.filter fun r => decide (first ≤ r.tick) && decide (r.tick < first + count)).flatMap fun r =>
    r.bytes ++ (if journal then (((z.jrnAt r.tick).map (·.entries)).getD []).flatMap JEntry.enc else [])

def zhdExportEffect (h : Hdr) (first count journal raddr : Nat) (s : State) : State :=
  let bs := s.zheda.exported first count (journal == 1)
  s.packet h 0x0805 { param := decide (journal ≤ 1) && raddrOk h raddr bs.length } fun s =>
    (s.interim h 0x0805 .pending).finalReply h 0x0805 raddr bs (toLe 4 bs.length)

def execZhdExport (h : Hdr) (first : Dword) (count : Word) (journal : Byte) (raddr : Dword) (s : State) : Out :=
  .next (zhdExportEffect h first.toNat count.toNat journal.toNat raddr.toNat s)

end Sys2Proof.Machine
end

