-- ==== Sys2Proof/Machine/World.lean ====
section
/-! DEFINITION. World ingest: received frames and their checks, the world and plan commands, REARM and the ESTOP input
(02 R55 to R62; 09 R242 to R244; 14 R343, R344; 17 R432 to R435; 13 Table 13-7 groups 0x04 and 0x05). -/

namespace Sys2Proof.Machine

/-! ### Payloads (02 Table 2-2) -/

/-- The map cell of an 8-byte record. -/
def cellAt (b : List Byte) (o : Nat) : V3 := ⟨sgn 16 (leAt b o 2), sgn 16 (leAt b (o + 2) 2), sgn 16 (leAt b (o + 4) 2)⟩

/-- The segment that an occupancy payload spells; none where its length is not that of its counts. -/
def segmentOf (stamp : Nat) (counter : Half) (b : List Byte) : Option Segment :=
  let f := leAt b 4 2
  let p := leAt b 6 2
  if b.length = 8 + 8 * f + 72 * p then some {
      stamp := stamp, counter := counter, seg := leAt b 1 1, segCount := leAt b 2 1,
      full := (List.range f).map fun i => cellAt b (8 + 8 * i)
      part := (List.range p).map fun i =>
        let o := 8 + 8 * f + 72 * i
        { cell := cellAt b o, bm := (b.drop (o + 8)).take 64 } }
  else none

/-- The robot state that a payload spells: its context and the state; none where its length is not that of its count. -/
def robotStateOf (stamp : Nat) (counter : Half) (b : List Byte) : Option (Nat × RobotState) :=
  let n := leAt b 2 1
  if 1 ≤ n ∧ n ≤ 64 ∧ b.length = 20 + 8 * n then some (leAt b 0 2, {
      stamp := stamp, counter := counter,
      base := ⟨sgn 32 (leAt b 4 4), sgn 32 (leAt b 8 4), sgn 32 (leAt b 12 4)⟩
      yaw := BitVec.ofNat 32 (leAt b 16 4)
      q := (List.range n).map fun j => BitVec.ofNat 32 (leAt b (20 + 4 * j) 4)
      v := (List.range n).map fun j => sgn 32 (leAt b (20 + 4 * n + 4 * j) 4) })
  else none

/-! ### The protection checks (14 R344) -/

/-- The first check of Table 14-2 that a frame fails, 1 to 5; its bytes are the header and what follows it. -/
def State.e2eFailing (s : State) (b : List Byte) (injected : Bool) : Option Nat :=
  let id := leAt b 0 2
  let len := leAt b 4 4
  let d := match Tbl.find? s.safety.streams id with
    | some last => serialAhead (BitVec.ofNat 16 (leAt b 2 2)) last
    | none => 1
  if injected || leAt b 16 4 != (crc32c (b.take 16 ++ (b.drop 20).take len)).toNat then some 1
  else if len ≠ b.length - 20 then some 2
  else if id / 4096 ≠ 1 && id / 4096 ≠ 2 then some 3
  else if d = 0 || 32768 ≤ d then some 4
  else if s.ptp + s.safety.futureNs.toNat < leAt b 8 8 then some 5
  else none

/-- The counter of a check. -/
def SafetySt.e2eCount (f : SafetySt) (n : Nat) : SafetySt :=
  if n ≤ 2 then { f with e2eCrc := f.e2eCrc.incr }
  else if n = 3 then { f with e2eId := f.e2eId.incr }
  else if n = 4 then { f with e2eSeq := f.e2eSeq.incr }
  else { f with e2eTime := f.e2eTime.incr }

/-- A frame that a check drops; the first since SYS_E2E_STAT was cleared is logged (R344; R365 code 0x0140). -/
def State.e2eDrop (s : State) (n : Nat) (inj : Bool) : State :=
  let first := s.safety.e2eFail == 0
  let s := s.onSafety fun f => { (f.e2eCount n) with e2eFail := f.e2eFail ||| BitVec.ofNat 5 (2 ^ (n - 1)) }
  if first then s.logFault 11 0 0x0140 0 inj else s

/-- The injection that fails the CRC check of the next frame of a stream (R366). -/
def SafetySt.crcInjection (f : SafetySt) (id : Nat) : Option Injection := f.armed.find? fun i => i.kind == 6 && i.arg == id

/-- An accepted frame of a stream: its COUNTER, and the frames lost before it (R344). -/
def SafetySt.e2eAccept (f : SafetySt) (id : Nat) (counter : Half) : SafetySt :=
  { f with
    streams := Tbl.put f.streams id counter
    e2eLost := match Tbl.find? f.streams id with
      | some last => f.e2eLost.add (serialAhead counter last - 1)
      | none => f.e2eLost }

/-! ### Ingest (02 R55, R56, R60) -/

/-- What became of a delivered frame: DATA of WORLD_OCC (13 Table 13-7). -/
inductive Disposition where
  | taken | dropped | late
  deriving DecidableEq, Repr

def Disposition.code : Disposition → Nat
  | .taken => 0
  | .dropped => 1
  | .late => 2

/-- A frame dropped by R55. -/
def State.worldDrop (s : State) : State × Disposition := (s.onWorld fun w => { w with dropCnt := w.dropCnt.incr }, .dropped)

/-- A frame accepted: late where it is stamped at or before the running tick's T(k) (R56). -/
def State.worldAccept (s : State) (stamp : Nat) : State × Disposition :=
  if s.tickNo ≠ 0 && stamp ≤ s.tick.stamp then
    (s.onWorld fun w => { w with
      late := true
      lateCnt := w.lateCnt.incr }, .late)
  else (s, .taken)

/-- The segments held of a snapshot, or those already used, where a segment of it is replaced. -/
def SourceSt.ofStamp (x : SourceSt) (stamp : Nat) : List Segment :=
  let l := x.held.filter fun g => g.stamp == stamp
  if l.isEmpty then (match x.used with | some u => if u.1 = stamp then u.2 else [] | none => []) else l

/-- Whether a time-stamp lies before the last accepted one, or repeats it without a newer counter (R55). -/
def staleFrame (last : Option Nat) (lastCounter : Half) (stamp : Nat) (counter : Half) : Bool :=
  match last with
  | none => false
  | some t => decide (stamp < t) || (stamp == t && (serialAhead counter lastCounter == 0 || decide (32768 ≤ serialAhead counter lastCounter)))

/-- An occupancy segment of a source (R55). -/
def State.takeSegment (s : State) (src : Nat) (g : Segment) : State × Disposition :=
  let x := Tbl.get {} s.world.sources src
  let old := x.ofStamp g.stamp
  if !((s.bundle.map fun b => b.sources.any fun d => d.id == src).getD false) ||
      staleFrame x.lastStamp x.lastCounter g.stamp g.counter || decide (g.segCount ≤ g.seg) || decide (64 < g.segCount) ||
      old.any (fun o => o.segCount != g.segCount) then s.worldDrop
  else
    let same := old.filter fun o => o.seg != g.seg
    let held := (x.held.filter fun o => o.stamp != g.stamp) ++ same ++ [g]
    (s.onWorld fun w => { w with
      sources := Tbl.put w.sources src { x with
        lastStamp := some g.stamp
        lastCounter := g.counter
        held := held } }).worldAccept g.stamp

/-- A robot state of a context (R55, R60); its joint count is checked at the cut-off. -/
def State.takeState (s : State) (c : Nat) (r : RobotState) : State × Disposition :=
  let x := s.input c
  if !((s.bundle.map fun b => b.ctxDecl.contains c).getD false) || staleFrame x.lastStamp x.lastCounter r.stamp r.counter then
    s.worldDrop
  else
    (s.onWorld fun w => { w with
      inputs := Tbl.put w.inputs c { x with
        lastStamp := some r.stamp
        lastCounter := r.counter
        waiting := (x.waiting.filter fun o => o.stamp != r.stamp) ++ [r] } }).worldAccept r.stamp

/-- A frame that passed its checks (R55). One whose payload does not spell what its header says is dropped. -/
def State.ingest (s : State) (b : List Byte) : State × Disposition :=
  let id := leAt b 0 2
  let counter : Half := BitVec.ofNat 16 (leAt b 2 2)
  let stamp := leAt b 8 8
  let p := b.drop 20
  if id / 4096 = 1 then
    match segmentOf stamp counter p with
    | some g => if leAt p 0 1 = id % 4096 then s.takeSegment (id % 4096) g else s.worldDrop
    | none => s.worldDrop
  else
    match robotStateOf stamp counter p with
    | some (c, r) => if c = id % 4096 then s.takeState c r else s.worldDrop
    | none => s.worldDrop

/-- A protected frame: checked, then ingested (R344). -/
def State.receive (s : State) (b : List Byte) : State × Disposition :=
  let id := leAt b 0 2
  let inj := s.safety.crcInjection id
  let s := s.onSafety fun f => { f with armed := match inj with | some i => f.armed.erase i | none => f.armed }
  match s.e2eFailing b inj.isSome with
  | some n => (s.e2eDrop n (inj.isSome && n == 1), .dropped)
  | none => (s.onSafety fun f => f.e2eAccept id (BitVec.ofNat 16 (leAt b 2 2))).ingest b

/-! ### Frames on Ethernet (17 R432 to R435) -/

/-- The parts of an Ethernet frame without its FCS: destination, C-tag VID, whether it is tagged, EtherType, and the bytes
after that. -/
structure EthParts where
  dest : Nat
  tagged : Bool
  vid : Option Nat
  etherType : Nat
  body : List Byte
  deriving DecidableEq, Repr

/-- A 16-bit field in network order. -/
def be16 (b : List Byte) (o : Nat) : Nat := leAt b o 1 * 256 + leAt b (o + 1) 1

/-- The parts of a frame (Table 17-3). -/
def ethParts (b : List Byte) : EthParts :=
  let o := if be16 b 12 = 0x88A8 then 16 else 12
  let c := be16 b o == 0x8100
  let e := if c then o + 4 else o
  { dest := leAt b 0 6, tagged := o == 16 || c, vid := if c then some (be16 b (o + 2) % 4096) else none,
    etherType := be16 b e, body := b.drop (e + 2) }

/-- Stages 1 to 4 of R435, and the kinds and lengths that a port takes at all (R432). -/
def EthPort.passes (p : EthPort) (fcsOk : Bool) (b : List Byte) : Bool :=
  let x := ethParts b
  fcsOk && decide (b.length + 4 ≤ (if p.jumbo then 9022 else 1522)) && decide (60 ≤ b.length) &&
  (x.dest == p.mac.toNat || x.dest == p.mcast.toNat) && x.etherType == 0x88B5 &&
  (!x.tagged || !p.vidFilter || (match x.vid with | some v => p.vids.contains v | none => false)) &&
  leAt x.body 0 1 == 1 && leAt x.body 2 1 == 0 && leAt x.body 3 1 == 1 && leAt x.body 4 4 == leAt x.body 12 4

/-- The protected frame in a device frame: the pad of a frame of the least length is left off. -/
def protectedIn (b : List Byte) : List Byte :=
  let y := (ethParts b).body
  if b.length = 60 then (y.drop 8).take (20 + leAt y 4 4) else y.drop 8

def State.updPort (s : State) (p : Nat) (f : EthPort → EthPort) : State := s.onHost fun h => { h with ports := modAt f h.ports p }

/-- ETH_FRAME_RX (R435). PTP messages go to the timer; a member in service drops every device frame (19 R470); a frame whose
write is held at the frozen Ethernet DMA is lost with it (14 R362). -/
def ethFrameRxEffect (time p : Nat) (fcsOk : Bool) (b : List Byte) (room : Bool) (s : State) : State :=
  let s := s.advance time
  let port := s.host.ports.getD p {}
  if !s.up || !port.en || s.host.xtalOut then s
  else
    let s := s.updPort p fun x => { x with rxCnt := x.rxCnt.incr }
    if fcsOk && (ethParts b).etherType == 0x88F7 then s
    else if s.casc.memberInService || !port.passes fcsOk b then s.updPort p fun x => { x with rxDropCnt := x.rxDropCnt.incr }
    else if !room then
      (s.updPort p fun x => { x with rxOvfCnt := x.rxOvfCnt.incr }).onHost fun h => { h with rxOvf := true }
    else if (s.master 13).frozen then s
    else (s.receive (protectedIn b)).1

def execEthFrameRx (time : Nat) (port : Fin 2) (fcsOk : Bool) (bytes : List Byte) (room : Bool) (s : State) : Out :=
  .next (ethFrameRxEffect time port fcsOk bytes room s)

/-! ### World commands (13 Table 13-7; 02 R61, R62) -/

/-- WORLD_OCC and WORLD_STATE: the frame received, its disposition answered. -/
def worldFrameEffect (h : Hdr) (op : Nat) (frame : List Byte) (s : State) : State :=
  s.packet h op { param := decide (20 ≤ frame.length) } fun s =>
    let r := s.receive frame
    r.1.final h op .ok [BitVec.ofNat 8 r.2.code]

def execWorldOcc (h : Hdr) (frame : List Byte) (s : State) : Out := .next (worldFrameEffect h 0x0400 frame s)
def execWorldState (h : Hdr) (frame : List Byte) (s : State) : Out := .next (worldFrameEffect h 0x0401 frame s)

/-- A world command that waits for its cut-off (R62). -/
def State.worldCmd (s : State) (h : Hdr) (op : Nat) (c : WorldCmd) (payload : List Byte) : State :=
  (s.onWorld fun w => { w with
    waitingCmds := w.waitingCmds ++ [{ ring := h.ring, seq := h.seq.toNat, cmd := c, bytes := h.packet op payload }] }).final h op .ok

def keepoutSetEffect (h : Hdr) (id mask : Byte) (b : Box) (s : State) : State :=
  s.packet h 0x0402
    { param := decide (id.toNat < 64) && decide (b.lo.x ≤ b.hi.x) && decide (b.lo.y ≤ b.hi.y) && decide (b.lo.z ≤ b.hi.z) } fun s =>
    s.worldCmd h 0x0402 (.keepoutSet id.toNat ⟨b, mask⟩) ([id, mask, 0, 0] ++ b.bytes)

def execWorldKeepoutSet (h : Hdr) (id mask : Byte) (box : Box) (s : State) : Out := .next (keepoutSetEffect h id mask box s)

def keepoutClearEffect (h : Hdr) (id : Byte) (s : State) : State :=
  s.packet h 0x0403 { param := decide (id.toNat < 64) || id == 0xFF } fun s =>
    s.worldCmd h 0x0403 (if id = 0xFF then .keepoutClearAll else .keepoutClear id.toNat) [id]

def execWorldKeepoutClear (h : Hdr) (id : Byte) (s : State) : Out := .next (keepoutClearEffect h id s)

/-- WORLD_FIELD_READ: the held field image, its version and CRC; while no tile holds one the command is refused. -/
def worldFieldReadEffect (h : Hdr) (raddr : Nat) (s : State) : State :=
  s.packet h 0x0404
    { param := raddrOk h raddr imageBytes, state := if s.heldField.isSome then none else some .busy } fun s =>
    let f := s.heldField.getD {}
    (s.interim h 0x0404 .pending).finalReply h 0x0404 raddr (f.img.reads 0 imageBytes)
      (toLe 8 f.version ++ toLe 4 f.crc.toNat)

def execWorldFieldRead (h : Hdr) (raddr : Dword) (s : State) : Out := .next (worldFieldReadEffect h raddr.toNat s)

/-! ### Plan commands -/

/-- Header and payload of a slot's last trajectory payload; COUNTER and CRC 0 where it took no counter value
(13 Table 13-7; 14 R345). -/
def EgressEntry.protectedBytes (e : EgressEntry) : List Byte :=
  match e.counter with
  | some c => protected_ (0x3000 + e.ctx) c.toNat e.time e.payload
  | none => toLe 2 (0x3000 + e.ctx) ++ toLe 2 0 ++ toLe 4 e.payload.length ++ toLe 8 e.time ++ toLe 4 0 ++ e.payload

/-- PLAN_FRAME_READ; a slot that holds no payload is refused. -/
def planFrameReadEffect (h : Hdr) (slot raddr : Nat) (s : State) : State :=
  let e := Tbl.find? s.host.egress slot
  let bs := (e.map EgressEntry.protectedBytes).getD []
  s.packet h 0x0500
    { param := decide (slot < 16) && raddrOk h raddr bs.length, state := if e.isSome then none else some .busy } fun s =>
    s.finalReply h 0x0500 raddr bs (toLe 4 bs.length)

def execPlanFrameRead (h : Hdr) (slot : Byte) (raddr : Dword) (s : State) : Out :=
  .next (planFrameReadEffect h slot.toNat raddr.toNat s)

/-- PLAN_RESULT_READ; a slot without a published result is refused. -/
def planResultReadEffect (h : Hdr) (slot raddr : Nat) (s : State) : State :=
  let d := (s.popSlot slot).result
  let bs := (d.map DieRes.bytes).getD []
  s.packet h 0x0501
    { param := decide (slot < 16) && raddrOk h raddr bs.length, state := if d.isSome then none else some .busy } fun s =>
    (s.interim h 0x0501 .pending).finalReply h 0x0501 raddr bs (toLe 4 bs.length)

def execPlanResultRead (h : Hdr) (slot : Byte) (raddr : Dword) (s : State) : Out :=
  .next (planResultReadEffect h slot.toNat raddr.toNat s)

/-- PLAN_HANDOFF_READ: the header and the eight entries of 0xA00 bytes (08 R225); a slot without one is refused. -/
def planHandoffReadEffect (h : Hdr) (slot raddr : Nat) (s : State) : State :=
  let x := (s.vetSlot slot).handoff
  s.packet h 0x0502
    { param := decide (slot < 16) && raddrOk h raddr 0x5040, state := if x.isSome then none else some .busy } fun s =>
    (s.interim h 0x0502 .pending).finalReply h 0x0502 raddr ((List.range 0x5040).map (x.getD {}).byte) (toLe 4 0x5040)

def execPlanHandoffRead (h : Hdr) (slot : Byte) (raddr : Dword) (s : State) : Out :=
  .next (planHandoffReadEffect h slot.toNat raddr.toNat s)

/-! ### ESTOP_N and REARM (09 R242 to R244) -/

/-- HOL_ESTOP_TIMER, µs since the last low sample; it saturates (R242). -/
def State.estopTimer (s : State) : Nat := satU 32 ((s.now - s.commit.lastLow) / 1000)

/-- HOL_STAT.REARM_READY (R244). -/
def State.rearmReady (s : State) : Bool := !s.commit.estopActive && decide (10000 ≤ s.estopTimer)

def rearmEffect (h : Hdr) (s : State) : State :=
  s.packet h 0x0503 { state := if s.rearmReady then none else some .busy } fun s =>
    (s.onCommit fun c => { c with rearm := true }).final h 0x0503 .ok

def execRearm (h : Hdr) (s : State) : Out := .next (rearmEffect h s)

/-- ESTOP_ACTIVE (R243): the latch set, the activation counted, a waiting REARM void (R244). -/
def estopActiveEffect (time : Nat) (s : State) : State :=
  let s := s.advance time
  if s.clock.holds.por then s
  else s.onCommit fun c => { c with
    estopActive := true
    lastLow := s.now
    estopLatch := c.estopLatch || !c.estopActive
    estopSeen := c.estopSeen || !c.estopActive
    estopCnt := if c.estopActive then c.estopCnt else c.estopCnt.incr
    rearm := c.rearm && c.estopActive }

def execEstopActive (time : Nat) (s : State) : Out := .next (estopActiveEffect time s)

/-- ESTOP_INACTIVE: the 100th consecutive high sample, 2 µs after the last low one (R242). -/
def estopInactiveEffect (time : Nat) (s : State) : State :=
  let s := s.advance time
  if s.commit.estopActive then s.onCommit fun c => { c with
      estopActive := false
      lastLow := max c.lastLow (s.now - 2000) }
  else s

def execEstopInactive (time : Nat) (s : State) : Out := .next (estopInactiveEffect time s)

/-- ESTOP_REARM_READY: the timer reaches 10,000 µs with the input inactive; REARM_READY follows from the time (R244). -/
def estopRearmReadyEffect (time : Nat) (s : State) : State :=
  if s.commit.estopActive || decide (time < s.commit.lastLow + 10000000) then s else s.advance time

def execEstopRearmReady (time : Nat) (s : State) : Out := .next (estopRearmReadyEffect time s)

end Sys2Proof.Machine
end

