-- ==== Sys2Proof/Machine/EdgeParts.lean ====
section
/-! DEFINITION. What a tick edge does beside the switch of bundles and the cut-off: the truncation of the running tick (01 R33,
R34), the roster of the tiles (14 R350 to R354), failures of the other units and the rotation of the Vetch units (03 R79, R80,
R106; 06 R183; 07 R199; 08 R205, R206; 14 R356, R367), and pre-emption (11 R275; 14 R357). -/

namespace Sys2Proof.Machine

/-! ### Truncation (01 R33, R34) -/

/-- The broadcast interrupted: every Field Store is marked invalid, and a peek that waits ends without data (01 R34; 02 R75). -/
def FieldStore.interrupt (x : FieldStore) : FieldStore :=
  let x := { x with
    bcast := false
    valid := false
    interrupted := true }
  if x.peekBusy then x.peekNone else x

/-- What the Field Stores keep of a broadcast that had begun (01 R34), or had not (02 R62). -/
def State.cutBroadcast (s : State) : State :=
  let p := s.tick.prog
  if p.bcastDone then s
  else
    let s := (s.onWorld fun w => { w with fieldHeld := true }).updTrace fun z => { z with
      fieldHeld := true
      truncBcast := p.bcastStarted }
    if p.bcastStarted then s.onWorld fun w => { w with
      stores := (List.range 72).foldl (fun t i => Tbl.upd {} t i FieldStore.interrupt) w.stores }
    else s

/-- The transform or the rings did not complete (06 R180). -/
def State.cutCornflower (s : State) : State :=
  if s.casc.memberInService || s.bundle.isNone then s
  else s.onCornflower fun c => { c with
    edtIncomplete := c.edtIncomplete || s.world.coarse.isNone
    ctgHeld := c.ctgHeld || (s.zheda.ctl.wfEn && !c.ringsRanThisTick) }

/-- The critic of a slot did not complete: neither its scores nor a result of the tick are there, though a result was due (03
R105). -/
def State.cutCritic (s : State) : State :=
  let done (n : Nat) : Bool := (s.popSlot n).scores.isSome ||
    ((s.popSlot n).valid && ((s.popSlot n).result.map (·.tick)) == some s.tickNo)
  let due := (s.bundle.bind (·.critic)).isSome && s.publishes && !s.casc.memberInService &&
    s.planSlots.any fun (e : Nat × FgSlot) => !done e.1 && !(s.lupSlot e.1).nostate
  if due then s.onAster fun a => { a with criticSkipped := true } else s

/-- The proposal items did not complete: no context has a mixture for the next tick (03 R101, R105). -/
def State.cutProposal (s : State) : State :=
  let key (e : Nat × FgSlot) : Nat := 2 * e.2.ctx + (s.tickNo + 1) % 2
  let due := s.planSlots.filter fun (e : Nat × FgSlot) => (s.entryOf e.2.model).proposal.isSome
  if due.any fun e => !(Tbl.get {} s.aster.mixes (key e)).valid then s.onAster fun a => { a with
    proposalInvalid := true
    mixes := due.foldl (fun t e => Tbl.upd {} t (key e) fun m => { m with valid := false }) a.mixes }
  else s

/-- The hand-offs of the running tick discarded (01 R33; 08 R224 leaves SHIFT_RUN as it stands). -/
def VetchSt.dropPlan (v : VetchSt) (k : Nat) : VetchSt :=
  { v with slots := v.slots.map fun e =>
      (e.1, if (e.2.handoff.map (·.tick)) == some k then { e.2 with handoff := none } else e.2) }

/-- The running tick truncated at an ac (01 R33, R34; 04 R139; 07 R199; 10 R261). -/
def State.truncate (s : State) (ac : Nat) : State :=
  let s := s.reachAc ac
  let s := s.cutBroadcast.cutCornflower.cutCritic.cutProposal
  let s := if s.tick.prog.loaded then s else s.dropPending
  let s := (s.onVetch fun v => v.dropPlan s.tickNo).onPoppy PoppySt.unpublish
  let s := (s.onZheda ZhedaSt.abandon).updTrace fun z => { z with
    short := true
    truncAc := ac }
  s.onTick fun t => { t with
    shortF := true
    shortCnt := t.shortCnt.incr
    prog := { t.prog with running := false } }

/-! ### Pre-emption (11 R275; 14 R357) -/

/-- Every background slice and every test slice that runs at an edge (R275; 14 R357). -/
def State.preempt (s : State) : State :=
  let cut := s.teasel.running.length
  let s := s.onTeasel fun t => { t with
    running := []
    preemptCnt := t.preemptCnt.add cut
    preempted := t.preempted || decide (0 < cut) }
  let n := s.safety.testing.length
  s.onSafety fun f => { f with
    testing := []
    abortCnt := f.abortCnt.add n
    abortF := f.abortF || decide (0 < n) }

/-! ### The roster (14 R350 to R355) -/

/-- The tiles of a cluster. -/
def clusterTiles (c : Nat) : List Nat := (List.range 18).map fun i => 18 * c + i

/-- The tile of a cluster that serves a position. -/
def SafetySt.servesPos (f : SafetySt) (c p : Nat) : Option Nat := f.serving (16 * c + p)

def SafetySt.rot (f : SafetySt) (c : Nat) : ClusterRot := f.rots.getD c {}

/-- The SPARE of a cluster tested longest ago; the lower number on a tie (R351). -/
def SafetySt.spareOf (f : SafetySt) (c : Nat) : Option Nat :=
  (clusterTiles c).foldl (fun m t =>
    if (f.tile t).role != .spare || (f.tile t).failWaiting then m
    else match m with
      | none => some t
      | some u => if (f.tile t).tested.getD 0 < (f.tile u).tested.getD 0 then some t else m) none

/-- Whether a tile has passed its latest test. -/
def TileSt.tested? (x : TileSt) : Bool := x.test == .passed

/-- The rotation record of a cluster changed. -/
def State.updRot (s : State) (c : Nat) (f : ClusterRot → ClusterRot) : State :=
  s.onSafety fun x => { x with rots := modAt f x.rots c }

/-- A tile that serves a position as its owner. -/
def TileSt.own (x : TileSt) (p : Nat) : TileSt :=
  { x with
    role := .active
    owns := some p
    serves := some p }

/-- A tile released for test: it serves nothing, and its test starts anew (R350). -/
def TileSt.release (x : TileSt) : TileSt :=
  { x with
    role := .testing
    serves := none
    test := .running 0 }

/-- A released owner whose position has gone to another owner: it counts among the spare tiles of its cluster (R350). -/
def TileSt.disown (x : TileSt) : TileSt :=
  { x with
    owns := none
    role := if x.tested? then .spare else .testing }

/-- A position without a tile taken by the first available one: the SPARE tested longest ago as owner, or the released owner,
whose stand-in then owns the position (R352). -/
def State.takePos (s : State) (c p : Nat) : State :=
  let f := s.safety
  let out := (f.rot c).out
  match f.spareOf c with
  | some sp =>
    let s := match out with
      | some o => if (f.tile o).owns == some p then (s.updTile o TileSt.disown).updRot c fun r => { r with out := none } else s
      | none => s
    s.updTile sp fun x => x.own p
  | none =>
    match out with
    | none => s
    | some o =>
      if !(f.tile o).tested? then s
      else
        let p0 := (f.tile o).owns.getD p
        let s := match f.servesPos c p0 with
          | some t => if p0 = p then s else s.updTile t fun x => x.own p
          | none => s
        (s.updTile o fun x => x.own p0).updRot c fun r => { r with out := none }

/-- A tile declared FAILED (R352): a requalification of it ends with result 1; the stand-in of a released owner becomes the
owner. -/
def State.declareTile (s : State) (t : Nat) : State :=
  let c := t / 18
  let x := s.safety.tile t
  let s := s.requalEnd t 1
  let s := s.wear 1 t fun l => { l with declared := l.declared + 1 }
  let s := s.updTile t fun y => { y with
    role := .failed
    owns := none
    serves := none
    test := .none
    requal := .none
    failWaiting := false
    ghostLogged := false }
  if (s.safety.rot c).out == some t then
    let s := s.updRot c fun r => { r with out := none }
    match x.owns with
    | some p => match s.safety.servesPos c p with
      | some st => s.updTile st fun y => y.own p
      | none => s
    | none => s
  else match x.serves with
    | some p => s.takePos c p
    | none => s

/-- The failing tiles of a cluster: in ascending position served, then those that serve none. -/
def SafetySt.failing (f : SafetySt) (c : Nat) : List Nat :=
  let l := (clusterTiles c).filter fun t => (f.tile t).failWaiting && (f.tile t).role != .failed
  sortBy (fun a b => decide ((f.tile a).serves.getD 16 ≤ (f.tile b).serves.getD 16)) l

/-- A requalified tile's joins (R355): TESTING at the next edge after its pass, SPARE at the first edge after a broadcast left
it VALID, with result 0. -/
def State.joinTile (s : State) (t : Nat) : State :=
  let x := s.safety.tile t
  if x.requal != .joining then s
  else if x.role == .failed then s.updTile t fun y => { y with
      role := .testing
      owns := none
      serves := none
      failWaiting := false }
  else if (s.store t).valid then
    let s := s.wear 1 t fun l => { l with requals := l.requals + 1 }
    (s.requalEnd t 0).updTile t fun y => { y with
      role := .spare
      requal := .none }
  else s

/-- Positions without a tile. -/
def SafetySt.missing (f : SafetySt) (c : Nat) : List Nat := (List.range 16).filter fun p => (f.servesPos c p).isNone

/-- Return of the owner released at the previous swap edge (R351 step 3). -/
def State.returnOwner (s : State) (c : Nat) : State :=
  match (s.safety.rot c).out with
  | none => s
  | some o =>
    let x := s.safety.tile o
    if !x.tested? then s.onSafety fun f => { f with deferF := true }
    else if !(s.store o).valid then s
    else
      let p := x.owns.getD 0
      let s := match s.safety.servesPos c p with
        | some st => s.updTile st TileSt.release
        | none => s
      (s.updTile o fun y => y.own p).updRot c fun r => { r with out := none }

/-- Departure of the owner of position ROT_PTR (R351 step 4). -/
def State.departOwner (s : State) (c : Nat) : State :=
  let s := s.updRot c fun r => { r with
    ptr := r.nextPtr.getD r.ptr
    nextPtr := none }
  let r := s.safety.rot c
  match r.out, s.safety.spareOf c, s.safety.servesPos c r.ptr with
  | none, some sp, some o =>
    let s := (s.updTile o TileSt.release).updTile sp fun x => { x with
      role := .active
      serves := some r.ptr }
    s.updRot c fun r => { r with
      out := some o
      ptr := (r.ptr + 1) % 16 }
  | _, _, _ => s

/-- The roster generation after a change: 0xFFFF is followed by 1 (R354). -/
def nextGen (g : Half) : Half := if g = 0xFFFF then 1 else g + 1

/-- The roster of a cluster at the edge of tick k: failures, joins, return, departure, generation; a cluster with a position
that no tile can take is short, which is logged at every edge (R351 to R354). -/
def State.rosterEdge (s : State) (c k : Nat) : State :=
  let serving (s : State) : List (Option Nat) := (List.range 16).map fun p => s.safety.servesPos c p
  let before := serving s
  let bad := s.safety.failing c
  let s := bad.foldl State.declareTile s
  let s := (clusterTiles c).foldl State.joinTile s
  let s := (s.safety.missing c).foldl (fun s p => s.takePos c p) s
  let s := if s.safety.rotEn && k % 256 == 64 * c then (s.returnOwner c).departOwner c else s
  let s := if !bad.isEmpty || serving s != before then s.updRot c fun r => { r with gen := nextGen r.gen } else s
  match s.safety.missing c with
  | [] => s.updRot c fun r => { r with short := false }
  | p :: _ => (s.updRot c fun r => { r with short := true }).logFault 1 (18 * c + p) 0x0109 3

/-! ### Other units -/

/-- A failure in one array: a spare column takes the place of a failed one; a fifth column, a row or the post unit fails the array
(03 R79, R80). -/
def AsterArray.apply (a : AsterArray) (f : AsterFail) : AsterArray :=
  match f with
  | .column c => if a.colmap.length < 4 then { a with colmap := a.colmap ++ [c] } else { a with failed := true }
  | _ => { a with failed := true }

/-- The Aster arrays at the edge: the variant of R106 for an array declared failed at an earlier edge, then the failures found
since. -/
def State.asterEdge (s : State) : State :=
  let variant := (s.bundle.bind (·.variant3)).isSome
  let switch := variant && (s.aster.degraded || (s.aster.degradedEn && s.arraysUp == 3))
  let down := (List.range 4).filter fun i =>
    let a := s.aster.arrays.getD i {}
    !a.failed && (a.waiting.foldl AsterArray.apply a).failed
  let s := down.foldl (fun s i => s.wear 2 i fun l => { l with declared := l.declared + 1 }) s
  s.onAster fun x => { x with
    degraded := switch
    arrayFailedF := x.arrayFailedF || !down.isEmpty
    arrays := x.arrays.map fun a => { (a.waiting.foldl AsterArray.apply a) with waiting := [] } }

/-- Bits of a mask, as numbers below n. -/
def maskList {w : Nat} (m : BitVec w) (n : Nat) : List Nat := (List.range n).filter fun i => m.getLsbD i

/-- Cornflowers, Poppies, the merge unit, Lupins and clock monitors declared failed (06 R183; 07 R199; 14 Table 14-4). -/
def State.unitsEdge (s : State) : State :=
  let declare (cls : Nat) (s : State) (i : Nat) : State := s.wear cls i fun l => { l with declared := l.declared + 1 }
  let s := (maskList s.cornflower.failWaiting 4).foldl (declare 3) s
  let s := (maskList s.poppy.failWaiting 4).foldl (declare 4) s
  let s := if s.poppy.mergeFailWaiting then declare 4 s 4 else s
  let s := s.safety.lupinFails.foldl (declare 5) s
  let s := s.onCornflower fun c => { c with
    unitFailed := c.unitFailed || c.failWaiting != 0
    failedMask := c.failedMask ||| c.failWaiting
    failWaiting := 0 }
  let s := s.onPoppy fun p => { p with
    failedMask := p.failedMask ||| p.failWaiting
    failWaiting := 0
    mergeFailed := p.mergeFailed || p.mergeFailWaiting
    mergeFailWaiting := false }
  let s := s.onSafety fun f => { f with
    lupinFailed := f.lupinFailed || !f.lupinFails.isEmpty
    lupinFails := [] }
  s.onClock fun c => { c with domains := c.domains.map fun e => (e.1, { e.2 with
    monOff := e.2.monOff || e.2.monFail
    monFail := false }) }

/-- A Vetch unit declared failed: the tested spare takes its logical position, or the others are renumbered (08 R206). -/
def State.vetchFails (s : State) (v : Nat) : State :=
  let tested := s.safety.vetTest == 96
  let s := s.wear 6 v fun l => { l with declared := l.declared + 1 }
  s.onVetch fun x =>
    let x := { x with
      failedMask := x.failedMask ||| BitVec.ofNat 5 (2 ^ v)
      unitFailed := true }
    if x.spare == some v then { x with spare := none }
    else match firstIx (fun p => p == v) x.phys, x.spare, tested with
      | some i, some sp, true =>
        if x.failWaiting.getLsbD sp then { x with phys := sortBy (fun a b => decide (a ≤ b)) (x.phys.filter fun p => p != v) }
        else { x with
          phys := setAt x.phys i sp
          spare := none }
      | some _, _, _ => { x with phys := sortBy (fun a b => decide (a ≤ b)) (x.phys.filter fun p => p != v) }
      | none, _, _ => x

/-- The swap of the spare with the next logical unit (08 R205). -/
def State.vetchSwap (s : State) : State :=
  let v := s.vetch
  let i := if v.nextSwap < v.phys.length then v.nextSwap else 0
  match v.spare, v.phys[i]? with
  | some sp, some old =>
    if s.safety.vetTest == 96 then
      (s.onVetch fun x => { x with
        phys := setAt x.phys i sp
        spare := some old
        nextSwap := (i + 1) % x.phys.length }).onSafety fun f => { f with vetTest := 0 }
    else s
  | _, _ => s

/-- Vetch at the edge of tick k: failures, else the scheduled swap (08 R205, R206). -/
def State.vetchEdge (s : State) (k : Nat) : State :=
  if s.vetch.failWaiting ≠ 0 then
    let s := (maskList s.vetch.failWaiting 5).foldl State.vetchFails s
    s.onVetch fun x => { x with failWaiting := 0 }
  else if s.vetch.rotEn && k % 256 == 0 then s.vetchSwap else s

/-! ### The wear ledger (14 R367) -/

/-- Two entries added up. -/
def LedgerEntry.merge (a b : LedgerEntry) : LedgerEntry :=
  { activeTicks := a.activeTicks + b.activeTicks, testsPassed := a.testsPassed + b.testsPassed,
    testsFailed := a.testsFailed + b.testsFailed, declared := a.declared + b.declared, requals := a.requals + b.requals,
    corrected := a.corrected + b.corrected, uncorrected := a.uncorrected + b.uncorrected, lastPass := max a.lastPass b.lastPass }

/-- The ledger written to the secure NVM die. -/
def State.writeLedger (s : State) : State :=
  let s := s.onSec fun p => { p with nvm := { p.nvm with
    ledger := s.safety.wear.foldl (fun t e => Tbl.upd {} t e.1 fun l => l.merge e.2) p.nvm.ledger } }
  s.onSafety fun f => { f with wear := [] }

/-- The units that count an active tick: tiles that serve a position, and units of the other kinds in service. -/
def State.activeUnits (s : State) : List (Nat × Nat) :=
  ((List.range 72).filter fun t => (s.safety.tile t).role == .active).map (fun t => (1, t)) ++
  ((List.range 4).filter fun i => !(s.aster.arrays.getD i {}).failed).map (fun i => (2, i)) ++
  ((List.range 4).filter fun i => !s.cornflower.failedMask.getLsbD i).map (fun i => (3, i)) ++
  ((List.range 4).filter fun i => !s.poppy.failedMask.getLsbD i).map (fun i => (4, i)) ++
  (if s.poppy.mergeFailed then [] else [(4, 4)]) ++ (List.range 16).map (fun i => (5, i)) ++ s.vetch.phys.map fun v => (6, v)

/-- Failures, roster and rotation at the edge of tick k, and the ledger every 2^20 ticks and at each declaration. -/
def State.failuresEdge (s : State) (k : Nat) : State :=
  let count (s : State) : Nat := sumN (s.safety.wear.map fun e => e.2.declared)
  let s := if s.tick.prog.running then s.activeUnits.foldl (fun s u => s.wear u.1 u.2 fun l =>
    { l with activeTicks := l.activeTicks + 1 }) s else s
  let before := count s
  let s := [0, 1, 2, 3].foldl (fun s c => s.rosterEdge c k) s
  let s := (s.asterEdge.unitsEdge).vetchEdge k
  if count s ≠ before || k % 2 ^ 20 == 0 then s.writeLedger else s

end Sys2Proof.Machine
end

