-- ==== Sys2Proof/Machine/Switch.lean ====
section
/-! DEFINITION. What a tick edge puts into force: a switch of configuration bundles (13 R338, R339; 04 R139; 02 R45, R60; 11
R276), of the operating point and the spread (16 R408, R410, R412), the budget (01 R26, R27, R39), and the register values
that wait for an edge (10 R251, R269; 11 R293; 17 R447). -/

namespace Sys2Proof.Machine

/-! ### Queued items (11 R276, R292) -/

/-- The queued items that satisfy a test end with a status: those that wait, are delayed, or were pre-empted. -/
def State.endItems (s : State) (st : Status) (p : PoolEntry → Bool) : State :=
  let l := (s.teasel.pool.filter fun e => e.2.place != .completing && p e.2).map (·.1)
  l.foldl (fun s n => s.endItem n st []) s

/-- Long operations of classes with no server in service end with ST_DOMAIN_OFF (13 Table 13-8). -/
def State.endOffLongs (s : State) : State :=
  let l := (s.cmd.longs.filter fun (e : Nat × LongOp) => e.2.state != .ended && (s.servers e.2.cls).isEmpty).map (·.1)
  l.foldl (fun s n => s.endLong n .domainOff) s

/-- Items and long operations of classes with no unit in service end with ST_DOMAIN_OFF (R292; 13 Table 13-8). -/
def State.endOff (s : State) : State :=
  (s.endItems .domainOff fun e => (s.servers (itemClass e.bytes)).isEmpty).endOffLongs

/-- Items that no longer fit the program in force end with ST_CONFIG_REJECTED (R276). -/
def State.endUnfit (s : State) : State := s.endItems .configRejected fun e => !s.itemFits e.bytes

/-! ### The switch of bundles -/

/-- Joint count of a model, none where the bundle has no such model. -/
def jointsOf (b : Option Bundle) (m : Nat) : Option Nat :=
  b.bind fun b => if b.hasModel m then some (b.modelEntry m).model.eng.joints.length else none

/-- What a context loses where its robot model changed: the tree and its insertions (04 R134), route sets of the old model
(R135), the grid of its slot, which restarts (06 R179), and the entries of its hand-off (08 R225); and its robot states where the
joint count changed (02 R60). -/
def State.modelSwitched (s : State) (old : Option Bundle) (c : Nat) (x : Ctx) : State :=
  if !modelChanged old s.bundle x.model then s
  else
    let s := s.updLup c fun l => { l.dropTree with
      waitingRoutes := none
      routes := none }
    let s := match x.slot with
      | some n => ((s.updCflSlot n fun y => { y with needReset := true }).updVetSlot n fun v => { v with
          handoff := v.handoff.map fun h => { h with stale := true } }).onCornflower fun f => { f with ctgReset := true }
      | none => s
    if jointsOf old x.model == jointsOf s.bundle x.model then s
    else s.onWorld fun w => { w with inputs := Tbl.del w.inputs c }

/-- Streams that a bundle declares: sources and robot states (14 R343). -/
def Bundle.streams (b : Bundle) : List Nat := b.sources.map (fun d => 0x1000 + d.id) ++ b.ctxDecl.map fun c => 0x2000 + c

/-- The origin after a switch: the start origin where FIXED gave way to FOLLOW (02 R45). -/
def switchOrigin (old : Option Bundle) (b : Bundle) (o : V3) : V3 :=
  if b.follow && !((old.map (·.follow)).getD false) then b.origin else o

/-- Long operations whose robot model a switch removed end with ST_CANCELLED (13 Table 13-8). -/
def State.cancelRemoved (s : State) (b : Bundle) : State :=
  let l := (s.cmd.longs.filter fun (e : Nat × LongOp) =>
    e.2.state != .ended && (match e.2.work with
      | .roadmap _ _ | .wavefront | .deepPlan _ _ _ _ => !b.hasModel ((s.ctx e.2.hdr.ctx).model)
      | _ => false)).map (·.1)
  l.foldl (fun s n => s.endLong n .cancelled) s

/-- What hangs on the bundle now active: the digest and key fields, the age limit, the pairs, the periods, TAKEOVER_OK (07 R198),
and the streams newly declared, whose first frame passes (14 R344). -/
def State.loadBundle (s : State) (old : Option Bundle) (x : BundleSlot) : State :=
  let b := x.bundle
  let units := b.units s.setting
  let ok := takeoverFits b.program units (s.fgCtxs b)
  let fresh := b.streams.filter fun i => !(((old.map Bundle.streams).getD []).contains i)
  let s := s.onZheda fun z => { z with
    digest := x.digest
    wseed := b.worldSeed }
  let s := s.onCommit fun c => { c with ageLimit := b.ageLimit }
  let s := s.onBindweed fun w => { w with pairs := b.pairs }
  let s := s.onPoppy fun p => { p with takeoverOk := ok }
  let s := s.onSafety fun f => { f with streams := f.streams.filter fun e => !fresh.contains e.1 }
  let s := s.onWorld fun w => { w with origin := switchOrigin old b w.origin }
  s.onTick fun t => { t with
    periodUs := b.periodUs
    emitUs := b.emitUs }

/-- A switch at the edge of tick k to a bundle; the active one becomes the previous one (13 R338, R339). A join in progress is
cancelled and restarts (19 R480). -/
def State.switchTo (s : State) (k : Nat) (x : BundleSlot) : State :=
  let old := s.bundle
  let s := s.onCmd fun c => { c with
    active := some x
    previous := c.active
    rollback := false
    switchTick := { c.switchTick with val := BitVec.ofNat 64 k } }
  let s := s.loadBundle old x
  let s := (s.teasel.ctxs.filter fun (e : Nat × Ctx) => e.2.state != .free).foldl
    (fun s (e : Nat × Ctx) => s.modelSwitched old e.1 e.2) s
  let s := s.onCasc fun c => { c with members := c.members.map fun e =>
    (e.1, if e.2.state == .joining then { e.2 with
      synced := false
      snapAt := none } else e.2) }
  (s.cancelRemoved x.bundle).endUnfit

/-- The switch due at the edge of tick k: a commit whose staging has ended, or a rollback. -/
def State.configEdge (s : State) (k : Nat) : State :=
  match s.cmd.phase, s.cmd.staged, s.cmd.rollback, s.cmd.previous with
  | .switchPending, some x, _, _ => (s.switchTo k x).onCmd fun c => { c with
      phase := .idle
      staged := none
      chunks := [] }
  | _, _, true, some x => (s.switchTo k x).onCmd fun c => { c with rolledBack := true }
  | _, _, _, _ => s

/-! ### Operating point and spread -/

/-- Whether an operating-point change is ready to switch (R410). -/
def OpChange.ready (c : OpChange) (now : Nat) : Bool :=
  c.locked && (!c.raising || c.settled.any fun t => decide (t ≤ now))

/-- A cluster whose domain is switched off: its SRAM comes back zero-filled, its counters are reset, its mailboxes EMPTY (12 R307,
R313; 15 R385; 16 R415). -/
def State.clusterLost (s : State) (c : Nat) : State :=
  let s := s.unitOff (1 + c)
  let blank (x : FieldStore) : FieldStore := { x with
    valid := false
    img := []
    flips := [] }
  let s := s.onWorld fun w => { w with
    built := w.built.map fun f => { f with lost := f.lost ++ [c] }
    stores := (List.range 18).foldl (fun t i => Tbl.upd {} t (18 * c + i) blank) w.stores }
  let s := s.onCornflower fun x => { x with slots := x.slots.map fun e => (e.1, { e.2 with
    lost0 := e.2.lost0 ++ [c]
    lost1 := e.2.lost1 ++ [c] }) }
  let s := s.onHarebell fun h => { h with live := h.live.filter fun r => r.engine / 16 != c }
  let wipe (m : Mem) (base size : Nat) : Mem := m.clearRange (base + c * size) (base + (c + 1) * size)
  let s := s.onMem fun m => { m with sram := wipe (wipe m.sram 0x1010000000 0x1000000) 0x1020000000 0x800000 }
  s.onCowslip fun x => { x with mboxes := [48, 49, 50, 51].foldl (fun t m => Tbl.del t (m + 4 * c)) x.mboxes }

/-- A cluster's power domain put into a state (16 R412, R415). -/
def State.setCluster (s : State) (c : Nat) (d : DomState) : State :=
  let s := if d = .off then s.clusterLost c else s
  s.onClock fun k => { k with
    doms := setAt k.doms (3 + c) d
    clusterSet := setAt k.clusterSet c d }

/-- OP3 entered (R412): the Field Stores become invalid, the cluster domains take the state last set, and items of the
classes without servers end. -/
def State.enterOp3 (s : State) : State :=
  let s := s.onWorld fun w => { w with stores := w.stores.map fun e => (e.1, { e.2 with valid := false }) }
  let s := [0, 1, 2, 3].foldl (fun s c => s.setCluster c (s.clock.clusterSet.getD c .retention)) s
  s.endOff

/-- The operating-point change put into force at an edge (R410): the prepared PLL takes the ARITH role; the write of a lower
voltage follows. -/
def State.opEdge (s : State) : State :=
  match s.clock.change with
  | none => s
  | some x =>
    if !x.ready s.now then s
    else
      let left3 := s.clock.op == 3 && x.target != 3
      let s := s.onClock fun c => { c with
        op := x.target
        opTarget := x.target
        change := none
        pllMap := setAt c.pllMap 0 x.spare
        opchgCnt := c.opchgCnt.incr
        lowering := !x.raising
        targetMv := if x.raising then c.targetMv else opMillivolts x.target
        doms := if left3 then c.doms.zipIdx.map (fun y => if 3 ≤ y.2 && y.2 < 7 then .on else y.1) else c.doms }
      if x.target = 3 then s.enterOp3 else s

/-- The spread change put into force at an edge (R408). -/
def ClockSt.spreadEdge (c : ClockSt) : ClockSt :=
  match c.spreadWaiting with
  | none => c
  | some (d, r) => { c with
      spreadDepth := d
      spreadRate := r
      spreadWaiting := none }

/-! ### The budget (01 R26, R27, R29, R39) -/

/-- A, E and MAX_UNITS of the program and setting in force; the throttle depth is kept where MAX_UNITS changes. -/
def State.rebudget (s : State) : State :=
  match s.bundle with
  | none => s
  | some b =>
    let a := acPerTick s.tick.periodUs s.setting
    let e := programEnd a
    let u := unitCount s.program e b.qMax
    s.onTick fun t => { t with
      acA := a
      acE := e
      maxUnits := u
      effUnits := if u = t.maxUnits then t.effUnits
        else if t.maxUnits = 0 then u else rebaseUnits t.minUnits.toNat t.maxUnits t.effUnits u }

/-- The throttle step of an edge (R39, R42; 16 R417): from MAX_UNITS where THR_EN was written 0 since the last edge. The master of a cascade applies the highest level that a member has
reported. -/
def State.throttleEdge (s : State) : State :=
  let t := s.tick
  let c := s.clock
  let r := throttleStep t.thrEn c.thermWarn c.thermCrit t.minUnits.toNat t.maxUnits t.recoverTicks.toNat
    (if t.thrOff then t.maxUnits else t.effUnits) (if t.thrOff then 0 else t.recoverCnt)
  let level := maxN ((s.casc.throttle.filter fun e => s.casc.serving.contains e.1).map (·.2))
  (s.onCasc fun c => { c with throttle := [] }).onTick fun t => { t with
    effUnits := if t.maxUnits = 0 then 0 else max (throttleFloor t.minUnits.toNat t.maxUnits) (min r.1 (t.maxUnits - level))
    recoverCnt := r.2
    thrOff := false }

/-! ### Values that wait for an edge -/

/-- A waiting write of an ETH register (17 R447, Table 17-9). -/
def HostSt.ethApply (h : HostSt) (w : EthWaiting) : HostSt :=
  if w.off = 0x0004 then { h with winUs := fld w.val 0 8 }
  else if w.off = 0x0008 then { h with
    prio1 := fld w.val 24 8
    ptpDomain := fld w.val 16 8
    gmOk := w.val.getLsbD 2
    profileE2E := w.val.getLsbD 0 }
  else if 0x400 ≤ w.off ∧ w.off < 0x800 then
    let d := (w.off - 0x400) / 16
    let x := Tbl.get {} h.dests d
    let mac := x.mac.toNat
    let y : EthDest := match (w.off - 0x400) % 16 with
      | 0 => { x with mac := BitVec.ofNat 48 (mac / 2 ^ 32 * 2 ^ 32 + w.val.toNat) }
      | 4 => { x with mac := BitVec.ofNat 48 (mac % 2 ^ 32 + fldN w.val 0 16 * 2 ^ 32) }
      | 8 => { x with
          ports := fld w.val 16 2
          tci := fld w.val 0 16 }
      | _ => x
    { h with dests := Tbl.put h.dests d y }
  else h

/-- The tick-control values as the registers hold them (10 R251). -/
def State.ctlWritten (s : State) : TickCtl :=
  { brickRange := s.world.brickRange.toNat, recentreCells := s.world.recentreCells.toNat,
    predThr := s.world.predThr.map (·.toNat), graceNs := s.commit.graceNs.toNat, wfEn := s.cornflower.wfEn,
    routeAdopt := s.lupin.routeAdopt, treeGrow := s.lupin.treeGrow, shiftLimit := s.vetch.shiftLimit.toNat,
    maxExclude := s.safety.maxExclude.toNat }

/-- SYS_ZHD_CFG put into force (10 R269, Table 10-11): checkpoints beyond CKPT_KEEP are dropped. -/
def ZhedaSt.cfgEdge (z : ZhedaSt) : ZhedaSt :=
  let w := z.cfgWritten
  let z := { z with
    interval := fld w 16 16
    keep := fld w 8 5
    journalEn := w.getLsbD 1
    recEn := w.getLsbD 0 }
  if z.ckpts.any fun e => decide (z.keepN ≤ e.1) then
    ({ z with ckpts := z.ckpts.filter fun e => decide (e.1 < z.keepN) }).reachUpdate
  else z

/-- Register values written since the last edge, put into force. -/
def State.latchEdge (s : State) : State :=
  let s := s.onTeasel fun t => { t with
    dlCap := t.dlCapWaiting.getD t.dlCap
    dlCapWaiting := none }
  let s := s.onHost fun h => { (h.ethWaiting.foldl HostSt.ethApply h) with ethWaiting := [] }
  let ctl := s.ctlWritten
  s.onZheda fun z => { z.cfgEdge with ctl := ctl }

end Sys2Proof.Machine
end

