-- ==== Sys2Proof/Machine/Reset.lean ====
section
/-! DEFINITION. Resets and the boot (16 R418 to R421; 18 R448, R452 to R459; 20 R486, R491, R492, R498). The boot's steps 2 to 5 are
one interval between commands: PWR_BOOT.STEP shows 2 until the boot ends. -/

namespace Sys2Proof.Machine

/-! ### What a reset leaves -/

/-- Whether something holds the device in reset. -/
def Holds.any (h : Holds) : Bool := h.por || h.sysRst || h.thermal || h.supply

/-- The PLL of each role after a reset: role r takes PLL r, or a spare where PLL r has failed (16 R401, R402). -/
def freshMap (failed : List Nat) : List Nat :=
  let spares := [8, 9].filter fun p => !failed.contains p
  ((List.range 8).foldl (fun (x : List Nat × List Nat) r =>
    if failed.contains r then
      match x.2 with
      | p :: l => (x.1 ++ [p], l)
      | [] => (x.1 ++ [r], [])
    else (x.1 ++ [r], x.2)) ([], spares)).1

/-- Power domains on while the boot runs: always-on, secure, I/O and memory (16 Table 16-5). -/
def bootDoms : List DomState := [.on, .on, .off, .off, .off, .off, .off, .on, .on]

/-- Thresholds of a grade, °C: WARN_C, CRIT_C, SHUT_C (16 Table 16-6, by the fused grade). -/
def gradeLimits (fused : BitVec 2) : Nat × Nat × Nat := if fused = 1 then (100, 105, 115) else (90, 95, 105)

/-- Clocks and power after a reset. POR_N clears all but the pins; the others keep the always-on domain's crystal qualification,
failed PLLs, sensors, PEAK, straps and the time of POR_N's release (16 R418). -/
def ClockSt.cleared (c : ClockSt) (por : Bool) (holds : Holds) (cause : BitVec 4) (fused : BitVec 2) : ClockSt :=
  let l := gradeLimits fused
  let base : ClockSt :=
    { n0 := c.n0, warnC := l.1, critC := l.2.1, shutC := l.2.2, tamperSrc := c.tamperSrc, holds := holds, rstCause := cause,
      bootSrc := c.bootSrc, cascRole := c.cascRole, porAt := c.porAt }
  if por then base
  else { base with
    xtalOk := c.xtalOk
    xtalFail := c.xtalFail
    onRc := c.onRc
    xtalRun := c.xtalRun
    xtalCount := c.xtalCount
    usbOff := c.usbOff
    pllFailed := c.pllFailed
    domains := (c.domains.filter (·.2.monOff)).map fun e => (e.1, { monOff := true })
    pllMap := freshMap c.pllFailed
    peak := c.peak
    temps := c.temps
    step := 2
    doms := bootDoms }

/-- The interfaces after a reset: the environment's memory, the fused and assigned numbers and the pins stay; the PTP timer runs on
in its always-on domain unless POR_N resets it. -/
def HostSt.cleared (h : HostSt) (por xtalFail : Bool) (now : Nat) : HostSt :=
  { mem := h.mem, vendor := h.vendor, perst := h.perst, xtalOut := !por && xtalFail,
    ports := h.ports.map (fun p => { mac := p.mac, rxLos := p.rxLos }),
    ptpBase := if por then 0 else h.ptpBase, ptpSince := if por then now else h.ptpSince,
    ptpRate := if por then 0 else h.ptpRate }

/-- What Primrose reads as it starts at boot step 2: the index range, the identity key, a fresh nonce (18 R451, R458, R459). -/
def State.startPrimrose (s : State) : State :=
  let (nonce, s) := s.random 4
  s.onSec fun p => { p with
    nonce := nonce
    next := { val := BitVec.ofNat 64 (p.nvm.blocks * 1024) }
    limit := p.nvm.blocks * 1024
    idPub := match p.nvm.seeds with
      | some seeds => (Config.xmssmtPublic seeds ++ List.replicate 68 0).take 68
      | none => List.replicate 68 0 }

/-- The tiles marked failed stay failed after a reset (14 R367). -/
def SafetySt.failedTiles (f : SafetySt) : Tbl TileSt :=
  ((List.range 72).filter fun t => (f.tile t).role == .failed).map fun t =>
    (t, { TileSt.home t with
      role := .failed
      owns := none
      serves := none })

/-- The Vetch mapping of the units that work: the spare is the fifth (08 R205, R206). -/
def VetchSt.cleared (v : VetchSt) : VetchSt :=
  let l := (List.range 5).filter fun u => !v.failedMask.getLsbD u
  { failedMask := v.failedMask, phys := l.take 4, spare := l[4]? }

/-- QSPI NOR after its programming is stopped: no valid image (18 R455). -/
def State.norAfterStop (s : State) : Nor :=
  match s.sec.cmds with
  | c :: _ => (match c.work with
    | .fwUpdate _ _ => { s.sec.nor with image := none }
    | _ => s.sec.nor)
  | [] => s.sec.nor

/-- The device reset: by POR_N whole, else everything but the always-on domain. The secure NVM die, the fuses, QSPI NOR and the
marks of failed units stay (16 R418; 14 R367; 18 R455); a wipe under way starts again (15 R386); LPDDR5X is lost. -/
def State.cleared (s : State) (por : Bool) (holds : Holds) (cause : BitVec 4) : State :=
  let t : State :=
    { ident := s.ident
      cornflower := { failedMask := s.cornflower.failedMask }
      poppy := { failedMask := s.poppy.failedMask }
      vetch := s.vetch.cleared
      safety := { tiles := s.safety.failedTiles }
      mem := { secure := if s.mem.secure = .wiping then .wiping else .opened }
      commit := if por then {} else { estopActive := s.commit.estopActive, lastLow := s.commit.lastLow }
      clock := s.clock.cleared por holds cause s.ident.fusedGrade
      host := s.host.cleared por s.clock.xtalFail s.now
      sec := { fuses := s.sec.fuses, nvm := s.sec.nvm, nor := s.norAfterStop, randIx := s.sec.randIx, nonce := s.sec.nonce }
      now := s.now
      freeIx := s.freeIx
      pending := s.pending }
  if por then t else t.startPrimrose

/-! ### Reset pins (R418; 20 R491, R498) -/

/-- POR_N low resets the whole die; SYS_RST_N, where low, stays low (20 R498). -/
def porAssertEffect (s : State) : State := s.cleared true { por := true, sysRst := s.clock.holds.sysRst } 1

def execPorAssert (s : State) : Out := .next (porAssertEffect s)

/-- POR_N released: the straps sampled, the RC running, the crystal qualification started; a rail out of tolerance holds the boot at
step 1 (R419; 20 R486, R492). -/
def porReleaseEffect (time : Nat) (st : Straps) (ok : Bool) (s : State) : State :=
  if !s.clock.holds.por then s
  else
    let s := (s.advance time).onIdent fun i => { i with gradeSel := st.gradeSel }
    let s := s.onClock fun c => { c with
      holds := { c.holds with
        por := false
        supply := !ok }
      bootSrc := st.bootSrc
      cascRole := st.cascRole
      porAt := s.now }
    if ok then (s.onClock fun c => { c with
      step := 2
      doms := bootDoms }).startPrimrose
    else s

def execPorRelease (time : Nat) (straps : Straps) (suppliesOk : Bool) (s : State) : Out :=
  .next (porReleaseEffect time straps suppliesOk s)

/-- SYS_RST_N low; POR_N governs while it is low too (20 R498). -/
def sysResetEffect (s : State) : State :=
  if s.clock.holds.por then s.onClock fun c => { c with holds := { c.holds with sysRst := true } }
  else s.cleared false { s.clock.holds with sysRst := true } 2

def execSysReset (s : State) : Out := .next (sysResetEffect s)

/-- SYS_RST_N high again; other holds go on (20 R498). -/
def sysResetReleaseEffect (s : State) : State := s.onClock fun c => { c with holds := { c.holds with sysRst := false } }

def execSysResetRelease (s : State) : Out := .next (sysResetReleaseEffect s)

/-- VDD_AON below 0.72 V resets as by POR_N; the boot goes on from its release (20 R492). -/
def execVddAonLow (s : State) : Out := .next (porAssertEffect s)

/-- Every rail back in tolerance for 1 ms: a boot held at step 1 proceeds; a reset by the supply hold ends (20 R492). -/
def supplyRecoveredEffect (s : State) : State :=
  if !s.clock.holds.supply then s
  else
    let first := s.clock.step == 1
    let s := s.onClock fun c => { c with holds := { c.holds with supply := false } }
    if first && !s.clock.holds.por then (s.onClock fun c => { c with
      step := 2
      doms := bootDoms }).startPrimrose
    else s

def execSupplyRecovered (s : State) : Out := .next (supplyRecoveredEffect s)

/-- DEV_RESET completes and then resets the device as SYS_RST_N does (R418). -/
def devResetEffect (h : Hdr) (s : State) : State :=
  s.packet h 0x0104 {} fun s => (s.final h 0x0104 .ok).cleared false s.clock.holds 4

def execDevReset (h : Hdr) (s : State) : Out := .next (devResetEffect h s)

/-! ### Firmware images (18 R452, R453) -/

/-- The image that bytes spell: the header and LENGTH bytes of body. -/
def FwImage.ofBytes (bs : List Byte) : FwImage :=
  { header := bs.take 5840, body := (bs.drop 5840).take (leAt bs 12 4) }

def FwImage.length (f : FwImage) : Nat := leAt f.header 12 4

/-- R453 in its order: 0 verified, else the FAIL_CODE. -/
def verifyImage (fuses : Fuses) (owner : Option (List Byte)) (f : FwImage) : Nat :=
  let msg := f.header.take 200
  let ownerOk := match owner with
    | none => true
    | some d => leAt f.header 2 1 % 2 == 1 && shake256 f.ownerKey == d && Config.xmssVerify f.ownerKey msg f.ownerSig
  if f.header.length != 5840 || leAt f.header 0 2 != 1 || decide (0x2000000 < f.length) || decide (64 < f.rollback) then 1
  else if fuses.keyDigests[f.keySlot]? != some (shake256 f.augonKey) || fuses.revoked.getLsbD f.keySlot then 1
  else if f.body.length != f.length || f.digest != shake256 f.body then 1
  else if !Config.xmssVerify f.augonKey msg f.augonSig then 1
  else if !ownerOk then 1
  else if f.rollback < fuses.rollback then 2
  else 0

/-- Whether the boot takes its image from QSPI NOR (R419). -/
def ClockSt.fromQspi (c : ClockSt) : Bool := c.bootSrc == 0 || c.bootSrc == 3

/-- The image that the boot verifies: of QSPI NOR, or as delivered (18 R455). -/
def State.bootImage (s : State) : Option FwImage := if s.clock.fromQspi then s.sec.nor.image else s.sec.image

/-! ### The measurement chain (18 R457) -/

def extend (m : List Byte) (ty : Byte) (d : List Byte) : List Byte := shake256 (m ++ [ty] ++ d)

/-- D of a type with a length of 32 bytes. -/
def pad32 (bs : List Byte) : List Byte := (bs ++ List.replicate 32 0).take 32

/-- D of type 2. -/
def stateDigest (f : Fuses) (img : Option FwImage) : List Byte :=
  pad32 [BitVec.ofNat 8 f.lifecycle, BitVec.ofNat 8 f.rollback, BitVec.ofNat 8 ((img.map (·.keySlot)).getD 0)]

/-- M after the first steps: the ROM, and the state where the boot came so far. -/
def chainStart (f : Fuses) (img : Option FwImage) (state : Bool) : List Byte :=
  let m := extend (List.replicate 32 0) 1 (pad32 Config.romDigest)
  if state then extend m 2 (stateDigest f img) else m

/-! ### The end of the boot (R419, R420) -/

/-- The boot fails (R420): the device stays in ROM recovery. Codes 1 and 2 come of step 3, the others of step 2. -/
def bootFailEffect (c : Nat) (s : State) : State :=
  if s.clock.ready || s.clock.holds.any || c = 0 then s
  else
    let s := s.onClock fun k => { k with
      failCode := c
      recovery := true
      step := if c ≤ 2 then 3 else 2 }
    s.onSec fun p => { p with chain := chainStart p.fuses (if s.clock.fromQspi then p.nor.image else p.image) (decide (c ≤ 2)) }

def execBootFail (code : Fin 5) (s : State) : Out := .next (bootFailEffect code.val s)

/-- The operating point that a stored bundle names, OP1 in place of OP0 on grade E (R420). -/
def bootOp (i : IdSt) (b : Bundle) : Nat := if b.op = 0 && i.effE then 1 else b.op

/-- The stored bundle as the boot checks it: none where there is none; refused, or accepted at its operating point (R419, R420). -/
def State.storedBundle (s : State) : Option (Option BundleSlot) :=
  s.sec.nor.bundle.map fun (m : Mem × Nat) =>
    let bs := m.1.reads 0 m.2
    match loadOutcome (leAt bs 4 4) m.2 (shake256 bs) bs with
    | (_, some x) =>
      if x.bundle.accepted (s.onClock fun c => { c with op := bootOp s.ident x.bundle }) then some x else none
    | _ => none

/-- The stored bundle committed without a tick edge at boot step 5. -/
def State.commitStored (s : State) (x : BundleSlot) : State :=
  let op := bootOp s.ident x.bundle
  let subst := x.bundle.op == 0 && op != 0
  let spare := ([8, 9].find? fun p => !s.clock.pllMap.contains p && !s.clock.pllFailed.contains p)
  let s := s.onCmd fun c => { c with active := some x }
  let s := s.onWorld fun w => { w with origin := x.bundle.origin }
  let s := s.onClock fun c => { c with
    op := op
    opTarget := op
    opSubst := subst
    voutMv := opMillivolts op
    targetMv := opMillivolts op
    pllLocked := if op = 1 then c.pllLocked else c.pllLocked ++ spare.toList
    pllMap := if op = 1 then c.pllMap else match spare with
      | some p => setAt c.pllMap 0 p
      | none => c.pllMap }
  let s := (s.loadBundle none x).rebudget
  let s := s.onTick fun t => { t with effUnits := t.maxUnits }
  if op = 3 then s.enterOp3 else s

/-- Rows repaired at a power-on, and those that could not be (15 R391). -/
def State.repairRows (s : State) (unrepaired : List Nat) : State :=
  if !s.clock.rstCause.getLsbD 0 then s
  else
    let bad := s.sec.nvm.repairs.filter unrepaired.contains
    let done := s.sec.nvm.repairs.length - bad.length
    let s := (s.onSec fun p => { p with nvm := { p.nvm with repairs := bad } }).onMem fun m => { m with
      pprApplied := BitVec.ofNat 8 (min 255 done)
      pprExhausted := !bad.isEmpty }
    bad.foldl (fun s r => s.logFault 10 (r % 8) 0x0131 0) s

/-- Whether the boot can reach READY: nothing holds the device, the crystal is accepted or has failed, the lifecycle state allows
planning, and the image is verified (R419; 18 R449, R453). -/
def State.bootable (s : State) : Bool :=
  !s.clock.ready && !s.clock.holds.any && (s.clock.xtalOk || s.clock.xtalFail) && decide (s.sec.fuses.lifecycle < 4) &&
  (match s.bootImage with
   | some f => verifyImage s.sec.fuses s.sec.nvm.owner f == 0
   | none => false)

/-- READY (R419, R420; 09 R243; 18 R454, R457). -/
def bootReadyEffect (time : Nat) (unrepaired : List Nat) (s : State) : State :=
  if !s.bootable then s
  else match s.bootImage with
  | none => s
  | some img =>
    let s := s.advance time
    let stored := s.storedBundle
    let s := s.onClock fun c => { c with
      op := 1
      opTarget := 1
      voutMv := 700
      targetMv := 700
      pllLocked := ((List.range 8).filterMap fun r => if c.xtalFail && (r = 3 || r = 4 || (r = 5 && c.usbOff)) then none
        else c.pllMap[r]?).filter fun p => !c.pllFailed.contains p
      doms := List.replicate 9 .on
      failCode := if stored = some none then 5 else 0
      recovery := false
      step := 6
      bootMs := (s.now - c.porAt) / 1000000 }
    let s := s.onMem fun m => { m with channels := m.channels.map fun x => { x with trained := true } }
    let s := s.repairRows unrepaired
    let s := match stored with
      | some (some x) => s.commitStored x
      | _ => s
    let m := chainStart s.sec.fuses (some img) true
    let m := extend m 3 (pad32 img.digest)
    let m := extend m 4 (pad32 (s.sec.nvm.owner.getD []))
    let m := extend m 5 (pad32 ((s.cmd.active.map (·.digest)).getD []))
    let s := s.onSec fun p => { p with
      image := some img
      chain := m
      fuses := { p.fuses with rollback := max p.fuses.rollback img.rollback } }
    let s := s.onZheda fun z => { z with fw := BitVec.ofNat 32 img.version }
    let s := s.onCommit fun c => { c with estopLatch := c.estopLatch || c.estopActive }
    ((s.onTeasel fun t => { t with readyAt := some s.now }).onClock fun c => { c with ready := true }).pinUpdate

def execBootReady (time : Nat) (unrepaired : List Nat) (s : State) : Out := .next (bootReadyEffect time unrepaired s)

end Sys2Proof.Machine
end

