-- ==== Sys2Proof/Machine/Security.lean ====
section
/-! DEFINITION. Chapter 18: Primrose's commands, identity key, tamper events and firmware updates. -/

namespace Sys2Proof.Machine

/-- The lifecycle state of the fuses (R448). -/
def Fuses.state (f : Fuses) : Nat := min 4 f.lifecycle

/-- SYS_ID (00 Table 0-5). -/
def IdSt.word (i : IdSt) : Word :=
  packWord [(16, i.partNum.toNat), (12, i.stepping.toNat), (8, i.profile.toNat), (6, i.fusedGrade.toNat), (4, b2n i.effE)]

/-- The 16-byte status header of Table 13-4 that answers an image delivered over USB (R456). -/
def statusHeader (st : Status) : List Byte :=
  (Cpl.bytes { ring := 80, final := true, status := st, tag := 0, seq := 0, opcode := 0x0A02 } false).take 16

/-- The end of a SEC command: its final completion, or the status header of an image over USB. -/
def State.answerSec (s : State) (c : SecCmd) (st : Status) : State :=
  match c.work with
  | .attest _ _ => s.final c.hdr 0x0A00 st
  | .lifecycle _ => s.final c.hdr 0x0A01 st
  | .fwUpdate _ usb =>
    if usb then s.onHost fun h => { h with usbIn := h.usbIn ++ [.header (statusHeader st)] }
    else s.final c.hdr 0x0A02 st

/-- XMSS_KEYGEN operations under way. -/
def State.keygens (s : State) : List Nat :=
  (s.cmd.longs.filter fun (e : Nat × LongOp) => (match e.2.work with | .keygen _ => true | _ => false) && e.2.state != .ended).map
    (·.1)

/-- Every SEC command in progress ends with ST_AUTH_FAIL (R451, R462); a programming of QSPI NOR that stops leaves no valid image
(R455). -/
def State.endSec (s : State) : State :=
  let l := s.sec.cmds
  let nor := s.norAfterStop
  let s := s.onSec fun p => { p with
    cmds := []
    nor := nor }
  s.keygens.foldl (fun s n => s.endLong n .authFail) (l.foldl (fun s c => s.answerSec c .authFail) s)

/-- The secure region wiped (15 R386): the rest of the index range is lost (R459). -/
def State.wipeSecure (s : State) : State := s.startWipe.onSec fun p => { p with next := { p.next with
  val := BitVec.ofNat 64 p.limit } }

/-! ### Tamper (R461, R462) -/

/-- What a tamper event does. -/
def State.tamperEvent (s : State) : State :=
  let s := s.wipeSecure.endSec
  (s.onSec fun p => { p with
    tampered := true
    nvm := { p.nvm with tamperCnt := satU 32 (p.nvm.tamperCnt + 1) } }).logFault 12 0 0x0150 1

/-- The tamper sources active from now on; one that becomes active is an event. They are monitored from boot step 2 (R461). -/
def tamperDetectEffect (src : BitVec 4) (s : State) : State :=
  let new := src &&& ~~~s.clock.tamperSrc
  let s := s.onClock fun c => { c with tamperSrc := src }
  if new = 0 || s.clock.holds.por || s.clock.step < 2 then s else s.tamperEvent

/-! ### SEC_ATTEST (R459, R460) -/

/-- A signature index reserved (R459): a new block where the range is used up, whose increment the NVM die confirms or not. -/
def State.reserve (s : State) (nvmOk : Bool) : Option Nat × State :=
  let p := s.sec
  let n := p.next.val.toNat
  if n < p.limit then (some n, s.onSec fun p => { p with next := { p.next with val := p.next.val + 1 } })
  else if 2 ^ 30 ≤ p.nvm.blocks then (none, s)
  else if !nvmOk then
    let (v, s) := s.fresh
    (none, s.logEntry 12 0 0x0151 1 false (toLe 4 p.nvm.blocks ++ toLe 4 (p.nvm.blocks + 1) ++ [v.setWidth 8, 0, 0, 0]))
  else
    let b := p.nvm.blocks + 1
    (some ((b - 1) * 1024), s.onSec fun p => { p with
      nvm := { p.nvm with blocks := b }
      next := { p.next with val := BitVec.ofNat 64 ((b - 1) * 1024 + 1) }
      limit := b * 1024 })

/-- Whether the state and the stored certificate allow an attestation, and no tamper source is active (R460). -/
def State.attestAllowed (s : State) : Bool :=
  (s.sec.fuses.state == 1 || s.sec.fuses.state == 2) && s.sec.nvm.cert.isSome && s.clock.tamperSrc == 0 && !s.sec.nvm.signOff &&
  s.sec.nvm.seeds.isSome

def certLen (n : Nvm) : Nat := ((n.cert.map List.length)).getD 0

/-- SEC_ATTEST: the index is reserved, then the report is signed. -/
def secAttestEffect (h : Hdr) (nonce : List Byte) (raddr : Nat) (nvmOk : Bool) (s : State) : State :=
  s.packet h 0x0A00
    { param := nonce.length == 32 && raddrOk h raddr (10092 + certLen s.sec.nvm), auth := s.attestAllowed } fun s =>
    match s.reserve nvmOk with
    | (none, s) => s.refuse h 0x0A00 .authFail
    | (some i, s) => (s.interim h 0x0A00 .pending).onSec fun p => { p with cmds := p.cmds ++ [⟨h, .attest nonce raddr, i⟩] }

def execSecAttest (h : Hdr) (nonce : List Byte) (raddr : Dword) (nvmOk : Bool) (s : State) : Out :=
  .next (secAttestEffect h nonce raddr.toNat nvmOk s)

/-- Bytes 0 to 191 of the report (Table 18-5). -/
def State.reportBody (s : State) (nonce : List Byte) (index : Nat) : List Byte :=
  let p := s.sec
  toLe 2 1 ++ [BitVec.ofNat 8 p.fuses.state, BitVec.ofNat 8 (b2n p.nvm.owner.isSome + 2 * b2n p.tampered)] ++
  toLe 4 s.ident.word.toNat ++ toLe 4 s.zheda.fw.toNat ++ [BitVec.ofNat 8 p.fuses.rollback, 0, 0, 0] ++
  toLe 8 p.fuses.serial.toNat ++ toLe 8 s.tickNo ++ pad32 nonce ++ pad32 p.chain ++
  pad32 ((s.cmd.active.map (·.digest)).getD []) ++ pad32 (p.nvm.owner.getD []) ++ toLe 4 (genOf s.cmd.active) ++
  toLe 4 p.nvm.tamperCnt ++ toLe 8 index ++ toLe 16 0

/-- The whole report: body, signature, certificate. -/
def State.report (s : State) (nonce : List Byte) (index : Nat) : List Byte :=
  let body := s.reportBody nonce index
  let cert := s.sec.nvm.cert.getD []
  let sig := (Config.xmssmtSign (s.sec.nvm.seeds.getD []) index body ++ List.replicate 9893 0).take 9893
  body ++ sig ++ [0, 0, 0] ++ toLe 4 cert.length ++ cert

/-- The report of the oldest SEC command is written, and its command ends; a frozen Primrose makes it wait (R460, R463). -/
def attestReportDoneEffect (s : State) : State :=
  match s.sec.cmds with
  | ⟨h, .attest nonce raddr, i⟩ :: l =>
    if (s.master 4).frozen then s
    else
      let bs := s.report nonce i
      let s := s.onSec fun p => { p with
        cmds := l
        tampered := false }
      s.finalReply h 0x0A00 raddr bs (toLe 4 bs.length)
  | _ => s

/-! ### SEC_LIFECYCLE (R450, R451) -/

/-- A fresh token nonce (R451). -/
def State.freshNonce (s : State) : State :=
  let (n, s) := s.random 4
  s.onSec fun p => { p with nonce := n }

/-- The message that a token signs (R450). -/
def State.tokenMessage (s : State) (target : Nat) : List Byte :=
  toLe 8 s.sec.fuses.serial.toNat ++ [BitVec.ofNat 8 s.sec.fuses.state, BitVec.ofNat 8 target] ++ toLe 6 0 ++ pad32 s.sec.nonce

/-- Whether a token verifies against a fused Augon key slot that is not revoked (R450, R453). -/
def State.augonToken (s : State) (target : Nat) (sig : List Byte) : Bool :=
  sig.length == 2820 && s.sec.fuses.keyDigests.zipIdx.any fun k =>
    !s.sec.fuses.revoked.getLsbD k.2 && Config.xmssVerifyDigest k.1 (s.tokenMessage target) sig

/-- Whether an owner token verifies; none is needed where no owner key is installed. -/
def State.ownerToken (s : State) (target : Nat) (sig : List Byte) : Bool :=
  match s.sec.nvm.owner with
  | none => true
  | some d => sig.length == 2820 && Config.xmssVerifyDigest d (s.tokenMessage target) sig

/-- Whether a transition is one of Table 18-2, with a TOKEN of a length it can have (check 5; 00 R6). -/
def State.transitionOk (s : State) (target len : Nat) : Bool :=
  match s.sec.fuses.state, target with
  | 0, 1 => decide (2820 ≤ len) && decide (len ≤ 4096)
  | 1, 2 => (len == 0 || len == 68) && s.ident.stepping != 0
  | 1, 3 => true
  | 2, 3 => true
  | st, 4 => decide (st < 4)
  | _, _ => false

/-- Whether a transition is authorised (Table 18-2). -/
def State.transitionAuth (s : State) (target : Nat) (token : List Byte) : Bool :=
  match s.sec.fuses.state, target with
  | 0, 1 => s.augonToken 1 (token.drop (token.length - 2820))
  | 1, 2 => true
  | _, 3 => s.augonToken 3 (token.take 2820) && s.ownerToken 3 (token.drop 2820)
  | _, 4 => s.ownerToken 4 token
  | _, _ => false

/-- The NVM effects of a transition (Table 18-2); an owner key digest is written once. -/
def Nvm.transition (n : Nvm) (target : Nat) (token : List Byte) : Nvm :=
  if target = 1 then { n with cert := some token }
  else if target = 2 then { n with owner := n.owner.orElse fun _ => if token = [] then none else some (shake256 token) }
  else if target = 3 then { n with
    signOff := true
    owner := none }
  else { n with
    seeds := none
    cert := none }

/-- SEC_LIFECYCLE up to the blowing of its fuse (R451 steps 1 to 3); the nonce changes whatever the answer. -/
def secLifecycleEffect (h : Hdr) (target : Nat) (token : List Byte) (s : State) : State :=
  let took := s.takes h
  let t := s.packet h 0x0A01 { param := s.transitionOk target token.length, auth := s.transitionAuth target token } fun s =>
    let s := (s.interim h 0x0A01 .pending).endSec
    let s := s.onSec fun p => { p with
      nvm := p.nvm.transition target token
      cmds := [⟨h, .lifecycle target, 0⟩] }
    s.wipeSecure
  if took then t.freshNonce else t

def execSecLifecycle (h : Hdr) (target : Byte) (token : List Byte) (s : State) : Out :=
  .next (secLifecycleEffect h target.toNat token s)

/-- The fuse of an accepted transition is blown: ST_OK, then a reset as by SYS_RST_N (R451 steps 4 and 5). -/
def lifecycleFuseBlownEffect (s : State) : State :=
  match s.sec.cmds with
  | ⟨h, .lifecycle target, _⟩ :: _ =>
    if (s.master 4).frozen then s
    else
      let s := s.onSec fun p => { p with
        fuses := { p.fuses with lifecycle := max p.fuses.lifecycle target }
        cmds := [] }
      (s.final h 0x0A01 .ok).cleared false s.clock.holds 2
  | _ => s

def execLifecycleFuseBlown (s : State) : Out := .next (lifecycleFuseBlownEffect s)

/-! ### Firmware updates (R455, R456) -/

/-- The boot goes on from step 3 with an image. -/
def State.resumeBoot (s : State) : State :=
  s.onClock fun c => { c with
    recovery := false
    failCode := 0
    step := 3 }

/-- An image handed over by a command or over USB: refused, programmed into QSPI NOR, or booted. -/
def State.takeImage (s : State) (c : SecCmd) (f : FwImage) : State :=
  if verifyImage s.sec.fuses s.sec.nvm.owner f ≠ 0 then s.answerSec c .authFail
  else if s.clock.fromQspi then s.onSec fun p => { p with cmds := p.cmds ++ [c] }
  else if s.clock.ready then s.answerSec c .ok
  else ((s.onSec fun p => { p with image := some f }).resumeBoot).answerSec c .ok

/-- Bytes of LPDDR5X. -/
def State.ddrBytes (s : State) (a n : Nat) : List Byte := (List.range n).map fun i => s.ddrByte (a + i)

/-- Where an image may lie: in LPDDR5X, and in ROM recovery in the first 64 MiB of the bundle-placed region (R455). -/
def State.imagePlaced (s : State) (addr len : Nat) : Bool :=
  decide (addr + len ≤ ddrEnd) &&
  (s.clock.ready || (decide (0x20000000 ≤ addr) && decide (addr + len ≤ 0x24000000)))

def secFwUpdateEffect (h : Hdr) (addr len : Nat) (s : State) : State :=
  s.packet h 0x0A02 { param := decide (5840 ≤ len) && decide (len ≤ 5840 + 0x2000000) && s.imagePlaced addr len } fun s =>
    let f := FwImage.ofBytes (s.ddrBytes addr len)
    (s.interim h 0x0A02 .pending).takeImage ⟨h, .fwUpdate f false, 0⟩ f

def execSecFwUpdate (h : Hdr) (addr : Dword) (length : Word) (s : State) : Out :=
  .next (secFwUpdateEffect h addr.toNat length.toNat s)

/-- QSPI NOR programmed and read back (R455). Where the read-back fails the command stays open and QSPI NOR holds no image. -/
def fwUpdateProgrammedEffect (ok : Bool) (s : State) : State :=
  match s.sec.cmds with
  | c :: l => (match c.work with
    | .fwUpdate f _ =>
      if (s.master 4).frozen then s
      else if !ok then s.onSec fun p => { p with nor := { p.nor with image := none } }
      else
        let s := s.onSec fun p => { p with
          cmds := l
          nor := { p.nor with image := some f } }
        (if s.clock.ready then s else s.resumeBoot).answerSec c .ok
    | _ => s)
  | [] => s

/-- An image over USB in ROM recovery, or while the boot waits for one from USB (R456). -/
def usbRecoveryImageEffect (bs : List Byte) (s : State) : State :=
  if s.clock.ready || s.clock.holds.any || !s.host.usbConnected || !(s.clock.recovery || s.clock.bootSrc == 2) then s
  else
    let f := FwImage.ofBytes bs
    let h : Hdr := { ring := 80 }
    if bs.length < 5840 then s.answerSec ⟨h, .fwUpdate f true, 0⟩ .badParam else s.takeImage ⟨h, .fwUpdate f true, 0⟩ f

def execUsbRecoveryImage (bytes : List Byte) (s : State) : Out := .next (usbRecoveryImageEffect bytes s)

/-! ### XMSS_KEYGEN (R458) -/

/-- XMSS_KEYGEN, a long operation, in MANUFACTURE only (R449). -/
def xmssKeygenEffect (h : Hdr) (raddr : Nat) (s : State) : State :=
  s.longPacket h 0x0A03 { param := raddrOk h raddr 68, auth := s.sec.fuses.state == 0 } .cp (.keygen raddr)

def execXmssKeygen (h : Hdr) (raddr : Dword) (s : State) : Out := .next (xmssKeygenEffect h raddr.toNat s)

end Sys2Proof.Machine
end

