-- ==== Sys2Proof/Machine/CutOff.lean ====
section
/-! DEFINITION. The cut-off at ac 0 of a tick (02 R45, R56 to R62), the journal entries it makes (10 R263), the adoption of route
sets and full recomputes (04 R135; 06 R181, R182; 19 R475), and the allocation of candidates (04 R115 to R117; 19 R476). -/

namespace Sys2Proof.Machine

/-! ### Journal entries (10 R263) -/

/-- A cell of an occupancy record. -/
def cellBytes (c : V3) : List Byte := toLe 2 (unS 16 c.x) ++ toLe 2 (unS 16 c.y) ++ toLe 2 (unS 16 c.z) ++ [0, 0]

/-- The payload of an occupancy segment of a source (Table 2-3). -/
def Segment.bytes (src : Nat) (g : Segment) : List Byte :=
  [BitVec.ofNat 8 src, BitVec.ofNat 8 g.seg, BitVec.ofNat 8 g.segCount, 0] ++ toLe 2 g.full.length ++ toLe 2 g.part.length ++
  g.full.flatMap cellBytes ++ g.part.flatMap fun p => cellBytes p.cell ++ p.bm

/-- The payload of a robot state of a context (Table 2-4). -/
def RobotState.bytes (c : Nat) (r : RobotState) : List Byte :=
  toLe 2 c ++ [BitVec.ofNat 8 r.q.length, 0] ++ toLe 4 (unS 32 r.base.x) ++ toLe 4 (unS 32 r.base.y) ++
  toLe 4 (unS 32 r.base.z) ++ toLe 4 r.yaw.toNat ++ (r.q.flatMap fun w => toLe 4 w.toNat) ++ r.v.flatMap fun x => toLe 4 (unS 32 x)

/-- An entry added to the trace of the tick; the entries stand by TYPE, then ID, then in the order made. -/
def TickTrace.entry (t : TickTrace) (e : JEntry) : TickTrace :=
  { t with entries := insertBy (fun a b => decide (a.ty < b.ty) || (a.ty == b.ty && decide (a.id ≤ b.id))) e t.entries }

def State.entry (s : State) (ty id time : Nat) (bs : List Byte) : State := s.updTrace fun t => t.entry ⟨ty, id, time, bs⟩

/-! ### World commands (02 R62) -/

def WorldCmd.apply (z : Tbl Zone) (c : WorldCmd) : Tbl Zone :=
  match c with
  | .keepoutSet id x => Tbl.put z id x
  | .keepoutClear id => Tbl.del z id
  | .keepoutClearAll => []

/-- The world commands of a cut-off, in ring order and, within a ring, in sequence order. -/
def State.applyWorldCmds (s : State) : State :=
  let l := sortBy (fun (x y : WaitingWorldCmd) => decide (x.ring ≤ y.ring)) s.world.waitingCmds
  l.foldl (fun s (w : WaitingWorldCmd) => (s.onWorld fun x => { x with zones := w.cmd.apply x.zones }).entry 3 w.ring w.seq w.bytes)
    (s.onWorld fun x => { x with waitingCmds := [] })

/-- The context commands of the edge, with their entries (04 R115). -/
def State.runCtxCmds (s : State) : State :=
  let l := sortBy (fun (x y : WaitingCmd) => decide (x.hdr.ring ≤ y.hdr.ring)) s.teasel.waiting
  l.foldl (fun s (w : WaitingCmd) => s.entry 3 w.hdr.ring w.hdr.seq.toNat w.bytes) s.applyCtxCmds

/-! ### Snapshots and states (02 R56, R57, R60) -/

/-- Whether the segments of one time-stamp are complete. -/
def snapshotDone (l : List Segment) : Bool :=
  match l with
  | [] => false
  | g :: _ => (List.range g.segCount).all fun i => l.any fun x => x.seg == i

/-- The newest complete snapshot of a source at or before T(k), segments in SEG order. -/
def SourceSt.newest (x : SourceSt) (t : Nat) : Option (Nat × List Segment) :=
  x.held.foldl (fun m g =>
    let l := x.held.filter fun o => o.stamp == g.stamp
    if g.stamp ≤ t && snapshotDone l && (match m with | some n => decide (n.1 < g.stamp) | none => true) then
      some (g.stamp, sortBy (fun a b => decide (a.seg ≤ b.seg)) l)
    else m) none

/-- The snapshot that a source gives to the cut-off of T(k): newer ones stay held. -/
def State.takeSnapshot (s : State) (t : Nat) (e : Nat × SourceSt) : State :=
  match e.2.newest t with
  | none => s
  | some u =>
    let s := s.onWorld fun w => { w with sources := Tbl.put w.sources e.1 { e.2 with
      used := some u
      held := e.2.held.filter fun g => decide (u.1 < g.stamp) } }
    s.entry 1 e.1 u.1 (u.2.flatMap (Segment.bytes e.1))

/-- Joint count of a context under the active bundle; none while it is FREE. -/
def State.ctxJoints (s : State) (c : Nat) : Option Nat :=
  if (s.ctx c).state == .free then none else jointsOf s.bundle (s.ctx c).model

/-- The robot state that a context gives to the cut-off of tick k (R60); a state with another joint count than the context's
model is dropped (R55). -/
def State.takeCtxState (s : State) (k t : Nat) (e : Nat × CtxInput) : State :=
  let due := e.2.waiting.filter fun r => decide (r.stamp ≤ t)
  let fits (r : RobotState) : Bool := match s.ctxJoints e.1 with | some j => r.q.length == j | none => true
  let good := due.filter fits
  let s := s.onWorld fun w => { w with
    dropCnt := w.dropCnt.add (due.length - good.length)
    inputs := Tbl.put w.inputs e.1 { e.2 with
      waiting := e.2.waiting.filter fun r => decide (t < r.stamp)
      prev := e.2.taken
      taken := match good.getLast? with | some r => some (r, k) | none => e.2.taken } }
  match good.getLast? with
  | some r => s.entry 2 e.1 r.stamp (r.bytes e.1)
  | none => s

/-- SYS_WLD_SRC_STALE at the cut-off of T(k): the declared sources that are stale (R58); an undeclared one reads 0 (Table 2-7). -/
def WorldSt.staleAt (w : WorldSt) (b : Bundle) (t periodUs : Nat) : Half :=
  BitVec.ofNat 16 ((List.range 16).foldl (fun m i =>
    let old := match b.sources.find? (fun d => d.id == i), (Tbl.get {} w.sources i).used with
      | some d, some u => decide (d.staleTicks * periodUs * 1000 + u.1 < t)
      | some _, none => true
      | none, _ => false
    m + b2n old * 2 ^ i) 0)

/-! ### Origin and focus (02 R45, R70) -/

/-- The robot state that the origin follows: of the focus context while it is ACTIVE or DRAIN. -/
def State.focusState (s : State) (b : Bundle) : Option RobotState :=
  let x := (s.ctx b.focusCtx).state
  if x == .active || x == .drain then s.stateNow b.focusCtx else none

/-- The origin and the focus cell of the cut-off; a move of the origin is told to Cornflower (06 R179). -/
def State.placeOrigin (s : State) (b : Bundle) : State :=
  let old := s.world.origin
  let o0 : V3 := { old with z := b.origin.z }
  let o := if !b.follow then b.origin
    else match s.focusState b with
      | some r => followOrigin o0 r.base s.zheda.ctl.recentreCells
      | none => o0
  let focus := if !b.follow then b.focus
    else match s.focusState b with
      | some r => focusCell o r.base
      | none => ⟨32, 32, 8⟩
  let d := (o.sub old).fdiv 2560
  let moved := d != ({} : V3)
  let s := s.onWorld fun w => { w with
    origin := o
    shifted := d
    focus := focus
    originMoved := w.originMoved || moved }
  if moved then s.onCornflower fun c => { c with
    slots := c.slots.map fun e => (e.1, { e.2 with shift := e.2.shift.add d }) }
  else s

/-! ### History (03 R96, R97) -/

/-- Bits set in a byte list. -/
def popcount (l : List Byte) : Nat := sumN (l.map fun b => ((List.range 8).filter fun i => b.getLsbD i).length)

/-- The observed layer of a cut-off as UINT8 values by cell (R96). -/
def Taken.values (t : Taken) (origin : V3) : List Nat :=
  let parts := mergeParts t.part
  let d := origin.fdiv 2560
  (List.range 65536).map fun i =>
    let c := (cellOf i).add d
    if t.full.contains c then 255
    else match parts.find? (fun p => p.cell == c) with
      | some p => histValue (popcount p.bm)
      | none => 0

/-- The observed layer written to the history ring (R97). -/
def State.pushHistory (s : State) (b : Bundle) : State :=
  let need := match b.predictor with | some p => (p.histDepth - 1) * p.histStride + 1 | none => 1
  let f : HistFrame := { origin := s.world.origin, cells := (s.world.taken b).values s.world.origin }
  s.onAster fun a =>
    let h := (f :: a.history).take 64
    { a with
      history := h
      predWarmup := decide (h.length < need) }

/-- The cut-off of tick k at T(k) (02 R56 to R62). -/
def State.cutOff (s : State) (k t : Nat) : State :=
  match s.bundle with
  | none => s
  | some b =>
    let s := s.applyWorldCmds
    let s := s.world.sources.foldl (fun s e => s.takeSnapshot t e) s
    let s := s.world.inputs.foldl (fun s e => s.takeCtxState k t e) s
    let s := s.onWorld fun w => { w with srcStale := w.staleAt b t s.tick.periodUs }
    (s.placeOrigin b).pushHistory b

/-! ### Adoption (04 R135; 06 R181, R182; 19 R475) -/

/-- Whether every member in service has acknowledged its copy. -/
def CascadeSt.acked (c : CascadeSt) (ctx : Nat) (grid : Bool) : Bool :=
  c.serving.all fun p => c.acks.contains (p, ctx, grid)

/-- A completed route set adopted, or discarded where its model is not the context's any more. -/
def State.adoptRoutes (s : State) (e : Nat × LupCtx) : State :=
  match e.2.waitingRoutes with
  | none => s
  | some r =>
    if (s.ctx e.1).state == .free || (s.ctx e.1).model != r.model then s.updLup e.1 fun l => { l with waitingRoutes := none }
    else if s.zheda.ctl.routeAdopt && s.casc.acked e.1 false then
      (s.updLup e.1 fun l => { l with
        waitingRoutes := none
        routes := some r }).entry 4 e.1 0 (Config.casBytes (.routes e.1 r))
    else s

/-- A grid that becomes the source of ring 1, moved by what the origin has moved since its copy was taken. -/
def CflSlot.adopt (x : CflSlot) (g : Grid) (moved : V3) : CflSlot :=
  { x with
    adopted := some g
    needReset := false
    shift := moved }

/-- The long operation behind a full recompute. -/
def State.fullOp (s : State) (hd : Nat) : Option Nat :=
  (List.find? (fun (e : Nat × LongOp) => e.2.handle == hd && e.2.state != .ended) s.cmd.longs).map (·.1)

/-- A completed full recompute adopted: its operation ends ST_OK with the rings it took; a slot that its context has left
takes nothing, and the operation ends ST_CANCELLED. -/
def State.adoptFull (s : State) (r : FullRun) : State :=
  if !r.done || !s.casc.acked r.ctx true then s
  else
    let hit := (s.ctx r.ctx).slot == some r.slot
    let s := s.onCornflower fun c => { c with full := c.full.filter fun x => x.handle != r.handle }
    let s := if hit then (s.updCflSlot r.slot fun x => x.adopt r.grid ((s.world.origin.sub r.origin).fdiv 2560)).entry 5 r.ctx 0
        (Config.casBytes (.grid r.ctx r.origin r.grid)) else s
    match s.fullOp r.handle with
    | some n => s.endLong n (if hit then .ok else .cancelled) (if hit then toLe 2 r.ringsDone else [])
    | none => s

/-- Full recomputes whose run was discarded at the edge (R182) end with ST_CANCELLED. -/
def State.endLostFulls (s : State) : State :=
  let l := (s.cmd.longs.filter fun (e : Nat × LongOp) => e.2.work == .wavefront && e.2.copies.isSome && e.2.state != .ended &&
    !(s.cornflower.full.any fun r => r.handle == e.2.handle)).map (·.1)
  l.foldl (fun s n => s.endLong n .cancelled) s

def State.adoptEdge (s : State) : State :=
  let s := s.lupin.ctxs.foldl (fun s e => s.adoptRoutes e) s
  let s := s.endLostFulls
  s.cornflower.full.foldl (fun s r => s.adoptFull r) s

/-! ### The foreground slots and the allocation (04 R115, R116) -/

/-- What the foreground program latches of a context (R115). -/
def Ctx.fgSlot (c : Nat) (x : Ctx) : FgSlot :=
  { ctx := c, drain := x.state == .drain, model := x.model, goals := x.goals, seed := x.seed, gen := x.gen, rec' := x.inForce }

/-- The foreground slots in ascending order. -/
def State.latchSlots (s : State) : Tbl FgSlot :=
  s.teasel.fgOf.foldl (fun t (e : Nat × Ctx) => match e.2.slot with
    | some n => Tbl.put t n (e.2.fgSlot e.1)
    | none => t) []

/-- Whether a context has no anchor in the tick (09 R502): the third case of R125 applies, and no state was accepted by the
cut-off of the tick before. -/
def State.noAnchor (s : State) (n : Nat) (f : FgSlot) : Bool :=
  let r := (s.holSlot n).record
  (r.state == .empty || r.form.anchor.length != f.nJ s) && (s.statePrev f.ctx).isNone

/-- The LUP_FG window of a slot (Table 4-8). -/
def State.lupWindow (s : State) (f : FgSlot) (a : AllocOut) (nostate : Bool) : LupSlot :=
  let x := s.lupCtx f.ctx
  { valid := true, ctx := f.ctx, knots := f.rec'.knots, share := f.rec'.share, spheres := f.rec'.spheres,
    waypoints := f.rec'.waypoints, base := a.base, alloc := a.alloc, count := a.count, blocks := f.rec'.blocks a.alloc,
    treeNodes := (x.tree.map (·.nodes.length)).getD 0, routeGen := (x.routes.map (·.gen)).getD 0, nostate := nostate }

/-- The allocation of the tick over the contexts that plan (R116, R117), at the master for m devices (19 R476). -/
def State.allocEdge (s : State) : State :=
  let l := s.planSlots
  let ins := l.map fun (e : Nat × FgSlot) =>
    ({ slot := e.1, share := e.2.rec'.share, req := e.2.rec'.req, q := e.2.rec'.q, nostate := s.noAnchor e.1 e.2 } : AllocIn)
  let r := allocate s.tick.maxUnits s.tick.effUnits ins s.casc.count
  let live := sumN (r.out.map (·.count))
  let slots := (l.zip (r.out.zip ins)).map fun x => (x.1.1, s.lupWindow x.1.2 x.2.1 x.2.2.nostate)
  (s.onLupin fun p => { p with
    slots := slots
    fgCount := l.length
    liveTotal := live
    trimmed := p.trimmed || decide (0 < r.trim)
    trimCnt := p.trimCnt.add r.trim }).updTrace fun t => { t with liveTotal := live }

end Sys2Proof.Machine
end

