-- ==== Sys2Proof/Machine/TickEdge.lean ====
section
/-! DEFINITION. The accepted tick edge, step by step, and the tick sources that bring it (01 R11 to R21, R33; 04 R139; 10 R255 to
R257; 19 R471, R479, R480). -/

namespace Sys2Proof.Machine

/-! ### What the tick before leaves (10 R262) -/

/-- VET_SLOT_RESULT (08 Table 8-8). -/
def VetSlot.resultWord (v : VetSlot) : Nat := v.shiftRun * 2 ^ 24 + v.state * 2 ^ 16 + v.cutIter * 2 ^ 8 + v.iters

/-- The section of a slot in the record of the tick: KIND 0xFF and no payload where it emitted no frame (09 R502). -/
def State.slotTrace (s : State) (e : Nat × FgSlot) : SlotTrace :=
  let q := s.commit.frames.find? fun q => q.slot == e.1
  { slot := e.1, ctx := e.2.ctx, kind := (q.map (·.frame.kind)).getD 0xFF, seed := e.2.seed.toNat,
    vetResult := (s.vetSlot e.1).resultWord, routeGen := (s.lupSlot e.1).routeGen,
    payload := (q.map (·.frame.bytes)).getD [] }

/-- The trace of the tick closed: its record is due in the next tick, and a record still due is missed (R264); a checkpoint still
being captured is abandoned (R261). -/
def State.closeTrace (s : State) : State :=
  let s := s.onZheda fun z => (if z.prevTrace.isSome then z.gapped else z).abandon
  if s.zheda.recEn && !s.casc.memberInService && s.zheda.trace.tick == s.tickNo && !s.zheda.trace.closed && s.tickNo != 0 then
    let slots := s.teasel.fg.map s.slotTrace
    s.onZheda fun z => { z with
      prevTrace := some { z.trace with slots := slots }
      trace := { z.trace with closed := true } }
  else s

/-- The running tick stopped by an edge at an ac: truncated where it had not reached E (01 R33). -/
def State.stopTick (s : State) (ac : Nat) : State :=
  if s.tick.prog.running && decide (ac < s.tick.acE) then s.truncate ac
  else (s.reachAc ac).updProg fun p => { p with running := false }

/-! ### The cascade at the edge (19 R471, R479, R480) -/

/-- Whether a transfer of a type from a position came complete in the tick. -/
def CascadeSt.came (c : CascadeSt) (pos ty : Nat) : Bool :=
  c.transfers.any fun t => t.src == pos && t.type == ty && t.complete && !t.broken

/-- Members counted as missing: a tick that ran to its end without the RESULT and STATUS of a member. -/
def State.countMissing (s : State) : State :=
  if s.zheda.trace.short || s.tickNo == 0 || s.clock.op == 3 then s
  else s.onCasc fun c => { c with members := c.members.map fun e =>
    (e.1, if e.2.state == .inService then
        { e.2 with missing := if c.came e.1 5 && c.came e.1 6 then 0 else e.2.missing + 1 } else e.2) }

/-- A member removed (R479). -/
def State.removeMember (s : State) (p : Nat) : State :=
  let s := s.onCasc fun c => { c.castTo p 9 s.tickNo (Config.casBytes .removed) with
    lostCnt := c.lostCnt.incr
    members := Tbl.upd {} c.members p fun m => { m with
      state := .removed
      missing := 0
      synced := false
      snapAt := none } }
  s.logFault 13 p 0x0160 2

/-- The members to remove at the edge: named by CASC_MEMBER_REMOVE, missing too long, or with every path down (R479). -/
def CascadeSt.leaving (c : CascadeSt) : List Nat :=
  c.serving.filter fun p =>
    let m := Tbl.get {} c.members p
    c.removals.contains p || !m.present || decide (max 1 c.lossTicks.toNat ≤ m.missing)

/-- Whether a device joins at the edge (R480). -/
def State.joins (s : State) (m : Member) : Bool :=
  m.state == .joining && m.present && m.measured && m.digest == some s.zheda.digest && m.synced && s.cmd.active.isSome

/-- A device put in service. -/
def State.admitMember (s : State) (p : Nat) : State :=
  s.onCasc fun c => { c.castTo p 9 s.tickNo (Config.casBytes (.letIn p)) with
    members := Tbl.upd {} c.members p fun m => { m with
      state := .inService
      missing := 0 } }

/-- D_max over the members in service, taken where it differs by more than 20 ns (R471), m and REDUCED (R476, R479). -/
def CascadeSt.recount (c : CascadeSt) : CascadeSt :=
  let d := maxN (c.serving.map fun p => (Tbl.get {} c.members p).delay)
  let m := 1 + c.serving.length
  { c with
    dMax := if 20 < (if d ≤ c.dMax then c.dMax - d else d - c.dMax) then d else c.dMax
    count := m
    ix := 0
    fullCount := max c.fullCount m
    reduced := c.reduced || decide (m < c.fullCount)
    removals := [] }

/-- S(k) for a joining device at the edge at which its transfer starts, and the inputs of the ticks recorded since (R480). -/
def State.feedJoin (s : State) (x : Snapshot) (k : Nat) (e : Nat × Member) : State :=
  if e.2.state != .joining || !e.2.present || !e.2.measured || e.2.digest != some s.zheda.digest then s
  else match e.2.snapAt with
    | none => s.onCasc fun c => { c.castTo e.1 8 k (Config.casBytes (.snapshot x)) with
        members := Tbl.upd {} c.members e.1 fun m => { m with snapAt := some k } }
    | some j => match s.zheda.records.getLast? with
      | some r =>
        if j ≤ r.tick then s.onCasc fun c =>
          c.castTo e.1 8 k (Config.casBytes (.recorded r.bytes (((s.zheda.jrnAt r.tick).map (·.entries)).getD [])))
        else s
      | none => s

/-- The delays that a member starts its ticks by (R471). -/
def State.sendDelays (s : State) (p : Nat) : State :=
  s.onCasc fun c => c.castTo p 9 s.tickNo (Config.casBytes (.delays (Tbl.get {} c.members p).delay c.dMax))

/-- An echo frame to a device (R471). -/
def State.sendEcho (s : State) (p : Nat) : State :=
  s.onCasc fun c => { c.castTo p 9 s.tickNo (Config.casBytes .echo) with
    members := Tbl.upd {} c.members p fun m => { m with echoAt := some s.now } }

/-- Removals, then joins (R479, R480). Two masters admit nobody (R469). -/
def State.cascadeEdge (s : State) (x : Snapshot) (k : Nat) : State :=
  if !s.clock.cascRole then s
  else
    let s := s.countMissing
    let s := s.casc.leaving.foldl State.removeMember s
    let l := if s.casc.dualMaster then [] else (s.casc.members.filter fun e => s.joins e.2).map (·.1)
    let s := l.foldl State.admitMember s
    let old := s.casc.dMax
    let s := s.onCasc CascadeSt.recount
    let s := if l.isEmpty && s.casc.dMax == old then s else s.casc.serving.foldl State.sendDelays s
    let s := if k % 1024 = 0 then (s.casc.others.map (·.1)).foldl State.sendEcho s else s
    s.casc.members.foldl (fun s e => s.feedJoin x k e) s

/-! ### Releases and injections -/

/-- Slots whose drain has ended are released (09 R240). -/
def State.drainEdge (s : State) : State :=
  (s.commit.slots.filter fun e => e.2.drainDone).foldl (fun s e => match s.teasel.inSlot e.1 with
    | some c => if c.2.state == .drain then s.releaseCtx c.1 else s
    | none => s) s

/-- One delay-list entry released (11 Table 11-2): an item joins its flow at the tail; a long operation is
queued again (Table 13-8); a timer raises its
vector or its counter; a firmware service becomes ready. -/
def State.releaseDelay (s : State) (e : DelayEntry) : State :=
  match e.owner with
  | .flowItem n => match s.poolEntry n with
    | some p => ((s.updPool n fun x => { x with place := .waiting }).updFlow p.flow fun f =>
        { f with waiting := f.waiting ++ [n] }).refreshFlow p.flow
    | none => s
  | .longOp h => match s.slotOf h with
    | some n => match s.longAt n with
      | some o => s.setLong n { o with
          state := .queued
          delayed := false }
      | none => s
    | none => s
  | .timer _ counter arg => if counter then s.counterAdd arg 1 .teasel else s.interrupt (arg % 64) 2
  | .firmware w => s.onTeasel fun t => { t with fwReady := t.fwReady ++ [⟨w, 0, 0⟩] }

/-- The delay lists at the edge of tick k (11 R279). -/
def State.delayEdge (s : State) (k : Nat) : State :=
  let due := s.teasel.delays.flatMap fun l => l.filter fun e => decide (e.due ≤ k)
  let s := s.onTeasel fun t => { t with delays := t.delays.map fun l => l.filter fun e => !decide (e.due ≤ k) }
  due.foldl State.releaseDelay s

/-- A fault injection that acts from the edge (14 R366): flips into the Field Store, a violation, or armed until it strikes. -/
def State.inject (s : State) (i : Injection) : State :=
  if i.kind = 2 ∨ i.kind = 3 then
    let f (b : Nat) : FsFlip := ⟨i.arg / 2 ^ 20 % 4, i.arg % 2 ^ 20 / 8, b⟩
    s.updStore i.inst fun x => { x with flips := x.flips ++ (if i.kind = 2 then [f 0] else [f 0, f 1]) }
  else if i.kind = 5 then s.violate i.inst (BitVec.ofNat 4 i.arg) 0 false false 0 true
  else s.onSafety fun x => { x with armed := x.armed ++ [i] }

/-- The injections due at the edge of tick k. -/
def State.injectEdge (s : State) (k : Nat) : State :=
  let due := s.safety.injections.filter fun i => decide (i.tick ≤ k)
  due.foldl State.inject (s.onSafety fun f => { f with injections := f.injections.filter fun i => !decide (i.tick ≤ k) })

/-- Foreground masters released at the edge (14 R362), and the freezes that the commit of the tick sees (09 R234; 14 R361). -/
def State.freezeEdge (s : State) : State :=
  let fgm := (List.range 15).filter s.foregroundMaster
  let held := fgm.any fun m => (s.master m).frozen
  let s := s.onCommit fun c => { c with
    freezePrev := c.freezeNow || held
    freezeNow := false }
  (fgm.filter fun m => (s.master m).releaseAtEdge).foldl State.releaseMaster s

/-- The ESTOP latch cleared by an accepted REARM, unless the input is active again (09 R244). -/
def State.rearmEdge (s : State) : State :=
  s.onCommit fun c => { c with
    rearm := false
    estopLatch := c.estopLatch && !(c.rearm && !c.estopActive) }

/-! ### The new tick -/

/-- A CRITICAL condition that persists (14 R364): a short cluster, units failed without a remedy, a frozen Primrose, two
masters. -/
def State.critical (s : State) : Bool :=
  s.safety.rots.any (·.short) || s.cornflower.failedMask != 0 || s.poppy.mergeFailed || s.safety.lupinFailed ||
  (s.poppy.failedMask != 0 && !s.poppy.takenOver) || !(s.arraysUp == 4 || (s.aster.degraded && s.arraysUp == 3)) ||
  (s.master 4).frozen || s.casc.dualMaster

/-- Per-slot state of the tick before, cleared; the buffer that the engines read is that of PUBSEL at ac 0 (06 R178). -/
def State.freshSlots (s : State) (old : Tbl FgSlot) : State :=
  let fg := s.teasel.fg
  let s := s.onCornflower fun c => { c with
    ringsRanThisTick := false
    slots := c.slots.map fun e => (e.1, { e.2 with engSel := if e.2.pubValid then some e.2.pubSel else none }) }
  let s := s.onVetch fun v => { v with slots := v.slots.map fun e => (e.1, { e.2 with
    phase := .idle
    nextAc := 0
    work := []
    refRank := none
    itersTried := 0
    cutNow := 0 }) }
  let s := s.onPoppy PoppySt.unpublish
  s.onCommit fun c => { c with
    frames := []
    selected := false
    slots := (List.range 16).foldl (fun t n =>
      let was := match Tbl.find? old n, Tbl.find? fg n with
        | some a, some b => a.ctx == b.ctx && !a.drain
        | _, _ => false
      if (Tbl.find? t n).isSome || (Tbl.find? fg n).isSome then Tbl.upd {} t n fun x => { x with
          wasFg := was
          emittedPlan := false
          checks := [] } else t) c.slots }

/-- Results and records of the tick before, cleared. -/
def State.freshTick (s : State) (k : Nat) : State :=
  let s := s.onWorld fun w => { w with
    pred := none
    coarse := none
    built := none }
  let s := s.onHarebell fun h => { h with
    live := []
    golden := []
    ran := false }
  let s := s.onAster fun a => { a with
    tickCriticSkipped := false
    mixes := a.mixes.map fun e => if e.1 % 2 = (k + 1) % 2 then (e.1, { e.2 with valid := false }) else e }
  let s := s.onHost fun h => { h with wire := [] }
  let s := s.onSafety fun f => { f with
    exclMask := f.maskNow
    maskNow := []
    overLimit := false
    tiles := if k % 65536 = 0 then f.tiles.map fun e => (e.1, { e.2 with ceCount := 0 }) else f.tiles }
  s.onCasc fun c => { c with
    anchors := []
    transfers := c.transfers.filter fun t => decide (t.tick = k % 2 ^ 32) || t.type == 8
    results := []
    ownResults := []
    fieldIn := none
    inputsIn := none
    decisionIn := none }

/-- The progress of a new tick: its stages run where a bundle is active, the point is not OP3 (16 R412) and the device is not
ISOLATED (19 R472); no candidates run where no Field Store is valid (01 R34). -/
def State.newProg (s : State) : TickProgress :=
  { running := s.cmd.active.isSome && s.clock.op != 3 && !s.casc.isolated,
    prevShort := s.zheda.trace.short || s.tick.prog.r34,
    r34 := s.zheda.trace.truncBcast,
    noCands := !(List.range 72).any fun t => (s.store t).valid,
    throttled := decide (s.tick.effUnits < s.tick.maxUnits),
    lost := s.tick.holdover || s.tick.syncLost }

/-- World version held in the Field Stores. -/
def State.heldVersion (s : State) : Nat :=
  match (List.range 72).find? fun t => (s.store t).valid with
  | some t => (s.store t).version.val.toNat
  | none => 0

/-- The trace of the new tick; what the switch, the commands and the cut-off add to it comes after. -/
def State.newTrace (s : State) (k : Nat) : State :=
  let v := s.heldVersion
  s.onZheda fun z => { z with trace :=
    { tick := k, stamp := s.tick.stamp, heldVer := v, ctl := z.ctl, digest := z.digest, gen := genOf s.cmd.active,
      wseed := z.wseed } }

/-- The statistics of the contexts that are foreground in the tick. -/
def State.countForeground (s : State) : State :=
  s.planSlots.foldl (fun s (e : Nat × FgSlot) =>
    let x := s.ctx e.2.ctx
    s.setCtx e.2.ctx { x with stats := modAt satInc48 x.stats 0 }) s

/-- The checkpoint that begins at the edge of tick k (10 R261). -/
def State.checkpointEdge (s : State) (x : Snapshot) (k : Nat) : State :=
  s.onZheda fun z => { z with
    current := some x
    capture := if z.intervalN ≠ 0 && k % z.intervalN == 0 then some ⟨x, k⟩ else none }

/-- TICK and INPUTS of the master (19 R473), and before them the word to switch bundles where the edge has (19 R480). -/
def State.sendInputs (s : State) : State :=
  let s := if s.cmd.switchTick.val = s.tick.num.val then s.castAll 9 (.switch s.zheda.digest) else s
  let s := s.castAll 1 (.tick s.tickNo s.tick.stamp)
  s.castAll 2 (.inputs s.teasel.fg s.tick.effUnits s.tick.maxUnits s.lupin.slots s.world.inputs s.zheda.trace.entries
    (0 :: s.casc.serving))

/-- Number, time-stamp and source of the new tick (01 R11, R18 to R20). -/
def TickSt.count (t : TickSt) (k stamp now : Nat) (act : BitVec 2) : TickSt :=
  { t with
    num := { t.num with val := BitVec.ofNat 64 k }
    stamp := stamp
    lastEdge := some now
    activeSrc := act
    src := t.srcWritten
    holdover := t.holdover && t.srcWritten == 1
    tickOutPulses := if t.outEn then t.tickOutPulses + 1 else t.tickOutPulses }

/-- The values in force at the edge of tick k: bundle, operating point and spread, register values, failures (04 R139 step 1; 16
Table 16-12). -/
def State.forceEdge (s : State) (k : Nat) : State :=
  let s := s.configEdge k
  let s := (s.opEdge.onClock ClockSt.spreadEdge).latchEdge
  let s := s.failuresEdge k
  if (s.servers .eng).isEmpty || (s.servers .ast).isEmpty || (s.servers .cfl).isEmpty || (s.servers .pop).isEmpty ||
      (s.servers .vet).isEmpty then s.endOff else s

/-- The commands, adoptions, cut-off and allocation of the edge of tick k (04 R139 steps 2 to 4; 06 R182; 11 R279). -/
def State.planEdge (s : State) (k : Nat) : State :=
  let old := s.teasel.fg
  let s := (s.drainEdge.runCtxCmds.delayEdge k).adoptEdge
  let s := s.cutOff k s.tick.stamp
  let s := s.throttleEdge
  let fg := s.latchSlots
  let s := (s.onTeasel fun t => { t with fg := fg }).freshSlots old
  s.allocEdge

/-- The end of an accepted edge: progress, masters, injections, CRITICAL conditions, and the trace. -/
def State.beginTick (s : State) (k : Nat) (p : TickProgress) : State :=
  let s := (s.freezeEdge.rearmEdge).injectEdge k
  let s := s.onTick fun t => { t with
    prog := p
    throttledF := t.throttledF || p.throttled }
  let s := s.updTrace fun z => { z with
    effUnits := s.tick.effUnits
    maxUnits := s.tick.maxUnits
    throttled := p.throttled
    lost := p.lost }
  if s.critical then (s.onSafety fun f => { f with pend := f.pend ||| 8 }).pinUpdate else s

/-- The frames sent in a tick are those since its edge. -/
def CascadeSt.freshSent (c : CascadeSt) : CascadeSt := { c with sent := [] }

/-- An accepted edge of a device that counts its own ticks: the running tick had reached an ac, and the source is coded as
SRC (01 R11, R33). -/
def State.acceptEdge (s : State) (ac : Nat) (act : BitVec 2) : State :=
  let k := s.tickNo + 1
  let s := ((s.stopTick ac).closeTrace).onCasc CascadeSt.freshSent
  let snap := s.takeSnap k
  let prevShort := s.newProg.prevShort
  let r34 := s.newProg.r34
  let stamp := s.ptp
  let s := s.preempt.onTick fun t => t.count k stamp s.now act
  let s := s.forceEdge k
  let snap := { snap with cfgDigest := s.zheda.digest }
  let s := (s.cascadeEdge snap k).rebudget
  let s := (s.freshTick k).newTrace k
  let s := s.planEdge k
  let s := s.beginTick k { s.newProg with
    prevShort := prevShort
    r34 := r34 }
  (((s.checkpointEdge snap k).countForeground).sendInputs).reportDigests

/-! ### Run states (10 R255 to R257) -/

/-- The edge that PAUSING waits for: it is not accepted; S(k) stands, and the SNAP_PAUSE ends. -/
def State.pauseEdge (s : State) (ac : Nat) : State :=
  let s := (s.stopTick ac).closeTrace
  let snap := s.takeSnap (s.tickNo + 1)
  let p := s.zheda.pauser
  let s := s.onZheda fun z => { z with
    run := .paused
    pauser := none
    resumedAt := none
    current := some snap }
  match p with
  | some h => s.final h 0x0800 .ok
  | none => s

/-- An edge that R13 to R16 would accept, in the run state of the device. -/
def State.edge (s : State) (ac : Nat) (act : BitVec 2) : State :=
  match s.zheda.run with
  | .live => s.acceptEdge ac act
  | .pausing => s.pauseEdge ac
  | .paused =>
    if s.zheda.resumedAt.isNone then s
    else (s.onZheda fun z => { z with
      run := .live
      trace := if z.snapIn.isSome then { closed := true } else z.trace
      resumedAt := none
      loaded := false
      snapIn := none }).acceptEdge ac act
  | .replay => s

/-- Whether an edge can come at all: the device is up, counts its own ticks (19 R471), and is neither PAUSED nor in REPLAY
(10 R256). -/
def State.edgesRun (s : State) : Bool :=
  s.up && !s.casc.memberInService &&
  (match s.zheda.run with
    | .live => true
    | .pausing => true
    | .paused => s.zheda.resumedAt.isSome
    | .replay => false)

/-! ### Tick sources (R12 to R18) -/

/-- Nanoseconds from the previous accepted edge to a device time; none before the first. -/
def TickSt.since (t : TickSt) (now : Nat) : Option Nat := t.lastEdge.map fun p => now - p

/-- An edge that comes too early: counted and flagged (R13). -/
def TickSt.fast (t : TickSt) : TickSt :=
  { t with
    fastF := true
    fastCnt := t.fastCnt.incr }

/-- Whether an edge comes less than PERIOD_US / 2 µs after the previous accepted edge. -/
def TickSt.early (t : TickSt) (now : Nat) : Bool :=
  match t.since now with
  | some d => decide (2 * d < t.periodUs * 1000)
  | none => false

/-- The internal tick generator's edge (R12). -/
def internalTickEdgeEffect (e : Edge) (s : State) : State :=
  let s := s.advance e.time
  if s.edgesRun && s.tick.src == 0 then s.edge e.ac 0 else s

/-- Whether a TICK_IN rising edge qualifies in holdover: 0.5 to 1.5 periods after the TICK_IN edge before it (R15). -/
def TickSt.qualifies (t : TickSt) (now : Nat) : Bool :=
  match t.lastTickIn with
  | some p => decide (t.periodUs * 1000 ≤ 2 * (now - p)) && decide (2 * (now - p) ≤ 3 * t.periodUs * 1000)
  | none => false

/-- A rising edge of TICK_IN (R13, R15). -/
def tickInEdgeEffect (e : Edge) (s : State) : State :=
  let s := s.advance e.time
  if !(s.edgesRun && s.tick.src == 1) then s
  else if s.tick.holdover then
    let run := if s.tick.qualifies e.time then min 4 (s.tick.tickInRun + 1) else 0
    let s := s.onTick fun t => { t with
      tickInRun := run
      lastTickIn := some e.time }
    if run = 4 && decide (s.tick.acE ≤ e.ac) then
      (s.onTick fun t => { t with
        holdover := false
        tickInRun := 0 }).edge e.ac 1
    else s
  else
    let early := s.tick.early e.time
    let s := s.onTick fun t => { t with lastTickIn := some e.time }
    if early then s.onTick TickSt.fast else s.edge e.ac 1

/-- An edge of holdover (R14): the first 1.5 periods after the previous accepted edge, further ones a period apart. -/
def holdoverEdgeEffect (e : Edge) (s : State) : State :=
  let s := s.advance e.time
  if !(s.edgesRun && s.tick.src == 1) then s
  else match s.tick.since e.time with
    | none => s
    | some d =>
      if s.tick.holdover then (if s.tick.periodUs * 1000 ≤ d then s.edge e.ac 0 else s)
      else if 3 * s.tick.periodUs * 1000 ≤ 2 * d then
        (s.onTick fun t => { t with
          holdover := true
          tickInRun := 0
          lostF := true }).edge e.ac 0
      else s

/-- An edge of the PTP timer (R16). -/
def ptpTickEdgeEffect (e : Edge) (s : State) : State :=
  let s := s.advance e.time
  if !(s.edgesRun && s.tick.src == 2) then s
  else if s.tick.early e.time then s.onTick TickSt.fast
  else s.edge e.ac 2

/-! ### The edge of a member in service (19 R470, R471) -/

/-- ac 0 of tick k at a member: number and T(k) are the master's; it runs no W and no C stage, and takes its slots and allocation
from INPUTS at its context-load item. -/
def State.memberEdge (s : State) (ac k t : Nat) : State :=
  let s := (s.stopTick ac).onCasc CascadeSt.freshSent
  let r34 := s.newProg.r34
  let now := s.now
  let s := s.preempt.onTick fun x => x.count k t now x.activeSrc
  let s := s.onHost fun h => { h with
    ptpBase := t + s.casc.dMax
    ptpSince := now }
  let s := (s.onCasc fun c => { c with lastTick := some now }).forceEdge k
  let s := (s.rebudget.freshTick k).newTrace k
  let fg := s.teasel.fg
  let s := (s.throttleEdge.delayEdge k).freshSlots fg
  (s.beginTick k { s.newProg with r34 := r34 }).reportDigests

end Sys2Proof.Machine
end

