-- ==== Sys2Proof/Machine/Power.lean ====
section
/-! DEFINITION. Chapter 16: crystal, PLLs, clock monitors, domain resets, operating points, temperature, supplies, and the commands
of group 0x0C. -/

namespace Sys2Proof.Machine

/-! ### Crystal (R398 to R400) -/

/-- The newest counts of the run after a window (R399). -/
def passRun (n0 : Nat) (run : List Nat) (count : Nat) : List Nat :=
  if n0 - n0 / 200 ≤ count ∧ count ≤ n0 + n0 / 200 then run ++ [count] else []

/-- Whether sixteen passing windows accept the crystal. -/
def runAccepts (run : List Nat) : Bool := run.length == 16 && decide (maxN run ≤ run.foldl min (maxN run) + 3)

/-- A window of the crystal qualification ends (R399). -/
def xtalWindowEffect (time count : Nat) (s : State) : State :=
  let s := s.advance time
  if s.clock.holds.por || s.clock.xtalOk || s.clock.xtalFail then s
  else s.onClock fun c =>
    let run := passRun c.n0 c.xtalRun count
    if runAccepts run then { c with
      xtalRun := run
      xtalCount := count
      xtalOk := true
      onRc := false }
    else { c with
      xtalRun := if run.length = 16 then run.drop 1 else run
      xtalCount := count }

def execXtalWindow (time count : Nat) (s : State) : Out := .next (xtalWindowEffect time count s)

/-- Ethernet, Ublar and, without PCIE_REFCLK, USB out of service (R400). -/
def State.xtalOutage (s : State) (refclk : Bool) : State :=
  let s := s.onClock fun c => { c with
    xtalFail := true
    usbOff := !refclk }
  let s := s.onHost fun h => { (if refclk then h else { h.usbDiscard with
      usbConnected := false
      usbConfigured := false }) with
    xtalOut := true
    locked := false }
  s.onCasc fun c => { c with
    ring := false
    ports := c.ports.map fun p => { p with
      trained := false
      laneLock := 0 } }

/-- 50 ms after POR_N's release without an accepted crystal (R400). -/
def xtalTimeoutEffect (time : Nat) (refclk : Bool) (s : State) : State :=
  let s := s.advance time
  if s.clock.holds.por || s.clock.xtalOk || s.clock.xtalFail then s
  else (s.xtalOutage refclk).logFault 7 0 0x0133 1

def execXtalTimeout (time : Nat) (refclk : Bool) (s : State) : Out := .next (xtalTimeoutEffect time refclk s)

/-! ### PLLs (R401, R402, R406) -/

/-- A free spare: it serves no role, has not failed and is not being locked. -/
def ClockSt.freeSpare (c : ClockSt) : Option Nat :=
  (List.range 10).find? fun p => !c.pllMap.contains p && !c.pllFailed.contains p && !(c.repairs.any fun r => r.spare == p) &&
    (c.change.map (·.spare)) != some p

/-- The clock domains of a role. -/
def roleDomains (r : Nat) : List Nat := (List.range 64).filter fun d => domainRole d == r

/-- A domain found stalled (R405, R406). -/
def State.stallDomain (s : State) (d : Nat) : State :=
  if (Tbl.get {} s.clock.domains d).stalled then s
  else s.onClock fun c => { c with
    domains := Tbl.upd {} c.domains d fun x => { x with stalled := true }
    stallMask := c.stallMask ||| BitVec.ofNat 64 (2 ^ d)
    stallF := true
    stallCnt := c.stallCnt.incr }

/-- The running tick, if any, loses its plan at the ac it has reached (R407, R421). -/
def State.loseTick (s : State) : State := if s.tick.prog.running then s.truncate s.tick.prog.ac else s

/-- An operating-point change aborted (R421). -/
def ClockSt.abortChange (c : ClockSt) : ClockSt :=
  { c with
    change := none
    opTarget := c.op
    opAbort := true }

/-- A spare found for a role whose PLL failed; a change under preparation gives up its own where no other is free (R402, R421). -/
def ClockSt.repair (c : ClockSt) (role : Nat) : ClockSt :=
  let start (c : ClockSt) (p : Nat) : ClockSt := { c with
    repairs := c.repairs ++ [⟨role, p⟩]
    spareUsed := true }
  match c.freeSpare, c.change with
  | some p, _ => start c p
  | none, some x => start c.abortChange x.spare
  | none, none => c

/-- The lock detector of a PLL reports loss of lock (R402, R421). A PLL that serves or prepares nothing has no lock to lose. -/
def pllLossEffect (p : Nat) (s : State) : State :=
  let c := s.clock
  let mark (c : ClockSt) : ClockSt := { c with
    pllFailed := c.pllFailed ++ [p]
    pllLocked := c.pllLocked.filter (· != p) }
  if s.clock.holds.any || !s.clock.ready || c.pllFailed.contains p then s
  else match firstIx (· == p) c.pllMap, c.repairs.find? (fun r => r.spare == p), c.change with
  | some role, _, _ =>
    let s := s.onClock fun c => (mark c).repair role
    let found := s.clock.repairs.any fun r => r.role == role
    let s := if found then s else (roleDomains role).foldl State.stallDomain s
    let s := s.logFault 7 p 0x0132 (if role = 0 || !found then 2 else 1)
    if role = 0 then s.loseTick else s
  | none, some r, _ => s.onClock fun c => ({ (mark c) with repairs := c.repairs.filter (· != r) }).repair r.role
  | none, none, some x =>
    if x.spare ≠ p then s
    else s.onClock fun c =>
      let c := mark c
      match ({ c with change := none } : ClockSt).freeSpare with
      | some q => { c with change := some { x with
          spare := q
          locked := false } }
      | none => c.abortChange
  | none, none, none => s

def execPllLossOfLock (pll : Fin 10) (s : State) : Out := .next (pllLossEffect pll.val s)

/-- A spare PLL locks: it takes over its role, or a change of operating point has its PLL ready (R402, R410). -/
def sparePllLockedEffect (p : Nat) (s : State) : State :=
  s.onClock fun c =>
    match c.repairs.find? (fun r => r.spare == p), c.change with
    | some r, _ => { c with
        repairs := c.repairs.filter (· != r)
        pllMap := setAt c.pllMap r.role p
        pllLocked := c.pllLocked ++ [p] }
    | none, some x => if x.spare = p && !x.locked then { c with
        change := some { x with locked := true }
        pllLocked := c.pllLocked ++ [p] } else c
    | none, none => c

def execSparePllLocked (pll : Fin 10) (s : State) : Out := .next (sparePllLockedEffect pll.val s)

/-! ### Monitors and domain resets (R405 to R407) -/

/-- Nominal root frequency of a domain in kHz (Tables 16-2, 16-3); the crystal feeds domain 60. -/
def ClockSt.nominal (c : ClockSt) (d : Nat) : Nat :=
  if d = 60 then 25000
  else match domainRole d with
    | 0 => fOp c.op * 1000
    | 1 => 800000
    | 2 => 1066625
    | 3 => 156250
    | 4 => 703125
    | 5 => 312500
    | 6 => 250000
    | 7 => 200000
    | 0xE => 100000
    | _ => 50000

/-- Whether a frequency in MHz lies outside the band of R405; spread applies to ARITH and CPU (R401). -/
def ClockSt.outOfBand (c : ClockSt) (d mhz : Nat) : Bool :=
  let depth := if domainRole d ≤ 1 then c.spreadDepth else 0
  decide (mhz * 2000000 < c.nominal d * (1960 - depth)) || decide (c.nominal d * 2040 < mhz * 2000000)

/-- Whether a domain is monitored: its monitor works, its power is on, it is not being reset, its clock is not stopped by OP3 or out of
service (R400, R405, R409). -/
def State.monitored (s : State) (d : Nat) : Bool :=
  let x := Tbl.get {} s.clock.domains d
  !x.monOff && !x.resetting && !x.stalled && s.domOn (domainPower d) && !(s.clock.op == 3 && domainRole d == 0) &&
  !(s.clock.xtalFail && (domainRole d == 3 || domainRole d == 4 || (domainRole d == 5 && s.clock.usbOff) || d == 60))

/-- A monitor window ends with a count of edges, which is the frequency in MHz (R405, R406). -/
def clockMonitorEffect (d edges : Nat) (s : State) : State :=
  if s.clock.holds.any || !s.clock.ready || !s.monitored d then s
  else
    let x := Tbl.get {} s.clock.domains d
    let free := d == 59 || d == 62 || d == 63
    let n := if edges = 0 then x.idleWindows + 1 else 0
    let s := s.onClock fun c => { c with
      domains := Tbl.upd {} c.domains d fun x => { x with
        freqMhz := min 65535 edges
        idleWindows := n }
      freqErr := c.freqErr || (!free && c.outOfBand d edges) }
    if 2 ≤ n && !free then (s.stallDomain d).logFault 7 d 0x0132 2 else s

def execClockMonitorWindow (d : Fin 64) (edges : Nat) (s : State) : Out := .next (clockMonitorEffect d.val edges s)

/-- Whether a domain carries foreground items: clusters, NoC, Teasel, Hollyhock and Yarrow (Table 16-3). -/
def foregroundDomain (d : Nat) : Bool := decide (d < 28) || d == 28 || d == 29 || d == 36

/-- A background slice in a domain that is reset ends without a result (R407): an item of a flow with ST_DOMAIN_OFF; a long operation
or a firmware service waits for its next slice. -/
def State.dropSlice (s : State) (r : Running) : State :=
  let s := s.onTeasel fun t => { t with running := t.running.filter (· != r) }
  match r.work with
  | .flow n => s.endItem n .domainOff []
  | _ => s

/-- Registers that a domain's reset returns to their reset values: those of the blocks that lie in one domain (R407; the map of
blocks to domains is the model's, log entry 57). SRAM contents stay. -/
def State.domainRegs (s : State) (d : Nat) : State :=
  let keep (x : FieldStore) : FieldStore := { flips := x.flips }
  if d < 28 ∧ d % 7 = 1 then
    s.onWorld fun w => { w with stores := (List.range 18).foldl (fun t i => Tbl.upd {} t (18 * (d / 7) + i) keep) w.stores }
  else if d = 30 then (s.onBindweed fun _ => {}).onCowslip fun _ => {}
  else if d = 37 then s.onSafety fun f => { f with
    masters := []
    violCnt := {}
    unfreezeCnt := {} }
  else if d = 48 then s.hostGone.onHost fun h => { h.confReset with
    dlActive := false
    width := 0
    speed := 0 }
  else if d = 50 ∨ d = 51 then s.onHost fun h => { h with
    ports := modAt (fun p => { mac := p.mac, rxLos := p.rxLos }) h.ports (d - 50) }
  else if d = 53 then s.onHost fun h => { h with
    ptpBase := 0
    ptpSince := s.now
    ptpRate := 0
    goodSyncs := 0 }
  else if d = 54 then s.onHost fun h => { h.usbDiscard with
    usbConnected := false
    usbConfigured := false
    usbSuspended := false
    trajMirror := false
    usbEn := true
    evtMask := 0 }
  else if d = 58 ∨ d = 59 then s.onCasc fun c => { c with
    ring := false
    ports := c.ports.map fun _ => {} }
  else s

/-- A write of CLK_DOM_RESET (R406, R407): of firmware only. -/
def State.startDomainReset (s : State) (d : Nat) : State :=
  let s := if foregroundDomain d then s.loseTick else s
  let lost := s.teasel.running.filter fun r => s.serverDomain r.cls r.server == d
  let s := lost.foldl State.dropSlice s
  (s.domainRegs d).onClock fun c => { c with domains := Tbl.upd {} c.domains d fun x => { x with
    resetting := true
    idleWindows := 0 } }

def clkDomainResetEffect (who : Master) (val : Word) (s : State) : State :=
  if who == .host then s else s.startDomainReset (fldN val 0 6)

/-- A domain reset ends: the domain runs again, on its new source (R406, R407). -/
def domainResetDoneEffect (d : Nat) (s : State) : State :=
  s.onClock fun c => { c with domains := Tbl.upd {} c.domains d fun x =>
    if x.resetting then { x with
      resetting := false
      stalled := false
      idleWindows := 0 } else x }

/-! ### Operating points and regulator (R410, R411, R413) -/

/-- The regulator reports a voltage in regulation; a raise has its voltage 20 µs later (R410, R413). -/
def regulatorEffect (mv : Half) (s : State) : State :=
  let t := s.now + 20000
  s.onClock fun c =>
    let c := { c with voutMv := mv.toNat }
    if mv.toNat ≠ c.targetMv then c
    else { c with
      lowering := false
      change := c.change.map fun x => { x with settled := some (x.settled.getD t) } }

def execRegulatorInRegulation (mv : Half) (s : State) : Out := .next (regulatorEffect mv s)

/-- A voltage write that is not acknowledged or not in regulation within 1 ms (R413): a change aborts and the old point stays; after
a lowering that has switched, the higher voltage stays. -/
def avsTimeoutEffect (s : State) : State :=
  let c := s.clock
  if c.change.any (fun x => x.raising && x.settled.isNone) || c.lowering then
    (s.onClock fun c => { (if c.lowering then c else c.abortChange) with
      lowering := false
      avsErr := true
      opAbort := true }).logFault 14 0 0x0135 1
  else s

def execAvsTimeout (s : State) : Out := .next (avsTimeoutEffect s)

/-- PMBUS_ALERT_N low (R413). -/
def pmbusAlertEffect (s : State) : State :=
  if s.clock.holds.any then s else (s.onClock fun c => { c with regAlert := true }).logFault 14 0 0x0135 1

def execPmbusAlert (s : State) : Out := .next (pmbusAlertEffect s)

/-- The bundles that must pass R31: the active one, and the one about to become active (R31, R340). -/
def State.r31Bundles (s : State) : List Bundle :=
  s.bundle.toList ++
  (if s.cmd.committing then (s.cmd.staged.map (·.bundle)).toList else []) ++
  (if s.cmd.rollback then (s.cmd.previous.map (·.bundle)).toList else [])

/-- Whether those bundles pass R31 at every one of some settings. At OP3 no stage runs and R31 has nothing to bound. -/
def State.passR31 (s : State) (set : List RateSetting) : Bool :=
  s.r31Bundles.all fun b => b.fits31 b.program (set.filter fun r => r.op != 3)

/-- The settings that a requested operating point makes: with the depth in force and a pending one. -/
def State.opSettings (s : State) (op : Nat) : List RateSetting :=
  (s.clock.spreadDepth :: (s.clock.spreadWaiting.map (·.1)).toList).map fun d => ⟨op, d, s.clock.xtalFail⟩

/-- Whether a slot is ACTIVE or DRAIN. -/
def State.anySlot (s : State) : Bool := s.teasel.ctxs.any fun e => e.2.state == .active || e.2.state == .drain

/-- ARITH frequency of a point, 0 where it is stopped (Table 16-4). -/
def arithMhz (op : Nat) : Nat := if op = 3 then 0 else fOp op

/-- PWR_OP_SET (R410, R411): the preparation begins; a raise writes its voltage first. -/
def pwrOpSetEffect (h : Hdr) (p : Nat) (s : State) : State :=
  s.packet h 0x0C00
    { param := decide (p < 4) && !(p == 0 && s.ident.effE) && s.passR31 (s.opSettings p),
      state := if s.clock.change.isSome || s.clock.freeSpare.isNone || (p == 3 && s.anySlot) then some .busy else none } fun s =>
    let raising := decide (arithMhz s.clock.op < arithMhz p)
    let spare := s.clock.freeSpare.getD 8
    (s.onClock fun c => { c with
      change := some { target := p, raising := raising, spare := spare }
      opTarget := p
      targetMv := if raising then opMillivolts p else c.targetMv }).final h 0x0C00 .ok

def execPwrOpSet (h : Hdr) (point : Byte) (s : State) : Out := .next (pwrOpSetEffect h point.toNat s)

/-- CLK_SPREAD_SET (R408, R411). -/
def clkSpreadSetEffect (h : Hdr) (depth rate : Nat) (s : State) : State :=
  let ops := s.clock.op :: (s.clock.change.map (·.target)).toList
  s.packet h 0x0C01
    { param := decide (depth ≤ 20) && decide (30 ≤ rate) && decide (rate ≤ 63) &&
        s.passR31 (ops.map fun o => ⟨o, depth, s.clock.xtalFail⟩),
      state := if s.clock.change.isSome then some .busy else none } fun s =>
    (s.onClock fun c => { c with spreadWaiting := some (depth, rate) }).final h 0x0C01 .ok

def execClkSpreadSet (h : Hdr) (depth rate : Byte) (s : State) : Out :=
  .next (clkSpreadSetEffect h depth.toNat rate.toNat s)

/-- State code of PWR_CLUSTER_SET (R415). -/
def clusterState (n : Nat) : DomState := if n = 0 then .on else if n = 1 then .retention else .off

/-- PWR_CLUSTER_SET in OP3 (R415). -/
def pwrClusterSetEffect (h : Hdr) (mask st : Nat) (s : State) : State :=
  s.packet h 0x0C02
    { param := decide (mask < 16) && decide (st < 3), state := if s.clock.op != 3 then some .busy else none } fun s =>
    let l := (List.range 4).filter fun c => mask / 2 ^ c % 2 == 1
    (l.foldl (fun s c => s.setCluster c (clusterState st)) s).final h 0x0C02 .ok

def execPwrClusterSet (h : Hdr) (mask state : Byte) (s : State) : Out :=
  .next (pwrClusterSetEffect h mask.toNat state.toNat s)

/-! ### Words of PWR_ registers (Table 16-13) -/

def ClockSt.pwrStat (c : ClockSt) : Word :=
  packWord [(19, b2n c.regAlert), (18, b2n c.avsErr), (17, b2n c.opAbort), (16, b2n c.thermCrit), (15, b2n c.thermWarn),
    (12, b2n c.opSubst), (10, c.opTarget % 4), (8, c.op % 4), (0, b2n c.change.isSome)]

def ClockSt.domStat (c : ClockSt) : Word := packWord (c.doms.zipIdx.map fun x => (2 * x.2, x.1.code))

def ClockSt.bootWord (c : ClockSt) : Word :=
  packWord [(24, c.failCode), (20, c.step), (18, c.bootSrc.toNat), (0, min c.bootMs 0x3FFFF)]

/-- PWR_STATUS (R422); in ROM recovery Primrose answers it too (R420). -/
def pwrStatusEffect (h : Hdr) (s : State) : State :=
  s.packet h 0x0C03 {} fun s =>
    s.final h 0x0C03 .ok (toLe 4 s.clock.pwrStat.toNat ++ toLe 4 s.clock.domStat.toNat ++ toLe 4 s.clock.bootWord.toNat)

def execPwrStatus (h : Hdr) (s : State) : Out := .next (pwrStatusEffect h s)

/-! ### Temperature (R416, R417) -/

/-- T_max of readings in 0.25 °C. -/
def tMax (l : List Int) : Int := match l with
  | [] => 0
  | x :: l => l.foldl max x

/-- Warning and critical state after a sample; both end below WARN_C − HYST_C (Table 16-6). -/
def ClockSt.sample (c : ClockSt) (temps : List Int) : ClockSt :=
  let t := tMax temps
  let low := decide (t < 4 * ((c.warnC : Int) - c.hystC))
  { c with
    temps := temps
    peak := max c.peak t
    thermWarn := if low then false else c.thermWarn || decide (4 * (c.warnC : Int) ≤ t)
    thermCrit := if low then false else c.thermCrit || decide (4 * (c.critC : Int) ≤ t)
    holds := { c.holds with thermal := c.holds.thermal && !low } }

/-- The junction sensors update (R416, R417): at SHUT_C the device holds itself in reset. -/
def thermalSampleEffect (temps : List Int) (s : State) : State :=
  if s.clock.holds.por || temps.length != 8 then s
  else
    let crit := s.clock.thermCrit
    let s := s.onClock fun c => c.sample temps
    if s.clock.holds.any then s
    else if 4 * (s.clock.shutC : Int) ≤ tMax temps then
      (s.logFault 14 0 0x0134 3).cleared false { s.clock.holds with thermal := true } 8
    else if s.clock.thermCrit && !crit then s.logFault 14 0 0x0134 1
    else s

def execThermalSample (temps : List Int) (s : State) : Out := .next (thermalSampleEffect temps s)

/-! ### Supplies (20 R492) -/

/-- A rail out of tolerance for more than 10 µs: a supply fault and a reset held until the rails recover; a glitch of VDD_CORE or
VDD_SEC is a tamper event as well, and both are logged (20 R492, R498; 18 R461). -/
def supplyExcursionEffect (glitch : Bool) (s : State) : State :=
  if s.clock.holds.por then s
  else if s.clock.holds.supply then s
  else
    let s := if glitch && decide (2 ≤ s.clock.step) then s.tamperEvent else s
    (s.logFault 14 0 0x0135 3).cleared false { s.clock.holds with supply := true } 2

def execSupplyExcursion (glitch : Bool) (s : State) : Out := .next (supplyExcursionEffect glitch s)

end Sys2Proof.Machine
end

