-- ==== Sys2Proof/Machine/RegRead.lean ====
section
/-! DEFINITION. What every register of the control space reads as (15 R371, Table 15-2; the register tables of chapters 00
to 19): the statistics counters and the latched pairs by their places, and the words of each block. A place that holds no
register reads 0 (R10, R372). -/

namespace Sys2Proof.Machine

/-! ### Statistics counters (Table 1-10) -/

/-- A counter with its write back. -/
abbrev CntRef := Option (StatCnt × (StatCnt → State))

def sysCnt (s : State) (o : Nat) : CntRef :=
  match o with
  | 0x114 => some (s.tick.fastCnt, fun c => s.onTick fun t => { t with fastCnt := c })
  | 0x11C => some (s.tick.shortCnt, fun c => s.onTick fun t => { t with shortCnt := c })
  | 0x218 => some (s.world.lateCnt, fun c => s.onWorld fun t => { t with lateCnt := c })
  | 0x220 => some (s.world.dropCnt, fun c => s.onWorld fun t => { t with dropCnt := c })
  | 0x348 => some (s.zheda.gapCnt, fun c => s.onZheda fun t => { t with gapCnt := c })
  | 0x350 => some (s.zheda.abnCnt, fun c => s.onZheda fun t => { t with abnCnt := c })
  | 0x430 => some (s.cmd.crcCnt, fun c => s.onCmd fun t => { t with crcCnt := c })
  | 0x438 => some (s.cmd.seqCnt, fun c => s.onCmd fun t => { t with seqCnt := c })
  | 0x608 => some (s.safety.e2eCrc, fun c => s.onSafety fun t => { t with e2eCrc := c })
  | 0x610 => some (s.safety.e2eId, fun c => s.onSafety fun t => { t with e2eId := c })
  | 0x618 => some (s.safety.e2eSeq, fun c => s.onSafety fun t => { t with e2eSeq := c })
  | 0x620 => some (s.safety.e2eTime, fun c => s.onSafety fun t => { t with e2eTime := c })
  | 0x628 => some (s.safety.e2eLost, fun c => s.onSafety fun t => { t with e2eLost := c })
  | _ => none

/-- Counters of the HB_, LUP_, AST_, POP_, VET_, HOL_ and YAR_ blocks. -/
def planCnt (s : State) (b o : Nat) : CntRef :=
  match b, o with
  | 1, 0x20 => some (s.harebell.ceCnt, fun c => s.onHarebell fun t => { t with ceCnt := c })
  | 1, 0x28 => some (s.harebell.ueCnt, fun c => s.onHarebell fun t => { t with ueCnt := c })
  | 1, 0x30 => some (s.harebell.posSatCnt, fun c => s.onHarebell fun t => { t with posSatCnt := c })
  | 1, 0x38 => some (s.safety.ghostCnt, fun c => s.onSafety fun t => { t with ghostCnt := c })
  | 3, 0x10 => some (s.lupin.trimCnt, fun c => s.onLupin fun t => { t with trimCnt := c })
  | 3, 0x18 => some (s.lupin.fallbackCnt, fun c => s.onLupin fun t => { t with fallbackCnt := c })
  | 4, 0x20 => some (s.aster.satCnt, fun c => s.onAster fun t => { t with satCnt := c })
  | 4, 0x28 => some (s.aster.nanCnt, fun c => s.onAster fun t => { t with nanCnt := c })
  | 6, 0x18 => some (s.poppy.bgCnt, fun c => s.onPoppy fun t => { t with bgCnt := c })
  | 7, 0x10 => some (s.vetch.pivotCnt, fun c => s.onVetch fun t => { t with pivotCnt := c })
  | 7, 0x18 => some (s.vetch.shiftCnt, fun c => s.onVetch fun t => { t with shiftCnt := c })
  | 7, 0x20 => some (s.vetch.cutCnt, fun c => s.onVetch fun t => { t with cutCnt := c })
  | 8, 0x10 => some (s.commit.estopCnt, fun c => s.onCommit fun t => { t with estopCnt := c })
  | 8, 0x18 => some (s.commit.stopFrameCnt, fun c => s.onCommit fun t => { t with stopFrameCnt := c })
  | 9, 0x08 => some (s.commit.staleCnt, fun c => s.onCommit fun t => { t with staleCnt := c })
  | 10, 0x30 => some (s.teasel.refuseCnt, fun c => s.onTeasel fun t => { t with refuseCnt := c })
  | 10, 0x38 => some (s.teasel.preemptCnt, fun c => s.onTeasel fun t => { t with preemptCnt := c })
  | 10, 0x40 => some (s.teasel.lateCnt, fun c => s.onTeasel fun t => { t with lateCnt := c })
  | _, _ => none

/-- Counters of the COW_, CAM_, THI_, CLK_, PWR_, MEM_, PCI_, USB_ and ULB_ blocks. -/
def unitCnt (s : State) (b o : Nat) : CntRef :=
  match b, o with
  | 11, 0x08 => some (s.cowslip.refuseCnt, fun c => s.onCowslip fun t => { t with refuseCnt := c })
  | 11, 0x10 => some (s.cowslip.domoffCnt, fun c => s.onCowslip fun t => { t with domoffCnt := c })
  | 12, 0x10 => some (s.safety.mismatchCnt, fun c => s.onSafety fun t => { t with mismatchCnt := c })
  | 12, 0x18 => some (s.safety.abortCnt, fun c => s.onSafety fun t => { t with abortCnt := c })
  | 12, 0x20 => some (s.safety.tagCnt, fun c => s.onSafety fun t => { t with tagCnt := c })
  | 13, 0x04 => some (s.safety.violCnt, fun c => s.onSafety fun t => { t with violCnt := c })
  | 13, 0x0C => some (s.safety.unfreezeCnt, fun c => s.onSafety fun t => { t with unfreezeCnt := c })
  | 15, 0x38 => some (s.clock.stallCnt, fun c => s.onClock fun t => { t with stallCnt := c })
  | 16, 0x40 => some (s.clock.opchgCnt, fun c => s.onClock fun t => { t with opchgCnt := c })
  | 17, 0x10 => some (s.mem.ddrCeCnt, fun c => s.onMem fun t => { t with ddrCeCnt := c })
  | 17, 0x18 => some (s.mem.ddrUeCnt, fun c => s.onMem fun t => { t with ddrUeCnt := c })
  | 17, 0x20 => some (s.mem.sramCeCnt, fun c => s.onMem fun t => { t with sramCeCnt := c })
  | 17, 0x28 => some (s.mem.sramUeCnt, fun c => s.onMem fun t => { t with sramUeCnt := c })
  | 17, 0x30 => some (s.mem.conflictCnt, fun c => s.onMem fun t => { t with conflictCnt := c })
  | 18, 0x18 => some (s.host.dmaErrCnt, fun c => s.onHost fun t => { t with dmaErrCnt := c })
  | 18, 0x20 => some (s.host.caCnt, fun c => s.onHost fun t => { t with caCnt := c })
  | 20, 0x18 => some (s.host.usbCmdCnt, fun c => s.onHost fun t => { t with usbCmdCnt := c })
  | 20, 0x20 => some (s.host.usbDropCnt, fun c => s.onHost fun t => { t with usbDropCnt := c })
  | 21, 0x18 => some (s.casc.lostCnt, fun c => s.onCasc fun t => { t with lostCnt := c })
  | 32, 0x10 => some (s.bindweed.satCnt, fun c => s.onBindweed fun t => { t with satCnt := c })
  | 32, 0x18 => some (s.bindweed.faultCnt, fun c => s.onBindweed fun t => { t with faultCnt := c })
  | 32, 0x20 => some (s.bindweed.stallCnt, fun c => s.onBindweed fun t => { t with stallCnt := c })
  | _, _ => none

/-- An Ethernet port. -/
def HostSt.port (h : HostSt) (n : Nat) : EthPort := h.ports.getD n {}
/-- Counters of the two Ethernet port windows. -/
def portCnt (s : State) (n o : Nat) : CntRef :=
  match o with
  | 0x20 => some ((s.host.port n).rxCnt, fun c => s.updPort n fun p => { p with rxCnt := c })
  | 0x28 => some ((s.host.port n).rxDropCnt, fun c => s.updPort n fun p => { p with rxDropCnt := c })
  | 0x30 => some ((s.host.port n).rxOvfCnt, fun c => s.updPort n fun p => { p with rxOvfCnt := c })
  | 0x38 => some ((s.host.port n).txCnt, fun c => s.updPort n fun p => { p with txCnt := c })
  | 0x40 => some ((s.host.port n).txLateCnt, fun c => s.updPort n fun p => { p with txLateCnt := c })
  | _ => none

/-- The counter whose LO word lies at a BAR0 offset. -/
def State.cntAt (s : State) (off : Nat) : CntRef :=
  let b := off / 0x10000
  let o := off % 0x10000
  if b = 0 then sysCnt s o
  else if b = 2 then
    (if o % 0x40 = 0x24 ∧ o / 0x40 < 72 then
      some ((s.store (o / 0x40)).badIndexCnt, fun c => s.updStore (o / 0x40) fun x => { x with badIndexCnt := c })
    else none)
  else if b = 19 ∧ 0x100 ≤ o ∧ o < 0x200 then portCnt s ((o - 0x100) / 0x80) (o % 0x80)
  else if b = 21 ∧ (o = 0x108 ∨ o = 0x128) then
    let n := (o - 0x100) / 0x20
    some ((s.casc.ports.getD n {}).errCnt, fun c => s.onCasc fun x => { x with
      ports := x.ports.set n { x.ports.getD n {} with errCnt := c } })
  else if b < 11 then planCnt s b o
  else unitCnt s b o

/-! ### Pairs that latch their high word (Table 1-8) -/

/-- The 64-bit value of a pair, its latched high word, and the write of the latch. -/
abbrev PairRef := Option (Dword × Word × (Word → State))

/-- A latched pair that a field holds. -/
def pairRef (x : Latched64) (put : Latched64 → State) : PairRef := some (x.val, x.hi, fun w => put { x with hi := w })

/-- The pair whose LO word lies at a BAR0 offset. -/
def State.pairAt (s : State) (off : Nat) : PairRef :=
  let b := off / 0x10000
  let o := off % 0x10000
  let sl := (o - 0x100) / 0x40
  match b with
  | 0 =>
    if o = 0x108 then pairRef s.tick.num fun x => s.onTick fun t => { t with num := x }
    else if o = 0x338 then pairRef s.zheda.last fun x => s.onZheda fun t => { t with last := x }
    else if o = 0x340 then pairRef s.zheda.reach fun x => s.onZheda fun t => { t with reach := x }
    else if o = 0x410 then pairRef s.cmd.switchTick fun x => s.onCmd fun t => { t with switchTick := x }
    else none
  | 2 =>
    let t := o / 0x40
    if 72 ≤ t then none
    else if o % 0x40 = 0x04 then pairRef (s.store t).version fun x => s.updStore t fun f => { f with version := x }
    else if o % 0x40 = 0x18 then pairRef (s.store t).t0 fun x => s.updStore t fun f => { f with t0 := x }
    else none
  | 5 =>
    let n := (o - 0x100) / 0x20
    if 0x100 ≤ o ∧ n < 16 ∧ o % 0x20 = 0x08 then
      pairRef (s.cflSlot n).pub fun x => s.updCflSlot n fun f => { f with pub := x }
    else none
  | 8 =>
    if o < 0x100 ∨ 16 ≤ sl then none
    else if o % 0x40 = 0x0C then pairRef (s.holSlot sl).t0 fun x => s.updHolSlot sl fun f => { f with t0 := x }
    else if o % 0x40 = 0x14 then pairRef (s.holSlot sl).endT fun x => s.updHolSlot sl fun f => { f with endT := x }
    else if o % 0x40 = 0x1C then pairRef (s.holSlot sl).ver fun x => s.updHolSlot sl fun f => { f with ver := x }
    else none
  | 10 =>
    if o = 0x0C then some (BitVec.ofNat 64 s.tslNow, s.teasel.nowHi, fun w => s.onTeasel fun t => { t with nowHi := w })
    else none
  | 14 =>
    if o = 0x10 then some (s.sec.fuses.serial, s.sec.idHi, fun w => s.onSec fun t => { t with idHi := w })
    else if o = 0x18 then pairRef s.sec.next fun x => s.onSec fun t => { t with next := x }
    else none
  | 17 => if o = 0x38 then pairRef s.mem.ueAddr fun x => s.onMem fun t => { t with ueAddr := x } else none
  | 18 => if o = 0x10 then pairRef s.host.dmaErrAddr fun x => s.onHost fun t => { t with dmaErrAddr := x } else none
  | _ => none

/-! ### Words of the SYS_ block -/

/-- A word of flags at bit positions. -/
def flags32 (l : List (Nat × Bool)) : Word := BitVec.ofNat 32 (flagWord l)

/-- Word `i` (0 or 1) of a 64-bit map of numbers. -/
def maskWord (l : List Nat) (i : Nat) : Word :=
  BitVec.ofNat 32 (l.eraseDups.foldl (fun a n => if n / 32 = i then a + 2 ^ (n % 32) else a) 0)

/-- Word `i` of bytes, little-endian. -/
def byteWord (b : List Byte) (i : Nat) : Word := BitVec.ofNat 32 (leAt b (4 * i) 4)

/-- SYS_TICK_STAT (Table 1-9). -/
def TickSt.stat (t : TickSt) : Word :=
  packWord [(5, t.activeSrc.toNat), (4, b2n t.holdover), (3, b2n t.throttledF), (2, b2n t.shortF), (1, b2n t.lostF), (0, b2n t.fastF)]

/-- SYS_TICK_ registers (Tables 1-6 to 1-12); a write of SRC reads back before it takes effect (R18). -/
def tickReg (t : TickSt) (o : Nat) : Word :=
  match o with
  | 0x100 => packWord [(14, b2n t.outEn), (12, t.srcWritten.toNat), (0, t.periodUs)]
  | 0x104 => t.phaseNs
  | 0x110 => t.stat
  | 0x124 => BitVec.ofNat 32 t.acA
  | 0x128 => BitVec.ofNat 32 t.acE
  | 0x12C => packWord [(24, b2n t.thrEn), (16, t.minUnits.toNat), (8, t.effUnits), (0, t.maxUnits)]
  | 0x130 => t.recoverTicks.setWidth 32
  | 0x134 => BitVec.ofNat 32 t.emitUs
  | _ => 0

/-- SYS_WLD_SRC_STALE: an undeclared source reads 0 (Table 2-7). -/
def State.srcStaleWord (s : State) : Word :=
  match s.bundle with
  | none => s.world.srcStale.setWidth 32
  | some b => BitVec.ofNat 32 (((b.sources.map (·.id)).eraseDups.filter fun i => s.world.srcStale.getLsbD i).foldl
      (fun a i => a + 2 ^ i) 0)

/-- SYS_WLD_ registers (Tables 2-6, 2-7). -/
def worldReg (s : State) (o : Nat) : Word :=
  let w := s.world
  match o with
  | 0x200 =>
    let b := s.bundle
    packWord [(24, w.brickRange.toNat), (16, (b.map (·.layerMs)).getD 0), (8, w.recentreCells.toNat),
      (2, (b.map (·.obsHold - 1)).getD 0), (1, b2n ((b.map (·.wall)).getD false)), (0, b2n ((b.map (·.follow)).getD false))]
  | 0x204 => flags32 [(4, w.fieldHeld), (3, w.brickShort), (2, w.ingestOvf), (1, w.late), (0, w.originMoved)]
  | 0x208 => s.srcStaleWord
  | 0x20C => packWord [(16, w.demand % 65536), (0, w.used % 512)]
  | 0x210 => byteWord w.predThr 0
  | 0x214 => byteWord w.predThr 1
  | _ => 0

/-- SYS_RUN_STAT (Table 10-11). -/
def ZhedaSt.runStat (z : ZhedaSt) : Word := packWord [(3, b2n z.loaded), (0, z.run.code)]

/-- SYS_RUN_, SYS_DET_ and SYS_ZHD_ registers (Table 10-11). -/
def zhedaReg (z : ZhedaSt) (o : Nat) : Word :=
  match o with
  | 0x300 => z.runStat
  | 0x304 => z.fw
  | 0x328 => z.wseed
  | 0x330 => z.cfgWritten
  | 0x334 => flags32 [(4, z.faultTick), (3, z.reachMoved), (2, z.ckptDone), (1, z.ckptAbandoned), (0, z.gapF)]
  | _ => if 0x308 ≤ o ∧ o < 0x328 then byteWord z.digest ((o - 0x308) / 4) else 0

/-- SYS_CFG_STAT.STATE (Table 13-12). -/
def CommandSt.cfgState (c : CommandSt) : Nat :=
  if c.rollback then 5 else match c.phase with
    | .loading .. => 1
    | .staging .. => 3
    | .switchPending => 4
    | .idle => if c.staged.isSome then 2 else 0

/-- SYS_CFG_ and SYS_LONG_ registers (Table 13-12). -/
def cmdReg (c : CommandSt) (o : Nat) : Word :=
  let sel : Option LongOp := Tbl.find? c.longs c.longSel.toNat
  match o with
  | 0x400 => packWord [(6, b2n c.rolledBack), (5, b2n c.rejected), (0, c.cfgState)]
  | 0x404 => BitVec.ofNat 32 (genOf c.active)
  | 0x408 => BitVec.ofNat 32 (genOf c.previous)
  | 0x40C => BitVec.ofNat 32 (genOf c.staged)
  | 0x418 => maskWord (c.longs.map (·.1)) 0
  | 0x41C => maskWord (c.longs.map (·.1)) 1
  | 0x420 => c.longSel.setWidth 32
  | 0x424 => ((sel.map fun l => packWord [(16, l.handle), (8, l.hdr.ring), (0, l.state.code)])).getD 0
  | 0x428 => ((sel.map fun l => BitVec.ofNat 32 l.opcode)).getD 0
  | 0x42C => ((sel.map fun l => BitVec.ofNat 32 l.slices)).getD 0
  | _ => 0

/-- A ring window (Table 13-13). -/
def ringReg (r : Ring) (o : Nat) : Word :=
  match o with
  | 0x00 => r.sqBase.setWidth 32
  | 0x04 => (r.sqBase >>> 32).setWidth 32
  | 0x08 => r.cqBase.setWidth 32
  | 0x0C => (r.cqBase >>> 32).setWidth 32
  | 0x10 => packWord [(31, b2n r.en), (16, r.sqLog.toNat), (8, r.cqLog.toNat), (7, b2n r.cqIe), (0, r.vector.toNat)]
  | 0x14 => packWord [(16, r.faultCode), (2, b2n r.cqFull), (1, b2n r.fault), (0, b2n (r.en && !r.fault))]
  | 0x18 => r.expect
  | 0x1C => packWord [(16, r.cqTail % 65536), (0, r.sqHead % 65536)]
  | _ => 0

def sysReg (s : State) (o : Nat) : Word :=
  if o = 0 then s.ident.word
  else if o < 0x200 then tickReg s.tick o
  else if o < 0x300 then worldReg s o
  else if o < 0x400 then zhedaReg s.zheda o
  else if o < 0x500 then cmdReg s.cmd o
  else if 0x1000 ≤ o ∧ o < 0x1800 then ringReg (s.ring ((o - 0x1000) / 0x20)) (o % 0x20)
  else match o with
    | 0x500 => packWord [(8, s.safety.fltVector.toNat), (0, s.safety.pinSev.toNat)]
    | 0x504 => s.safety.pend.setWidth 32
    | 0x508 => s.safety.fltSeq
    | 0x600 => s.safety.futureNs
    | 0x604 => s.safety.e2eFail.setWidth 32
    | _ => 0

/-! ### Words of the planning blocks -/

/-- HB_ registers (Tables 5-13, 5-14): before READY no roster is in force, and every tile reads as a spare of no engine. -/
def hbReg (s : State) (o : Nat) : Word :=
  let h := s.harebell
  if 0x400 ≤ o ∧ o < 0x1600 then
    let t := (o - 0x400) / 0x40
    let x : HbTile := Tbl.get {} h.tiles t
    match o % 0x40 with
    | 0x00 =>
      let e := s.safety.tile t
      if !s.clock.ready then packWord [(16, 0x7F), (3, 1)]
      else packWord [(16, (e.serves.map fun p => 16 * (t / 18) + p).getD 0x7F),
        (3, match e.role with | .active => 0 | .spare => 1 | .testing => 2 | .failed => 3),
        (2, b2n x.busy), (1, b2n (decide (0 < s.dSub t)))]
    | 0x04 => BitVec.ofNat 32 x.queries
    | 0x08 => BitVec.ofNat 32 x.cands
    | 0x0C => BitVec.ofNat 32 x.start
    | 0x10 => x.gsig0
    | 0x14 => x.gsig1
    | _ => 0
  else if 0x100 ≤ o ∧ o < 0x140 then
    (if !s.clock.ready then 0
    else BitVec.ofNat 32 (sumN ((List.range 4).map fun i =>
      match s.safety.serving ((o - 0x100) + i) with
      | none => 0
      | some t => (0x80 + t) * 256 ^ i)))
  else match o with
    | 0x00 => flags32 [(4, h.fieldInvalid), (3, h.costSat), (2, h.posSat), (1, h.fsUe), (0, h.fsCe)]
    | 0x08 => BitVec.ofNat 32 h.tickFeas
    | 0x0C => BitVec.ofNat 32 h.tickInfeas
    | 0x10 => BitVec.ofNat 32 h.causeClr
    | 0x14 => BitVec.ofNat 32 h.causeSelf
    | 0x18 => BitVec.ofNat 32 h.causeLimit
    | 0x1C => BitVec.ofNat 32 h.causeFserr
    | _ => 0

/-- FS_ registers of a tile (Tables 2-8, 2-9). -/
def fsReg (x : FieldStore) (o : Nat) : Word :=
  match o with
  | 0x00 => packWord [(9, b2n x.peekBusy), (8, b2n x.peekErr), (4, x.replicaBad.toNat), (1, b2n x.bcast), (0, b2n x.valid)]
  | 0x0C => BitVec.ofInt 32 x.origin.x
  | 0x10 => BitVec.ofInt 32 x.origin.y
  | 0x14 => BitVec.ofInt 32 x.origin.z
  | 0x20 => x.crc
  | 0x2C => x.peekAddr.setWidth 32
  | 0x30 => x.peekData.setWidth 32
  | 0x34 => BitVec.ofNat 32 x.layerMs
  | _ => 0

/-- LUP_ registers (Tables 4-7, 4-8). -/
def lupReg (s : State) (o : Nat) : Word :=
  let l := s.lupin
  if 0x100 ≤ o ∧ o < 0x500 then
    let x := s.lupSlot ((o - 0x100) / 0x40)
    match o % 0x40 with
    | 0x00 => packWord [(31, b2n x.valid), (0, x.ctx)]
    | 0x04 => packWord [(24, x.knots), (16, x.share), (8, x.spheres), (0, x.waypoints)]
    | 0x08 => BitVec.ofNat 32 x.base
    | 0x0C => BitVec.ofNat 32 x.alloc
    | 0x10 => BitVec.ofNat 32 x.count
    | 0x14 => BitVec.ofNat 32 x.blocks.startRm
    | 0x18 => BitVec.ofNat 32 x.blocks.startProp
    | 0x1C => BitVec.ofNat 32 x.blocks.startTree
    | 0x20 => BitVec.ofNat 32 x.blocks.startUni
    | 0x24 => x.fallback.setWidth 32
    | 0x28 => BitVec.ofNat 32 x.treeNodes
    | 0x2C => BitVec.ofNat 32 x.routeGen
    | _ => 0
  else match o with
    | 0x00 => flags32 [(1, l.routeAdopt), (0, l.treeGrow)]
    | 0x04 => packWord [(16, l.fgCount), (3, b2n l.treeFull), (2, b2n l.proposalBad), (1, b2n l.fallbackF), (0, b2n l.trimmed)]
    | 0x08 => l.goldBase
    | 0x0C => BitVec.ofNat 32 l.liveTotal
    | _ => 0

/-- AST_ARR_COLMAP: the columns replaced by the spares in use (Table 3-11). -/
def AsterArray.colWord (a : AsterArray) : Word :=
  BitVec.ofNat 32 (sumN (a.colmap.zipIdx.map fun x => (0x80 + x.1) * 256 ^ x.2))

/-- AST_ARR_OPIDX of an array: a foreground item is one command, so between commands an array is busy with background work or
idle; which operation of a slice runs is not stated (log entry 177). -/
def State.asterOpWord (s : State) (n : Nat) : Word :=
  if s.teasel.running.any fun r => r.cls == .ast && r.server == n then
    packWord [(31, 1), (28, 3), (0, (Config.asterOp s.now n).toNat % 2 ^ 20)]
  else 0

/-- AST_ registers (Tables 3-9 to 3-11). -/
def astReg (s : State) (o : Nat) : Word :=
  let a := s.aster
  let b := s.bundle
  if 0x100 ≤ o ∧ o < 0x200 then
    let n := (o - 0x100) / 0x40
    let x := a.arrays.getD n {}
    match o % 0x40 with
    | 0x00 => packWord [(3, b2n x.failed), (0, x.colmap.length)]
    | 0x04 => x.colWord
    | 0x08 => s.asterOpWord n
    | _ => 0
  else match o with
    | 0x00 => packWord [(8, b2n a.degradedEn), (0, flagWord (a.arrays.zipIdx.map fun x => (x.2, !x.1.failed)))]
    | 0x04 => flags32 [(6, a.arrayFailedF), (5, a.degraded), (4, a.proposalInvalid), (3, a.criticSkipped), (2, a.predWarmup),
        (1, a.nanSeen), (0, a.satSeen)]
    | 0x08 => (((b.bind (·.predictor)).map fun p => packWord [(8, p.histStride), (0, p.histDepth)])).getD 0
    | 0x0C => (((b.bind (·.critic)).map fun c => BitVec.ofNat 32 c.shift)).getD 0
    | 0x10 => (((b.bind (·.predictor)).map fun p => BitVec.ofNat 32 p.graph.length)).getD 0
    | 0x14 => ((b.map fun x => Config.proposalLen (x.models.filterMap fun m => m.proposal.map (·.length)))).getD 0
    | 0x18 => (((b.bind (·.critic)).map fun c => BitVec.ofNat 32 c.graph.length)).getD 0
    | _ => 0

/-- The published value of the selected cell (Table 6-4). -/
def CflSlot.peekValue (x : CflSlot) : Nat :=
  if x.pubValid then (if x.pubSel then x.buf1 else x.buf0).getD x.peekCell.toNat 0xFFFF else 0

/-- CFL_ registers (Tables 6-3, 6-4). -/
def cflReg (s : State) (o : Nat) : Word :=
  let c := s.cornflower
  let rings := (s.bundle.map (·.rings)).getD 0
  if 0x100 ≤ o ∧ o < 0x300 then
    let n := (o - 0x100) / 0x20
    let x := s.cflSlot n
    match o % 0x20 with
    | 0x00 => packWord [(31, b2n x.valid), (30, b2n x.pubValid), (29, b2n x.pubSel), (24, if x.valid then n % 4 else 0), (0, x.ctx)]
    | 0x04 => ((s.fgSlot n).map fun f => packWord [(28, f.rec'.ctgLayers), (16, f.rec'.ctgClr), (8, f.rec'.step2), (0, f.rec'.step1)]).getD 0
    | 0x10 => BitVec.ofNat 32 x.changed
    | 0x14 => ((s.fgSlot n).map fun f => packWord [(24, f.rec'.step3), (0, (goalCells s.world.origin f.boxes).count true)]).getD 0
    | 0x18 => packWord [(16, x.peekValue), (0, x.peekCell.toNat)]
    | _ => 0
  else match o with
    | 0x00 => packWord [(8, b2n c.wfEn), (0, rings)]
    | 0x04 => packWord [(8, c.failedMask.toNat), (5, b2n c.unitFailed), (4, b2n c.notConverged), (3, b2n c.goalBlocked),
        (2, b2n c.ctgReset), (1, b2n c.ctgHeld), (0, b2n c.edtIncomplete)]
    | 0x08 => c.lenEdt
    | 0x0C => BitVec.ofNat 32 (4 * rings * 2048)
    | 0x10 => ((c.full.find? fun f => !f.done).map fun f => packWord [(31, 1), (20, f.slot), (0, f.ringsDone)]).getD 0
    | _ => 0

/-- POP_ registers (Tables 7-9, 7-10). -/
def popReg (s : State) (o : Nat) : Word :=
  let p := s.poppy
  if 0x100 ≤ o ∧ o < 0x300 then
    let x := s.popSlot ((o - 0x100) / 0x20)
    match o % 0x20 with
    | 0x00 => packWord [(31, b2n x.valid), (30, b2n x.reranked), (0, x.ctx)]
    | 0x04 => packWord [(16, x.kc), (0, x.k)]
    | 0x08 => packWord [(16, x.repeats), (0, x.validN)]
    | 0x0C => BitVec.ofNat 32 x.tie
    | 0x10 => BitVec.ofNat 32 x.kth
    | 0x14 => BitVec.ofNat 32 x.feas
    | 0x18 => BitVec.ofNat 32 x.infeas
    | 0x1C => BitVec.ofNat 32 x.top
    | _ => 0
  else match o with
    | 0x00 => packWord [(8, b2n p.takeoverEn)]
    | 0x04 => packWord [(13, b2n p.takeoverOk), (12, b2n p.mergeFailed), (8, p.failedMask.toNat), (3, b2n p.rowRefused),
        (2, b2n p.takeoverF), (1, b2n p.dupSeen), (0, b2n p.sumSat)]
    | 0x08 => BitVec.ofNat 32 p.lenSel
    | 0x0C => BitVec.ofNat 32 p.lenMerge
    | 0x10 => BitVec.ofNat 32 p.lenRerank
    | _ => 0

/-- VET_ registers (Tables 8-7, 8-8). -/
def vetReg (s : State) (o : Nat) : Word :=
  let v := s.vetch
  if 0x100 ≤ o ∧ o < 0x300 then
    let x := s.vetSlot ((o - 0x100) / 0x20)
    match o % 0x20 with
    | 0x00 => packWord [(31, b2n x.valid), (24, x.unit), (0, x.ctx)]
    | 0x04 => BitVec.ofNat 32 x.lenF
    | 0x08 => BitVec.ofNat 32 x.lenIt
    | 0x0C => BitVec.ofNat 32 x.lenS
    | 0x10 => BitVec.ofNat 32 x.deadline
    | 0x14 => BitVec.ofNat 32 x.endAc
    | 0x18 => packWord [(24, x.shiftRun), (16, x.state), (8, x.cutIter), (0, x.iters)]
    | _ => 0
  else match o with
    | 0x00 => packWord [(8, b2n v.rotEn), (0, v.shiftLimit.toNat)]
    | 0x04 => packWord [(8, v.failedMask.toNat), (6, b2n v.stopNone), (5, b2n v.unitFailed), (4, b2n v.stopReq),
        (3, b2n v.overflowF), (2, b2n v.cutF), (1, b2n v.shiftedF), (0, b2n v.pivotReg)]
    | 0x08 => packWord ((12, v.spare.getD 7) :: (List.range 4).map fun i => (3 * i, v.phys.getD i 7))
    | _ => 0

/-- HOL_STAT (Table 9-9). REARM_READY is whether REARM would be accepted (R244). -/
def State.holStat (s : State) : Word :=
  let c := s.commit
  packWord [(8, b2n c.frozenF), (7, b2n c.timeoutF), (6, b2n c.noFeasF), (5, b2n c.lateF), (4, b2n c.estopSeen),
    (3, b2n s.safeLow), (2, b2n s.rearmReady), (1, b2n c.estopLatch), (0, b2n c.estopActive)]

/-- HOL_ registers (Tables 9-9, 9-10). -/
def holReg (s : State) (o : Nat) : Word :=
  let c := s.commit
  if 0x100 ≤ o ∧ o < 0x500 then
    let x := s.holSlot ((o - 0x100) / 0x40)
    match o % 0x40 with
    | 0x00 => packWord [(31, b2n x.valid), (29, x.kind), (27, x.recState.code), (26, b2n x.drain), (16, x.rank), (0, x.status)]
    | 0x04 => BitVec.ofNat 32 x.reasons
    | 0x08 => BitVec.ofNat 32 x.index
    | _ => 0
  else match o with
    | 0x00 => c.safeMask.setWidth 32
    | 0x04 => s.holStat
    | 0x08 => c.graceNs.setWidth 32
    | 0x0C => BitVec.ofNat 32 (satU 24 s.estopTimer)
    | _ => 0

/-- YAR_ registers (Tables 9-9, 9-10). -/
def yarReg (s : State) (o : Nat) : Word :=
  if 0x100 ≤ o ∧ o < 0x200 then
    (if o % 0x10 = 0 then
      let a := (s.holSlot ((o - 0x100) / 0x10)).ages
      packWord [(24, a.getD 0 0), (16, a.getD 1 0), (8, a.getD 2 0), (0, a.getD 3 0)]
    else 0)
  else match o with
    | 0x00 => BitVec.ofNat 32 s.commit.ageLimit
    | 0x04 => flags32 [(0, s.commit.staleF)]
    | _ => 0

end Sys2Proof.Machine
end

