-- ==== Sys2Proof/Machine/UnitRegs.lean ====
section
/-! DEFINITION. What the registers of Teasel, Bindweed, Cowslip, Campion, Thistle, Primrose, the clocks, power, memory, the host
links and the cascade read as (11 R293; 12 R315; 14 R369; 15 R396; 16 R422; 17 R447; 18 R464; 19 R483), and the one read of a
BAR0 offset over every block (15 R371, R372). -/

namespace Sys2Proof.Machine

/-! ### Teasel, Bindweed, Cowslip -/

/-- Levels that hold a ready item (R272, Table 11-13). -/
def State.readyLevels (s : State) : List Nat :=
  (s.teasel.pool.filterMap fun p =>
    if p.2.place == .waiting && p.2.release.isSome then some (s.flow p.2.flow).level else none) ++
  (s.cmd.longs.filterMap fun p => if s.mayLong p.1 p.2 then some p.2.level else none) ++ s.teasel.fwReady.map (·.level)

/-- TSL_ registers (Tables 11-13, 11-14). -/
def tslReg (s : State) (o : Nat) : Word :=
  let t := s.teasel
  let cap (i : Nat) : Nat := t.dlCap.getD i 0
  let cnt (i : Nat) : Nat := ((t.delays.getD i []).length) % 65536
  if 0x100 ≤ o ∧ o < 0x140 then
    (match t.inSlot' ((o - 0x100) / 4) with
    | none => 0
    | some c => packWord [(31, 1), (30, b2n ((s.ctx c).state == .drain)), (0, c)])
  else match o with
    | 0x00 => flags32 [(1, t.flowEn), (0, t.bgEn)]
    | 0x04 => flags32 [(5, t.lateF), (4, t.preempted), (3, t.delayFull), (2, t.poolEmpty), (1, t.queueFull)]
    | 0x08 => BitVec.ofNat 32 t.free
    | 0x14 => packWord [(16, cap 1), (0, cap 0)]
    | 0x18 => packWord [(16, cap 3), (0, cap 2)]
    | 0x1C => packWord [(16, cnt 1), (0, cnt 0)]
    | 0x20 => packWord [(16, cnt 3), (0, cnt 2)]
    | 0x24 => maskWord s.readyLevels 0
    | 0x28 => maskWord s.readyLevels 1
    | 0x48 => BitVec.ofNat 32 t.heldPushes.length
    | 0x50 => packWord [(16, (t.ctxs.filter fun e => e.2.state == .active || e.2.state == .drain).length),
        (0, (t.ctxs.filter fun e => e.2.state != .free).length)]
    | 0x80 => t.flowSel.setWidth 32
    | 0x84 => t.flowData.getD 0 0
    | 0x88 => t.flowData.getD 1 0
    | 0x8C => t.flowData.getD 2 0
    | 0x90 => t.flowData.getD 3 0
    | _ => 0

/-- A watch window (Table 12-7). -/
def watchReg (w : Watch) (o : Nat) : Word :=
  match o with
  | 0x0 => packWord [(31, b2n w.armed), (17, b2n w.consume), (16, b2n w.fired), (0, w.counter.toNat)]
  | 0x4 => w.target
  | 0x8 => packWord [(29, w.dest.toNat), (16, w.cond.toNat), (0, w.arg.toNat)]
  | _ => w.seq

/-- What a counter window reads as; a read of FETCH_INC without its effect shows the value (Table 12-1). -/
def BindweedSt.windowRead (b : BindweedSt) (op n : Nat) : Word :=
  let c := b.ctr n
  if op = 4 then flags32 [(0, c.seqMode), (1, c.sat), (2, (b.pairOf n).isSome)] else c.value

/-- BND_ registers (Table 12-7), by offset in the block of 1,024 KiB. -/
def bndReg (b : BindweedSt) (o : Nat) : Word :=
  if 0x20000 ≤ o ∧ o < 0xC0000 then
    (if o % 0x20000 / 4 < 24576 then b.windowRead (o / 0x20000 - 1) (o % 0x20000 / 4) else 0)
  else if 0x10000 ≤ o ∧ o < 0x12800 then
    let p := b.pair ((o - 0x10000) / 8)
    (if o % 8 = 0 then packWord [(31, b2n p.enabled), (30, b2n p.cluster), (15, p.cons), (0, p.prod)]
    else BitVec.ofNat 32 p.bufs)
  else if 0x1000 ≤ o ∧ o < 0x9000 then watchReg (Tbl.get {} b.watches ((o - 0x1000) / 0x10)) (o % 0x10)
  else if 0x100 ≤ o ∧ o < 0x200 then Tbl.get 0 b.fired ((o - 0x100) / 4)
  else match o with
    | 0x00 => b.hostFirst.setWidth 32
    | 0x04 => flags32 [(7, b.domainOff), (6, b.watchRefused), (5, b.stallTimeout), (4, b.stalled), (3, b.underflow),
        (2, b.overflow), (1, b.badOp), (0, b.satF)]
    | 0x08 => b.stallLimit
    | 0x0C => packWord [(28, b.faultCause.toNat), (0, b.faultCounter.toNat)]
    | _ => 0

/-- COW_MB_CTRL (Table 12-8). -/
def Mbox.ctrl (x : Mbox) : Word :=
  packWord [(16, x.vector.toNat), (4, b2n x.refused), (3, b2n x.emptyIe), (2, b2n x.fullIe), (0, b2n x.full)]

/-- COW_ registers (Table 12-8). -/
def cowReg (s : State) (o : Nat) : Word :=
  let c := s.cowslip
  if 0x1000 ≤ o ∧ o < 0x2000 then byteWord (s.mbox ((o - 0x1000) / 0x40)).slot (o % 0x40 / 4)
  else if 0x2000 ≤ o ∧ o < 0x2400 then (Tbl.get {} c.bells ((o - 0x2000) / 4)).value
  else if 0x2400 ≤ o ∧ o < 0x2800 then
    let b : Doorbell := Tbl.get {} c.bells ((o - 0x2400) / 4)
    packWord [(8, b2n b.pending), (0, b.coalesced.toNat)]
  else if 0x100 ≤ o ∧ o < 0x200 then (s.mbox ((o - 0x100) / 4)).ctrl
  else if 0x40 ≤ o ∧ o < 0x60 then
    maskWord ((c.bells.filter fun e => e.2.pending).map (·.1)) ((o - 0x40) / 4)
  else match o with
    | 0x00 => flags32 [(1, c.domainOff), (0, c.refused)]
    | 0x04 => packWord [(8, c.errCause.toNat), (0, c.errTarget.toNat)]
    | 0x20 => maskWord ((c.mboxes.filter fun e => e.2.full).map (·.1)) 0
    | 0x24 => maskWord ((c.mboxes.filter fun e => e.2.full).map (·.1)) 1
    | _ => 0

/-! ### Campion, Thistle, Primrose -/

/-- CAM_ROT_c (Table 14-11): the mode by the tiles of the cluster that have not failed (R351, R353). -/
def State.rotWord (s : State) (c : Nat) : Word :=
  let r := s.safety.rots.getD c {}
  let n := ((List.range 18).filter fun i => (s.safety.tile (18 * c + i)).role != .failed).length
  packWord [(16, r.gen.toNat), (12, r.ptr), (10, if r.short then 3 else if 18 ≤ n then 0 else if n = 17 then 1 else 2),
    (0, r.out.getD 0x7F)]

/-- CAM_COV_u (Table 14-11). -/
def State.covWord (s : State) (u : Nat) : Word :=
  let c : CovUnit := Tbl.get {} s.safety.cov u
  packWord [(31, b2n c.late), (16, satU 15 ((c.startTick.map fun k => s.tickNo - k).getD 0)), (0, c.done % 1024)]

/-- CAM_ registers (Table 14-11). -/
def camReg (s : State) (o : Nat) : Word :=
  let f := s.safety
  if 0x140 ≤ o ∧ o < 0x2B4 then s.covWord ((o - 0x140) / 4)
  else if 0x304 ≤ o ∧ o < 0x324 then byteWord f.ledgerData ((o - 0x304) / 4)
  else if 0x100 ≤ o ∧ o < 0x110 then s.rotWord ((o - 0x100) / 4)
  else match o with
    | 0x00 => packWord [(8, b2n f.rotEn), (0, f.maxExclude.toNat)]
    | 0x04 => flags32 [(6, f.rots.any (·.short)), (5, f.ghostF), (4, f.covF), (3, f.abortF), (2, f.deferF), (1, f.exclF), (0, f.goldF)]
    | 0x08 => maskWord f.exclMask 0
    | 0x0C => maskWord f.exclMask 1
    | 0x28 => packWord [(16, f.covUnit.toNat), (0, f.covTile.toNat)]
    | 0x2C => f.ceLimit.setWidth 32
    | 0x300 => f.ledgerSel.setWidth 32
    | _ => 0

/-- The map of frozen masters. -/
def State.frozenMap (s : State) : Word := maskWord ((List.range 15).filter fun m => (s.master m).frozen) 0

/-- THI_ registers (Table 14-11). -/
def thiReg (s : State) (o : Nat) : Word :=
  if 0x100 ≤ o ∧ o < 0x2E0 then
    let x := s.master ((o - 0x100) / 0x20)
    match o % 0x20 with
    | 0x00 => x.rate.setWidth 32
    | 0x04 => packWord [(28, x.cls.toNat), (0, x.vseq.toNat)]
    | 0x08 => x.addr.setWidth 32
    | 0x0C => (x.addr >>> 32).setWidth 32
    | 0x10 => packWord [(8, b2n x.write), (7, b2n x.secure), (0, x.len.toNat)]
    | _ => 0
  else if o = 0x0000 ∨ o = 0x1000 then s.frozenMap
  else 0

/-- PRM_ registers (18 Table 18-9). -/
def prmReg (s : State) (o : Nat) : Word :=
  let p := s.sec
  if 0x100 ≤ o ∧ o < 0x120 then byteWord p.nonce ((o - 0x100) / 4)
  else if 0x80 ≤ o ∧ o < 0xC4 then byteWord p.idPub ((o - 0x80) / 4)
  else if 0x60 ≤ o ∧ o < 0x80 then byteWord (pad32 (p.nvm.owner.getD [])) ((o - 0x60) / 4)
  else if 0x40 ≤ o ∧ o < 0x60 then byteWord p.chain ((o - 0x40) / 4)
  else match o with
    | 0x00 => flags32 [(5, s.mem.secure == .wiping), (4, s.clock.tamperSrc != 0), (3, p.nvm.cert.isSome), (2, p.nvm.owner.isSome),
        (1, p.nvm.seeds.isSome && !p.nvm.signOff), (0, s.clock.recovery)]
    | 0x04 => BitVec.ofNat 32 p.fuses.state
    | 0x08 => packWord [(8, p.fuses.revoked.toNat), (0, p.fuses.rollback)]
    | 0x20 => BitVec.ofNat 32 p.nvm.blocks
    | 0x24 => s.clock.tamperSrc.setWidth 32
    | 0x28 => BitVec.ofNat 32 p.nvm.tamperCnt
    | _ => 0

/-! ### Clocks, power, memory -/

/-- CLK_DOM_INFO of the selected domain (Table 16-13); GATED depends on the instant (log entry 36). -/
def State.domInfo (s : State) : Word :=
  let d := s.clock.domSel.toNat
  let x : ClkDomain := Tbl.get {} s.clock.domains d
  packWord [(16, x.freqMhz), (12, domainRole d), (3, b2n x.monOff), (2, b2n (!s.clock.gateDis.getLsbD d && Config.gateClosed d s.now)),
    (1, b2n x.resetting), (0, b2n x.stalled)]

/-- CLK_ registers (Table 16-13). -/
def clkReg (s : State) (o : Nat) : Word :=
  let c := s.clock
  match o with
  | 0x00 => flags32 [(5, c.freqErr), (4, c.stallF), (3, c.spareUsed), (2, c.xtalFail), (1, c.onRc), (0, c.xtalOk)]
  | 0x04 => packWord [(16, min c.xtalRun.length 16), (0, c.xtalCount)]
  | 0x08 => BitVec.ofNat 32 c.n0
  | 0x0C => packWord [(8, c.spreadRate), (0, c.spreadDepth)]
  | 0x10 => packWord (c.pllMap.zipIdx.map fun x => (4 * x.2, x.1))
  | 0x14 => packWord ((c.pllFailed.eraseDups.map fun p => (16 + p, 1)) ++ c.pllLocked.eraseDups.map fun p => (p, 1))
  | 0x18 => c.stallMask.setWidth 32
  | 0x1C => (c.stallMask >>> 32).setWidth 32
  | 0x20 => c.gateDis.setWidth 32
  | 0x24 => (c.gateDis >>> 32).setWidth 32
  | 0x28 => c.domSel.setWidth 32
  | 0x2C => s.domInfo
  | _ => 0

/-- PWR_ registers (Table 16-13). -/
def pwrReg (c : ClockSt) (o : Nat) : Word :=
  if 0x10 ≤ o ∧ o < 0x30 then packWord [(0, unS 16 (c.temps.getD ((o - 0x10) / 4) 0))]
  else match o with
    | 0x00 => c.pwrStat
    | 0x04 => c.domStat
    | 0x08 => packWord [(24, c.shutC), (16, c.critC), (8, c.warnC), (0, c.hystC)]
    | 0x0C => packWord [(16, unS 16 c.peak), (0, unS 16 (tMax c.temps))]
    | 0x30 => c.rstCause.setWidth 32
    | 0x34 => c.bootWord
    | 0x38 => packWord [(16, c.voutMv), (0, c.targetMv)]
    | _ => 0

/-- MEM_ registers (15 Table 15-11). -/
def memReg (s : State) (o : Nat) : Word :=
  let m := s.mem
  let pend := s.sec.nvm.repairs.length
  if 0x100 ≤ o ∧ o < 0x120 then
    let n := (o - 0x100) / 4
    let c := m.channels.getD n {}
    packWord [(16, c.ce), (4, if c.trained then (Config.refreshMult s.now n).toNat else 1), (0, b2n c.trained)]
  else match o with
    | 0x00 => flags32 [(7, m.secWiped), (6, m.pprExhausted), (5, decide (0 < pend)), (4, m.conflictF), (3, m.sramUe), (2, m.sramCe),
        (1, m.ddrUe), (0, m.ddrCe)]
    | 0x04 => m.bar2Sel.setWidth 32
    | 0x08 => packWord [(31, b2n m.scrubEn), (0, m.passS.toNat)]
    | 0x0C => BitVec.ofNat 32 m.scrubPos
    | 0x40 => m.conflictLast
    | 0x44 => packWord [(8, m.pprApplied.toNat), (0, satU 8 pend)]
    | 0x48 => packWord [(16, satU 16 m.wipes), (1, b2n (m.secure == .wiping)), (0, b2n m.verifyFail)]
    | _ => 0

/-! ### Host links and cascade -/

/-- An MSI-X table entry (17 R424). -/
def MsixVec.reg (v : MsixVec) (o : Nat) : Word :=
  match o with
  | 0x0 => v.addr.setWidth 32
  | 0x4 => (v.addr >>> 32).setWidth 32
  | 0x8 => v.data
  | _ => flags32 [(0, v.masked)]

/-- PCI_ registers (Table 17-9). -/
def pciReg (h : HostSt) (o : Nat) : Word :=
  if 0x8000 ≤ o ∧ o < 0x8400 then (Tbl.get {} h.vecs ((o - 0x8000) / 16)).reg (o % 16)
  else match o with
    | 0x00 => flags32 [(5, h.linkDown), (4, h.poisonRx), (3, h.dmaErr), (2, h.flrSeen), (1, h.perstSeen), (0, h.dlActive)]
    | 0x04 => packWord [(4, h.width.toNat), (0, h.speed.toNat)]
    | 0x08 => h.errVec.setWidth 32
    | 0x9000 => maskWord ((h.vecs.filter fun e => e.2.pending).map (·.1)) 0
    | 0x9004 => maskWord ((h.vecs.filter fun e => e.2.pending).map (·.1)) 1
    | _ => 0

/-- A 48-bit address in a LO and a HI word. -/
def macWord (m : BitVec 48) (hi : Bool) : Word := if hi then (m >>> 32).setWidth 32 else m.setWidth 32

/-- An Ethernet port window (Table 17-9). -/
def ethPortReg (p : EthPort) (o : Nat) : Word :=
  match o with
  | 0x00 => flags32 [(2, p.vidFilter), (1, p.jumbo), (0, p.en)]
  | 0x04 => flags32 [(1, p.rxLos), (0, p.blockLock)]
  | 0x08 => macWord p.mac false
  | 0x0C => macWord p.mac true
  | 0x10 => macWord p.mcast false
  | 0x14 => macWord p.mcast true
  | 0x18 => packWord [(16, p.vids.getD 1 0), (0, p.vids.getD 0 0)]
  | 0x1C => packWord [(16, p.vids.getD 3 0), (0, p.vids.getD 2 0)]
  | _ => 0

/-- ETH_ registers (Table 17-9). -/
def ethReg (h : HostSt) (o : Nat) : Word :=
  if 0x400 ≤ o ∧ o < 0x800 then
    let d : EthDest := Tbl.get {} h.dests ((o - 0x400) / 0x10)
    match o % 0x10 with
    | 0x0 => macWord d.mac false
    | 0x4 => macWord d.mac true
    | 0x8 => packWord [(16, d.ports.toNat), (0, d.tci.toNat)]
    | _ => 0
  else if 0x100 ≤ o ∧ o < 0x200 then ethPortReg (h.port ((o - 0x100) / 0x80)) (o % 0x80)
  else match o with
    | 0x00 => flags32 [(2, h.xtalOut), (1, h.txLate), (0, h.rxOvf)]
    | 0x04 => h.winUs.setWidth 32
    | 0x08 => packWord [(24, h.prio1.toNat), (16, h.ptpDomain.toNat), (2, b2n h.gmOk), (0, b2n h.profileE2E)]
    | 0x0C => flags32 [(3, h.stepped), (2, h.gm), (1, h.slavePort), (0, h.locked)]
    | 0x10 => BitVec.ofInt 32 h.ptpOffset
    | 0x14 => packWord [(16, h.stepNs.toNat), (0, h.lockNs.toNat)]
    | 0x20 => h.ctxSel.setWidth 32
    | 0x24 => (Tbl.get 0xFF h.ctxMap h.ctxSel.toNat).setWidth 32
    | _ => 0

/-- USB_ registers (Table 17-9). -/
def usbReg (h : HostSt) (o : Nat) : Word :=
  match o with
  | 0x00 => flags32 [(3, h.usbSuspended), (2, h.usbConfigured), (1, h.usbSuper), (0, h.usbConnected)]
  | 0x04 => flags32 [(1, h.trajMirror), (0, h.usbEn)]
  | 0x08 => packWord [(16, 0xD064), (0, h.vendor.toNat)]
  | 0x10 => h.evtMask.setWidth 32
  | 0x14 => (h.evtMask >>> 32).setWidth 32
  | _ => 0

/-- ROLE (R469, R472): a master with no member in service runs as a single device. -/
def State.role (s : State) : Nat :=
  if !s.clock.ready then 0 else if !s.clock.cascRole then (if s.casc.isolated then 3 else 2) else if s.leads then 1 else 0

/-- The positions in service and the positions reachable, this device's own among them. -/
def State.inServiceMap (s : State) : Nat :=
  let c := s.casc
  let own := if !s.clock.ready then [] else if s.clock.cascRole || c.memberInService then [c.position] else []
  ((own ++ c.serving).eraseDups.foldl (fun a p => a + 2 ^ p) 0) % 256

def State.presentMap (s : State) : Nat :=
  (((if s.clock.ready then [s.casc.position] else []) ++ s.casc.others.map (·.1)).eraseDups.foldl (fun a p => a + 2 ^ p) 0) % 256

/-- ULB_ registers (19 Table 19-5). -/
def ulbReg (s : State) (o : Nat) : Word :=
  let c := s.casc
  if 0x100 ≤ o ∧ o < 0x140 then
    let p := c.ports.getD ((o - 0x100) / 0x20) {}
    (if o % 0x20 = 0 then packWord [(8, p.neighbour % 256), (4, p.laneLock.toNat), (0, b2n p.trained)] else 0)
  else match o with
    | 0x00 => packWord [(8, c.lossTicks.toNat), (0, b2n c.autoJoin)]
    | 0x04 => flags32 [(3, c.dualMaster), (2, c.isolated), (1, c.reduced), (0, c.resultMissing)]
    | 0x08 => packWord [(24, s.presentMap), (16, s.inServiceMap), (4, c.position), (0, s.role)]
    | 0x0C => BitVec.ofNat 32 (c.dMax % 65536)
    | 0x10 => c.memberSel.setWidth 32
    | 0x14 =>
      let m : Member := Tbl.get {} c.members c.memberSel.toNat
      packWord [(16, m.delay % 65536), (8, m.hops % 16), (7, m.port % 2), (0, m.state.code)]
    | _ => 0

/-! ### One read over every block (15 R371, R372) -/

/-- The word of a register that is neither a counter nor a latched pair. -/
def State.plainReg (s : State) (off : Nat) : Word :=
  let o := off % 0x10000
  match off / 0x10000 with
  | 0 => sysReg s o
  | 1 => hbReg s o
  | 2 => if o / 0x40 < 72 then fsReg (s.store (o / 0x40)) (o % 0x40) else 0
  | 3 => lupReg s o
  | 4 => astReg s o
  | 5 => cflReg s o
  | 6 => popReg s o
  | 7 => vetReg s o
  | 8 => holReg s o
  | 9 => yarReg s o
  | 10 => tslReg s o
  | 11 => cowReg s o
  | 12 => camReg s o
  | 13 => thiReg s o
  | 14 => prmReg s o
  | 15 => clkReg s o
  | 16 => pwrReg s.clock o
  | 17 => memReg s o
  | 18 => pciReg s.host o
  | 19 => ethReg s.host o
  | 20 => usbReg s.host o
  | 21 => ulbReg s o
  | _ => if 0x200000 ≤ off ∧ off < 0x300000 then bndReg s.bindweed (off - 0x200000) else 0

/-- The word at a BAR0 offset, read without its side effects: a HI word as last latched. -/
def State.peekReg (s : State) (off : Nat) : Word :=
  match s.cntAt off with
  | some (c, _) => c.val.setWidth 32
  | none => match s.pairAt off with
    | some (v, _, _) => v.setWidth 32
    | none =>
      if off < 4 then s.plainReg off
      else match s.cntAt (off - 4) with
        | some (c, _) => c.hi
        | none => match s.pairAt (off - 4) with
          | some (_, h, _) => h
          | none => s.plainReg off

/-- Whether a BAR0 offset lies in a block (Table 15-2). -/
def inBlock (off : Nat) : Bool := decide (off < 0x160000) || (decide (0x200000 ≤ off) && decide (off < 0x300000))

end Sys2Proof.Machine
end

