-- ==== Sys2Proof/Machine/RegWrite.lean ====
section
/-! DEFINITION. Writes of control registers (00 R10; 01 R43 and the register rules of chapters 02 to 19; 15 R371 to R373): read-write
fields, write-one-to-clear bits, and the fields that wait for a tick edge. -/

namespace Sys2Proof.Machine

/-! ### Reaching a register -/

/-- The power domain behind a BAR0 offset (16 Table 16-5): the Field Store and array windows lie in their clusters. -/
def regPower (off : Nat) : Nat :=
  let o := off % 0x10000
  match off / 0x10000 with
  | 2 => 3 + min 3 (o / 0x40 / 18)
  | 4 => if 0x100 ≤ o ∧ o < 0x200 then 3 + (o - 0x100) / 0x40 else 2
  | 14 => 1
  | 15 => 0
  | 16 => 0
  | 17 => 8
  | 18 => 7
  | 19 => 7
  | 20 => 7
  | 21 => 7
  | _ => 2

/-- The port windows that are out of service without a crystal (16 R400). -/
def xtalWindow (off : Nat) : Bool :=
  (decide (0x130100 ≤ off) && decide (off < 0x130200)) || (decide (0x150100 ≤ off) && decide (off < 0x150140))

/-- Whether a register answers: its domain is on and its port in service; the recovery page of Thistle always does (14 R362). -/
def State.regOk (s : State) (off : Nat) : Bool :=
  (decide (0xD1000 ≤ off) && decide (off < 0xD2000)) || (s.domOn (regPower off) && !(s.clock.xtalFail && xtalWindow off))

/-- The violation that a request of a master to a BAR0 offset is: WINDOW outside every block, PROTOCOL where misaligned (15 R372),
then by the windows of Table 15-3. -/
def windowBreach (who : Master) (off : Nat) (write : Bool) : Option (BitVec 4) :=
  let prm := decide (0xE0000 ≤ off) && decide (off < 0xF0000)
  if !inBlock off then some 1
  else if off % 4 ≠ 0 then some 4
  else match who with
    | .host => if prm && decide (0xE8000 ≤ off) then some 1 else if prm && write then some 2 else none
    | .pairA => if prm then some 1 else none
    | .pairB => if prm then some 1 else none
    | .usb => some 1
    | .clusterDma _ => some 1
    | .asterDma _ => some 1
    | .ethDma => some 1
    | .ulbDma => some 1
    | _ => none

/-- A register access of a master: through its guard and its windows, refused where the register does not answer (12 R313, 14
R360, 16 R400, R414). -/
def State.regAccess (s : State) (who : Master) (off : Nat) (write : Bool) (k : State → State) : State :=
  s.guarded who (ctlBase + off) write fun s =>
    match windowBreach who off write, who.num with
    | some c, some m =>
      let s := s.violate m c (BitVec.ofNat 64 (ctlBase + off)) write false 1
      if who == .host then s.abortAccess write else s
    | _, _ => if s.regOk off then k s else if who == .host then s.abortAccess write else s

/-! ### Writes of the SYS_ block -/

def tickWrite (o : Nat) (v : Word) (t : TickSt) : TickSt :=
  match o with
  | 0x100 => { t with
      outEn := v.getLsbD 14
      srcWritten := if fldN v 12 2 = 3 then t.srcWritten else fld v 12 2 }
  | 0x104 => if v.toNat < t.periodUs * 1000 then { t with phaseNs := v } else t
  | 0x110 => { t with
      throttledF := w1c t.throttledF v 3
      shortF := w1c t.shortF v 2
      lostF := w1c t.lostF v 1
      fastF := w1c t.fastF v 0 }
  | 0x12C => { t with
      thrEn := v.getLsbD 24
      thrOff := t.thrOff || !v.getLsbD 24
      minUnits := fld v 16 8 }
  | 0x130 => { t with recoverTicks := fld v 0 16 }
  | _ => t

/-- The bytes of a word, least significant first. -/
def byteList (v : Word) : List Byte := toLe 4 v.toNat

def worldWrite (o : Nat) (v : Word) (w : WorldSt) : WorldSt :=
  match o with
  | 0x200 => { w with
      brickRange := fld v 24 5
      recentreCells := fld v 8 8 }
  | 0x204 => { w with
      fieldHeld := w1c w.fieldHeld v 4
      brickShort := w1c w.brickShort v 3
      ingestOvf := w1c w.ingestOvf v 2
      late := w1c w.late v 1
      originMoved := w1c w.originMoved v 0 }
  | 0x210 => { w with predThr := byteList v ++ w.predThr.drop 4 }
  | 0x214 => { w with predThr := w.predThr.take 4 ++ byteList v }
  | _ => w

def zhedaWrite (o : Nat) (v : Word) (z : ZhedaSt) : ZhedaSt :=
  match o with
  | 0x330 => { z with cfgWritten := v &&& 0xFFFF1F03 }
  | 0x334 => { z with
      faultTick := w1c z.faultTick v 4
      reachMoved := w1c z.reachMoved v 3
      ckptDone := w1c z.ckptDone v 2
      ckptAbandoned := w1c z.ckptAbandoned v 1
      gapF := w1c z.gapF v 0 }
  | _ => z

/-- One 32-bit half of a 64-bit register written. -/
def putHalf (d : Dword) (hi : Bool) (v : Word) : Dword :=
  if hi then v ++ d.setWidth 32 else (d >>> 32).setWidth 32 ++ v

/-- A ring window but for SYS_RING_CFG: bases while the ring is disabled, LO [11:0] ignored; EXPECT while it is disabled (R319,
Table 13-13). -/
def Ring.write (r : Ring) (o : Nat) (v : Word) : Ring :=
  if r.en then r
  else match o with
    | 0x00 => { r with sqBase := putHalf r.sqBase false (v &&& 0xFFFFF000) }
    | 0x04 => { r with sqBase := putHalf r.sqBase true v }
    | 0x08 => { r with cqBase := putHalf r.cqBase false (v &&& 0xFFFFF000) }
    | 0x0C => { r with cqBase := putHalf r.cqBase true v }
    | 0x18 => { r with expect := v }
    | _ => r

/-- SYS_FLT_ and SYS_E2E_ registers; FAULT_N follows PIN_SEV and PEND (14 R364). -/
def fltWrite (o : Nat) (v : Word) (s : State) : State :=
  match o with
  | 0x500 => (s.onSafety fun f => { f with
      fltVector := fld v 8 6
      pinSev := fld v 0 2 }).pinUpdate
  | 0x504 => (s.onSafety fun f => { f with pend := f.pend &&& ~~~(fld v 0 4) }).pinUpdate
  | 0x600 => s.onSafety fun f => { f with futureNs := v }
  | 0x604 => s.onSafety fun f => { f with e2eFail := f.e2eFail &&& ~~~(fld v 0 5) }
  | _ => s

def sysWrite (o : Nat) (v : Word) (s : State) : State :=
  if o < 0x200 then s.onTick (tickWrite o v)
  else if o < 0x300 then s.onWorld (worldWrite o v)
  else if o < 0x400 then s.onZheda (zhedaWrite o v)
  else if o = 0x400 then s.onCmd fun c => { c with
    rolledBack := w1c c.rolledBack v 6
    rejected := w1c c.rejected v 5 }
  else if o = 0x420 then s.onCmd fun c => { c with longSel := fld v 0 6 }
  else if 0x1000 ≤ o ∧ o < 0x1800 then s.updRing ((o - 0x1000) / 0x20) fun r => r.write (o % 0x20) v
  else fltWrite o v s

/-! ### Writes of the planning blocks -/

def hbWrite (o : Nat) (v : Word) (h : HarebellSt) : HarebellSt :=
  if o = 0 then { h with
    fieldInvalid := w1c h.fieldInvalid v 4
    costSat := w1c h.costSat v 3
    posSat := w1c h.posSat v 2
    fsUe := w1c h.fsUe v 1
    fsCe := w1c h.fsCe v 0 }
  else h

def fsWrite (o : Nat) (v : Word) (x : FieldStore) : FieldStore :=
  if o = 0 then { x with
    peekErr := w1c x.peekErr v 8
    replicaBad := x.replicaBad &&& ~~~(fld v 4 4) }
  else x

def lupWrite (o : Nat) (v : Word) (l : LupinSt) : LupinSt :=
  match o with
  | 0x00 => { l with
      routeAdopt := v.getLsbD 1
      treeGrow := v.getLsbD 0 }
  | 0x04 => { l with
      treeFull := w1c l.treeFull v 3
      proposalBad := w1c l.proposalBad v 2
      fallbackF := w1c l.fallbackF v 1
      trimmed := w1c l.trimmed v 0 }
  | _ => l

def astWrite (o : Nat) (v : Word) (a : AsterSt) : AsterSt :=
  match o with
  | 0x00 => { a with degradedEn := v.getLsbD 8 }
  | 0x04 => { a with
      arrayFailedF := w1c a.arrayFailedF v 6
      proposalInvalid := w1c a.proposalInvalid v 4
      criticSkipped := w1c a.criticSkipped v 3
      nanSeen := w1c a.nanSeen v 1
      satSeen := w1c a.satSeen v 0 }
  | _ => a

def cflWrite (o : Nat) (v : Word) (c : CornflowerSt) : CornflowerSt :=
  match o with
  | 0x00 => { c with wfEn := v.getLsbD 8 }
  | 0x04 => { c with
      unitFailed := w1c c.unitFailed v 5
      notConverged := w1c c.notConverged v 4
      goalBlocked := w1c c.goalBlocked v 3
      ctgReset := w1c c.ctgReset v 2
      ctgHeld := w1c c.ctgHeld v 1
      edtIncomplete := w1c c.edtIncomplete v 0 }
  | _ => c

def popWrite (o : Nat) (v : Word) (p : PoppySt) : PoppySt :=
  match o with
  | 0x00 => { p with takeoverEn := v.getLsbD 8 }
  | 0x04 => { p with
      rowRefused := w1c p.rowRefused v 3
      takeoverF := w1c p.takeoverF v 2
      dupSeen := w1c p.dupSeen v 1
      sumSat := w1c p.sumSat v 0 }
  | _ => p

def vetWrite (o : Nat) (v : Word) (x : VetchSt) : VetchSt :=
  match o with
  | 0x00 => { x with
      rotEn := v.getLsbD 8
      shiftLimit := fld v 0 8 }
  | 0x04 => { x with
      stopNone := w1c x.stopNone v 6
      unitFailed := w1c x.unitFailed v 5
      stopReq := w1c x.stopReq v 4
      overflowF := w1c x.overflowF v 3
      cutF := w1c x.cutF v 2
      shiftedF := w1c x.shiftedF v 1
      pivotReg := w1c x.pivotReg v 0 }
  | _ => x

def holWrite (o : Nat) (v : Word) (c : CommitSt) : CommitSt :=
  match o with
  | 0x00 => { c with safeMask := fld v 0 16 }
  | 0x04 => { c with
      frozenF := w1c c.frozenF v 8
      timeoutF := w1c c.timeoutF v 7
      noFeasF := w1c c.noFeasF v 6
      lateF := w1c c.lateF v 5
      estopSeen := w1c c.estopSeen v 4 }
  | 0x08 => { c with graceNs := fld v 0 16 }
  | _ => c

def yarWrite (o : Nat) (v : Word) (c : CommitSt) : CommitSt :=
  if o = 4 then { c with staleF := w1c c.staleF v 0 } else c

/-- TSL_DL_CAP_A or _B for the next tick edge; ignored where the four capacities would exceed 16,384 in total or one would fall
below its list's use (11, after Table 11-13). -/
def TeaselSt.capWrite (t : TeaselSt) (first : Nat) (v : Word) : TeaselSt :=
  let cur := t.dlCapWaiting.getD t.dlCap
  let l := (cur.set first (fldN v 0 16)).set (first + 1) (fldN v 16 16)
  if sumN l ≤ 16384 ∧ (l.zip (t.delays.map List.length)).all (fun x => decide (x.2 ≤ x.1)) then { t with dlCapWaiting := some l } else t

def tslWrite (o : Nat) (v : Word) (t : TeaselSt) : TeaselSt :=
  match o with
  | 0x00 => { t with
      flowEn := v.getLsbD 1
      bgEn := v.getLsbD 0 }
  | 0x04 => { t with
      lateF := w1c t.lateF v 5
      preempted := w1c t.preempted v 4
      delayFull := w1c t.delayFull v 3
      poolEmpty := w1c t.poolEmpty v 2
      queueFull := w1c t.queueFull v 1 }
  | 0x14 => t.capWrite 0 v
  | 0x18 => t.capWrite 2 v
  | _ => t

/-! ### Writes of the other units -/

/-- BND_ registers but for the counter windows and BND_W_CFG; an armed watch keeps TARGET and DELIV, and the host writes its own
watches only (R302); HOST_FIRST is written by firmware only (Table 12-7). -/
def bndWrite (o : Nat) (who : Master) (v : Word) (b : BindweedSt) : BindweedSt :=
  if 0x1000 ≤ o ∧ o < 0x9000 then
    let w := (o - 0x1000) / 0x10
    let x : Watch := Tbl.get {} b.watches w
    if x.armed || (who == .host && decide (w < b.hostFirst.toNat)) then b
    else match o % 0x10 with
      | 0x4 => { b with watches := Tbl.put b.watches w { x with target := v } }
      | 0x8 => { b with watches := Tbl.put b.watches w { x with dest := fld v 29 3, cond := fld v 16 2, arg := fld v 0 16 } }
      | _ => b
  else match o with
    | 0x00 => if who.firmware then { b with hostFirst := fld v 0 11 } else b
    | 0x04 => { b with
        domainOff := w1c b.domainOff v 7
        watchRefused := w1c b.watchRefused v 6
        stallTimeout := w1c b.stallTimeout v 5
        stalled := w1c b.stalled v 4
        underflow := w1c b.underflow v 3
        overflow := w1c b.overflow v 2
        badOp := w1c b.badOp v 1
        satF := w1c b.satF v 0 }
    | 0x08 => { b with stallLimit := v }
    | _ => b

def cowWrite (o : Nat) (v : Word) (c : CowslipSt) : CowslipSt :=
  if o = 0 then { c with
    domainOff := w1c c.domainOff v 1
    refused := w1c c.refused v 0 }
  else c

def camWrite (o : Nat) (v : Word) (f : SafetySt) : SafetySt :=
  match o with
  | 0x00 => { f with
      rotEn := v.getLsbD 8
      maxExclude := fld v 0 4 }
  | 0x04 => { f with
      ghostF := w1c f.ghostF v 5
      covF := w1c f.covF v 4
      abortF := w1c f.abortF v 3
      deferF := w1c f.deferF v 2
      exclF := w1c f.exclF v 1
      goldF := w1c f.goldF v 0 }
  | 0x28 => { f with
      covUnit := fld v 16 16
      covTile := fld v 0 16 }
  | 0x2C => { f with ceLimit := fld v 0 16 }
  | _ => f

def thiWrite (o : Nat) (v : Word) (f : SafetySt) : SafetySt :=
  if 0x100 ≤ o ∧ o < 0x2E0 ∧ o % 0x20 = 0 then
    { f with masters := Tbl.upd {} f.masters ((o - 0x100) / 0x20) fun m => { m with rate := fld v 0 16 } }
  else f

def clkWrite (o : Nat) (v : Word) (c : ClockSt) : ClockSt :=
  match o with
  | 0x00 => { c with
      freqErr := w1c c.freqErr v 5
      stallF := w1c c.stallF v 4
      spareUsed := w1c c.spareUsed v 3 }
  | 0x18 => { c with stallMask := c.stallMask &&& ~~~(v.setWidth 64) }
  | 0x1C => { c with stallMask := c.stallMask &&& ~~~(v ++ (0 : Word)) }
  | 0x20 => { c with gateDis := putHalf c.gateDis false v }
  | 0x24 => { c with gateDis := putHalf c.gateDis true v }
  | 0x28 => { c with domSel := fld v 0 6 }
  | _ => c

def pwrWrite (o : Nat) (v : Word) (c : ClockSt) : ClockSt :=
  match o with
  | 0x00 => { c with
      regAlert := w1c c.regAlert v 19
      avsErr := w1c c.avsErr v 18
      opAbort := w1c c.opAbort v 17
      opSubst := w1c c.opSubst v 12 }
  | 0x08 =>
    if fldN v 8 8 < fldN v 16 8 ∧ fldN v 16 8 < c.shutC then { c with
      critC := fldN v 16 8
      warnC := fldN v 8 8
      hystC := fldN v 0 8 }
    else c
  | 0x30 => { c with rstCause := c.rstCause &&& ~~~(fld v 0 4) }
  | _ => c

def memWrite (o : Nat) (v : Word) (m : MemorySt) : MemorySt :=
  match o with
  | 0x00 => { m with
      secWiped := w1c m.secWiped v 7
      conflictF := w1c m.conflictF v 4
      sramUe := w1c m.sramUe v 3
      sramCe := w1c m.sramCe v 2
      ddrUe := w1c m.ddrUe v 1
      ddrCe := w1c m.ddrCe v 0 }
  | 0x08 => { m with
      scrubEn := v.getLsbD 31
      passS := fld v 0 20 }
  | 0x48 => { m with verifyFail := w1c m.verifyFail v 0 }
  | _ => m

/-- PCI_ registers and the MSI-X table; the vector control masks here, its unmask is an event of its own (17 R426). -/
def pciWrite (o : Nat) (v : Word) (h : HostSt) : HostSt :=
  if 0x8000 ≤ o ∧ o < 0x8400 then
    let n := (o - 0x8000) / 16
    let upd (f : MsixVec → MsixVec) : HostSt := { h with vecs := Tbl.upd {} h.vecs n f }
    match o % 16 with
    | 0x0 => upd fun x => { x with addr := putHalf x.addr false v }
    | 0x4 => upd fun x => { x with addr := putHalf x.addr true v }
    | 0x8 => upd fun x => { x with data := v }
    | _ => HostSt.msixFlush (upd fun x => { x with masked := v.getLsbD 0 })
  else match o with
    | 0x00 => { h with
        linkDown := w1c h.linkDown v 5
        poisonRx := w1c h.poisonRx v 4
        dmaErr := w1c h.dmaErr v 3
        flrSeen := w1c h.flrSeen v 2
        perstSeen := w1c h.perstSeen v 1 }
    | 0x08 => { h with errVec := fld v 0 6 }
    | _ => h

/-- A LO or HI word of a 48-bit address. -/
def putMac (m : BitVec 48) (hi : Bool) (v : Word) : BitVec 48 :=
  if hi then fld v 0 16 ++ m.setWidth 32 else (m >>> 32).setWidth 16 ++ v

def ethPortWrite (o : Nat) (v : Word) (p : EthPort) : EthPort :=
  match o with
  | 0x00 => { p with
      vidFilter := v.getLsbD 2
      jumbo := v.getLsbD 1
      en := v.getLsbD 0 }
  | 0x08 => { p with mac := putMac p.mac false v }
  | 0x0C => { p with mac := putMac p.mac true v }
  | 0x10 => { p with mcast := putMac p.mcast false v }
  | 0x14 => { p with mcast := putMac p.mcast true v }
  | 0x18 => { p with vids := [fldN v 0 12, fldN v 16 12] ++ p.vids.drop 2 }
  | 0x1C => { p with vids := p.vids.take 2 ++ [fldN v 0 12, fldN v 16 12] }
  | _ => p

/-- ETH_ registers; ETH_QBV, ETH_PTP_CFG and ETH_TXD wait for the next tick edge (R447). -/
def ethWrite (o : Nat) (v : Word) (s : State) : State :=
  if o = 0x04 ∨ o = 0x08 ∨ (0x400 ≤ o ∧ o < 0x800) then s.onHost fun h => { h with ethWaiting := h.ethWaiting ++ [⟨o, v⟩] }
  else if 0x100 ≤ o ∧ o < 0x200 then s.updPort ((o - 0x100) / 0x80) (ethPortWrite (o % 0x80) v)
  else s.onHost fun h => match o with
    | 0x00 => { h with
        txLate := w1c h.txLate v 1
        rxOvf := w1c h.rxOvf v 0 }
    | 0x0C => { h with stepped := w1c h.stepped v 3 }
    | 0x14 => { h with
        stepNs := fld v 16 16
        lockNs := fld v 0 16 }
    | 0x20 => { h with ctxSel := fld v 0 10 }
    | 0x24 => { h with ctxMap := Tbl.put h.ctxMap h.ctxSel.toNat (fld v 0 8) }
    | _ => h

/-- USB_ registers; a write of EN = 0 discards what waits on the endpoints (R445). -/
def usbWrite (o : Nat) (v : Word) (s : State) : State :=
  match o with
  | 0x04 =>
    let s := s.onHost fun h => { h with
      trajMirror := v.getLsbD 1
      usbEn := v.getLsbD 0 }
    if v.getLsbD 0 then s else s.onHost HostSt.usbDiscard
  | 0x10 => s.onHost fun h => { h with evtMask := putHalf h.evtMask false v }
  | 0x14 => s.onHost fun h => { h with evtMask := putHalf h.evtMask true v }
  | _ => s

def ulbWrite (o : Nat) (v : Word) (c : CascadeSt) : CascadeSt :=
  match o with
  | 0x00 => { c with
      lossTicks := fld v 8 4
      autoJoin := v.getLsbD 0 }
  | 0x04 => { c with
      reduced := w1c c.reduced v 1
      resultMissing := w1c c.resultMissing v 0 }
  | 0x10 => { c with memberSel := fld v 0 3 }
  | _ => c

/-! ### One write over every block -/

/-- A write of a register that has no row of its own; read-only registers and reserved places are not changed (R10, R372). -/
def State.plainWrite (s : State) (off : Nat) (who : Master) (v : Word) : State :=
  let o := off % 0x10000
  match off / 0x10000 with
  | 0 => sysWrite o v s
  | 1 => s.onHarebell (hbWrite o v)
  | 2 => if o / 0x40 < 72 then s.updStore (o / 0x40) (fsWrite (o % 0x40) v) else s
  | 3 => s.onLupin (lupWrite o v)
  | 4 => s.onAster (astWrite o v)
  | 5 => s.onCornflower (cflWrite o v)
  | 6 => s.onPoppy (popWrite o v)
  | 7 => s.onVetch (vetWrite o v)
  | 8 => s.onCommit (holWrite o v)
  | 9 => s.onCommit (yarWrite o v)
  | 10 => s.onTeasel (tslWrite o v)
  | 11 => s.onCowslip (cowWrite o v)
  | 12 => s.onSafety (camWrite o v)
  | 13 => s.onSafety (thiWrite o v)
  | 14 => s
  | 15 => s.onClock (clkWrite o v)
  | 16 => s.onClock (pwrWrite o v)
  | 17 => s.onMem (memWrite o v)
  | 18 => s.onHost (pciWrite o v)
  | 19 => ethWrite o v s
  | 20 => usbWrite o v s
  | 21 => s.onCasc (ulbWrite o v)
  | _ => if 0x200000 ≤ off ∧ off < 0x300000 then s.onBindweed (bndWrite (off - 0x200000) who v) else s

/-! ### Reads with effects (Tables 1-8, 1-10; 16 Table 16-13) -/

/-- A read of a statistics counter's LO word (Table 1-10); another place reads without effect. -/
def counterLoReadEffect (off : Nat) (s : State) : State :=
  s.regAccess .host off false fun s =>
    match s.cntAt off with
    | some (c, put) => (put c.readLo.2).setRdata [c.readLo.1]
    | none => s.setRdata [s.peekReg off]

def execCounterLoRead (off : Nat) (s : State) : Out := .next (counterLoReadEffect off s)

/-- A read of a 64-bit register's LO word (Table 1-8); another place reads without effect. -/
def latchingLoReadEffect (off time : Nat) (s : State) : State :=
  (s.advance time).regAccess .host off false fun s =>
    match s.pairAt off with
    | some (v, _, put) => (put ((v >>> 32).setWidth 32)).setRdata [v.setWidth 32]
    | none => s.setRdata [s.peekReg off]

def execLatchingLoRead (off : Nat) (time : Nat) (s : State) : Out := .next (latchingLoReadEffect off time s)

/-- A read of PWR_TEMP_MAX returns PEAK and NOW and clears PEAK (Table 16-13). -/
def tempPeakReadEffect (s : State) : State :=
  s.regAccess .host 0x10000C false fun s => (s.setRdata [pwrReg s.clock 0xC]).onClock fun c => { c with peak := 0 }

def execTempPeakRead (s : State) : Out := .next (tempPeakReadEffect s)

/-! ### Selects (02 R75; 06 R184; 11 R293; 14 R369; 16 R406) -/

def execFsPeekStart (tile : Fin 72) (val : Word) (s : State) : Out :=
  .next (s.regAccess .host (0x2002C + tile * 0x40) true (fsPeekStartEffect tile val))

/-- CFL_SLOT_PEEK.CELL written; VALUE is read on the next read (Table 6-4). -/
def ctgPeekSelectEffect (slot : Nat) (val : Word) (s : State) : State :=
  s.updCflSlot slot fun x => { x with peekCell := fld val 0 16 }

def execCtgPeekSelect (slot : Fin 16) (val : Word) (s : State) : Out :=
  .next (s.regAccess .host (0x50118 + slot * 0x20) true (ctgPeekSelectEffect slot val))

/-- TSL_FLOW_SEL written: the record is copied (Table 11-14). -/
def flowRecordSelectEffect (val : Word) (s : State) : State :=
  let f := s.flow (fldN val 0 18)
  s.onTeasel fun t => { t with
    flowSel := fld val 0 18
    flowData := f.words }

def execFlowRecordSelect (val : Word) (s : State) : Out := .next (s.regAccess .host 0xA0080 true (flowRecordSelectEffect val))

/-- CAM_LEDGER_SEL written: the entry on the secure NVM die is loaded (14 R367, Table 14-11). -/
def ledgerSelectEffect (val : Word) (s : State) : State :=
  let n := fldN val 8 4 * 256 + fldN val 0 8
  let l : LedgerEntry := Tbl.get {} s.sec.nvm.ledger n
  s.onSafety fun f => { f with
    ledgerSel := fld val 0 12
    ledgerData := l.bytes }

def execLedgerSelect (val : Word) (s : State) : Out := .next (s.regAccess .host 0xC0300 true (ledgerSelectEffect val))

def execClkDomainReset (who : Master) (val : Word) (s : State) : Out :=
  .next (s.regAccess who 0xF0030 true (clkDomainResetEffect who val))

end Sys2Proof.Machine
end

