-- ==== Sys2Proof/Machine/Dev.lean ====
section
/-! DEFINITION. Command groups 0x01 and 0x09: NOP, device information and status, the fault log, DIAG_READ and DIAG_INJECT (13
R329, R330, Table 13-7; 14 R363, R366; 15 R370 to R373). -/

namespace Sys2Proof.Machine

def nopEffect (h : Hdr) (s : State) : State := s.packet h 0x0100 {} fun s => s.final h 0x0100 .ok

def execNop (h : Hdr) (s : State) : Out := .next (nopEffect h s)

/-- The 64 bytes of DEV_INFO (Table 13-7). -/
def State.devInfo (s : State) : List Byte :=
  toLe 4 s.ident.word.toNat ++ toLe 4 s.zheda.fw.toNat ++ [BitVec.ofNat 8 s.sec.fuses.state, BitVec.ofNat 8 s.zheda.run.code, 0, 0] ++
  toLe 4 (genOf s.cmd.active) ++ toLe 4 (genOf s.cmd.previous) ++ toLe 4 (genOf s.cmd.staged) ++ toLe 8 s.tickNo ++ pad32 s.zheda.digest

def devInfoEffect (h : Hdr) (raddr : Nat) (s : State) : State :=
  s.packet h 0x0101 { param := raddrOk h raddr 64 } fun s => s.finalReply h 0x0101 raddr s.devInfo []

def execDevInfo (h : Hdr) (raddr : Dword) (s : State) : Out := .next (devInfoEffect h raddr.toNat s)

/-- SYS_TICK_STAT, HOL_STAT and SYS_RUN_STAT in DATA (Table 13-7). -/
def State.devStatus (s : State) : List Byte :=
  toLe 4 s.tick.stat.toNat ++ toLe 4 s.holStat.toNat ++ toLe 4 s.zheda.runStat.toNat

def devStatusEffect (h : Hdr) (s : State) : State :=
  s.packet h 0x0102 {} fun s => s.final h 0x0102 .ok s.devStatus

def execDevStatus (h : Hdr) (s : State) : Out := .next (devStatusEffect h s)

/-- The entries that the log holds of `count` sequence numbers from `first`, ascending (14 R363). -/
def SafetySt.entries (f : SafetySt) (first : Word) (count : Nat) : List FaultEntry :=
  f.log.reverse.filter fun e => decide ((e.seq - first).toNat < count)

def devFaultLogEffect (h : Hdr) (first : Word) (count raddr : Nat) (s : State) : State :=
  let l := s.safety.entries first count
  let bs := l.flatMap FaultEntry.bytes
  s.packet h 0x0103 { param := raddrOk h raddr bs.length } fun s =>
    (s.interim h 0x0103 .pending).finalReply h 0x0103 raddr bs (toLe 4 l.length)

def execDevFaultLog (h : Hdr) (first count : Word) (raddr : Dword) (s : State) : Out :=
  .next (devFaultLogEffect h first count.toNat raddr.toNat s)

/-! ### DIAG_READ (log entry 20) -/

/-- A byte of the control space, read without side effects. -/
def State.ctlByte (s : State) (off : Nat) : Byte := (toLe 4 (s.peekReg (off - off % 4)).toNat).getD (off % 4) 0

/-- The byte of a device address that DIAG_READ returns: any region of Table 15-1 but the secure region, Primrose's block and the
Field Stores, which no reader but FS_PEEK_ADDR reaches (15 R373). -/
def State.diagByte? (s : State) (a : Nat) : Option Byte :=
  if ctlBase ≤ a then
    (if inBlock (a - ctlBase) && !(decide (0xE0000 ≤ a - ctlBase) && decide (a - ctlBase < 0xF0000)) then
      some (s.ctlByte (a - ctlBase)) else none)
  else if 0x1040000000 ≤ a then none
  else match sramPlain a with
    | some p => if p < 0x1000100000 then none else s.devByte? a
    | none => s.devByte? a

def diagReadEffect (h : Hdr) (addr len raddr : Nat) (s : State) : State :=
  let l := (List.range (min len 4096)).map fun i => s.diagByte? (addr + i)
  s.packet h 0x0900 { param := decide (len ≤ 4096) && l.all Option.isSome && raddrOk h raddr len } fun s =>
    s.finalReply h 0x0900 raddr (l.map fun b => b.getD 0) []

def execDiagRead (h : Hdr) (addr : Dword) (length : Word) (raddr : Dword) (s : State) : Out :=
  .next (diagReadEffect h addr.toNat length.toNat raddr.toNat s)

/-! ### DIAG_INJECT (14 R366) -/

/-- Whether a descriptor names a class of R363 and a kind of R366, with the instance and argument the kind needs. -/
def injectOk (target inst kind arg : Nat) : Bool :=
  decide (1 ≤ target) && decide (target ≤ 14) && decide (1 ≤ kind) && decide (kind ≤ 6) &&
  (!(kind == 2 || kind == 3) || (target == 1 && decide (inst < 72))) &&
  (kind != 5 || (decide (inst < 15) && decide (1 ≤ arg) && decide (arg ≤ 6)))

def diagInjectEffect (h : Hdr) (target inst kind tick arg : Nat) (s : State) : State :=
  s.packet h 0x0901 { param := injectOk target inst kind arg, auth := s.sec.fuses.state != 2 } fun s =>
    (s.onSafety fun f => { f with
      injections := f.injections ++ [{ target := target, inst := inst, kind := kind, tick := tick, arg := arg }] }).final h 0x0901 .ok

def execDiagInject (h : Hdr) (target inst kind : Byte) (tick : Dword) (arg : Word) (s : State) : Out :=
  .next (diagInjectEffect h target.toNat inst.toNat kind.toNat tick.toNat arg.toNat s)

end Sys2Proof.Machine
end

