-- ==== Sys2Proof/Machine/CascCmds.lean ====
section
/-! DEFINITION. Command group 0x0B: the cascade as host software sees and changes it (19 R479, R480, R483). -/

namespace Sys2Proof.Machine

/-- Position, ROLE, the two maps, D_MAX_NS and ULB_LOST_CNT [31:0] (R483). -/
def State.cascStatus (s : State) : List Byte :=
  [BitVec.ofNat 8 s.casc.position, BitVec.ofNat 8 s.role, BitVec.ofNat 8 s.inServiceMap, BitVec.ofNat 8 s.presentMap] ++
  toLe 4 s.casc.dMax ++ toLe 4 s.casc.lostCnt.val.toNat

def cascStatusEffect (h : Hdr) (s : State) : State := s.packet h 0x0B00 {} fun s => s.final h 0x0B00 .ok s.cascStatus

def execCascStatus (h : Hdr) (s : State) : Out := .next (cascStatusEffect h s)

/-- Whether a position holds a member that a command of this device may remove (log entry 59). -/
def State.removable (s : State) (p : Nat) : Bool :=
  let m : Member := Tbl.get {} s.casc.members p
  s.clock.cascRole && decide (1 ≤ p) && decide (p < 8) && (m.state == .inService || m.state == .joining)

/-- CASC_MEMBER_REMOVE: the member goes at the first edge after the completion (R479); a join in progress ends. -/
def cascMemberRemoveEffect (h : Hdr) (p : Nat) (s : State) : State :=
  s.packet h 0x0B01 { param := s.removable p } fun s =>
    (s.onCasc fun c =>
      if (Tbl.get {} c.members p).state == .joining then { c with
        members := Tbl.upd {} c.members p fun m => { m with
          state := .removed
          synced := false
          snapAt := none } }
      else { c with removals := c.removals ++ [p] }).final h 0x0B01 .ok

def execCascMemberRemove (h : Hdr) (member : Byte) (s : State) : Out := .next (cascMemberRemoveEffect h member.toNat s)

/-- Whether a position names a device that this master reaches (log entry 59). -/
def State.addable (s : State) (p : Nat) : Bool :=
  s.clock.cascRole && decide (1 ≤ p) && decide (p < 8) && (Tbl.get {} s.casc.members p).present

/-- CASC_MEMBER_ADD: the device is named for the join; with a bundle of another digest it is refused (R480). -/
def cascMemberAddEffect (h : Hdr) (p : Nat) (s : State) : State :=
  let m : Member := Tbl.get {} s.casc.members p
  s.packet h 0x0B02 { param := s.addable p,
                      state := if m.digest = some s.zheda.digest then none else some .configRejected } fun s =>
    (s.onCasc fun c => { c with members := Tbl.upd {} c.members p fun m =>
      if m.state == .inService || m.state == .joining then m
      else { m with
        state := .joining
        synced := false
        snapAt := none } }).final h 0x0B02 .ok

def execCascMemberAdd (h : Hdr) (member : Byte) (s : State) : Out := .next (cascMemberAddEffect h member.toNat s)

end Sys2Proof.Machine
end

