-- ==== Sys2Proof/Machine/Ingress.lean ====
section
/-! DEFINITION. How command packets come in: doorbells, the round robin of each pair over its paths, the checks of a header, the
execution of a packet, and completions that waited (12 R309, R312; 13 R317 to R325, R330; 17 R430, R444). -/

namespace Sys2Proof.Machine

/-! ### Execution of a command packet -/

/-- The state that an outcome goes on with; a command that stops changes nothing. -/
def stateOf (s : State) (o : Out) : State :=
  match o with
  | .next t => t
  | .fault _ => s
  | .refused _ => s

/-- The meaning of a packet's command (Table 13-7); an event is no packet. -/
def runPacket (i : Instr) (s : State) : State :=
  stateOf s (match i with
    | .nop h => execNop h s
    | .devInfo h a => execDevInfo h a s
    | .devStatus h => execDevStatus h s
    | .devFaultLog h f c a => execDevFaultLog h f c a s
    | .devReset h => execDevReset h s
    | .configWrite h o b => execConfigWrite h o b s
    | .configLoad h g src a l d => execConfigLoad h g src a l d s
    | .configCommit h g => execConfigCommit h g s
    | .configRollback h g => execConfigRollback h g s
    | .configRead h b o l a => execConfigRead h b o l a s
    | .configDiscard h => execConfigDiscard h s
    | .configStore h => execConfigStore h s
    | .ctxAlloc h a m => execCtxAlloc h a m s
    | .ctxFree h => execCtxFree h s
    | .ctxActivate h => execCtxActivate h s
    | .ctxDeactivate h => execCtxDeactivate h s
    | .ctxWrite h o b => execCtxWrite h o b s
    | .ctxRead h c o l a => execCtxRead h c o l a s
    | .ctxSeedSet h x => execCtxSeedSet h x s
    | .ctxGoalSet h l => execCtxGoalSet h l s
    | .ctxTreeReset h => execCtxTreeReset h s
    | .worldOcc h f => execWorldOcc h f s
    | .worldState h f => execWorldState h f s
    | .worldKeepoutSet h n m b => execWorldKeepoutSet h n m b s
    | .worldKeepoutClear h n => execWorldKeepoutClear h n s
    | .worldFieldRead h a => execWorldFieldRead h a s
    | .planFrameRead h n a => execPlanFrameRead h n a s
    | .planResultRead h n a => execPlanResultRead h n a s
    | .planHandoffRead h n a => execPlanHandoffRead h n a s
    | .rearm h => execRearm h s
    | .flowOpen h f at_ p l c d q => execFlowOpen h f at_ p l c d q s
    | .flowPush h f l => execFlowPush h f l s
    | .flowClose h f => execFlowClose h f s
    | .flowFlush h f => execFlowFlush h f s
    | .flowRead h f => execFlowRead h f s
    | .timerSet h d x a => execTimerSet h d x a s
    | .timerCancel h n => execTimerCancel h n s
    | .longStatus h n => execLongStatus h n s
    | .longSuspend h n => execLongSuspend h n s
    | .longResume h n t => execLongResume h n t s
    | .longCancel h n => execLongCancel h n s
    | .roadmapBuild h n x => execRoadmapBuild h n x s
    | .wavefrontFull h => execWavefrontFull h s
    | .deepPlan h c k t a => execDeepPlan h c k t a s
    | .fieldRebuild h o a => execFieldRebuild h o a s
    | .memScrub h a l => execMemScrub h a l s
    | .tileRequalify h t => execTileRequalify h t s
    | .snapPause h => execSnapPause h s
    | .snapResume h => execSnapResume h s
    | .snapSave h d n a => execSnapSave h d n a s
    | .snapLoad h d n a => execSnapLoad h d n a s
    | .replay h c n i im t inp a l => execReplay h c n i im t inp a l s
    | .zhdExport h f c j a => execZhdExport h f c j a s
    | .diagRead h a l r => execDiagRead h a l r s
    | .diagInject h t n k x a => execDiagInject h t n k x a s
    | .secAttest h n a ok => execSecAttest h n a ok s
    | .secLifecycle h t x => execSecLifecycle h t x s
    | .secFwUpdate h a l => execSecFwUpdate h a l s
    | .xmssKeygen h a => execXmssKeygen h a s
    | .cascStatus h => execCascStatus h s
    | .cascMemberRemove h m => execCascMemberRemove h m s
    | .cascMemberAdd h m => execCascMemberAdd h m s
    | .pwrOpSet h p => execPwrOpSet h p s
    | .clkSpreadSet h d r => execClkSpreadSet h d r s
    | .pwrClusterSet h m x => execPwrClusterSet h m x s
    | .pwrStatus h => execPwrStatus h s
    | _ => .next s)

/-- A packet that a check of its header refuses: taken, and answered with its final completion (R324). -/
def State.headRefuse (s : State) (path : Nat) (b : List Byte) (st : Status) : State :=
  (s.updRing path fun g => { g with opened := g.opened + 1 }).refuse (hdrOf path b) (hdrOpcode b) st

/-- Whether a path takes an opcode: Primrose's mailboxes take group 0x0A and, until the pairs run, DEV_INFO and PWR_STATUS
(R330; 16 R420). -/
def State.pathTakes (s : State) (path op : Nat) : Bool :=
  decide (path < 96) || op / 256 == 10 || (!s.clock.ready && (op == 0x0101 || op == 0x0C03))

/-- Checks 4 to 7 and the execution (R324). -/
def State.runChecked (s : State) (path : Nat) (b payload : List Byte) : State :=
  let h := hdrOf path b
  let op := hdrOpcode b
  if !opcodes.contains op then s.headRefuse path b .badOpcode
  else if path = 80 ∧ hdrRef b then s.headRefuse path b .badParam
  else match cmdOf op h payload with
    | none => s.headRefuse path b .badParam
    | some i => if s.pathTakes path op then runPacket i s else s.headRefuse path b .authFail

/-- Checks 2 and 3, and the expected sequence number of a ring (R324). -/
def State.runFrom (s : State) (path : Nat) (b payload : List Byte) : State :=
  let ring := decide (path < 64)
  let e := (s.ring path).expect
  let seq : Word := pWord b 12
  if (crc32c (b.take 28 ++ payload)).toNat ≠ hdrCrc b then
    let s := if ring then s.updRing path fun g => { g with expect := e + 1 } else s
    (s.onCmd fun c => { c with crcCnt := c.crcCnt.incr }).headRefuse path b .badCrc
  else if ring && seq != e then
    ((s.updRing path fun g => { g with expect := seq + 1 }).onCmd fun c => { c with seqCnt := c.seqCnt.incr }).headRefuse path b .seqGap
  else
    let s := if ring then s.updRing path fun g => { g with expect := e + 1 } else s
    s.runChecked path b payload

/-- The payload of a packet by reference, read from host memory; a length outside Table 13-2 is not fetched. -/
def State.refPayload (s : State) (b : List Byte) : Option (List Byte) :=
  if 1 ≤ hdrLen b ∧ hdrLen b ≤ 0x4000000 then some (s.hostRead (hdrAddr b) (hdrLen b)) else none

/-- A packet with its header and inline bytes taken from a path. -/
def State.runBytes (s : State) (path : Nat) (b inline : List Byte) : State :=
  if hdrRef b then
    match s.refPayload b with
    | some p => s.runFrom path b p
    | none => (if path < 64 then s.updRing path fun g => { g with expect := g.expect + 1 } else s).headRefuse path b .badParam
  else s.runFrom path b (inline.take (hdrLen b))

/-! ### Ring faults (R321) -/

/-- A ring marked FAULTED: one final completion with the fault status, then FAULT, FAULT_CODE and the ring's vector. -/
def State.faultRing (s : State) (r : Nat) (st : Status) (tag seq : Word) (op : Nat) : State :=
  let s := s.post { ring := r, final := true, status := st, tag := tag, seq := seq, opcode := op }
  let s := s.updRing r fun g => { g with
    fault := true
    faultCode := st.code }
  s.interrupt (s.ring r).vector.toNat 0

/-- The fault of a bad tail or head: no entry offends, and the completion's TAG, SEQ and OPCODE are free values (log entry 2). -/
def State.faultPointer (s : State) (r : Nat) : State :=
  let (x, s) := s.fresh
  let (y, s) := s.fresh
  s.faultRing r .badParam (x.setWidth 32) ((x >>> 32).setWidth 32) (y.toNat % 65536)

/-! ### Doorbells of the rings (R312, R320) -/

/-- A submission tail that pair software reads from doorbell r. -/
def State.takeTail (s : State) (r : Nat) (v : Nat) : State :=
  let g := s.ring r
  if !g.en || g.fault then s
  else if g.sqSize ≤ v then s.faultPointer r
  else s.setRing r { g with sqTail := v }

/-- A completion head that pair software reads from doorbell 64 + r: room may come back (R322). -/
def State.takeHead (s : State) (r : Nat) (v : Nat) : State :=
  let g := s.ring r
  if !g.en || g.fault then s
  else if g.cqSize ≤ v then s.faultPointer r
  else
    let g := { g with cqHead := v }
    s.setRing r { g with cqFull := g.full }

/-- The doorbells of a pair served, submission tails first, each in ascending number; a frozen pair serves none (14 R360). -/
def State.serveBells (s : State) : State :=
  if !s.up then s
  else
    let pend := (s.cowslip.bells.filter fun e => e.2.pending && decide (e.1 < 128) && !s.pathFrozen (e.1 % 64)).map (·.1)
    pend.foldl (fun s d =>
      let v := (Tbl.get {} s.cowslip.bells d).value.toNat
      let s := s.serveBell d
      if d < 64 then s.takeTail d v else s.takeHead (d - 64) v) s

/-! ### Completions that waited (R322; 12 R309) -/

/-- A pool entry or handle freed with its posted completion. -/
def State.freeWith (s : State) (c : Cpl) : State :=
  let s := match c.pool with
    | some n => s.freeItem n
    | none => s
  match c.long with
    | some n => s.freeLong n
    | none => s

/-- Held completions of a ring posted while there is room. -/
def State.flushRing (r : Nat) : Nat → State → State
  | 0, s => s
  | n + 1, s =>
    let g := s.ring r
    match g.held with
    | [] => s
    | c :: rest =>
      if !g.en || !s.host.up || g.full || s.pathFrozen r then s
      else flushRing r n (((s.setRing r { g with held := rest }).writeCpl r c).freeWith c)

/-- A held reply put into its emptied reply mailbox. -/
def State.flushMbox (s : State) (m : Nat) : State :=
  match Tbl.get [] s.cmd.mbHeld m with
  | [] => s
  | c :: rest =>
    if (s.mbox m).full || s.pathFrozen c.ring then s
    else
      let s := s.onCmd fun x => { x with mbHeld := if rest.isEmpty then Tbl.del x.mbHeld m else Tbl.put x.mbHeld m rest }
      (s.fillMbox m c.slot).freeWith c

/-- Whether a completion that keeps a pool entry (or a handle) waits on some path. -/
def State.waitsFor (s : State) (f : Cpl → Bool) : Bool :=
  s.cmd.rings.any (fun e => e.2.held.any f) || s.cmd.mbHeld.any fun e => e.2.any f

/-- Pool entries and handles whose completion was discarded with its ring (17 R430: it counts as made). -/
def State.freeDropped (s : State) : State :=
  let items := (s.teasel.pool.filter fun e => e.2.place == .completing && !s.waitsFor fun c => c.pool == some e.1).map (·.1)
  let longs := (s.cmd.longs.filter fun e => e.2.state == .ended && !s.waitsFor fun c => c.long == some e.1).map (·.1)
  longs.foldl State.freeLong (items.foldl State.freeItem s)

/-- Every held completion that can be posted now. -/
def State.flush (s : State) : State :=
  let s := s.cmd.rings.foldl (fun s e => State.flushRing e.1 e.2.held.length s) s
  ((s.cmd.mbHeld.map (·.1)).foldl State.flushMbox s).freeDropped

/-! ### Taking packets (R318) -/

/-- Bytes of the submission ring, wrapping at its end. -/
def State.sqBytes (s : State) (g : Ring) (n : Nat) : List Byte :=
  (List.range n).flatMap fun i => s.hostRead (ringBase g.sqBase + (g.sqHead + i) % g.sqSize * 64) 64

/-- Entries submitted and not yet consumed. -/
def Ring.avail (g : Ring) : Nat := (g.sqTail + g.sqSize - g.sqHead) % g.sqSize

/-- A ring's next packet, if it can be taken or faults the ring (R318, R320, R321). -/
def State.ringNext (s : State) (r : Nat) : Option State :=
  let g := s.ring r
  if g.avail = 0 then none
  else
    let b := s.sqBytes g 1
    let h := hdrOf r b
    if !s.takes { h with fence := false } then none
    else if hdrVersion b ≠ 1 then some (s.faultRing r .badVersion h.tag h.seq (hdrOpcode b))
    else if !hdrRef b && decide (4096 < hdrLen b) then some (s.faultRing r .badParam h.tag h.seq (hdrOpcode b))
    else if g.avail < hdrEntries b || !s.takes h then none
    else
      let all := s.sqBytes g (hdrEntries b)
      some ((s.setRing r { g with sqHead := (g.sqHead + hdrEntries b) % g.sqSize }).runBytes r (all.take 32) (all.drop 32))

/-- A packet in a request mailbox, read and acknowledged (12 R309). -/
def State.mboxNext (s : State) (path : Nat) : Option State :=
  let m := path - 64
  let x := s.mbox m
  let b := x.slot.take 32
  let h := hdrOf path b
  if !x.full || !s.domOn (mboxDomain m) || !s.takes h then none
  else
    let s := s.emptyMbox m
    if hdrVersion b ≠ 1 then some (s.headRefuse path b .badVersion)
    else if !hdrRef b && decide (32 < hdrLen b) then some (s.headRefuse path b .badParam)
    else some (s.runBytes path b (x.slot.drop 32))

/-- The oldest command transfer of USB (17 R444). -/
def State.usbNext (s : State) : Option State :=
  match s.host.usbOut with
  | [] => none
  | x :: rest =>
    let b := x.take 32
    let h := hdrOf 80 b
    if !s.takes h then none
    else
      let s := s.onHost fun u => { u with usbOut := rest }
      if hdrVersion b ≠ 1 then some (s.headRefuse 80 b .badVersion)
      else if 4096 < hdrLen b then some (s.headRefuse 80 b .badParam)
      else some (s.runBytes 80 b (x.drop 32))

/-- The next packet of a path. -/
def State.pathNext (s : State) (path : Nat) : Option State :=
  if path < 64 then s.ringNext path else if path = 80 then s.usbNext else s.mboxNext path

/-- The paths that a processor serves: pair A, pair B, Primrose (Table 13-1, log entry 46). -/
def pathsOf (n : Nat) : List Nat :=
  match n with
  | 0 => ((List.range 32).map (2 * ·)) ++ [64, 65, 66, 67, 68, 69, 70, 71, 80]
  | 1 => ((List.range 32).map (2 * · + 1)) ++ [72, 73, 74, 75, 76, 77, 78, 79]
  | _ => [96, 97, 98, 99]

/-- One packet of a processor, round robin in ascending number after the path it served last. -/
def State.turn (s : State) (n : Nat) : Option State :=
  let last := s.cmd.turns.getD n 127
  let l := pathsOf n
  ((l.filter fun p => decide (last < p)) ++ l.filter fun p => !decide (last < p)).findSome? fun p =>
    (s.pathNext p).map fun t => t.onCmd fun c => { c with turns := c.turns.set n p }

/-- The processors take packets, one each in turn (log entry 37), until none can take another. -/
def State.takeAll : Nat → State → State
  | 0, s => s
  | n + 1, s =>
    let a := s.turn 0
    let s1 := (a.getD s).flush
    let b := s1.turn 1
    let s2 := (b.getD s1).flush
    let c := s2.turn 2
    let s3 := (c.getD s2).flush
    if a.isNone && b.isNone && c.isNone then s3 else takeAll n s3

/-- A bound on the packets that wait on every path. -/
def State.waitingPackets (s : State) : Nat :=
  sumN (s.cmd.rings.map fun e => e.2.avail) + (s.cowslip.mboxes.filter fun e => e.2.full).length + s.host.usbOut.length

/-- What the command processors do after an event that may let them go on: doorbells, held completions, packets. -/
def State.serve (s : State) : State :=
  let s := s.serveBells.flush
  State.takeAll (s.waitingPackets + 1) s

end Sys2Proof.Machine
end

