-- ==== Sys2Proof/Machine/Replay.lean ====
section
/-! DEFINITION. REPLAY steps: a recorded tick run again beside the live state, its comparison with the record, and the probes
(10 R265 to R268). -/

namespace Sys2Proof.Machine

/-! ### What a record gives a step (10 R262, R266, Table 10-7) -/

/-- The slot sections of a record, after its header. -/
def recSections : Nat → List Byte → List SlotTrace
  | 0, _ => []
  | n + 1, b =>
    if b.length < 64 then []
    else
      let len := leAt b 16 2
      { slot := leAt b 2 1, ctx := leAt b 0 2, kind := leAt b 3 1, seed := leAt b 4 4, vetResult := leAt b 8 4,
        routeGen := leAt b 12 4, payload := (b.drop 64).take len } :: recSections n (b.drop (64 + (len + 7) / 8 * 8))

/-- The tick-control values of a record (R251). -/
def recCtl (b : List Byte) : TickCtl :=
  { brickRange := leAt b 232 1, recentreCells := leAt b 233 1, predThr := (List.range 8).map fun i => leAt b (240 + i) 1,
    graceNs := leAt b 236 2, wfEn := bit (leAt b 234 1) 0, routeAdopt := bit (leAt b 234 1) 1,
    treeGrow := bit (leAt b 234 1) 2, shiftLimit := leAt b 235 1, maxExclude := leAt b 238 1 }

/-- What drives a step: the record, its entries, and the flags of the two records before it. -/
structure StepIn where
  bytes : List Byte
  entries : List JEntry
  before : Nat := 0
  before2 : Nat := 0

def StepIn.k (x : StepIn) : Nat := leAt x.bytes 8 8
def StepIn.stamp (x : StepIn) : Nat := leAt x.bytes 16 8
def StepIn.digest (x : StepIn) : List Byte := (x.bytes.drop 64).take 32
def StepIn.flags (x : StepIn) : Nat := leAt x.bytes 112 4
def StepIn.slots (x : StepIn) : List SlotTrace := recSections 16 (x.bytes.drop 256)

/-- TRUNC_AC of a truncated tick. -/
def StepIn.cut (x : StepIn) : Option Nat := if bit x.flags 2 then some (leAt x.bytes 124 4) else none

/-! ### The device beside its live run (R265) -/

/-- The bundle of the device that has a digest. -/
def State.bundleOf (s : State) (d : List Byte) : Option BundleSlot :=
  [s.cmd.active, s.cmd.previous, s.cmd.staged].findSome? fun b => b.filter fun x => x.digest == d

/-- The device on its own, with nothing waiting, nothing injected and no master frozen, in the state S(k) of a snapshot and with a
bundle active. -/
def State.beside (s : State) (x : Snapshot) (b : BundleSlot) : State :=
  let s := s.onCasc fun _ => {}
  let s := s.onZheda fun z => { z with
    run := .live
    trace := {}
    prevTrace := none
    capture := none
    current := none
    snapIn := none }
  let s := s.onSafety fun f => { f with
    masters := []
    armed := []
    maskNow := []
    exclMask := [] }
  let s := s.onWorld fun w => { w with
    sources := w.sources.map fun e => (e.1, { e.2 with held := [] })
    inputs := w.inputs.map fun e => (e.1, { e.2 with waiting := [] })
    waitingCmds := [] }
  let s := s.onTeasel fun t => { t with waiting := [] }
  let s := s.onClock fun c => { c with domains := [] }
  let s := s.onCornflower fun c => { c with full := [] }
  let s := s.onLupin fun l => { l with ctxs := l.ctxs.map fun e => (e.1, { e.2 with
    waitingRoutes := none
    rmEdges := [] }) }
  let s := s.onCommit fun c => { c with
    estopLatch := false
    rearm := false
    freezePrev := false
    freezeNow := false
    egressFrozen := false }
  let s := s.onCmd fun c => { c with
    active := some b
    rollback := false
    phase := .idle }
  (s.loadBundle (some b.bundle) b).restore x

/-! ### The recorded inputs (R265; 10 R263) -/

/-- The segments that a snapshot entry holds, in SEG order. -/
def entrySegments : Nat → Nat → List Byte → List Segment
  | 0, _, _ => []
  | n + 1, stamp, b =>
    let len := 8 + 8 * leAt b 4 2 + 72 * leAt b 6 2
    match segmentOf stamp 0 (b.take len) with
    | some g => g :: entrySegments n stamp (b.drop len)
    | none => []

/-- A recorded snapshot, robot state or command made to wait for the edge of the step. -/
def State.feedEntry (s : State) (e : JEntry) : State :=
  if e.ty = 1 then s.onWorld fun w => { w with
    sources := Tbl.upd {} w.sources e.id fun x => { x with held := entrySegments 256 e.time e.bytes } }
  else if e.ty = 2 then
    match robotStateOf e.time 0 e.bytes with
    | some r => s.onWorld fun w => { w with inputs := Tbl.upd {} w.inputs r.1 fun x => { x with waiting := [r.2] } }
    | none => s
  else if e.ty = 3 then
    match cmdOf (hdrOpcode e.bytes) (hdrOf e.id e.bytes) (e.bytes.drop 32) with
    | some i => runPacket i (s.setRing e.id { en := true })
    | none => s
  else s

/-- A recorded adoption (04 R135; 06 R181). -/
def State.adoptEntry (s : State) (e : JEntry) : State :=
  match Config.casMsg e.bytes with
  | some (.routes c r) => if e.ty = 4 then s.updLup c fun l => { l with routes := some r } else s
  | some (.grid c o g) =>
    if e.ty = 5 then
      match (s.ctx c).slot with
      | some n => s.updCflSlot n fun x => x.adopt g ((s.world.origin.sub o).fdiv 2560)
      | none => s
    else s
  | _ => s

/-! ### The edge of a step -/

/-- The allocation of the recorded tick: that of the number of devices which gives LIVE_TOTAL, all slots run on this device
(R266). -/
def State.allocRecorded (s : State) (live : Nat) : State :=
  let run (m : Nat) : State := (s.onCasc fun c => { c with count := m }).allocEdge
  let m := (((List.range 8).map (· + 1)).find? fun m => (run m).lupin.liveTotal == live).getD 1
  (run m).onCasc fun c => { c with count := 1 }

/-- Step edge k: number, T(k), EFF_UNITS, MAX_UNITS, tick-control values and seeds from the record, the inputs from the entries
(R265, R266). -/
def State.stepEdge (s : State) (x : StepIn) : State :=
  let k := x.k
  let s := if x.digest == s.zheda.digest then s
    else match s.bundleOf x.digest with
      | some b => s.switchTo k b
      | none => s
  let s := s.rebudget.onTick fun t => { t with
    num := { t.num with val := BitVec.ofNat 64 k }
    stamp := x.stamp
    effUnits := leAt x.bytes 105 1
    maxUnits := leAt x.bytes 106 1 }
  let s := s.onZheda fun z => { z with ctl := recCtl x.bytes }
  let s := (s.freshTick k).newTrace k
  let p := s.newProg
  let old := s.teasel.fg
  let s := (x.entries.foldl State.feedEntry s).drainEdge.runCtxCmds
  let s := (x.entries.foldl State.adoptEntry s).cutOff k x.stamp
  let fg := s.latchSlots.map fun e => (e.1, match x.slots.find? fun q => q.slot == e.1 with
    | some q => { e.2 with seed := BitVec.ofNat 32 q.seed }
    | none => e.2)
  let s := ((s.onTeasel fun t => { t with fg := fg }).freshSlots old).allocRecorded (leAt x.bytes 120 4)
  s.onTick fun t => { t with prog := { p with
    running := true
    prevShort := bit x.before 2 || bit x.before2 3
    r34 := bit x.before 3
    throttled := bit x.flags 0
    lost := bit x.flags 4 } }

/-! ### The items of a step (R266) -/

/-- Whether an item of the program ends before the step is cut. -/
def State.endsBy (s : State) (cut : Option Nat) (name : ItemName) : Bool :=
  match cut, s.program.items.find? fun i => i.name == name with
  | some a, some i => decide (i.start s.tick.acE + i.len ≤ (a : Int))
  | some _, none => false
  | none, _ => true

/-- An item run unless the step is cut before its end. -/
def State.whole (s : State) (cut : Option Nat) (name : ItemName) (run : State → State) : State :=
  if s.endsBy cut name then run s else s

/-- An item of every planning slot, in slot order. -/
def State.eachSlot (s : State) (run : Nat → State → State) : State := s.planSlots.foldl (fun s (e : Nat × FgSlot) => run e.1 s) s

/-- The C stage: checks, decision with the recorded latch, the egress-select instant, and every payload counted as emitted. -/
def State.stepCommit (s : State) (x : StepIn) : State :=
  let latch (s : State) (i : Nat) : State := s.onCommit fun c => { c with estopLatch := bit (leAt x.bytes 107 1) i }
  let s := (latch s 0).updTrace fun t => { t with nonrepro := x.slots.any fun q => bit (leAt q.payload 6 2) 5 }
  let s := s.teasel.fg.foldl (fun s (e : Nat × FgSlot) =>
    (List.range 8).foldl (fun s r => commitCheckJobEffect e.1 r s) s) s
  let s := latch (decisionItemEffect s) 1
  let s := s.onCommit fun c => { c with selected := true }
  let s := s.commit.frames.foldl State.selectFrame s
  s.commit.frames.foldl (fun s (q : QueuedFrame) =>
    if q.sent then s else (s.updFrame q.slot fun y => { y with sent := true }).frameEmitted q) s

/-- Accepted iterations of the entry that a slot refines. -/
def State.accepted (s : State) (n : Nat) : Nat :=
  (((s.vetSlot n).refRank.bind fun r => (s.vetSlot n).work[r]?).map (·.iters)).getD 0

/-- Iterations as the window of this device gives them. -/
def State.vetFree (n : Nat) : Nat → State → State
  | 0, s => s
  | fuel + 1, s => if (s.vetSlot n).phase == .refining then vetFree n fuel (vetchIterationEffect n {} s) else s

/-- Exactly the recorded iterations, whatever the window of this device: those accepted, and CUT_ITER abandoned. -/
def State.vetForced (n iters cut : Nat) : Nat → State → State
  | 0, s => s
  | fuel + 1, s =>
    let v := s.vetSlot n
    if v.phase != .refining && v.phase != .stopping then s
    else if cut ≠ 0 ∧ v.itersTried + 1 = cut then s.updVetSlot n fun v => { v with
      cutNow := cut
      phase := .stopping }
    else if s.accepted n = iters then s.updVetSlot n fun v => { v with phase := .stopping }
    else vetForced n iters cut fuel (vetchIterationEffect n {} (s.updVetSlot n fun v => { v with phase := .refining }))

/-- The Vetch items of one slot with the recorded outcome. -/
def State.stepVetch (x : StepIn) (n : Nat) (s : State) : State :=
  let s := vetchFeasibilityEffect n {} s
  match x.slots.find? fun q => q.slot == n with
  | none => vetchStopEffect n {} (State.vetFree n 256 s)
  | some q =>
    let iters := q.vetResult % 256
    let cut := q.vetResult / 256 % 256
    let code := q.vetResult / 65536 % 256
    let a := State.vetFree n 256 s
    let s := vetchStopEffect n {} (if cut = 0 ∧ a.accepted n = iters then a else State.vetForced n iters cut 256 s)
    if (code = HState.shifted.code ∨ code = HState.stopReq.code) ∧ (bit x.flags 1 ∨ !bit x.flags 8) then
      s.updVetSlot n fun v => { v with phase := .cut }
    else s

/-- A step: the state where the engines have run, where the die results are merged, and at its end. -/
structure StepOut where
  ran : State
  merged : State
  fin : State

/-- The items of a step in the order in which they read one another. -/
def State.stepItems (s : State) (x : StepIn) : StepOut :=
  let cut := x.cut
  let s := s.whole cut .commitCheck fun s => s.stepCommit x
  let s := s.whole cut .contextLoad (contextLoadEffect {})
  let s := s.whole cut .predictor (occupancyPredictorEffect {})
  let fits := match cut with | some a => decide (s.phaseEnd ≤ a) | none => true
  let s1 := if fits then collisionPhaseEffect {} [] s else s
  let s := s1.whole cut .transform fun s => wavefrontRingsEffect (cornflowerTransformEffect s)
  let s := s.whole cut .clusterSelection (clusterSelectionEffect {})
  let s2 := s.whole cut .dieMerge (dieMergeEffect {})
  let s := s2.whole cut .assembly fieldAssemblyEffect
  let s := s.whole cut .critic fun s => s.eachSlot fun n s => reRankEffect n (criticEffect n {} s)
  let s := if cut.isNone || !bit x.flags 5 then fieldBroadcastEffect [] s
    else if bit x.flags 3 then s.startBcast else s
  let s := if cut.isNone then s.eachSlot (State.stepVetch x) else s
  let s := s.whole cut .proposal fun s => s.eachSlot fun n s => proposalNetworkEffect n {} s
  let s := if cut.isNone then handoffEffect {} s else s
  let s := match cut with
    | some a => s.truncate a
    | none => s.updProg fun p => { p with running := false }
  { ran := s1, merged := s2, fin := s }

/-- One step from S(k), on the device beside its live run. -/
def State.runStep (s : State) (snap : Snapshot) (b : BundleSlot) (x : StepIn) : StepOut :=
  ((s.beside snap b).stepEdge x).stepItems x

/-- Whether a step's payloads or field differ from its record (R265 step 4). -/
def StepOut.differs (o : StepOut) (x : StepIn) : Bool :=
  let key (q : SlotTrace) : Nat × Nat × List Byte := (q.slot, q.kind, q.payload)
  o.fin.zheda.trace.fieldCrc.toNat != leAt x.bytes 116 4 || (o.fin.teasel.fg.map fun e => key (o.fin.slotTrace e)) != x.slots.map key

/-! ### Probes (R268) -/

/-- A probe's answer: its bytes, or a status: 1 not in tick, 2 out of range. -/
abbrev ProbeAns := Sum Nat (List Byte)

/-- The slot and candidate that hold a global index. -/
def State.indexHit (s : State) (ix : Nat) : Option (Nat × FgSlot × Cand) :=
  if s.tick.prog.noCands then none
  else s.planSlots.findSome? fun (e : Nat × FgSlot) => ((s.genCtx e.1 e.2).candOfIndex ix).map fun c => (e.1, e.2, c)

/-- What evaluates a candidate of an index, and its knot form: an engine's tile for a live one, the golden set-up for a golden. -/
def State.indexEnv (s : State) (ix : Nat) : Option (EvalEnv × KnotForm) :=
  if !s.harebell.ran then none
  else match s.indexHit ix with
    | some (n, f, c) =>
      if c.src = .padding then none
      else ((s.engineOf c.slotPos).bind s.safety.serving).map fun t => (s.evalEnv n f t, c.form)
    | none =>
      let g0 := s.lupin.goldBase.toNat
      if g0 ≤ ix ∧ ix < g0 + 128 then
        match s.goldSetup, s.safety.serving ((ix - g0) / 2) with
        | some g, some t =>
          let y := g.form ((ix - g0) % 2)
          some ({ fs := s.store t, mode := .golden, model := g.model.model.eng, w := g.shape.w, s := g.shape.s,
                  params := g.params, root := { b := y.rot, p := y.base }, layers := y.layers }, y.form)
        | _, _ => none
      else none

/-- COARSE, FINE and BRICK of a lookup: FINE 0xFF and BRICK 0xFFFF where no brick is read. -/
def lookupBytes (v : EvalEnv) (l : Nat) (p : V3) : List Byte :=
  match v.mode with
  | .invalid => [0, 0xFF] ++ toLe 2 0xFFFF
  | .live =>
    let w := (clampVol (p.sub v.fs.origin)).fdiv 320
    let cell := cellIndex (w.fdiv 8)
    let e := brickAt v.fs.byte cell
    let ok := e.1 && decide (e.2 < 380)
    [BitVec.ofNat 8 (v.fs.byte (coarseAddr cell l)),
      if ok then BitVec.ofNat 8 (v.fs.byte (fineAddr e.2 (l / 4) (voxelIndex (w.fmod 8)))) else 0xFF] ++
    toLe 2 (if ok then e.2 else 0xFFFF)
  | .golden =>
    let w := (clampPatch p).fdiv 320
    let c := w.fdiv 8
    let b := 380 + c.x.toNat + 2 * c.y.toNat
    [BitVec.ofNat 8 (v.fs.byte (coarseAddr (cellIndex c) l)),
      BitVec.ofNat 8 (v.fs.byte (fineAddr b (l / 4) (voxelIndex (w.fmod 8))))] ++ toLe 2 b

/-- CLEARANCE of a waypoint and sphere. -/
def clearanceBytes (v : EvalEnv) (k : KnotForm) (i n : Nat) : List Byte :=
  let g := wpGeom v.model v.root v.s ((k.waypoints v.model.joints v.w).getD i [])
  let q := v.query (waypointTime k.ts k.dc v.w i) i g.centres n
  let c := g.centres.getD n {}
  let rad := (v.model.spheres.getD n {}).rad
  toLe 4 (unS 32 q.res.d) ++ toLe 2 (unS 16 rad) ++
  [BitVec.ofNat 8 q.layer, BitVec.ofNat 8 (b2n q.pad + 2 * b2n c.marked + 4 * b2n q.res.fserr)] ++ toLe 4 (unS 32 q.c) ++
  lookupBytes v q.layer c.p

/-- The output tensor of an operation of a graph. -/
def Graph.opTensor (g : Graph) (key : StochKey) (ins : Tbl Tensor) (op : Nat) : Option Tensor :=
  let env : GEnv := g.nodes.foldl (GEnv.run key) { ts := ins.foldl (fun t p => Tbl.put t p.1 p.2) g.consts }
  ((g.nodes.filter fun n => n.opIndex == op).getLast?).map fun n => env.tensor n.out

/-- An element of a tensor, as its code in 4 bytes. -/
def elementAns (t : Option Tensor) (e : Nat) : ProbeAns :=
  match t.bind fun t => t.data[e]? with
  | some c => .inr (toLe 4 c)
  | none => .inl 2

/-- TENSOR: role 0 is the predictor, 1 the proposal network, 2 the critic, whose rows run on over the four arrays (03 R91, R102). -/
def StepOut.tensor (o : StepOut) (role n op e : Nat) : ProbeAns :=
  match o.fin.bundle with
  | none => .inl 1
  | some b =>
    if role = 0 then
      match b.predictor with
      | some p => elementAns (p.graph.opTensor { seed := b.worldSeed, base := 0xA0000000, tick := o.ran.tickNo } (o.ran.predictorIn b p) op) e
      | none => .inl 1
    else match o.ran.fgSlot n with
      | none => .inl 1
      | some f =>
        if role = 1 then
          match (o.fin.entryOf f.model).proposal with
          | some g =>
            let words := (((o.fin.stateNow f.ctx).map RobotState.words).getD [])
            elementAns (g.opTensor { seed := f.seed, base := 0xA0100000, tick := o.fin.tickNo }
              [(0, fp32Tensor (Config.features (Mem.reads f.rec' 0x800 256) words))] op) e
          | none => .inl 1
        else if role = 2 then
          match b.critic, (o.merged.popSlot n).merged with
          | some c, some d =>
            let at_ (a : Nat) : Option Tensor :=
              c.graph.opTensor { seed := f.seed, base := 0xA0200000, tick := o.merged.tickNo } [(0, o.merged.criticRows n f c d a)] op
            let len := ((at_ 0).map (·.data.length)).getD 0
            if len = 0 ∨ 4 * len ≤ e then .inl 2 else elementAns (at_ (e / len)) (e % len)
          | _, _ => .inl 1
        else .inl 2

/-- The stream of a source (04 R121). -/
def sourceStream (c : Nat) (src : Source) : Option Nat :=
  match src with
  | .perturb => some (streamPerturb c)
  | .proposal => some (streamProposal c)
  | .uniform => some (streamUniform c)
  | .tree => some (streamTree c)
  | _ => none

/-- The answer of a probe (Table 10-8). -/
def Probe.ans (p : Probe) (o : StepOut) : ProbeAns :=
  let s := o.ran
  match p.kind with
  | 1 => match s.indexEnv p.index with
    | some (v, k) => if p.wp < v.w ∧ p.sph < v.s then .inr (clearanceBytes v k p.wp p.sph) else .inl 2
    | none => .inl 1
  | 2 =>
    match s.harebell.live.find? fun r => r.rr.index == p.index with
    | some r => .inr r.rr.bytes
    | none => match (s.harebell.golden.flatMap fun g => [g.rec0, g.rec1]).find? fun r => r.index == p.index with
      | some r => .inr r.bytes
      | none => .inl 1
  | 3 => match s.indexEnv p.index, s.indexHit p.index with
    | some (v, k), some (_, f, c) => .inr ((v.eval k).summary f.rec'.waypoints f.rec'.spheres c.src.code)
    | _, _ => .inl 1
  | 4 => match s.indexHit p.index with
    | some (_, _, c) => .inr ((c.form.anchor :: c.form.knots).flatMap fun v => v.flatMap fun x => toLe 4 (unS 32 x))
    | none => .inl 1
  | 5 => match s.fgSlot p.slot with
    | some f => match (s.genCtx p.slot f).candOfIndex p.index with
      | some c => match sourceStream f.ctx c.src with
        | some st => .inr (toLe 4 (draw f.seed st s.tickNo p.index p.arg))
        | none => .inl 1
      | none => .inl 1
    | none => .inl 1
  | 6 => match (List.range 72).find? fun t => (s.store t).valid with
    | some t => .inr (Mem.reads (s.store t).img (p.arg / 16 * 16 % 0x100000) 16)
    | none => .inl 1
  | 7 => match s.fgSlot p.slot with
    | some _ => if p.arg < 65536 then .inr (toLe 2 ((s.cflSlot p.slot).published.getD p.arg 0)) else .inl 2
    | none => .inl 1
  | 8 => match (o.fin.popSlot p.slot).result with
    | some d =>
      if p.arg < d.k then
        let es := (d.entries ++ List.replicate (d.k - d.validN) ({} : PEntry)).drop p.arg
        .inr (d.header ++ ((es ++ List.replicate 64 ({} : PEntry)).take 64).flatMap PEntry.bytes)
      else .inl 2
    | none => .inl 1
  | 9 => match (o.fin.vetSlot p.slot).handoff with
    | some h => match h.entries[p.arg]? with
      | some e => .inr ((e.bytes ++ List.replicate 0xA00 0).take 0xA00)
      | none => .inl 2
    | none => .inl 1
  | _ => o.tensor (p.arg / 2 ^ 28) (p.arg / 2 ^ 20 % 256) (p.arg % 2 ^ 20) p.index

/-- A probe's result: the head, and the bytes padded to a multiple of 8. -/
def Probe.result (p : Probe) (o : StepOut) : List Byte :=
  match p.ans o with
  | .inl st => [BitVec.ofNat 8 p.kind, BitVec.ofNat 8 st, 0, 0] ++ toLe 4 0
  | .inr b => [BitVec.ofNat 8 p.kind, 0, 0, 0] ++ toLe 4 b.length ++ b ++ List.replicate ((8 - b.length % 8) % 8) 0

/-! ### REPLAY_STEP (R265) -/

/-- FLAGS of the record of a tick, 0 where none is held. -/
def State.flagsAt (s : State) (j : ReplayJob) (k : Nat) : Nat :=
  match (if k < j.snap.k then (s.zheda.recAt k) else (s.replayInput j.fromHost j.inputAddr j.snap.k k).map (·.1)) with
  | some r => r.flags
  | none => 0

/-- The reply of a replay (R268; 13 Table 13-7). -/
def ReplayJob.reply (j : ReplayJob) : List Byte :=
  toLe 4 j.steps ++ toLe 8 (j.firstDiff.getD (2 ^ 64 - 1)) ++ [BitVec.ofNat 8 (b2n j.faultTick), 0, 0, 0] ++ j.results

/-- The long operation that replays: not one that is suspended or has ended. -/
def State.replayOp (s : State) : Option (Nat × LongOp × ReplayJob) :=
  s.cmd.longs.findSome? fun (e : Nat × LongOp) =>
    if e.2.state == .ended || e.2.state == .suspended then none
    else match e.2.work with
      | .replay j => some (e.1, e.2, j)
      | _ => none

/-- What follows a step: the end of the replay, a suspension or cancellation at this safe point, or the next step. -/
def State.afterStep (s : State) (n : Nat) (o : LongOp) (j : ReplayJob) : State :=
  let o := { o with
    work := .replay j
    slices := o.slices + 1 }
  if o.state = .cancelPending then (s.setLong n o).endLong n .cancelled
  else if j.target < j.next then (s.setLong n o).endReply n o.hdr j.raddr j.reply []
  else if o.state = .suspendPending then (s.setLong n { o with state := .suspended }).interimLong o .suspended
  else s.setLong n { o with state := .running }

/-- One step of the replay: its inputs checked, the tick run, compared, and probed in the target step. -/
def replayStepEffect (s : State) : State :=
  match s.replayOp with
  | none => s
  | some (n, o, j) =>
    if !s.up || s.zheda.run != .replay then s
    else match s.replayInput j.fromHost j.inputAddr j.snap.k j.next with
      | none => s.endLong n .replayMismatch
      | some (r, es) =>
        if !entriesMatch r.bytes es then s.endLong n .replayMismatch
        else
          let x : StepIn := { bytes := r.bytes, entries := es, before := s.flagsAt j (j.next - 1), before2 := s.flagsAt j (j.next - 2) }
          match s.bundleOf x.digest, s.bundleOf j.snap.cfgDigest with
          | some _, some b =>
            let out := s.runStep j.snap b x
            s.afterStep n o { j with
              snap := out.fin.takeSnap (j.next + 1)
              next := j.next + 1
              steps := j.steps + 1
              firstDiff := if j.firstDiff.isNone && out.differs x then some j.next else j.firstDiff
              faultTick := j.faultTick || r.fault
              results := if j.next = j.target then j.probes.flatMap fun p => p.result out else j.results }
          | _, _ => s.endLong n .configRejected

def execReplayStep (s : State) : Out := .next (replayStepEffect s).serve

end Sys2Proof.Machine
end

