-- ==== Sys2Proof/Machine/CascRx.lean ====
section
/-! DEFINITION. The Ublar link as frames, trained ports and lost ports reach the device: forwarding and checks of link frames, what
each transfer does at its destination, numbering, joining and isolation (19 R465 to R482). -/

namespace Sys2Proof.Machine

def CascadeSt.port (c : CascadeSt) (p : Nat) : UlbPort := c.ports.getD p {}
def CascadeSt.updPort (c : CascadeSt) (p : Nat) (f : UlbPort → UlbPort) : CascadeSt := { c with ports := modAt f c.ports p }
def CascadeSt.updMember (c : CascadeSt) (p : Nat) (f : Member → Member) : CascadeSt := { c with members := Tbl.upd {} c.members p f }

/-! ### Two masters, isolation (R469, R472) -/

/-- A second master seen on the link (R469). -/
def State.twoMasters (s : State) : State :=
  if s.casc.dualMaster then s
  else (s.onCasc fun c => { c with dualMaster := true }).logFault 13 s.casc.position 0x0162 3

/-- A device leaves the cascade: ISOLATED, its foreground items stopped (R472, R479). -/
def State.isolate (s : State) : State :=
  (s.onCasc fun c => { c with
    memberInService := false
    isolated := true
    joinSnap := none
    inputsIn := none
    decisionIn := none
    handoffIn := none
    fieldIn := none }).updProg fun p => { p with running := false }

/-- No TICK frame for 1.5 periods (R472). -/
def cascTickTimeoutEffect (time : Nat) (s : State) : State :=
  let s := s.advance time
  if !s.up || !s.casc.memberInService then s
  else
    let late := match s.casc.lastTick with
      | some t => decide (3 * s.tick.periodUs * 1000 ≤ 2 * (s.now - t))
      | none => true
    if late then (s.isolate.logFault 13 s.casc.position 0x0160 2).serve else s

def execCascTickTimeout (time : Nat) (s : State) : Out := .next (cascTickTimeoutEffect time s)

/-! ### Joining (R480) -/

/-- A recorded tick replayed on the state that a joining device has received. -/
def State.joinStep (s : State) (r : List Byte) (es : List JEntry) : State :=
  match s.casc.joinSnap with
  | none => s
  | some x =>
    let y : StepIn := { bytes := r, entries := es, before := s.casc.joinFlags.getD 0 0, before2 := s.casc.joinFlags.getD 1 0 }
    match s.bundleOf y.digest, s.bundleOf x.cfgDigest with
    | some _, some b =>
      if y.k ≠ x.k then s
      else s.onCasc fun c => { c with
        joinSnap := some ((s.runStep x b y).fin.takeSnap (x.k + 1))
        joinFlags := [y.flags, s.casc.joinFlags.getD 0 0] }
    | _, _ => s

/-- A CTRL or STATE frame of this device to the master. -/
def State.tellMaster (s : State) (type : Nat) (m : CasMsg) : State :=
  s.onCasc fun c => c.castTo 0 type s.tickNo (Config.casBytes m)

/-- The device is in service at a position from the next TICK on: its state is the one that its replay has reached. -/
def State.enterService (s : State) (p : Nat) : State :=
  let s := match s.casc.joinSnap with
    | some x => s.restore x
    | none => s
  s.onCasc fun c => { c with
    position := p
    memberInService := true
    isolated := false
    joinSnap := none
    lastTick := some s.now }

/-! ### Transfers at a member (R471, R473, R475) -/

/-- ac that the running tick had reached at an instant, counted at f_min. -/
def State.acSince (s : State) (t : Nat) : Nat := (t - s.tick.lastEdge.getD t) * s.setting.fMin2000 / 2000000

/-- A TICK frame: ac 0 at its arrival plus (D_max − D_p) (R471). -/
def State.tickFrame (s : State) (k t : Nat) : State :=
  let start := s.now + (s.casc.dMax - (Tbl.get {} s.casc.members s.casc.position).delay)
  let ac := s.acSince start
  (s.advance start).memberEdge ac k t

/-- The FIELD transfer: the image, taken where its CRC agrees; the field's place and time are those of the tick. -/
def State.fieldFrame (s : State) (b : List Byte) : State :=
  let img := b.take imageBytes
  let crc := crc32c img
  if b.length = imageBytes + 4 ∧ crc.toNat = leAt b imageBytes 4 then
    let f : BuiltField :=
      { version := s.tickNo, origin := s.world.origin, t0 := s.tick.stamp, layerMs := (s.bundle.map (·.layerMs)).getD 0,
        img := Mem.ofBytes img, crc := crc }
    s.onCasc fun c => { c with fieldIn := some f }
  else s

/-- A copy of a route set or of a grid, kept and acknowledged (R475). -/
def State.takeCopy (s : State) (m : CasMsg) : State :=
  match m with
  | .routes c r => (s.updLup c fun l => { l with waitingRoutes := some r }).tellMaster 9 (.ack c false)
  | .grid c o g =>
    let run : FullRun := { handle := 0, ctx := c, slot := ((s.ctx c).slot).getD 0, start := s.tickNo, params := {}, origin := o,
                           grid := g, done := true }
    (s.onCornflower fun x => { x with full := (x.full.filter fun r => r.ctx != c) ++ [run] }).tellMaster 9 (.ack c true)
  | _ => s

/-- A complete STATE transfer (R475, R480); `tick` is the master's. -/
def State.stateFrame (s : State) (m : CasMsg) (tick : Nat) : State :=
  if s.casc.memberInService then s.takeCopy m
  else match m with
    | .snapshot x => s.onCasc fun c => { c with
        joinSnap := some x
        joinFlags := [0, 0] }
    | .recorded r es =>
      let s := s.joinStep r es
      match s.casc.joinSnap with
      | some x => if tick ≤ x.k + 1 then s.tellMaster 9 .joined else s
      | none => s
    | _ => s

/-- A device numbered by the master: its place, its route to the master, and its neighbours (R469). -/
def State.numbered (s : State) (port p hops next : Nat) : State :=
  (s.onCasc fun c =>
    let c := { c with
      position := p
      members := Tbl.put c.members 0 { present := true, port := port, hops := hops } }
    (c.updPort port fun x => { x with neighbour := if hops ≤ 1 then 0 else p - 1 }).updPort (1 - port)
      fun x => { x with neighbour := if x.trained then next else 0xFF }).reportDigests

/-- A CTRL frame at a member. -/
def State.memberCtrl (s : State) (port : Nat) (m : CasMsg) : State :=
  match m with
  | .number p hops next => s.numbered port p hops next
  | .echo => (s.tellMaster 9 .echo).reportDigests
  | .delays own top => s.onCasc fun c => ({ c with dMax := top }).updMember c.position fun x => { x with
      delay := own
      measured := true }
  | .letIn p => s.enterService p
  | .removed => s.isolate
  | .switch d => s.onCmd fun c =>
      if (c.staged.map (·.digest)) == some d then { c with phase := .switchPending }
      else if (c.previous.map (·.digest)) == some d then { c with rollback := true }
      else c
  | _ => s

/-! ### Transfers at the master (R473, R475, R477, R480) -/

/-- A CTRL frame at the master from a position. -/
def State.masterCtrl (s : State) (p : Nat) (m : CasMsg) : State :=
  match m with
  | .ack ctx grid => s.onCasc fun c => { c with acks := if (p, ctx, grid) ∈ c.acks then c.acks else c.acks ++ [(p, ctx, grid)] }
  | .digests a st => s.onCasc fun c => c.updMember p fun x => { x with
      digest := a
      stagedDigest := st }
  | .joined => s.onCasc fun c => c.updMember p fun x => { x with synced := x.state == .joining && x.snapAt.isSome }
  | .echo => s.onCasc fun c => c.updMember p fun x => match x.echoAt with
      | some t => { x with
          echoAt := none
          measured := true
          delay := satU 16 ((s.now - t) / 2) }
      | none => x
  | _ => s

/-- The RESULT transfer of a member in service. -/
def State.resultFrame (s : State) (p : Nat) (l : Tbl (Option DieRes)) : State :=
  s.onCasc fun c => { c with results := c.results ++ l.map fun (e : Nat × Option DieRes) =>
    { position := p, slot := e.1, noResult := e.2.isNone, res := e.2.getD {} } }

/-- What a complete transfer does at its destination. -/
def State.transferDone (s : State) (port : Nat) (f : LinkFrame) (b : List Byte) : State :=
  let msg := Config.casMsg b
  if s.clock.cascRole then
    match f.type, msg with
    | 5, some (.result l) => s.resultFrame f.src l
    | 6, some (.status n _ _) => s.onCasc fun c => { c with throttle := Tbl.put c.throttle f.src n }
    | 9, some m => s.masterCtrl f.src m
    | _, _ => s
  else match f.type, msg with
    | 1, some (.tick k t) => s.tickFrame k t
    | 2, _ => s.onCasc fun c => { c with inputsIn := some b }
    | 3, _ => s.onCasc fun c => { c with decisionIn := some b }
    | 4, _ => s.fieldFrame b
    | 7, _ => s.onCasc fun c => { c with handoffIn := some b }
    | 8, some m => s.stateFrame m f.tick
    | 9, some m => s.memberCtrl port m
    | _, _ => s

/-! ### Link frames (R466, R467) -/

/-- Whether a frame is for this device: addressed to its position, a broadcast at a member, or at the end of its hops where the device
has no position yet. -/
def State.isTarget (s : State) (f : LinkFrame) : Bool :=
  if s.clock.cascRole then f.dst == 0
  else f.dst == 0xFF || (if s.casc.position = 0 then decide (f.hops ≤ 1) else f.dst == s.casc.position)

/-- Whether a frame goes on, on the other port: one for another device with hops left, or a broadcast that has not reached the last
device of its side. -/
def State.goesOn (s : State) (f : LinkFrame) : Bool :=
  if f.dst = 0xFF then !s.clock.cascRole && decide (2 ≤ f.hops) else !s.isTarget f && f.hops != 0

/-- A frame forwarded with one hop less, under the SEQ of the port it leaves on. -/
def CascadeSt.forward (c : CascadeSt) (port : Nat) (f : LinkFrame) : CascadeSt :=
  let p := c.port port
  if !p.trained then c
  else { c.updPort port fun x => { x with txSeq := x.txSeq + 1 } with
    sent := c.sent ++ [(port, { f with
      hops := f.hops - 1
      seq := p.txSeq })] }

/-- Whether the device takes part in what a frame type carries: a member that is not in service takes STATE and CTRL only. -/
def State.takesType (s : State) (f : LinkFrame) : Bool :=
  if s.clock.cascRole then
    f.type == 9 || ((f.type == 5 || f.type == 6) && (Tbl.get {} s.casc.members f.src).state == .inService)
  else f.type == 8 || f.type == 9 ||
    (s.casc.memberInService && (f.type == 1 || f.type == 2 || f.type == 3 || f.type == 4 || f.type == 7))

/-- Whether TICK is the tick to which the receiver applies the frame (R467). -/
def State.tickFits (s : State) (f : LinkFrame) : Bool :=
  let now := s.tickNo % 2 ^ 32
  if f.type = 8 ∨ f.type = 9 then true
  else if f.type = 1 then f.tick != now
  else if f.type = 7 then f.tick == now || (f.tick + 1) % 2 ^ 32 == now
  else f.tick == now

/-- Whether two transfers are one. -/
def Transfer.same (t : Transfer) (f : LinkFrame) : Bool := t.type == f.type && t.src == f.src && t.tick == f.tick && !t.complete

/-- A frame's data added to its transfer; one lost frame makes the transfer missing as a whole. -/
def CascadeSt.assemble (c : CascadeSt) (f : LinkFrame) (lost : Bool) : CascadeSt × Option (List Byte) :=
  let old : Transfer := (c.transfers.find? fun t => t.same f).getD { type := f.type, src := f.src, tick := f.tick }
  let t : Transfer := { old with
    bytes := old.bytes ++ f.data
    broken := old.broken || lost
    complete := f.last }
  let rest := c.transfers.filter fun t => !t.same f
  let keep := !t.complete || t.type == 5 || t.type == 6
  ({ c with transfers := if keep then rest ++ [{ t with bytes := if t.complete then [] else t.bytes }] else rest },
   if t.complete && !t.broken then some t.bytes else none)

/-- A frame at its destination: dropped and counted, or taken. -/
def State.takeFrame (s : State) (port : Nat) (prev : Option Half) (f : LinkFrame) : State :=
  let bad := !f.crcOk || (match prev with | some q => f.seq != q + 1 | none => false) || !s.tickFits f
  let s := if bad then s.onCasc fun c => c.updPort port fun x => { x with errCnt := x.errCnt.incr } else s
  let r := s.casc.assemble f bad
  let s := s.onCasc fun _ => r.1
  match r.2 with
  | some b => s.transferDone port f b
  | none => s

/-- A link frame on a trained port: forwarded, and applied or dropped where it is for this device. Thistle holds what its Ublar DMA
would write while master 14 is frozen; TICK and CTRL frames go by it (R482). -/
def ulbFrameRxEffect (time port : Nat) (b : List Byte) (s : State) : State :=
  let s := s.advance time
  if !s.up || !(s.casc.port port).trained then s
  else
    let f := linkFrameOf b
    let prev := (s.casc.port port).rxSeq
    let s := s.onCasc fun c => c.updPort port fun x => { x with rxSeq := some f.seq }
    let s := if s.goesOn f then s.onCasc fun c => c.forward (1 - port) f else s
    let s := if s.clock.cascRole && f.src == 0 && f.crcOk then s.twoMasters else s
    if !s.isTarget f || !s.takesType f then s
    else if (s.master 14).frozen && f.type != 1 && f.type != 9 then s
    else (s.takeFrame port prev f).serve

def execUlbFrameRx (time : Nat) (port : Fin 2) (bytes : List Byte) (s : State) : Out := .next (ulbFrameRxEffect time port bytes s)

/-! ### Ports (R465, R469, R479) -/

/-- Routes of a ring of n devices beyond the master: the port with fewer hops, port 0 where both are equal (R469). -/
def CascadeSt.ringRoutes (c : CascadeSt) : CascadeSt :=
  let n := c.others.length
  { c with members := c.members.map fun e =>
      if e.1 = 0 || !e.2.present then e
      else
        let i := (c.others.filter fun x => decide (x.1 ≤ e.1)).length
        (e.1, if i ≤ n + 1 - i then { e.2 with
            port := 0
            hops := i }
          else { e.2 with
            port := 1
            hops := n + 1 - i }) }

/-- The lowest position that no device present has. -/
def CascadeSt.freePosition (c : CascadeSt) : Option Nat :=
  ((List.range 7).map (· + 1)).find? fun p => !(Tbl.get {} c.members p).present

/-- A device found along a port, hops away, with its measured delay; beyond position 7 none is admitted (R469, R480). -/
def State.found (s : State) (port hops delay : Nat) : State :=
  match s.casc.freePosition with
  | none => s
  | some p =>
    let join := s.casc.autoJoin && !s.casc.dualMaster
    s.onCasc fun c => c.updMember p fun x => { x with
      state := if join then .joining else if x.state == .removed then .removed else .absent
      present := true
      delay := satU 16 delay
      measured := true
      hops := hops
      port := port
      missing := 0
      synced := false
      snapAt := none
      digest := none
      stagedDigest := none }

/-- The position beyond a device on its side, 0xFF for none. -/
def CascadeSt.nextOf (c : CascadeSt) (p : Nat) : Nat :=
  let m := Tbl.get {} c.members p
  match c.others.find? fun e => e.2.port == m.port && e.2.hops == m.hops + 1 with
  | some e => e.1
  | none => if c.ring then ((c.others.find? fun e => e.2.port != m.port && e.2.hops + m.hops == c.others.length).map (·.1)).getD 0
    else 0xFF

/-- Every device told its position and asked for an echo; the neighbours of the master (R469, R471). -/
def State.tellPositions (s : State) : State :=
  let s := (s.casc.others).foldl (fun s (e : Nat × Member) => (s.onCasc fun c =>
    c.castTo e.1 9 s.tickNo (Config.casBytes (.number e.1 e.2.hops (c.nextOf e.1)))).sendEcho e.1) s
  s.onCasc fun c => [0, 1].foldl (fun c p => c.updPort p fun x => { x with
    neighbour := ((c.others.find? fun e => e.2.port == p && e.2.hops == 1).map (·.1)).getD 0xFF }) c

/-- A port has trained at full width (R465). At the master the devices along it are numbered outward, each with its delay; in a ring
every device is reached along port 0 (R469). -/
def ulbPortTrainedEffect (port : Nat) (delays : List Nat) (ring second : Bool) (s : State) : State :=
  if !s.up || s.clock.xtalFail then s
  else
    let s := s.onCasc fun c => (c.updPort port fun x => { x with
      trained := true
      laneLock := 0xF
      rxSeq := none
      txSeq := 0 })
    if !s.clock.cascRole then s
    else
      let s := if second then s.twoMasters else s
      let s := delays.zipIdx.foldl (fun s (d : Nat × Nat) => s.found port (d.2 + 1) d.1) s
      let s := s.onCasc fun c => { c with ring := c.ring || ring }
      let s := if s.casc.ring then s.onCasc CascadeSt.ringRoutes else s
      s.tellPositions

def execUlbPortTrained (port : Fin 2) (delays : List Nat) (ring secondMaster : Bool) (s : State) : Out :=
  .next (ulbPortTrainedEffect port delays ring secondMaster s)

/-- The devices that the master reaches when a port has gone: in a ring all, along the other port; in a chain those of the other port
(R469, R479). -/
def CascadeSt.routesLost (c : CascadeSt) (port : Nat) : CascadeSt :=
  let n := c.others.length
  { c with
    ring := false
    members := c.members.map fun e =>
      if e.1 = 0 || !e.2.present then e
      else if c.ring then
        let i := (c.others.filter fun x => decide (x.1 ≤ e.1)).length
        (e.1, { e.2 with
          port := 1 - port
          hops := if port = 0 then n + 1 - i else i })
      else if e.2.port == port then (e.1, { e.2 with
        present := false
        state := if e.2.state == .joining then .absent else e.2.state })
      else e }

/-- A port has gone down with its lanes (R465). -/
def ulbPortDownEffect (port : Nat) (lanes : BitVec 4) (s : State) : State :=
  let s := s.onCasc fun c => c.updPort port fun x => { x with
    trained := false
    laneLock := lanes
    neighbour := 0xFF }
  if s.clock.cascRole then s.onCasc fun c => c.routesLost port else s

def execUlbPortDown (port : Fin 2) (lanes : BitVec 4) (s : State) : Out := .next (ulbPortDownEffect port lanes s)

end Sys2Proof.Machine
end

