-- ==== Sys2Proof/Machine/Outside.lean ====
section
/-! DEFINITION. Events after which the command processors go on: doorbells, mailboxes, rings, USB transfers, failed reads of host
memory, the device's own completions, and register writes of every kind (12 R309 to R312; 13 R319 to R321; 17 R429, R430, R444). -/

namespace Sys2Proof.Machine

/-! ### Doorbells and rings (12 R312; 13 R319, R320) -/

/-- A write of a doorbell by a master, and the processors' service of it. -/
def doorbellWriteEffect (d : Nat) (who : Master) (v : Word) (s : State) : State := (doorbellEffect d who v s).serve

def execDoorbellWrite (d : Fin 256) (who : Master) (val : Word) (s : State) : Out := .next (doorbellWriteEffect d who val s)

/-- The host writes a submission tail to doorbell r (R320). -/
def sqDoorbellEffect (r : Nat) (tail : Word) (s : State) : State := doorbellWriteEffect r .host tail s

def execSqDoorbell (r : Fin 64) (tail : Word) (s : State) : Out := .next (sqDoorbellEffect r tail s)

/-- The host writes a completion head to doorbell 64 + r (R320). -/
def cqDoorbellEffect (r : Nat) (head : Word) (s : State) : State := doorbellWriteEffect (64 + r) .host head s

def execCqDoorbell (r : Fin 64) (head : Word) (s : State) : Out := .next (cqDoorbellEffect r head s)

/-- A write of SYS_RING_CFG (R319, R321): sizes while EN was 0, CQ_IE and VECTOR always; EN from 0 to 1 restarts the pointers and
the phase, EN = 0 clears FAULTED. -/
def Ring.cfgWrite (g : Ring) (v : Word) : Ring :=
  let g := if g.en then g else { g with
    sqLog := fld v 16 5
    cqLog := fld v 8 5 }
  let g := { g with
    cqIe := v.getLsbD 7
    vector := fld v 0 6 }
  if !v.getLsbD 31 then g.disable
  else if g.en then g
  else { g with
    en := true
    sqHead := 0
    sqTail := 0
    cqTail := 0
    cqHead := 0
    phase := true
    cqFull := false }

/-- SYS_RING_CFG of a ring written by a master. -/
def ringCfgEffect (r : Nat) (who : Master) (cfg : Word) (s : State) : State :=
  (s.regAccess who (0x1010 + r * 0x20) true fun s => s.updRing r fun g => g.cfgWrite cfg).serve

def execRingEnable (r : Fin 64) (cfg : Word) (s : State) : Out := .next (ringCfgEffect r .host cfg s)

/-! ### Mailboxes (12 R309, R310) -/

def mailboxMessageEffect (m : Nat) (who : Master) (w : MbWrite) (s : State) : State := (mailboxCommitEffect m who w s).serve

def execMailboxCommit (m : Fin 64) (who : Master) (w : MbWrite) (s : State) : Out := .next (mailboxMessageEffect m who w s)

def mailboxAckEffect (m : Nat) (who : Master) (val : Word) (s : State) : State := (mailboxCtrlEffect m who val s).serve

def execMailboxAck (m : Fin 64) (who : Master) (val : Word) (s : State) : Out := .next (mailboxAckEffect m who val s)

/-! ### USB (17 R444) -/

/-- A transfer on EP1 OUT: one packet of ring 80, or dropped for its length; a port that is disabled, detached or suspended, or a
frozen USB ingress, takes none. -/
def usbTransferEffect (b : List Byte) (s : State) : State :=
  if !s.host.usbEn || !s.host.usbConnected || s.host.usbSuspended || (s.master 1).frozen then s
  else if b.length < 32 ∨ b.length ≠ 32 + hdrLen b then s.onHost fun h => { h with usbDropCnt := h.usbDropCnt.incr }
  else (s.onHost fun h => { h with
    usbCmdCnt := h.usbCmdCnt.incr
    usbOut := h.usbOut ++ [b] }).serve

def execUsbCommandTransfer (bytes : List Byte) (s : State) : Out := .next (usbTransferEffect bytes s)

/-! ### Failed reads of host memory (17 R429) -/

/-- What the read was for ends with ST_BAD_PARAM. -/
def State.readFailed (s : State) (what : DmaRead) : State :=
  match what with
  | .submission r => if (s.ring r).en && !(s.ring r).fault then s.faultPointer r else s
  | .payload h op => (s.updRing h.ring fun g => { g with opened := g.opened + 1 }).refuse h op .badParam
  | .longOp handle =>
    match s.slotOf handle with
    | some n => s.endLong n .badParam
    | none => s
  | .item n => if (s.poolEntry n).isSome then s.completeItem n .badParam [] else s
  | .other => s

def dmaReadErrorEffect (addr : Dword) (what : DmaRead) (s : State) : State :=
  ((s.onHost fun h => { h with
    dmaErr := true
    dmaErrCnt := h.dmaErrCnt.incr
    dmaErrAddr := { h.dmaErrAddr with val := addr } }).readFailed what).serve

def execDmaReadError (addr : Dword) (what : DmaRead) (s : State) : Out := .next (dmaReadErrorEffect addr what s)

/-! ### Ends of device work, after which packets and held completions go on -/

def execBackgroundSliceEnd (c : ServerClass) (server : Fin 64) (last ue : Bool) (errs : List (Nat × GranErr)) (s : State) : Out :=
  .next (backgroundSliceEndEffect c server last ue errs s).serve

def execFlowItemComplete (c : ServerClass) (server : Fin 64) (ue : Bool) (s : State) : Out :=
  .next (flowItemCompleteEffect c server ue s).serve

def execTestSliceEnd (u : TestUnit) (r : TestResult) (s : State) : Out := .next (testSliceEndEffect u r s).serve

def execConfigLoadDone (s : State) : Out := .next (configLoadDoneEffect s).serve

def execConfigStagingDone (ue : Bool) (s : State) : Out := .next (configStagingDoneEffect ue s).serve

def execConfigStoreDone (ok : Bool) (s : State) : Out := .next (configStoreDoneEffect ok s).serve

def execSnapSaveDone (s : State) : Out := .next (snapSaveDoneEffect s).serve

def execAttestReportDone (s : State) : Out := .next (attestReportDoneEffect s).serve

def execFwUpdateProgrammed (ok : Bool) (s : State) : Out := .next (fwUpdateProgrammedEffect ok s).serve

/-! ### Tick edges (01 R12 to R16) -/

def execInternalTickEdge (e : Edge) (s : State) : Out := .next (internalTickEdgeEffect e s).serve

def execTickInEdge (e : Edge) (s : State) : Out := .next (tickInEdgeEffect e s).serve

def execHoldoverEdge (e : Edge) (s : State) : Out := .next (holdoverEdgeEffect e s).serve

def execPtpTickEdge (e : Edge) (s : State) : Out := .next (ptpTickEdgeEffect e s).serve

/-! ### The link, resets and freezes -/

def execPerstAssert (s : State) : Out := .next (perstAssertEffect s).serve

def execFunctionLevelReset (s : State) : Out := .next (functionLevelResetEffect s).serve

def execPcieLinkDown (s : State) : Out := .next (pcieLinkDownEffect s).serve

def execDomainResetDone (d : Fin 64) (s : State) : Out := .next (domainResetDoneEffect d.val s).serve

def execTamperDetect (src : BitVec 4) (s : State) : Out := .next (tamperDetectEffect src s).serve

/-- The host writes THI_REC_UNFREEZE; the recovery page is served while host ingress is frozen (14 R360, R362). -/
def unfreezeWriteEffect (val : Word) (s : State) : State := (if s.host.up then thiUnfreezeEffect val s else s).serve

def execThiUnfreeze (val : Word) (s : State) : Out := .next (unfreezeWriteEffect val s)

/-! ### Register writes (01 R43) -/

/-- A register with no row of its own, written by a master. -/
def plainWriteEffect (off : Nat) (who : Master) (v : Word) (s : State) : State :=
  s.regAccess who off true fun s => s.plainWrite off who v

/-- A write to a window of COW_: control, slots and doorbells. -/
def cowWriteEffect (o : Nat) (who : Master) (v : Word) (s : State) : State :=
  if 0x100 ≤ o ∧ o < 0x200 then mailboxAckEffect ((o - 0x100) / 4) who v s
  else if 0x1000 ≤ o ∧ o < 0x2000 then
    let m := (o - 0x1000) / 64
    let w := (o - 0x1000) % 64 / 4
    if w = 15 then mailboxMessageEffect m who (.last v) s else mailboxStageEffect m who w v s
  else if 0x2000 ≤ o ∧ o < 0x2400 then doorbellWriteEffect ((o - 0x2000) / 4) who v s
  else plainWriteEffect (0xB0000 + o) who v s

/-- A write to a window of BND_: the counter windows and BND_W_CFG. -/
def bndWriteEffect (o : Nat) (who : Master) (v : Word) (s : State) : State :=
  if 0x1000 ≤ o ∧ o < 0x9000 ∧ o % 16 = 0 then
    s.guarded who (ctlBase + 0x200000 + o) true (watchCfg ((o - 0x1000) / 16) who v)
  else if 0x20000 ≤ o ∧ o % 0x20000 < 0x18000 then
    let n := o % 0x20000 / 4
    match o / 0x20000 with
    | 1 => counterValueEffect n who v s
    | 2 => s.counterOp 1 n who true fun s => s.counterAdd n v who
    | 3 => counterSubEffect n who v s
    | 5 => counterAttrEffect n who v s
    | _ => plainWriteEffect (0x200000 + o) who v s
  else plainWriteEffect (0x200000 + o) who v s

/-- A write to any control register (R43): one whose write is a row of its own has that row's effect. -/
def registerWriteEffect (off : Nat) (who : Master) (v : Word) (s : State) : State :=
  let o := off % 0x10000
  if off % 4 ≠ 0 then plainWriteEffect off who v s
  else if 0x200000 ≤ off ∧ off < 0x300000 then bndWriteEffect (off - 0x200000) who v s
  else match off / 0x10000 with
    | 0 => if 0x1000 ≤ o ∧ o < 0x1800 ∧ o % 0x20 = 0x10 then ringCfgEffect ((o - 0x1000) / 0x20) who v s
      else plainWriteEffect off who v s
    | 2 => if o % 0x40 = 0x2C ∧ o / 0x40 < 72 then s.regAccess who off true (fsPeekStartEffect (o / 0x40) v)
      else plainWriteEffect off who v s
    | 5 => if 0x100 ≤ o ∧ o < 0x300 ∧ o % 0x20 = 0x18 then s.regAccess who off true (ctgPeekSelectEffect ((o - 0x100) / 0x20) v)
      else plainWriteEffect off who v s
    | 10 => if o = 0x80 then s.regAccess who off true (flowRecordSelectEffect v) else plainWriteEffect off who v s
    | 11 => cowWriteEffect o who v s
    | 12 => if o = 0x300 then s.regAccess who off true (ledgerSelectEffect v) else plainWriteEffect off who v s
    | 13 => if o = 0x1004 ∧ who = .host then unfreezeWriteEffect v s else plainWriteEffect off who v s
    | 15 => if o = 0x30 then s.regAccess who off true (clkDomainResetEffect who v) else plainWriteEffect off who v s
    | 17 => if o = 4 then s.regAccess who off true fun s => s.onMem fun m => { m with bar2Sel := fld v 0 3 }
      else plainWriteEffect off who v s
    | _ => plainWriteEffect off who v s

def execRegisterWrite (off : Nat) (who : Master) (val : Word) (s : State) : Out := .next (registerWriteEffect off who val s)

end Sys2Proof.Machine
end

