-- ==== Sys2Proof/Machine/Dispatch.lean ====
section
/-! DEFINITION. The meaning of every command: one arm per row of the table of operations. -/

namespace Sys2Proof.Machine

def exec (i : Instr) (s : State) : Host.Outcome State Fault Refusal :=
  match i with
  | .internalTickEdge e => Sys2Proof.Machine.execInternalTickEdge e s
  | .tickInEdge e => Sys2Proof.Machine.execTickInEdge e s
  | .holdoverEdge e => Sys2Proof.Machine.execHoldoverEdge e s
  | .ptpTickEdge e => Sys2Proof.Machine.execPtpTickEdge e s
  | .commitCheckJob slot rank => Sys2Proof.Machine.execCommitCheckJob slot rank s
  | .decisionItem => Sys2Proof.Machine.execDecisionItem s
  | .egressSelect time => Sys2Proof.Machine.execEgressSelect time s
  | .egressGateOpen port time => Sys2Proof.Machine.execEgressGateOpen port time s
  | .egressGateClose port => Sys2Proof.Machine.execEgressGateClose port s
  | .trajFrameSent slot port => Sys2Proof.Machine.execTrajFrameSent slot port s
  | .contextLoad m => Sys2Proof.Machine.execContextLoad m s
  | .collisionPhase m flips => Sys2Proof.Machine.execCollisionPhase m flips s
  | .rosterTagReject tile gen => Sys2Proof.Machine.execRosterTagReject tile gen s
  | .occupancyPredictor m => Sys2Proof.Machine.execOccupancyPredictor m s
  | .cornflowerTransform => Sys2Proof.Machine.execCornflowerTransform s
  | .wavefrontRings => Sys2Proof.Machine.execWavefrontRings s
  | .fieldAssembly => Sys2Proof.Machine.execFieldAssembly s
  | .fieldBroadcast bad => Sys2Proof.Machine.execFieldBroadcast bad s
  | .clusterSelection m => Sys2Proof.Machine.execClusterSelection m s
  | .dieMerge m => Sys2Proof.Machine.execDieMerge m s
  | .cascadeMerge => Sys2Proof.Machine.execCascadeMerge s
  | .critic slot m => Sys2Proof.Machine.execCritic slot m s
  | .reRank slot => Sys2Proof.Machine.execReRank slot s
  | .vetchFeasibility slot m => Sys2Proof.Machine.execVetchFeasibility slot m s
  | .vetchIteration slot m => Sys2Proof.Machine.execVetchIteration slot m s
  | .vetchStop slot m => Sys2Proof.Machine.execVetchStop slot m s
  | .vetchWindowCut slot => Sys2Proof.Machine.execVetchWindowCut slot s
  | .proposalNetwork slot m => Sys2Proof.Machine.execProposalNetwork slot m s
  | .handoff m => Sys2Proof.Machine.execHandoff m s
  | .backgroundDispatch cls server ac len => Sys2Proof.Machine.execBackgroundDispatch cls server ac len s
  | .backgroundSliceEnd cls server last ue errs => Sys2Proof.Machine.execBackgroundSliceEnd cls server last ue errs s
  | .flowItemComplete cls server ue => Sys2Proof.Machine.execFlowItemComplete cls server ue s
  | .testSliceStart unit ac => Sys2Proof.Machine.execTestSliceStart unit ac s
  | .testSliceEnd unit result => Sys2Proof.Machine.execTestSliceEnd unit result s
  | .coverageExceeded unit => Sys2Proof.Machine.execCoverageExceeded unit s
  | .zhedaRecordWrite ok => Sys2Proof.Machine.execZhedaRecordWrite ok s
  | .checkpointCapture ok => Sys2Proof.Machine.execCheckpointCapture ok s
  | .replayStep => Sys2Proof.Machine.execReplayStep s
  | .peekComplete tile => Sys2Proof.Machine.execPeekComplete tile s
  | .estopActive time => Sys2Proof.Machine.execEstopActive time s
  | .estopInactive time => Sys2Proof.Machine.execEstopInactive time s
  | .estopRearmReady time => Sys2Proof.Machine.execEstopRearmReady time s
  | .syncLost time => Sys2Proof.Machine.execSyncLost time s
  | .ptpSyncRx time port offset => Sys2Proof.Machine.execPtpSyncRx time port offset s
  | .ethFrameRx time port fcsOk bytes room => Sys2Proof.Machine.execEthFrameRx time port fcsOk bytes room s
  | .ulbFrameRx time port bytes => Sys2Proof.Machine.execUlbFrameRx time port bytes s
  | .ulbPortTrained port delays ring secondMaster => Sys2Proof.Machine.execUlbPortTrained port delays ring secondMaster s
  | .ulbPortDown port lanes => Sys2Proof.Machine.execUlbPortDown port lanes s
  | .cascTickTimeout time => Sys2Proof.Machine.execCascTickTimeout time s
  | .sqDoorbell r tail => Sys2Proof.Machine.execSqDoorbell r tail s
  | .cqDoorbell r head => Sys2Proof.Machine.execCqDoorbell r head s
  | .ringEnable r cfg => Sys2Proof.Machine.execRingEnable r cfg s
  | .mailboxCommit m who w => Sys2Proof.Machine.execMailboxCommit m who w s
  | .mailboxStageWrite m who word val => Sys2Proof.Machine.execMailboxStageWrite m who word val s
  | .mailboxAck m who val => Sys2Proof.Machine.execMailboxAck m who val s
  | .doorbellWrite d who val => Sys2Proof.Machine.execDoorbellWrite d who val s
  | .doorbellServiceRead d who => Sys2Proof.Machine.execDoorbellServiceRead d who s
  | .counterValue n who x => Sys2Proof.Machine.execCounterValue n who x s
  | .counterAdd n who x => Sys2Proof.Machine.execCounterAdd n who x s
  | .counterSub n who x => Sys2Proof.Machine.execCounterSub n who x s
  | .counterFetchInc n who => Sys2Proof.Machine.execCounterFetchInc n who s
  | .counterAttr n who x => Sys2Proof.Machine.execCounterAttr n who x s
  | .coreStallTimeout unit ix => Sys2Proof.Machine.execCoreStallTimeout unit ix s
  | .watchArm w who cfg => Sys2Proof.Machine.execWatchArm w who cfg s
  | .firedRead watch => Sys2Proof.Machine.execFiredRead watch s
  | .counterLoRead off => Sys2Proof.Machine.execCounterLoRead off s
  | .latchingLoRead off time => Sys2Proof.Machine.execLatchingLoRead off time s
  | .tempPeakRead => Sys2Proof.Machine.execTempPeakRead s
  | .fsPeekStart tile val => Sys2Proof.Machine.execFsPeekStart tile val s
  | .ctgPeekSelect slot val => Sys2Proof.Machine.execCtgPeekSelect slot val s
  | .flowRecordSelect val => Sys2Proof.Machine.execFlowRecordSelect val s
  | .ledgerSelect val => Sys2Proof.Machine.execLedgerSelect val s
  | .thiUnfreeze val => Sys2Proof.Machine.execThiUnfreeze val s
  | .clkDomainReset who val => Sys2Proof.Machine.execClkDomainReset who val s
  | .bar2WindowSelect val => Sys2Proof.Machine.execBar2WindowSelect val s
  | .msixVectorUnmask v => Sys2Proof.Machine.execMsixVectorUnmask v s
  | .registerWrite off who val => Sys2Proof.Machine.execRegisterWrite off who val s
  | .bar2Access off len data err => Sys2Proof.Machine.execBar2Access off len data err s
  | .pcieRequestRx r => Sys2Proof.Machine.execPcieRequestRx r s
  | .thistleViolation m cls addr write secure len => Sys2Proof.Machine.execThistleViolation m cls addr write secure len s
  | .dmaReadError addr what => Sys2Proof.Machine.execDmaReadError addr what s
  | .perstAssert => Sys2Proof.Machine.execPerstAssert s
  | .functionLevelReset => Sys2Proof.Machine.execFunctionLevelReset s
  | .pcieLinkDown => Sys2Proof.Machine.execPcieLinkDown s
  | .powerStateChange d3 => Sys2Proof.Machine.execPowerStateChange d3 s
  | .usbCommandTransfer bytes => Sys2Proof.Machine.execUsbCommandTransfer bytes s
  | .usbBusReset => Sys2Proof.Machine.execUsbBusReset s
  | .usbSuspend => Sys2Proof.Machine.execUsbSuspend s
  | .usbRecoveryImage bytes => Sys2Proof.Machine.execUsbRecoveryImage bytes s
  | .porRelease time straps suppliesOk => Sys2Proof.Machine.execPorRelease time straps suppliesOk s
  | .porAssert => Sys2Proof.Machine.execPorAssert s
  | .sysReset => Sys2Proof.Machine.execSysReset s
  | .bootReady time unrepaired => Sys2Proof.Machine.execBootReady time unrepaired s
  | .bootFail code => Sys2Proof.Machine.execBootFail code s
  | .xtalWindow time count => Sys2Proof.Machine.execXtalWindow time count s
  | .xtalTimeout time refclk => Sys2Proof.Machine.execXtalTimeout time refclk s
  | .pllLossOfLock pll => Sys2Proof.Machine.execPllLossOfLock pll s
  | .sparePllLocked pll => Sys2Proof.Machine.execSparePllLocked pll s
  | .clockMonitorWindow d edges => Sys2Proof.Machine.execClockMonitorWindow d edges s
  | .domainResetDone d => Sys2Proof.Machine.execDomainResetDone d s
  | .regulatorInRegulation mv => Sys2Proof.Machine.execRegulatorInRegulation mv s
  | .avsTimeout => Sys2Proof.Machine.execAvsTimeout s
  | .pmbusAlert => Sys2Proof.Machine.execPmbusAlert s
  | .thermalSample temps => Sys2Proof.Machine.execThermalSample temps s
  | .supplyExcursion glitch => Sys2Proof.Machine.execSupplyExcursion glitch s
  | .vddAonLow => Sys2Proof.Machine.execVddAonLow s
  | .tamperDetect src => Sys2Proof.Machine.execTamperDetect src s
  | .secureWipeDone ok => Sys2Proof.Machine.execSecureWipeDone ok s
  | .scrubGranule err otherWrite => Sys2Proof.Machine.execScrubGranule err otherWrite s
  | .nop h => Sys2Proof.Machine.execNop h s
  | .devInfo h raddr => Sys2Proof.Machine.execDevInfo h raddr s
  | .devStatus h => Sys2Proof.Machine.execDevStatus h s
  | .devFaultLog h first count raddr => Sys2Proof.Machine.execDevFaultLog h first count raddr s
  | .devReset h => Sys2Proof.Machine.execDevReset h s
  | .configWrite h offset bytes => Sys2Proof.Machine.execConfigWrite h offset bytes s
  | .configLoad h gen source addr length digest => Sys2Proof.Machine.execConfigLoad h gen source addr length digest s
  | .configLoadDone => Sys2Proof.Machine.execConfigLoadDone s
  | .configCommit h gen => Sys2Proof.Machine.execConfigCommit h gen s
  | .configStagingDone ue => Sys2Proof.Machine.execConfigStagingDone ue s
  | .configRollback h prevGen => Sys2Proof.Machine.execConfigRollback h prevGen s
  | .configRead h bundle offset length raddr => Sys2Proof.Machine.execConfigRead h bundle offset length raddr s
  | .configDiscard h => Sys2Proof.Machine.execConfigDiscard h s
  | .configStore h => Sys2Proof.Machine.execConfigStore h s
  | .ctxAlloc h any model => Sys2Proof.Machine.execCtxAlloc h any model s
  | .ctxFree h => Sys2Proof.Machine.execCtxFree h s
  | .ctxActivate h => Sys2Proof.Machine.execCtxActivate h s
  | .ctxDeactivate h => Sys2Proof.Machine.execCtxDeactivate h s
  | .ctxWrite h offset bytes => Sys2Proof.Machine.execCtxWrite h offset bytes s
  | .ctxRead h copy offset length raddr => Sys2Proof.Machine.execCtxRead h copy offset length raddr s
  | .ctxSeedSet h seed => Sys2Proof.Machine.execCtxSeedSet h seed s
  | .ctxGoalSet h boxes => Sys2Proof.Machine.execCtxGoalSet h boxes s
  | .ctxTreeReset h => Sys2Proof.Machine.execCtxTreeReset h s
  | .worldOcc h frame => Sys2Proof.Machine.execWorldOcc h frame s
  | .worldState h frame => Sys2Proof.Machine.execWorldState h frame s
  | .worldKeepoutSet h id mask box => Sys2Proof.Machine.execWorldKeepoutSet h id mask box s
  | .worldKeepoutClear h id => Sys2Proof.Machine.execWorldKeepoutClear h id s
  | .worldFieldRead h raddr => Sys2Proof.Machine.execWorldFieldRead h raddr s
  | .planFrameRead h slot raddr => Sys2Proof.Machine.execPlanFrameRead h slot raddr s
  | .planResultRead h slot raddr => Sys2Proof.Machine.execPlanResultRead h slot raddr s
  | .planHandoffRead h slot raddr => Sys2Proof.Machine.execPlanHandoffRead h slot raddr s
  | .rearm h => Sys2Proof.Machine.execRearm h s
  | .flowOpen h flow atomic policy level cq dlExp qlimit => Sys2Proof.Machine.execFlowOpen h flow atomic policy level cq dlExp qlimit s
  | .flowPush h flow items => Sys2Proof.Machine.execFlowPush h flow items s
  | .flowClose h flow => Sys2Proof.Machine.execFlowClose h flow s
  | .flowFlush h flow => Sys2Proof.Machine.execFlowFlush h flow s
  | .flowRead h flow => Sys2Proof.Machine.execFlowRead h flow s
  | .timerSet h due dest arg => Sys2Proof.Machine.execTimerSet h due dest arg s
  | .timerCancel h number => Sys2Proof.Machine.execTimerCancel h number s
  | .longStatus h handle => Sys2Proof.Machine.execLongStatus h handle s
  | .longSuspend h handle => Sys2Proof.Machine.execLongSuspend h handle s
  | .longResume h handle tick => Sys2Proof.Machine.execLongResume h handle tick s
  | .longCancel h handle => Sys2Proof.Machine.execLongCancel h handle s
  | .roadmapBuild h nodes seed => Sys2Proof.Machine.execRoadmapBuild h nodes seed s
  | .wavefrontFull h => Sys2Proof.Machine.execWavefrontFull h s
  | .deepPlan h count k tick raddr => Sys2Proof.Machine.execDeepPlan h count k tick raddr s
  | .fieldRebuild h origin raddr => Sys2Proof.Machine.execFieldRebuild h origin raddr s
  | .memScrub h start length => Sys2Proof.Machine.execMemScrub h start length s
  | .tileRequalify h tile => Sys2Proof.Machine.execTileRequalify h tile s
  | .snapPause h => Sys2Proof.Machine.execSnapPause h s
  | .snapResume h => Sys2Proof.Machine.execSnapResume h s
  | .snapSave h dest slot addr => Sys2Proof.Machine.execSnapSave h dest slot addr s
  | .snapLoad h source slot addr => Sys2Proof.Machine.execSnapLoad h source slot addr s
  | .replay h source slot inputs image target input raddr probes => Sys2Proof.Machine.execReplay h source slot inputs image target input raddr probes s
  | .zhdExport h first count journal raddr => Sys2Proof.Machine.execZhdExport h first count journal raddr s
  | .diagRead h addr length raddr => Sys2Proof.Machine.execDiagRead h addr length raddr s
  | .diagInject h target inst kind tick arg => Sys2Proof.Machine.execDiagInject h target inst kind tick arg s
  | .secAttest h nonce raddr nvmOk => Sys2Proof.Machine.execSecAttest h nonce raddr nvmOk s
  | .secLifecycle h target token => Sys2Proof.Machine.execSecLifecycle h target token s
  | .secFwUpdate h addr length => Sys2Proof.Machine.execSecFwUpdate h addr length s
  | .xmssKeygen h raddr => Sys2Proof.Machine.execXmssKeygen h raddr s
  | .cascStatus h => Sys2Proof.Machine.execCascStatus h s
  | .cascMemberRemove h member => Sys2Proof.Machine.execCascMemberRemove h member s
  | .cascMemberAdd h member => Sys2Proof.Machine.execCascMemberAdd h member s
  | .pwrOpSet h point => Sys2Proof.Machine.execPwrOpSet h point s
  | .clkSpreadSet h depth rate => Sys2Proof.Machine.execClkSpreadSet h depth rate s
  | .pwrClusterSet h mask state => Sys2Proof.Machine.execPwrClusterSet h mask state s
  | .pwrStatus h => Sys2Proof.Machine.execPwrStatus h s
  | .supplyRecovered => Sys2Proof.Machine.execSupplyRecovered s
  | .sysResetRelease => Sys2Proof.Machine.execSysResetRelease s
  | .perstRelease => Sys2Proof.Machine.execPerstRelease s
  | .pcieLinkUp width speed => Sys2Proof.Machine.execPcieLinkUp width speed s
  | .usbConnect superspeed => Sys2Proof.Machine.execUsbConnect superspeed s
  | .usbResume => Sys2Proof.Machine.execUsbResume s
  | .bestMasterChange time gm => Sys2Proof.Machine.execBestMasterChange time gm s
  | .ethLossOfSignal port los lock => Sys2Proof.Machine.execEthLossOfSignal port los lock s
  | .configStoreDone ok => Sys2Proof.Machine.execConfigStoreDone ok s
  | .snapSaveDone => Sys2Proof.Machine.execSnapSaveDone s
  | .attestReportDone => Sys2Proof.Machine.execAttestReportDone s
  | .lifecycleFuseBlown => Sys2Proof.Machine.execLifecycleFuseBlown s
  | .fwUpdateProgrammed ok => Sys2Proof.Machine.execFwUpdateProgrammed ok s

end Sys2Proof.Machine
end

