-- ==== Sys2Proof/Safety.lean ====
section
/-! DEFINITION. The vocabulary of the statements: what a command packet asks for and which checks it passes, how it is
answered, which parts of the state each command may change, and the invariants. -/

namespace Sys2Proof.Machine

/-- What a command packet brings: its header, its opcode (Table 13-9) and the outcome of checks 5 to 7 of Table 13-3. -/
structure Request where
  hdr : Hdr
  op : Nat
  checks : Checks := {}

/-- The context named by a header is not FREE. -/
abbrev onCtx (s : State) (h : Hdr) (op : Nat) : Request := ⟨h, op, { param := s.ctxLive h }⟩

/-- The command has a place to run long: one of the 64 handles is free (R331), beside `c`. -/
abbrev longAsk (s : State) (h : Hdr) (op : Nat) (c : Checks) : Request :=
  ⟨h, op, { c with state := c.state <|> (if s.longsFull then some .busy else none) }⟩

/-- A snapshot image that REPLAY is asked to start from, and whether its payload fits Table 10-8. -/
def State.replayParam (s : State) (h : Hdr) (src slot inputs image target input raddr : Nat) (probes : List Probe) : Bool :=
  let x := s.imageAt src slot image
  let y := x.getD {}
  s.placeOk h src slot && decide (inputs ≤ 1) && decide (probes.length ≤ 64) &&
    raddrOk h raddr 33 && (h.ring != 80 || (inputs == 0 && image == 0 && input == 0)) &&
    (x.isNone || (decide (y.k ≤ target) && probes.all fun p => p.ok y))

/-- Check 7 of REPLAY (10 R274 to R276). -/
def State.replayState (s : State) (src slot inputs image target input : Nat) : Option Status :=
  let x := s.imageAt src slot image
  let y := x.getD {}
  if !s.zheda.parked || s.longsFull then some .busy
  else match s.imageCheck x with
    | some st => some st
    | none => if s.recordsOk (inputs == 1) input y.k target then none else some .replayMismatch

/-- The request that a command packet makes of a state; commands that are no packets make none. -/
def request (c : Instr) (s : State) : Option Request :=
  match c with
  | .nop h => some ⟨h, 0x0100, {}⟩
  | .devInfo h raddr => some ⟨h, 0x0101, { param := raddrOk h raddr.toNat 64 }⟩
  | .devStatus h => some ⟨h, 0x0102, {}⟩
  | .devFaultLog h first count raddr => some ⟨h, 0x0103,
      { param := raddrOk h raddr.toNat ((s.safety.entries first count.toNat).flatMap FaultEntry.bytes).length }⟩
  | .devReset h => some ⟨h, 0x0104, {}⟩
  | .configWrite h off bs => some ⟨h, 0x0200,
      { param := decide (1 ≤ bs.length) && decide (bs.length ≤ 4088) && decide (off.toNat + bs.length ≤ 0x4000000) }⟩
  | .configLoad h _ source addr _ _ => some ⟨h, 0x0201,
      { param := decide (source.toNat ≤ 1) && (h.ring != 80 || (source.toNat == 1 && addr.toNat == 0)),
        state := if !s.cfgLive || s.cmd.committing || s.cmd.isLoading then some .busy else none }⟩
  | .configCommit h gen => some ⟨h, 0x0202, { state := s.commitRefusal gen.toNat }⟩
  | .configRollback h gen => some ⟨h, 0x0203, { state := s.rollbackRefusal gen.toNat }⟩
  | .configRead h n off len raddr => some ⟨h, 0x0204,
      { param := (match s.cmd.slotNo n.toNat with | some b => decide (off.toNat + len.toNat ≤ b.length) | none => false) &&
          raddrOk h raddr.toNat len.toNat }⟩
  | .configDiscard h => some ⟨h, 0x0205, { state := if s.cmd.committing || s.cmd.isLoading then some .busy else none }⟩
  | .configStore h => some ⟨h, 0x0206,
      { param := s.cmd.active.isSome, state := if s.cmd.storing.isSome then some .busy else none }⟩
  | .ctxAlloc h any _ => some ⟨h, 0x0300, { param := decide (any.toNat ≤ 1) }⟩
  | .ctxFree h => some (onCtx s h 0x0301)
  | .ctxActivate h => some ⟨h, 0x0302,
      { param := s.ctxLive h, state := if s.clock.op = 3 then some .domainOff else none }⟩
  | .ctxDeactivate h => some (onCtx s h 0x0303)
  | .ctxWrite h off bs => some ⟨h, 0x0304, { param := s.ctxLive h && s.ctxWriteOk h.ctx off.toNat bs }⟩
  | .ctxRead h copy off len raddr => some ⟨h, 0x0305,
      { param := s.ctxLive h && decide (copy.toNat ≤ 1) && decide (len.toNat ≤ 4096) &&
          decide (off.toNat + len.toNat ≤ 4096) && raddrOk h raddr.toNat len.toNat }⟩
  | .ctxSeedSet h _ => some (onCtx s h 0x0306)
  | .ctxGoalSet h boxes => some ⟨h, 0x0307, { param := s.ctxLive h && decide (boxes.length ≤ 16) }⟩
  | .ctxTreeReset h => some (onCtx s h 0x0308)
  | .worldOcc h frame => some ⟨h, 0x0400, { param := decide (20 ≤ frame.length) }⟩
  | .worldState h frame => some ⟨h, 0x0401, { param := decide (20 ≤ frame.length) }⟩
  | .worldKeepoutSet h id _ b => some ⟨h, 0x0402,
      { param := decide (id.toNat < 64) && decide (b.lo.x ≤ b.hi.x) && decide (b.lo.y ≤ b.hi.y) && decide (b.lo.z ≤ b.hi.z) }⟩
  | .worldKeepoutClear h id => some ⟨h, 0x0403, { param := decide (id.toNat < 64) || id == 0xFF }⟩
  | .worldFieldRead h raddr => some ⟨h, 0x0404,
      { param := raddrOk h raddr.toNat imageBytes, state := if s.heldField.isSome then none else some .busy }⟩
  | .planFrameRead h slot raddr => some ⟨h, 0x0500,
      { param := decide (slot.toNat < 16) &&
          raddrOk h raddr.toNat (((Tbl.find? s.host.egress slot.toNat).map EgressEntry.protectedBytes).getD []).length,
        state := if (Tbl.find? s.host.egress slot.toNat).isSome then none else some .busy }⟩
  | .planResultRead h slot raddr => some ⟨h, 0x0501,
      { param := decide (slot.toNat < 16) &&
          raddrOk h raddr.toNat (((s.popSlot slot.toNat).result.map DieRes.bytes).getD []).length,
        state := if (s.popSlot slot.toNat).result.isSome then none else some .busy }⟩
  | .planHandoffRead h slot raddr => some ⟨h, 0x0502,
      { param := decide (slot.toNat < 16) && raddrOk h raddr.toNat 0x5040,
        state := if (s.vetSlot slot.toNat).handoff.isSome then none else some .busy }⟩
  | .rearm h => some ⟨h, 0x0503, { state := if s.rearmReady then none else some .busy }⟩
  | .flowOpen h f atomic policy level cq dlExp qlimit => some ⟨h, 0x0600,
      { param := decide (f.toNat < 0x40000) && decide (atomic.toNat ≤ 1) && decide (policy.toNat ≤ 1) &&
          decide (1 ≤ level.toNat) && decide (level.toNat ≤ 63) && decide (cq.toNat ≤ 63) && decide (dlExp.toNat ≤ 31) &&
          decide (1 ≤ qlimit.toNat) && decide (qlimit.toNat ≤ 32767) && (s.flow f.toNat).state == .closed }⟩
  | .flowPush h f items => some ⟨h, 0x0601,
      { param := decide (f.toNat < 0x40000) && decide (1 ≤ items.length) && decide (items.length ≤ 16) &&
          (s.flow f.toNat).state == .opened && items.all (s.itemOk h) &&
          (items.any s.rowTooLong || items.all s.itemFits) }⟩
  | .flowClose h f => some ⟨h, 0x0602,
      { param := decide (f.toNat < 0x40000) && (s.flow f.toNat).state == .opened }⟩
  | .flowFlush h f => some ⟨h, 0x0603,
      { param := decide (f.toNat < 0x40000) && (s.flow f.toNat).state != .closed }⟩
  | .flowRead h f => some ⟨h, 0x0604, { param := decide (f.toNat < 0x40000) }⟩
  | .timerSet h _ dest arg => some ⟨h, 0x0605,
      { param := (dest.toNat == 0 && decide (arg.toNat < 64)) || (dest.toNat == 1 && decide (arg.toNat < 24576)) }⟩
  | .timerCancel h n => some ⟨h, 0x0606, { param := (s.teasel.delays.getD 2 []).any fun e => e.isTimer n.toNat }⟩
  | .longStatus h hd => some ⟨h, 0x0700, { param := (s.slotOf hd.toNat).isSome }⟩
  | .longSuspend h hd => some ⟨h, 0x0701,
      { param := match s.stateOf hd.toNat with | some st => st != .cancelPending | none => false }⟩
  | .longResume h hd _ => some ⟨h, 0x0702,
      { param := match s.stateOf hd.toNat with | some st => st == .suspended || st == .suspendPending | none => false }⟩
  | .longCancel h hd => some ⟨h, 0x0703,
      { param := match s.stateOf hd.toNat with | some st => st != .cancelPending | none => false }⟩
  | .roadmapBuild h nodes _ => some (longAsk s h 0x0710
      { param := s.ctxLive h &&
          decide (sumN (s.lupin.ctxs.map fun e => e.2.roadmap.nodes.length) + nodes.toNat ≤ 16777216) })
  | .wavefrontFull h => some (longAsk s h 0x0711
      { param := s.ctxLive h,
        state := if (s.servers .cfl).isEmpty then some .domainOff else if (s.ctx h.ctx).slot.isSome then none else some .busy })
  | .deepPlan h count k _ raddr => some (longAsk s h 0x0712
      { param := s.ctxLive h && decide (count.toNat % 64 = 0) && decide (64 ≤ count.toNat) &&
          decide (count.toNat ≤ 16777216) && decide (8 ≤ k.toNat) && decide (k.toNat ≤ 1024) &&
          raddrOk h raddr.toNat (64 + 16 * k.toNat) })
  | .fieldRebuild h o raddr => some (longAsk s h 0x0713 { param := o.fmod 2560 == {} && raddrOk h raddr.toNat imageBytes })
  | .memScrub h start len => some (longAsk s h 0x0714 { param := decide (start.toNat + len.toNat ≤ ddrEnd) })
  | .tileRequalify h t => some ⟨h, 0x0715,
      { param := decide (t.toNat < 72) && (s.safety.tile t.toNat).role == .failed,
        state := if (s.safety.tile t.toNat).requal != .none || s.longsFull then some .busy else none }⟩
  | .snapPause h => some ⟨h, 0x0800, { state := if s.zheda.run == .live then none else some .busy }⟩
  | .snapResume h => some ⟨h, 0x0801, { state := s.resumeRefusal }⟩
  | .snapSave h dest slot addr => some ⟨h, 0x0802,
      { param := s.placeOk h dest.toNat slot.toNat && (h.ring != 80 || addr.toNat == 0),
        state := if s.zheda.run != .paused || s.cmd.saving.isSome then some .busy else none }⟩
  | .snapLoad h src slot addr => some ⟨h, 0x0803,
      { param := s.placeOk h src.toNat slot.toNat && (h.ring != 80 || addr.toNat == 0),
        state := if !s.zheda.parked then some .busy else s.imageCheck (s.imageAt src.toNat slot.toNat addr.toNat) }⟩
  | .replay h src slot inputs image target input raddr probes => some ⟨h, 0x0804,
      { param := s.replayParam h src.toNat slot.toNat inputs.toNat image.toNat target.toNat input.toNat raddr.toNat probes,
        state := s.replayState src.toNat slot.toNat inputs.toNat image.toNat target.toNat input.toNat }⟩
  | .zhdExport h first count journal raddr => some ⟨h, 0x0805,
      { param := decide (journal.toNat ≤ 1) &&
          raddrOk h raddr.toNat (s.zheda.exported first.toNat count.toNat (journal.toNat == 1)).length }⟩
  | .diagRead h addr len raddr => some ⟨h, 0x0900,
      { param := decide (len.toNat ≤ 4096) &&
          (((List.range (min len.toNat 4096)).map fun i => s.diagByte? (addr.toNat + i)).all Option.isSome) &&
          raddrOk h raddr.toNat len.toNat }⟩
  | .diagInject h target inst kind _ arg => some ⟨h, 0x0901,
      { param := injectOk target.toNat inst.toNat kind.toNat arg.toNat, auth := s.sec.fuses.state != 2 }⟩
  | .secAttest h nonce raddr _ => some ⟨h, 0x0A00,
      { param := nonce.length == 32 && raddrOk h raddr.toNat (10092 + certLen s.sec.nvm), auth := s.attestAllowed }⟩
  | .secLifecycle h target token => some ⟨h, 0x0A01,
      { param := s.transitionOk target.toNat token.length, auth := s.transitionAuth target.toNat token }⟩
  | .secFwUpdate h addr len => some ⟨h, 0x0A02,
      { param := decide (5840 ≤ len.toNat) && decide (len.toNat ≤ 5840 + 0x2000000) && s.imagePlaced addr.toNat len.toNat }⟩
  | .xmssKeygen h raddr => some (longAsk s h 0x0A03
      { param := raddrOk h raddr.toNat 68, auth := s.sec.fuses.state == 0 })
  | .cascStatus h => some ⟨h, 0x0B00, {}⟩
  | .cascMemberRemove h p => some ⟨h, 0x0B01, { param := s.removable p.toNat }⟩
  | .cascMemberAdd h p => some ⟨h, 0x0B02,
      { param := s.addable p.toNat,
        state := if (Tbl.get ({} : Member) s.casc.members p.toNat).digest = some s.zheda.digest then none
          else some .configRejected }⟩
  | .pwrOpSet h p => some ⟨h, 0x0C00,
      { param := decide (p.toNat < 4) && !(p.toNat == 0 && s.ident.effE) && s.passR31 (s.opSettings p.toNat),
        state := if s.clock.change.isSome || s.clock.freeSpare.isNone || (p.toNat == 3 && s.anySlot) then some .busy
          else none }⟩
  | .clkSpreadSet h depth rate => some ⟨h, 0x0C01,
      { param := decide (depth.toNat ≤ 20) && decide (30 ≤ rate.toNat) && decide (rate.toNat ≤ 63) &&
          s.passR31 ((s.clock.op :: (s.clock.change.map (·.target)).toList).map fun o => ⟨o, depth.toNat, s.clock.xtalFail⟩),
        state := if s.clock.change.isSome then some .busy else none }⟩
  | .pwrClusterSet h mask st => some ⟨h, 0x0C02,
      { param := decide (mask.toNat < 16) && decide (st.toNat < 3), state := if s.clock.op != 3 then some .busy else none }⟩
  | .pwrStatus h => some ⟨h, 0x0C03, {}⟩
  | _ => none

/-- The status code that checks 5 to 7 answer a request with, in their order; none: it executes (R324, Table 13-3; a
domain being reset 16 R407; a cascade member in service 19 R470). -/
def Request.refusal (r : Request) (s : State) : Option Status :=
  if !r.checks.param then some .badParam
  else if !r.checks.auth then some .authFail
  else if (opDomains r.op).any s.resetting then some .domainOff
  else if s.casc.memberInService && memberRefused r.op then some .busy
  else r.checks.state

/-- The command is a packet that its path takes and that passes every check. -/
def accepts (c : Instr) (s : State) : Bool :=
  match request c s with
  | some r => s.takes r.hdr && (r.refusal s).isNone
  | none => false

/-- A packet taken from its path counts as open until its final completion (R318). -/
def State.taken (s : State) (h : Hdr) : State := s.updRing h.ring fun g => { g with opened := g.opened + 1 }

/-- Taken and answered at once: the final completion alone. -/
def State.answered (s : State) (h : Hdr) (op : Nat) (st : Status) (data : List Byte := []) : State :=
  (s.taken h).final h op st data

/-- Taken and acknowledged: the interim completion ST_PENDING; the final one follows. -/
def State.pended (s : State) (h : Hdr) (op : Nat) (data : List Byte := []) : State := (s.taken h).interim h op .pending data

/-- What a refusal leaves beside its completion: CONFIG_LOAD, COMMIT and ROLLBACK set REJECTED (R340), and every
SEC_LIFECYCLE taken renews the challenge nonce (18). -/
def afterRefusal (c : Instr) (t : State) : State :=
  match c with
  | .configLoad .. => t.rejected
  | .configCommit .. => t.rejected
  | .configRollback .. => t.rejected
  | .secLifecycle .. => t.freshNonce
  | _ => t

/-! ### What a command may change -/

/-- The parts of the state: one per chapter of the manual, the memories and the fuses on their own, device time, the last
read's words, the free-value index and the queue. -/
inductive Part where
  | ident | tick | world | aster | lupin | harebell | cornflower
  | poppy | vetch | commit | zheda | teasel | bindweed | cowslip
  | cmd | safety | mem | ddr | sram | clock | host
  | sec | fuses | casc | now | rdata | freeIx | pending
  deriving DecidableEq, Repr

/-- Every part of the state. -/
def Part.all : List Part :=
  [.ident, .tick, .world, .aster, .lupin, .harebell, .cornflower, .poppy, .vetch,
   .commit, .zheda, .teasel, .bindweed, .cowslip, .cmd, .safety, .mem, .ddr,
   .sram, .clock, .host, .sec, .fuses, .casc, .now, .rdata, .freeIx,
   .pending]

/-- A part reads in `t` as it reads in `s`. -/
def Part.kept (p : Part) (s t : State) : Prop :=
  match p with
  | .ident => t.ident = s.ident
  | .tick => t.tick = s.tick
  | .world => t.world = s.world
  | .aster => t.aster = s.aster
  | .lupin => t.lupin = s.lupin
  | .harebell => t.harebell = s.harebell
  | .cornflower => t.cornflower = s.cornflower
  | .poppy => t.poppy = s.poppy
  | .vetch => t.vetch = s.vetch
  | .commit => t.commit = s.commit
  | .zheda => t.zheda = s.zheda
  | .teasel => t.teasel = s.teasel
  | .bindweed => t.bindweed = s.bindweed
  | .cowslip => t.cowslip = s.cowslip
  | .cmd => t.cmd = s.cmd
  | .safety => t.safety = s.safety
  | .mem => t.mem = s.mem
  | .ddr => t.mem.ddr = s.mem.ddr
  | .sram => t.mem.sram = s.mem.sram
  | .clock => t.clock = s.clock
  | .host => t.host = s.host
  | .sec => t.sec = s.sec
  | .fuses => t.sec.fuses = s.sec.fuses
  | .casc => t.casc = s.casc
  | .now => t.now = s.now
  | .rdata => t.rdata = s.rdata
  | .freeIx => t.freeIx = s.freeIx
  | .pending => t.pending = s.pending

/-- Every part but those listed. -/
def allBut (l : List Part) : List Part := Part.all.filter fun p => !l.contains p

/-- The parts that a command may change: those its rules name, with the completion and interrupt machinery of whoever asked
(`cmd`, `cowslip`, `host`), the fault log (`safety`, `clock`, `freeIx` for the detail the manual leaves open) where it can
raise a fault, and everything a packet can change where the command lets waiting packets be taken. -/
def mayChange (c : Instr) : List Part :=
  match c with
  | .internalTickEdge .. | .tickInEdge .. | .holdoverEdge .. | .ptpTickEdge .. | .ulbFrameRx ..
  | .cascTickTimeout .. =>
    allBut [.ident, .fuses, .pending]
  | .commitCheckJob .. =>
    [.world, .harebell, .commit, .zheda, .safety, .clock, .host, .freeIx]
  | .decisionItem =>
    [.tick, .commit, .zheda, .teasel, .safety, .host, .casc]
  | .egressSelect .. =>
    [.commit, .zheda, .teasel, .safety, .host, .now]
  | .egressGateOpen .. =>
    [.host, .now]
  | .egressGateClose .. =>
    [.commit, .host]
  | .trajFrameSent .. =>
    [.commit, .teasel, .safety, .host]
  | .contextLoad .. =>
    [.tick, .world, .lupin, .cornflower, .poppy, .vetch, .commit, .zheda, .teasel, .safety, .mem, .clock, .host,
      .casc, .freeIx]
  | .collisionPhase .. =>
    [.world, .lupin, .harebell, .zheda, .teasel, .safety, .mem, .clock, .host, .freeIx]
  | .rosterTagReject .. | .coverageExceeded .. | .clockMonitorWindow .. | .avsTimeout | .pmbusAlert =>
    [.safety, .clock, .host, .freeIx]
  | .occupancyPredictor .. =>
    [.world, .aster, .zheda, .teasel, .safety, .mem, .clock, .host, .freeIx]
  | .cornflowerTransform =>
    [.world, .cornflower]
  | .wavefrontRings =>
    [.cornflower, .poppy]
  | .fieldAssembly =>
    [.tick, .world, .zheda, .casc]
  | .fieldBroadcast .. =>
    [.tick, .world, .zheda, .safety, .clock, .host, .freeIx]
  | .clusterSelection .. =>
    [.poppy, .zheda, .teasel, .safety, .mem, .clock, .host, .freeIx]
  | .dieMerge .. =>
    [.poppy, .zheda, .teasel, .safety, .mem, .clock, .host, .casc, .freeIx]
  | .cascadeMerge =>
    [.poppy, .casc]
  | .critic .. =>
    [.aster, .poppy, .zheda, .teasel, .safety, .mem, .clock, .host, .freeIx]
  | .reRank .. =>
    [.poppy]
  | .vetchFeasibility .. | .vetchStop .. =>
    [.vetch, .zheda, .teasel, .safety, .mem, .clock, .host, .freeIx]
  | .vetchIteration .. =>
    [.vetch, .zheda, .teasel, .cmd, .safety, .mem, .clock, .host, .freeIx]
  | .vetchWindowCut .. =>
    [.vetch, .zheda]
  | .proposalNetwork .. =>
    [.aster, .zheda, .teasel, .safety, .mem, .clock, .host, .freeIx]
  | .handoff .. =>
    [.tick, .lupin, .vetch, .zheda, .teasel, .safety, .mem, .clock, .host, .casc, .freeIx]
  | .backgroundDispatch .. =>
    [.tick, .world, .harebell, .cornflower, .zheda, .teasel, .cowslip, .cmd, .safety, .mem, .ddr, .sram, .clock,
      .host, .freeIx]
  | .backgroundSliceEnd .. | .flowItemComplete .. | .testSliceEnd .. | .replayStep | .sqDoorbell ..
  | .cqDoorbell .. | .ringEnable .. | .mailboxCommit .. | .mailboxAck .. | .doorbellWrite .. | .thiUnfreeze ..
  | .registerWrite .. | .dmaReadError .. | .perstAssert | .functionLevelReset | .pcieLinkDown
  | .usbCommandTransfer .. | .domainResetDone .. | .thermalSample .. | .supplyExcursion .. | .tamperDetect ..
  | .configLoadDone | .configStagingDone .. | .configStoreDone .. | .snapSaveDone | .attestReportDone
  | .fwUpdateProgrammed .. =>
    allBut [.ident, .fuses, .now, .pending]
  | .testSliceStart .. =>
    [.tick, .world, .cmd, .safety]
  | .zhedaRecordWrite .. | .checkpointCapture .. =>
    [.zheda, .mem, .ddr]
  | .peekComplete .. =>
    [.world, .harebell, .safety, .clock, .host, .freeIx]
  | .estopActive .. | .estopInactive .. =>
    [.commit, .now]
  | .estopRearmReady .. =>
    [.now]
  | .syncLost .. | .bestMasterChange .. =>
    [.tick, .host, .now]
  | .ptpSyncRx .. =>
    [.tick, .host, .now, .freeIx]
  | .ethFrameRx .. =>
    [.world, .safety, .clock, .host, .now, .freeIx]
  | .ulbPortTrained .. =>
    [.safety, .clock, .host, .casc, .freeIx]
  | .ulbPortDown .. =>
    [.host, .casc]
  | .mailboxStageWrite .. =>
    [.cowslip, .safety]
  | .doorbellServiceRead .. =>
    [.cowslip, .safety, .rdata]
  | .counterValue .. | .counterSub .. | .counterAttr .. =>
    [.bindweed, .cowslip, .cmd, .safety, .host, .rdata]
  | .counterAdd .. | .counterFetchInc .. =>
    [.bindweed, .cowslip, .cmd, .safety, .clock, .host, .rdata, .freeIx]
  | .coreStallTimeout .. =>
    [.bindweed, .cowslip, .cmd, .host]
  | .watchArm .. =>
    [.bindweed, .safety, .host]
  | .firedRead .. =>
    [.bindweed, .safety, .rdata]
  | .counterLoRead .. =>
    allBut [.ident, .cornflower, .ddr, .sram, .sec, .fuses, .now, .pending]
  | .latchingLoRead .. =>
    [.tick, .world, .cornflower, .commit, .zheda, .teasel, .cmd, .safety, .mem, .clock, .host, .sec, .now, .rdata,
      .freeIx]
  | .tempPeakRead | .ledgerSelect .. =>
    [.commit, .safety, .clock, .host, .rdata, .freeIx]
  | .fsPeekStart .. =>
    [.world, .harebell, .commit, .safety, .clock, .host, .rdata, .freeIx]
  | .ctgPeekSelect .. =>
    [.cornflower, .commit, .safety, .clock, .host, .rdata, .freeIx]
  | .flowRecordSelect .. =>
    [.commit, .teasel, .safety, .clock, .host, .rdata, .freeIx]
  | .clkDomainReset .. =>
    allBut [.ident, .harebell, .sec, .fuses, .now, .pending]
  | .bar2WindowSelect .. =>
    [.safety, .mem]
  | .msixVectorUnmask .. | .powerStateChange .. | .usbBusReset | .usbSuspend | .perstRelease | .pcieLinkUp ..
  | .usbConnect .. | .usbResume | .ethLossOfSignal .. =>
    [.host]
  | .bar2Access .. =>
    [.commit, .safety, .mem, .ddr, .clock, .host, .sec, .rdata, .freeIx]
  | .pcieRequestRx .. =>
    [.host, .rdata]
  | .thistleViolation .. =>
    [.commit, .safety, .clock, .host, .freeIx]
  | .usbRecoveryImage .. | .secFwUpdate .. =>
    [.cowslip, .cmd, .clock, .host, .sec]
  | .porRelease .. =>
    [.ident, .clock, .sec, .now]
  | .porAssert | .sysReset | .vddAonLow | .devReset .. =>
    allBut [.ident, .fuses, .now, .freeIx, .pending]
  | .bootReady .. =>
    allBut [.ident, .aster, .lupin, .vetch, .casc, .rdata, .pending]
  | .bootFail .. | .supplyRecovered =>
    [.clock, .sec]
  | .xtalWindow .. =>
    [.clock, .now]
  | .xtalTimeout .. =>
    [.safety, .clock, .host, .casc, .now, .freeIx]
  | .pllLossOfLock .. =>
    [.tick, .world, .aster, .lupin, .cornflower, .poppy, .vetch, .zheda, .safety, .clock, .host, .freeIx]
  | .sparePllLocked .. | .regulatorInRegulation .. | .sysResetRelease =>
    [.clock]
  | .secureWipeDone .. =>
    [.safety, .mem, .sram, .clock, .host, .freeIx]
  | .scrubGranule .. =>
    [.safety, .mem, .clock, .host, .sec, .freeIx]
  | .nop .. | .devInfo .. | .devStatus .. | .devFaultLog .. | .configWrite .. | .configLoad ..
  | .configCommit .. | .configRollback .. | .configRead .. | .configDiscard .. | .configStore .. | .ctxRead ..
  | .worldFieldRead .. | .planFrameRead .. | .planResultRead .. | .planHandoffRead .. | .flowRead ..
  | .longStatus .. | .longSuspend .. | .roadmapBuild .. | .wavefrontFull .. | .deepPlan .. | .fieldRebuild ..
  | .memScrub .. | .snapSave .. | .zhdExport .. | .diagRead .. | .xmssKeygen .. | .cascStatus ..
  | .pwrStatus .. =>
    [.cowslip, .cmd, .host]
  | .ctxAlloc .. | .ctxFree .. | .ctxActivate .. | .ctxDeactivate .. | .ctxWrite .. | .ctxSeedSet ..
  | .ctxGoalSet .. | .ctxTreeReset .. | .flowOpen .. | .flowClose .. | .timerSet .. | .timerCancel ..
  | .longResume .. =>
    [.teasel, .cowslip, .cmd, .host]
  | .worldOcc .. | .worldState .. =>
    [.world, .cowslip, .cmd, .safety, .clock, .host, .freeIx]
  | .worldKeepoutSet .. | .worldKeepoutClear .. =>
    [.world, .cowslip, .cmd, .host]
  | .rearm .. =>
    [.commit, .cowslip, .cmd, .host]
  | .flowPush .. =>
    [.poppy, .teasel, .cowslip, .cmd, .host]
  | .flowFlush .. =>
    [.teasel, .cowslip, .cmd, .mem, .ddr, .sram, .host]
  | .longCancel .. | .tileRequalify .. =>
    [.cornflower, .zheda, .teasel, .cowslip, .cmd, .safety, .host]
  | .snapPause .. | .replay .. =>
    [.zheda, .cowslip, .cmd, .host]
  | .snapResume .. =>
    [.tick, .zheda, .cowslip, .cmd, .host]
  | .snapLoad .. =>
    [.tick, .world, .aster, .lupin, .cornflower, .vetch, .commit, .zheda, .teasel, .cowslip, .cmd, .host]
  | .diagInject .. =>
    [.cowslip, .cmd, .safety, .host]
  | .secAttest .. =>
    [.cowslip, .cmd, .safety, .clock, .host, .sec, .freeIx]
  | .secLifecycle .. =>
    [.cornflower, .zheda, .teasel, .cowslip, .cmd, .safety, .mem, .host, .sec]
  | .cascMemberRemove .. | .cascMemberAdd .. =>
    [.cowslip, .cmd, .host, .casc]
  | .pwrOpSet .. | .clkSpreadSet .. =>
    [.cowslip, .cmd, .clock, .host]
  | .pwrClusterSet .. =>
    [.world, .harebell, .cornflower, .bindweed, .cowslip, .cmd, .mem, .sram, .clock, .host]
  | .lifecycleFuseBlown =>
    allBut [.ident, .now, .freeIx, .pending]

/-! ### End of the table -/

/-! ### Families -/

/-- The families of commands. -/
inductive Family where
  /-- tick edges and the work between them (01 to 11) -/
  | tickWork
  /-- E-stop, network, PTP and cascade events (09, 17, 19) -/
  | outside
  /-- doorbells, rings, mailboxes, counters, watches (12, 13) -/
  | sync
  /-- register and window accesses, bus violations (13, 14, 15, 17) -/
  | register
  /-- resets, boot, clocks, power, links, long jobs of Primrose and the NOR (16, 17, 18) -/
  | board
  /-- command packets (13) -/
  | packet
  deriving DecidableEq, Repr

/-- The family of a command. -/
def family (c : Instr) : Family :=
  match c with
  | .internalTickEdge .. | .tickInEdge .. | .holdoverEdge .. | .ptpTickEdge .. | .commitCheckJob ..
  | .decisionItem | .egressSelect .. | .egressGateOpen .. | .egressGateClose .. | .trajFrameSent ..
  | .contextLoad .. | .collisionPhase .. | .rosterTagReject .. | .occupancyPredictor .. | .cornflowerTransform
  | .wavefrontRings | .fieldAssembly | .fieldBroadcast .. | .clusterSelection .. | .dieMerge .. | .cascadeMerge
  | .critic .. | .reRank .. | .vetchFeasibility .. | .vetchIteration .. | .vetchStop .. | .vetchWindowCut ..
  | .proposalNetwork .. | .handoff .. | .backgroundDispatch .. | .backgroundSliceEnd .. | .flowItemComplete ..
  | .testSliceStart .. | .testSliceEnd .. | .coverageExceeded .. | .zhedaRecordWrite .. | .checkpointCapture ..
  | .replayStep | .peekComplete .. => .tickWork
  | .estopActive .. | .estopInactive .. | .estopRearmReady .. | .syncLost .. | .ptpSyncRx .. | .ethFrameRx ..
  | .ulbFrameRx .. | .ulbPortTrained .. | .ulbPortDown .. | .cascTickTimeout .. | .bestMasterChange ..
  | .ethLossOfSignal .. => .outside
  | .sqDoorbell .. | .cqDoorbell .. | .ringEnable .. | .mailboxCommit .. | .mailboxStageWrite ..
  | .mailboxAck .. | .doorbellWrite .. | .doorbellServiceRead .. | .counterValue .. | .counterAdd ..
  | .counterSub .. | .counterFetchInc .. | .counterAttr .. | .coreStallTimeout .. | .watchArm ..
  | .firedRead .. => .sync
  | .counterLoRead .. | .latchingLoRead .. | .tempPeakRead | .fsPeekStart .. | .ctgPeekSelect ..
  | .flowRecordSelect .. | .ledgerSelect .. | .thiUnfreeze .. | .clkDomainReset .. | .bar2WindowSelect ..
  | .msixVectorUnmask .. | .registerWrite .. | .bar2Access .. | .pcieRequestRx .. | .thistleViolation ..
  | .dmaReadError .. => .register
  | .perstAssert | .functionLevelReset | .pcieLinkDown | .powerStateChange .. | .usbCommandTransfer ..
  | .usbBusReset | .usbSuspend | .usbRecoveryImage .. | .porRelease .. | .porAssert | .sysReset | .bootReady ..
  | .bootFail .. | .xtalWindow .. | .xtalTimeout .. | .pllLossOfLock .. | .sparePllLocked ..
  | .clockMonitorWindow .. | .domainResetDone .. | .regulatorInRegulation .. | .avsTimeout | .pmbusAlert
  | .thermalSample .. | .supplyExcursion .. | .vddAonLow | .tamperDetect .. | .secureWipeDone ..
  | .scrubGranule .. | .configLoadDone | .configStagingDone .. | .supplyRecovered | .sysResetRelease
  | .perstRelease | .pcieLinkUp .. | .usbConnect .. | .usbResume | .configStoreDone .. | .snapSaveDone
  | .attestReportDone | .lifecycleFuseBlown | .fwUpdateProgrammed .. => .board
  | .nop .. | .devInfo .. | .devStatus .. | .devFaultLog .. | .devReset .. | .configWrite .. | .configLoad ..
  | .configCommit .. | .configRollback .. | .configRead .. | .configDiscard .. | .configStore .. | .ctxAlloc ..
  | .ctxFree .. | .ctxActivate .. | .ctxDeactivate .. | .ctxWrite .. | .ctxRead .. | .ctxSeedSet ..
  | .ctxGoalSet .. | .ctxTreeReset .. | .worldOcc .. | .worldState .. | .worldKeepoutSet ..
  | .worldKeepoutClear .. | .worldFieldRead .. | .planFrameRead .. | .planResultRead .. | .planHandoffRead ..
  | .rearm .. | .flowOpen .. | .flowPush .. | .flowClose .. | .flowFlush .. | .flowRead .. | .timerSet ..
  | .timerCancel .. | .longStatus .. | .longSuspend .. | .longResume .. | .longCancel .. | .roadmapBuild ..
  | .wavefrontFull .. | .deepPlan .. | .fieldRebuild .. | .memScrub .. | .tileRequalify .. | .snapPause ..
  | .snapResume .. | .snapSave .. | .snapLoad .. | .replay .. | .zhdExport .. | .diagRead .. | .diagInject ..
  | .secAttest .. | .secLifecycle .. | .secFwUpdate .. | .xmssKeygen .. | .cascStatus .. | .cascMemberRemove ..
  | .cascMemberAdd .. | .pwrOpSet .. | .clkSpreadSet .. | .pwrClusterSet .. | .pwrStatus .. => .packet

/-! ### End of the families -/

end Sys2Proof.Machine
end

