-- ==== Sys2Proof/Certificates/Slice0/Obligations.lean ====
section
/-! DEFINITION. The statements for the provers. -/

open Sys2Proof Sys2Proof.Machine

/-! ### The queue, idling, and time -/

/-- For every command c and state s, a step of s with c at the front of its queue is exec of c on s with the queue's rest. On an
empty queue the block idles, which is the model's choice (log entry 15). -/
def Obligations.StepRunsFront : Prop :=
  (∀ (c : Instr) (rest : List Instr) (s : State), step (s.setPending (c :: rest)) = exec c (s.setPending rest)) ∧
  (∀ s : State, s.pending = [] → step s = .next s)

/-- First in, first out (the queue is the model's own, log entry 15): whatever the command at the front does, it takes itself from the queue and nothing else. -/
def Obligations.QueueIsFifo : Prop :=
  ∀ (s t : State) (c : Instr) (rest : List Instr), s.pending = c :: rest → step s = .next t → t.pending = rest

/-- No command ends a run: every step of every state answers a next state. -/
def Obligations.EveryStepAnswers : Prop := ∀ s : State, ∃ t, step s = .next t

/-- Device time never runs back (R11); the clock `now` is the model's own state. -/
def Obligations.TimeNeverRunsBack : Prop := ∀ s t : State, step s = .next t → s.now ≤ t.now

/-! ### Invariants -/

/-- The two memories keep their canonical form: addresses strictly rising, no entry equal to what an unlisted address reads
as (that byte, 0, is the model's choice, log entry 1). -/
def Obligations.StepKeepsMemoryForm : Prop :=
  ∀ s t : State, s.mem.ddr.wf = true ∧ s.mem.sram.wf = true → step s = .next t →
    t.mem.ddr.wf = true ∧ t.mem.sram.wf = true

/-- They have it at reset. -/
def Obligations.ResetMemoryForm : Prop := State.reset.mem.ddr.wf = true ∧ State.reset.mem.sram.wf = true

/-- Fuses are blown one way only: no step lowers the lifecycle state or the rollback counter (R448,
R454). -/
def Obligations.FusesAreOneWay : Prop :=
  ∀ (lifecycle rollback : Nat) (s t : State),
    lifecycle ≤ s.sec.fuses.lifecycle ∧ rollback ≤ s.sec.fuses.rollback → step s = .next t →
    lifecycle ≤ t.sec.fuses.lifecycle ∧ rollback ≤ t.sec.fuses.rollback

/-! ### Frames: what each command leaves unchanged -/

/-- Tick edges, the work between them, and E-stop, network, PTP and cascade events leave every part unchanged that `mayChange`
does not list for them. -/
def Obligations.TickFrame : Prop :=
  (∀ (c : Instr) (s t : State) (p : Part), family c = .tickWork → exec c s = .next t → p ∉ mayChange c → p.kept s t) ∧
  (∀ (c : Instr) (s t : State) (p : Part), family c = .outside → exec c s = .next t → p ∉ mayChange c → p.kept s t)

/-- Doorbells, rings, mailboxes, counters, watches, register accesses and window accesses likewise. -/
def Obligations.AccessFrame : Prop :=
  (∀ (c : Instr) (s t : State) (p : Part), family c = .sync → exec c s = .next t → p ∉ mayChange c → p.kept s t) ∧
  (∀ (c : Instr) (s t : State) (p : Part), family c = .register → exec c s = .next t → p ∉ mayChange c → p.kept s t)

/-- Resets, boot, clocks, power, links and long jobs likewise. -/
def Obligations.BoardFrame : Prop :=
  ∀ (c : Instr) (s t : State) (p : Part), family c = .board → exec c s = .next t → p ∉ mayChange c → p.kept s t

/-- Command packets likewise: a packet changes the objects its rules name and the path that answers it, nothing else. -/
def Obligations.PacketFrame : Prop :=
  ∀ (c : Instr) (s t : State) (p : Part), family c = .packet → exec c s = .next t → p ∉ mayChange c → p.kept s t

/-! ### Command packets: the gate and the answers -/

/-- A packet whose path does not take it (its processor stopped or frozen, its ring disabled, faulted or out of completion
room, or an earlier command open before a fence) changes nothing (R318, R319, R322, R326). -/
def Obligations.UntakenPacketChangesNothing : Prop :=
  ∀ (c : Instr) (s : State) (r : Request), request c s = some r → s.takes r.hdr = false → exec c s = .next s

/-- A packet taken that fails one of checks 5 to 7 is answered by one final completion, whose status is that of the first
check it fails, and nothing else happens but what CONFIG and SEC_LIFECYCLE refusals leave (REJECTED, a new nonce)
(R324, R340). -/
def Obligations.FailedCheckAnswersItsStatus : Prop :=
  ∀ (c : Instr) (s : State) (r : Request) (st : Status), request c s = some r → s.takes r.hdr = true →
    r.refusal s = some st → exec c s = .next (afterRefusal c (s.answered r.hdr r.op st))

/-- The 32 bytes of a final completion on a ring (Table 13-4). -/
def finalEntry (h : Hdr) (op : Nat) (st : Status) (data : List Byte) (phase : Bool) : List Byte :=
  let b : List Byte := [1, if phase then 0x81 else 0x01] ++ toLe 2 st.code ++ toLe 4 h.tag.toNat ++ toLe 4 h.seq.toNat ++
    toLe 2 op ++ toLe 2 (min 12 data.length) ++ (data ++ List.replicate 12 0).take 12
  b ++ toLe 4 (crc32c b).toNat

/-- A final completion on a ring with room: its 32 bytes stand in host memory at the completion tail, every other byte of
host memory is as before, the tail moves on by one entry (and the phase turns over when it wraps), one packet fewer is
open, and the other paths are as before (R322, R325). -/
def Obligations.FinalCompletionOnRing : Prop :=
  ∀ (s : State) (h : Hdr) (op : Nat) (st : Status) (data : List Byte), h.ring < 64 → quietDrop h op st = false →
    s.host.mem.wf = true → (s.ring h.ring).en = true → s.host.up = true → (s.ring h.ring).held = [] →
    (s.ring h.ring).full = false → s.pathFrozen h.ring = false →
    let g := s.ring h.ring
    let t := s.final h op st data
    let base := g.cqBase.toNat / 4096 * 4096 + g.cqTail * 32
    (∀ i < 32, t.host.mem.read (base + i) = (finalEntry h op st data g.phase).getD i 0) ∧
    (∀ a, a < base ∨ base + 32 ≤ a → t.host.mem.read a = s.host.mem.read a) ∧
    (t.ring h.ring).cqTail = (g.cqTail + 1) % g.cqSize ∧
    (t.ring h.ring).phase = (if (g.cqTail + 1) % g.cqSize = 0 then !g.phase else g.phase) ∧
    (t.ring h.ring).opened = g.opened - 1 ∧
    (∀ r, r ≠ h.ring → t.ring r = s.ring r)

/-- A final completion on a ring that has no room is held in order, and no more packets are taken from the ring
(CQ_FULL), until the host reads completions (R322). That a ring of n entries is full at n − 1 is the model's reading (log entry 40). -/
def Obligations.CompletionWaitsForRoom : Prop :=
  ∀ (s : State) (h : Hdr) (op : Nat) (st : Status) (data : List Byte), h.ring < 64 → quietDrop h op st = false →
    (s.ring h.ring).en = true → s.host.up = true → (s.ring h.ring).full = true →
    let t := s.final h op st data
    t.host = s.host ∧ (t.ring h.ring).cqFull = true ∧
    ∃ c : Cpl, (t.ring h.ring).held = (s.ring h.ring).held ++ [c] ∧
      ∀ phase, c.bytes phase = finalEntry h op st data phase

/-! ### What each command packet does when every check passes -/

/-- Where a reply goes (R309, R329): to RADDR in host memory with `data` in the completion; in place of that, on a mailbox
with RADDR 0, into bytes 32 to 63 with their count in DATA; on USB, after the completion. -/
def replied (s : State) (h : Hdr) (op raddr : Nat) (reply data : List Byte) : State :=
  if h.ring < 64 ∨ raddr ≠ 0 then (s.hostWrite raddr reply).final h op .ok data
  else s.final h op .ok (if h.ring = 80 then data else toLe 4 reply.length) reply

/-- The commands that read. NOP, DEV_STATUS, FLOW_READ, CASC_STATUS, PWR_STATUS and LONG_STATUS answer in the DATA of one final
completion and change nothing else. DEV_INFO, CTX_READ, PLAN_FRAME_READ and DIAG_READ reply with the bytes they name, at
once. DEV_FAULT_LOG, CONFIG_READ, WORLD_FIELD_READ, PLAN_RESULT_READ, PLAN_HANDOFF_READ and ZHD_EXPORT acknowledge with
ST_PENDING, then reply. Which addresses DIAG_READ reads is the model's reading (log entry 20). -/
def Obligations.ReadCommandsReply : Prop :=
  (∀ (h : Hdr) (s : State), accepts (.nop h) s = true → exec (.nop h) s = .next (s.answered h 0x0100 .ok)) ∧
  (∀ (h : Hdr) (s : State), accepts (.devStatus h) s = true →
    exec (.devStatus h) s = .next (s.answered h 0x0102 .ok (s.taken h).devStatus)) ∧
  (∀ (h : Hdr) (flow : Word) (s : State), accepts (.flowRead h flow) s = true →
    exec (.flowRead h flow) s = .next (s.answered h 0x0604 .ok
      (((s.flow flow.toNat).words.take 3).flatMap fun w => toLe 4 w.toNat))) ∧
  (∀ (h : Hdr) (s : State), accepts (.cascStatus h) s = true →
    exec (.cascStatus h) s = .next (s.answered h 0x0B00 .ok s.cascStatus)) ∧
  (∀ (h : Hdr) (s : State), accepts (.pwrStatus h) s = true →
    exec (.pwrStatus h) s = .next (s.answered h 0x0C03 .ok
      (toLe 4 s.clock.pwrStat.toNat ++ toLe 4 s.clock.domStat.toNat ++ toLe 4 s.clock.bootWord.toNat))) ∧
  (∀ (h : Hdr) (handle : Half) (o : LongOp) (s : State), accepts (.longStatus h handle) s = true →
    s.longAt (handle.toNat % 64) = some o →
    exec (.longStatus h handle) s = .next (s.answered h 0x0700 .ok
      ([BitVec.ofNat 8 o.state.code, 0] ++ toLe 2 o.opcode ++ toLe 4 o.slices ++ [BitVec.ofNat 8 o.hdr.ring, 0, 0, 0]))) ∧
  (∀ (h : Hdr) (raddr : Dword) (s : State), accepts (.devInfo h raddr) s = true →
    exec (.devInfo h raddr) s = .next (replied (s.taken h) h 0x0101 raddr.toNat (s.taken h).devInfo [])) ∧
  (∀ (h : Hdr) (copy : Byte) (off : Half) (len : Word) (raddr : Dword) (s : State),
    accepts (.ctxRead h copy off len raddr) s = true →
    exec (.ctxRead h copy off len raddr) s = .next (replied (s.taken h) h 0x0305 raddr.toNat
      ((List.range len.toNat).map fun i => (s.ctx h.ctx).byteAt (copy.toNat == 1) (off.toNat + i)) (word4 len.toNat))) ∧
  (∀ (h : Hdr) (slot : Byte) (raddr : Dword) (e : EgressEntry) (s : State),
    accepts (.planFrameRead h slot raddr) s = true → Tbl.find? s.host.egress slot.toNat = some e →
    exec (.planFrameRead h slot raddr) s = .next (replied (s.taken h) h 0x0500 raddr.toNat e.protectedBytes
      (toLe 4 e.protectedBytes.length))) ∧
  (∀ (h : Hdr) (addr : Dword) (len : Word) (raddr : Dword) (s : State), accepts (.diagRead h addr len raddr) s = true →
    exec (.diagRead h addr len raddr) s = .next (replied (s.taken h) h 0x0900 raddr.toNat
      ((List.range len.toNat).map fun i => (s.diagByte? (addr.toNat + i)).getD 0) [])) ∧
  (∀ (h : Hdr) (first count : Word) (raddr : Dword) (s : State), accepts (.devFaultLog h first count raddr) s = true →
    exec (.devFaultLog h first count raddr) s = .next (replied (s.pended h 0x0103) h 0x0103 raddr.toNat
      ((s.safety.entries first count.toNat).flatMap FaultEntry.bytes)
      (toLe 4 (s.safety.entries first count.toNat).length))) ∧
  (∀ (h : Hdr) (n : Byte) (off len : Word) (raddr : Dword) (b : BundleSlot) (s : State),
    accepts (.configRead h n off len raddr) s = true → s.cmd.slotNo n.toNat = some b →
    exec (.configRead h n off len raddr) s = .next (replied (s.pended h 0x0204) h 0x0204 raddr.toNat
      (b.bytes.reads off.toNat len.toNat) (toLe 4 len.toNat))) ∧
  (∀ (h : Hdr) (raddr : Dword) (f : BuiltField) (s : State), accepts (.worldFieldRead h raddr) s = true →
    s.heldField = some f →
    exec (.worldFieldRead h raddr) s = .next (replied (s.pended h 0x0404) h 0x0404 raddr.toNat (f.img.reads 0 imageBytes)
      (toLe 8 f.version ++ toLe 4 f.crc.toNat))) ∧
  (∀ (h : Hdr) (slot : Byte) (raddr : Dword) (d : DieRes) (s : State), accepts (.planResultRead h slot raddr) s = true →
    (s.popSlot slot.toNat).result = some d →
    exec (.planResultRead h slot raddr) s = .next (replied (s.pended h 0x0501) h 0x0501 raddr.toNat d.bytes
      (toLe 4 d.bytes.length))) ∧
  (∀ (h : Hdr) (slot : Byte) (raddr : Dword) (x : HandOff) (s : State), accepts (.planHandoffRead h slot raddr) s = true →
    (s.vetSlot slot.toNat).handoff = some x →
    exec (.planHandoffRead h slot raddr) s = .next (replied (s.pended h 0x0502) h 0x0502 raddr.toNat
      ((List.range 0x5040).map x.byte) (toLe 4 0x5040))) ∧
  (∀ (h : Hdr) (first : Dword) (count : Word) (journal : Byte) (raddr : Dword) (s : State),
    accepts (.zhdExport h first count journal raddr) s = true →
    exec (.zhdExport h first count journal raddr) s = .next (replied (s.pended h 0x0805) h 0x0805 raddr.toNat
      (s.zheda.exported first.toNat count.toNat (journal.toNat == 1))
      (toLe 4 (s.zheda.exported first.toNat count.toNat (journal.toNat == 1)).length)))

/-- The configuration commands (R335 to R339): CONFIG_WRITE stores its chunk; CONFIG_LOAD and CONFIG_COMMIT start their
job and CONFIG_COMMIT empties the previous slot; CONFIG_ROLLBACK asks for the switch; CONFIG_DISCARD empties the staged
slot; CONFIG_STORE starts storing the active bundle. -/
def Obligations.ConfigCommandsAct : Prop :=
  (∀ (h : Hdr) (off : Word) (bs : List Byte) (s : State), accepts (.configWrite h off bs) s = true →
    exec (.configWrite h off bs) s = .next (((s.taken h).onCmd fun c => { c with
      chunks := c.chunks.writes off.toNat bs }).final h 0x0200 .ok)) ∧
  (∀ (h : Hdr) (gen : Word) (source : Byte) (addr : Dword) (len : Word) (digest : List Byte) (s : State),
    accepts (.configLoad h gen source addr len digest) s = true →
    exec (.configLoad h gen source addr len digest) s = .next ((s.pended h 0x0201).onCmd fun c => { c with
      phase := .loading h gen.toNat (if source.toNat = 0 then some addr.toNat else none) len.toNat digest })) ∧
  (∀ (h : Hdr) (gen : Word) (s : State), accepts (.configCommit h gen) s = true →
    exec (.configCommit h gen) s = .next ((s.pended h 0x0202).onCmd fun c => { c with
      phase := .staging h gen.toNat, previous := none })) ∧
  (∀ (h : Hdr) (gen : Word) (s : State), accepts (.configRollback h gen) s = true →
    exec (.configRollback h gen) s = .next (((s.taken h).onCmd fun c => { c with rollback := true }).final h 0x0203 .ok)) ∧
  (∀ (h : Hdr) (s : State), accepts (.configDiscard h) s = true →
    exec (.configDiscard h) s = .next (((s.taken h).onCmd fun c => { c with
      staged := none, chunks := [] }).final h 0x0205 .ok)) ∧
  (∀ (h : Hdr) (b : BundleSlot) (s : State), accepts (.configStore h) s = true → s.cmd.active = some b →
    exec (.configStore h) s = .next ((s.pended h 0x0206).onCmd fun c => { c with storing := some (h, b) }))

/-- Puts a command in the list that the next accepted tick edge executes in the order of R115. -/
def awaits (s : State) (h : Hdr) (op : Nat) (c : EdgeCmd) (payload : List Byte) : State :=
  s.onTeasel fun t => { t with waiting := t.waiting ++ [⟨h, c, h.packet op payload⟩] }

/-- Context commands take effect at a tick edge (R115, R289): each joins the list of waiting commands; CTX_ALLOC, FREE,
ACTIVATE and DEACTIVATE answer there, the others at once; CTX_WRITE writes the pending copy and marks it. WORLD_OCC and
WORLD_STATE answer with the disposition of the frame they bring (R62, R344); keep-out commands wait for the next cut-off
(R61); REARM arms the release from the latched stop (R244). -/
def Obligations.ContextAndWorldCommands : Prop :=
  (∀ (h : Hdr) (any model : Byte) (s : State), accepts (.ctxAlloc h any model) s = true →
    exec (.ctxAlloc h any model) s = .next (awaits (s.pended h 0x0300) h 0x0300
      (.ctxAlloc (any == 1) model.toNat) [any, model])) ∧
  (∀ (h : Hdr) (s : State), accepts (.ctxFree h) s = true →
    exec (.ctxFree h) s = .next (awaits (s.pended h 0x0301) h 0x0301 .ctxFree [])) ∧
  (∀ (h : Hdr) (s : State), accepts (.ctxActivate h) s = true →
    exec (.ctxActivate h) s = .next (awaits (s.pended h 0x0302) h 0x0302 .ctxActivate [])) ∧
  (∀ (h : Hdr) (s : State), accepts (.ctxDeactivate h) s = true →
    exec (.ctxDeactivate h) s = .next (awaits (s.pended h 0x0303) h 0x0303 .ctxDeactivate [])) ∧
  (∀ (h : Hdr) (off : Half) (bs : List Byte) (s : State), accepts (.ctxWrite h off bs) s = true →
    exec (.ctxWrite h off bs) s = .next ((awaits ((s.taken h).setCtx h.ctx { s.ctx h.ctx with
        pend := (s.ctx h.ctx).pend.writes off.toNat bs, pendDirty := true })
      h 0x0304 .ctxWrite (toLe 2 off.toNat ++ bs)).final h 0x0304 .ok)) ∧
  (∀ (h : Hdr) (seed : Word) (s : State), accepts (.ctxSeedSet h seed) s = true →
    exec (.ctxSeedSet h seed) s = .next ((awaits (s.taken h) h 0x0306 (.seedSet seed) (toLe 4 seed.toNat)).final h 0x0306 .ok)) ∧
  (∀ (h : Hdr) (boxes : List Box) (s : State), accepts (.ctxGoalSet h boxes) s = true →
    exec (.ctxGoalSet h boxes) s = .next ((awaits (s.taken h) h 0x0307 (.goalSet boxes)
      (toLe 4 boxes.length ++ boxes.flatMap Box.bytes)).final h 0x0307 .ok)) ∧
  (∀ (h : Hdr) (s : State), accepts (.ctxTreeReset h) s = true →
    exec (.ctxTreeReset h) s = .next ((awaits (s.taken h) h 0x0308 .treeReset []).final h 0x0308 .ok)) ∧
  (∀ (h : Hdr) (frame : List Byte) (s : State), accepts (.worldOcc h frame) s = true →
    exec (.worldOcc h frame) s = .next (((s.taken h).receive frame).1.final h 0x0400 .ok
      [BitVec.ofNat 8 ((s.taken h).receive frame).2.code])) ∧
  (∀ (h : Hdr) (frame : List Byte) (s : State), accepts (.worldState h frame) s = true →
    exec (.worldState h frame) s = .next (((s.taken h).receive frame).1.final h 0x0401 .ok
      [BitVec.ofNat 8 ((s.taken h).receive frame).2.code])) ∧
  (∀ (h : Hdr) (id mask : Byte) (b : Box) (s : State), accepts (.worldKeepoutSet h id mask b) s = true →
    exec (.worldKeepoutSet h id mask b) s = .next (((s.taken h).onWorld fun w => { w with
      waitingCmds := w.waitingCmds ++ [{ ring := h.ring, seq := h.seq.toNat, cmd := .keepoutSet id.toNat ⟨b, mask⟩,
                                         bytes := h.packet 0x0402 ([id, mask, 0, 0] ++ b.bytes) }] }).final h 0x0402 .ok)) ∧
  (∀ (h : Hdr) (id : Byte) (s : State), accepts (.worldKeepoutClear h id) s = true →
    exec (.worldKeepoutClear h id) s = .next (((s.taken h).onWorld fun w => { w with
      waitingCmds := w.waitingCmds ++ [{ ring := h.ring, seq := h.seq.toNat,
                                         cmd := if id = 0xFF then .keepoutClearAll else .keepoutClear id.toNat,
                                         bytes := h.packet 0x0403 [id] }] }).final h 0x0403 .ok)) ∧
  (∀ (h : Hdr) (s : State), accepts (.rearm h) s = true →
    exec (.rearm h) s = .next (((s.taken h).onCommit fun c => { c with rearm := true }).final h 0x0503 .ok))

/-- FLOW_OPEN opens the flow; FLOW_CLOSE marks it closing, ends its held pushes and closes it when it is empty; FLOW_FLUSH
ends its waiting items ST_CANCELLED and answers with their number (R284, R287). TIMER_SET puts a timer in delay list 2
under the next timer number, which it answers, or answers ST_QUEUE_FULL where the list is full; TIMER_CANCEL takes the timer
out (R278, R279). -/
def Obligations.FlowAndTimerCommands : Prop :=
  (∀ (h : Hdr) (f : Word) (atomic policy level cq dlExp : Byte) (qlimit : Half) (s : State),
    accepts (.flowOpen h f atomic policy level cq dlExp qlimit) s = true →
    exec (.flowOpen h f atomic policy level cq dlExp qlimit) s = .next (((s.taken h).openFlow f.toNat (atomic.toNat == 1)
      (policy.toNat == 1) level.toNat cq.toNat dlExp.toNat qlimit.toNat).final h 0x0600 .ok)) ∧
  (∀ (h : Hdr) (f : Word) (s : State), accepts (.flowClose h f) s = true →
    exec (.flowClose h f) s = .next ((((s.pended h 0x0602).updFlow f.toNat fun x => { x with
      state := .closing, closer := some h }).cancelHeld f.toNat).closeFlow f.toNat)) ∧
  (∀ (h : Hdr) (f : Word) (s : State), accepts (.flowFlush h f) s = true →
    exec (.flowFlush h f) s = .next
      (((((((s.taken h).heldPushesOf f.toNat).flatMap (·.items)).foldl (fun s b => s.flushHeldItem f.toNat b)
        (((s.taken h).flushable f.toNat).foldl (fun s n => s.endItem n .cancelled []) (s.taken h))).cancelHeld
          f.toNat).retryHeld).final h 0x0603 .ok
        (toLe 4 (((s.taken h).flushable f.toNat).length + (((s.taken h).heldPushesOf f.toNat).flatMap (·.items)).length)))) ∧
  (∀ (h : Hdr) (due : Dword) (dest : Byte) (arg : Half) (s : State), accepts (.timerSet h due dest arg) s = true →
    0 < s.teasel.delayRoom 2 →
    exec (.timerSet h due dest arg) s = .next (((s.taken h).onTeasel fun t =>
      { (t.delayPut 2 due.toNat (.timer t.timerNext (dest.toNat == 1) arg.toNat)) with
        timerNext := (t.timerNext + 1) % 2 ^ 32 }).final h 0x0605 .ok (toLe 4 s.teasel.timerNext))) ∧
  (∀ (h : Hdr) (due : Dword) (dest : Byte) (arg : Half) (s : State), accepts (.timerSet h due dest arg) s = true →
    s.teasel.delayRoom 2 = 0 →
    exec (.timerSet h due dest arg) s = .next (((s.taken h).onTeasel TeaselSt.delayRefused).final h 0x0605 .queueFull)) ∧
  (∀ (h : Hdr) (n : Word) (s : State), accepts (.timerCancel h n) s = true →
    exec (.timerCancel h n) s = .next (((s.taken h).onTeasel fun t => { t with
      delays := modAt (List.filter fun e => !e.isTimer n.toNat) t.delays 2 }).final h 0x0606 .ok))

/-- FLOW_PUSH within the flow's credit queues its items; a push past the credit is refused ST_QUEUE_FULL where the flow says
so, else held ST_PENDING while fewer than 64 pushes are held (R284). -/
def Obligations.FlowPushFollowsCredit : Prop :=
  ∀ (h : Hdr) (f : Word) (items : List (List Byte)) (s : State), accepts (.flowPush h f items) s = true →
    items.any s.rowTooLong = false → (items.any fun b => (s.servers (itemClass b)).isEmpty) = false →
    (items.length ≤ s.credit f.toNat → exec (.flowPush h f items) s = .next ((s.taken h).takePush h f.toNat items)) ∧
    (s.credit f.toNat < items.length → (s.flow f.toNat).refuse = true →
      exec (.flowPush h f items) s = .next ((s.taken h).pushFull h false)) ∧
    (s.credit f.toNat < items.length → (s.flow f.toNat).refuse = false → 64 ≤ s.teasel.heldPushes.length →
      exec (.flowPush h f items) s = .next (s.answered h 0x0601 .busy)) ∧
    (s.credit f.toNat < items.length → (s.flow f.toNat).refuse = false → s.teasel.heldPushes.length < 64 →
      exec (.flowPush h f items) s = .next ((s.pended h 0x0601).onTeasel fun t => { t with
        heldPushes := t.heldPushes ++ [⟨h, f.toNat, items⟩] }))

/-- R202: a pushed row of more than 262,144 values is refused ST_ROW_TOO_LONG and sets ROW_REFUSED, one whose depth k is 0
or above 1,024 is refused ST_BAD_PARAM, and nothing of the push is queued. -/
def Obligations.LongRowRefusedBeforeQueueing : Prop :=
  ∀ (h : Hdr) (f : Word) (items : List (List Byte)) (s : State), s.takes h = true → s.resetting 29 = false →
    f.toNat < 0x40000 → 1 ≤ items.length → items.length ≤ 16 → (s.flow f.toNat).state = .opened →
    (items.all (s.itemOk h) = true → items.any s.rowTooLong = true →
      exec (.flowPush h f items) s = .next (((s.taken h).onPoppy fun p => { p with rowRefused := true }).final h 0x0601
        .rowTooLong)) ∧
    (∀ b ∈ items, itemKind b = 3 ∨ itemKind b = 4 → rowDepth (s.itemArgs b) = 0 ∨ 1024 < rowDepth (s.itemArgs b) →
      exec (.flowPush h f items) s = .next (s.answered h 0x0601 .badParam))

/-- LONG_SUSPEND, LONG_RESUME and LONG_CANCEL (R332, Table 13-8): a queued operation suspends at once and says so, a running
one at its next safe point; a suspend that has not come is withdrawn; a suspended one is queued again, at once or at its due
tick; a queued or suspended one is cancelled at once, a running one at its next safe point. -/
def Obligations.LongControlsFollowStates : Prop :=
  ∀ (h : Hdr) (hd : Half) (o : LongOp) (s : State), s.longAt (hd.toNat % 64) = some o →
    (accepts (.longSuspend h hd) s = true →
      (o.state = .queued → exec (.longSuspend h hd) s = .next (((s.answered h 0x0701 .ok).setLong (hd.toNat % 64)
        { o with state := .suspended }).interimLong o .suspended)) ∧
      (o.state = .running → exec (.longSuspend h hd) s = .next ((s.answered h 0x0701 .ok).setLong (hd.toNat % 64)
        { o with state := .suspendPending }))) ∧
    (∀ tick : Dword, accepts (.longResume h hd tick) s = true →
      (o.state = .suspendPending → exec (.longResume h hd tick) s = .next (((s.taken h).setLong (hd.toNat % 64)
        { o with state := .running }).final h 0x0702 .ok)) ∧
      (o.state = .suspended → tick = 0 → exec (.longResume h hd tick) s = .next
        ((((s.taken h).onTeasel fun t => t.delayDrop 1 (.longOp hd.toNat)).setLong (hd.toNat % 64)
          { o with state := .queued, delayed := false }).final h 0x0702 .ok)) ∧
      (o.state = .suspended → tick ≠ 0 → 0 < (s.teasel.delayDrop 1 (.longOp hd.toNat)).delayRoom 1 →
        exec (.longResume h hd tick) s = .next ((((s.taken h).onTeasel fun t =>
          (t.delayDrop 1 (.longOp hd.toNat)).delayPut 1 tick.toNat (.longOp hd.toNat)).setLong (hd.toNat % 64)
          { o with delayed := true }).final h 0x0702 .ok))) ∧
    (accepts (.longCancel h hd) s = true →
      (o.state = .queued ∨ o.state = .suspended →
        exec (.longCancel h hd) s = .next ((s.answered h 0x0703 .ok).endLong (hd.toNat % 64) .cancelled)) ∧
      (o.state = .running ∨ o.state = .suspendPending →
        exec (.longCancel h hd) s = .next ((s.answered h 0x0703 .ok).setLong (hd.toNat % 64)
          { o with state := .cancelPending })))

/-- Starts a long operation: the lowest free handle slot, with its use count in the handle, and ST_PENDING with the handle
(R331). -/
def started (s : State) (h : Hdr) (op : Nat) (cls : ServerClass) (work : LongWork) : State :=
  (s.taken h).issueLong h op cls work

/-- The long operations start (R331): ROADMAP_BUILD, WAVEFRONT_FULL, DEEP_PLAN, FIELD_REBUILD, MEM_SCRUB and XMSS_KEYGEN;
TILE_REQUALIFY starts the tile's test, or completes with result 1 and no test where the ledger counts four failures (R355);
REPLAY starts from the snapshot named and puts the device in REPLAY (R265). A 65th operation is refused ST_BUSY. The level and
deadline of a long operation are the model's choice (log entry 22). -/
def Obligations.LongOperationsStart : Prop :=
  (∀ (h : Hdr) (nodes seed : Word) (s : State), accepts (.roadmapBuild h nodes seed) s = true →
    exec (.roadmapBuild h nodes seed) s = .next (started s h 0x0710 .cp (.roadmap nodes.toNat seed))) ∧
  (∀ (h : Hdr) (s : State), accepts (.wavefrontFull h) s = true →
    exec (.wavefrontFull h) s = .next (started s h 0x0711 .cfl .wavefront)) ∧
  (∀ (h : Hdr) (count : Word) (k : Half) (tick raddr : Dword) (s : State),
    accepts (.deepPlan h count k tick raddr) s = true →
    exec (.deepPlan h count k tick raddr) s =
      .next (started s h 0x0712 .cp (.deepPlan count.toNat k.toNat tick.toNat raddr.toNat))) ∧
  (∀ (h : Hdr) (o : V3) (raddr : Dword) (s : State), accepts (.fieldRebuild h o raddr) s = true →
    exec (.fieldRebuild h o raddr) s = .next (started s h 0x0713 .cp (.fieldRebuild o raddr.toNat))) ∧
  (∀ (h : Hdr) (start len : Dword) (s : State), accepts (.memScrub h start len) s = true →
    exec (.memScrub h start len) s = .next (started s h 0x0714 .cp (.memScrub start.toNat len.toNat 0 0))) ∧
  (∀ (h : Hdr) (raddr : Dword) (s : State), accepts (.xmssKeygen h raddr) s = true →
    exec (.xmssKeygen h raddr) s = .next (started s h 0x0A03 .cp (.keygen raddr.toNat))) ∧
  (∀ (h : Hdr) (t : Byte) (s : State), accepts (.tileRequalify h t) s = true →
    ((Tbl.get ({} : LedgerEntry) s.sec.nvm.ledger (256 + t.toNat)).declared < 4 →
      exec (.tileRequalify h t) s = .next ((started s h 0x0715 .cp (.tileRequalify t.toNat)).updTile t.toNat fun y =>
        { y with requal := .testing 0, test := .running 0 })) ∧
    (4 ≤ (Tbl.get ({} : LedgerEntry) s.sec.nvm.ledger (256 + t.toNat)).declared →
      exec (.tileRequalify h t) s = .next ((started s h 0x0715 .cp (.tileRequalify t.toNat)).endLong
        (leastFree 0 s.cmd.longs) .ok [1]))) ∧
  (∀ (h : Hdr) (src slot inputs : Byte) (image target input raddr : Dword) (probes : List Probe) (x : Snapshot) (s : State),
    accepts (.replay h src slot inputs image target input raddr probes) s = true →
    s.imageAt src.toNat slot.toNat image.toNat = some x →
    exec (.replay h src slot inputs image target input raddr probes) s = .next
      ((started s h 0x0804 .cp (.replay
        { snap := x, target := target.toNat, next := x.k, fromHost := inputs.toNat == 1,
          inputAddr := input.toNat, raddr := raddr.toNat, probes := probes })).onZheda fun z => { z with run := .replay })) ∧
  (∀ (c : Instr) (s : State) (r : Request), request c s = some r → opClass r.op = .long → s.takes r.hdr = true →
    s.longsFull = true → r.checks.param = true → r.checks.auth = true → (opDomains r.op).any s.resetting = false →
    exec c s = .next (s.answered r.hdr r.op .busy))

/-- The snapshot commands (R255 to R261): SNAP_PAUSE asks for the pause; SNAP_RESUME withdraws it, or from PAUSED sets the
tick number to go on from; SNAP_SAVE starts saving S(k); SNAP_LOAD replaces the device's state with the image's. -/
def Obligations.SnapshotCommandsAct : Prop :=
  (∀ (h : Hdr) (s : State), accepts (.snapPause h) s = true →
    exec (.snapPause h) s = .next ((s.pended h 0x0800).onZheda fun z => { z with run := .pausing, pauser := some h })) ∧
  (∀ (h q : Hdr) (s : State), accepts (.snapResume h) s = true → s.zheda.run = .pausing → s.zheda.pauser = some q →
    exec (.snapResume h) s = .next ((((s.taken h).onZheda fun z => { z with run := .live, pauser := none }).final q 0x0800
      .cancelled).final h 0x0801 .ok)) ∧
  (∀ (h : Hdr) (s : State), accepts (.snapResume h) s = true → s.zheda.run ≠ .pausing →
    exec (.snapResume h) s = .next ((((s.taken h).onTick fun t => { t with
        num := { t.num with val := BitVec.ofNat 64 ((s.zheda.snapIn.map fun x => x.k - 1).getD s.tickNo) }
        lastEdge := some s.now }).onZheda fun z => { z with resumedAt := some s.now }).final h 0x0801 .ok)) ∧
  (∀ (h : Hdr) (dest slot : Byte) (addr : Dword) (s : State), accepts (.snapSave h dest slot addr) s = true →
    exec (.snapSave h dest slot addr) s = .next ((s.pended h 0x0802).onCmd fun c => { c with
      saving := some { hdr := h, snap := s.zheda.current.getD ((s.taken h).takeSnap (s.tickNo + 1)),
                       slot := if dest.toNat = 0 then some slot.toNat else none, addr := addr.toNat } })) ∧
  (∀ (h : Hdr) (src slot : Byte) (addr : Dword) (x : Snapshot) (s : State), accepts (.snapLoad h src slot addr) s = true →
    s.imageAt src.toNat slot.toNat addr.toNat = some x →
    exec (.snapLoad h src slot addr) s = .next ((((s.pended h 0x0803).restore x).onZheda fun z => { z with
      loaded := true, snapIn := some x, current := some x }).final h 0x0803 .ok))

/-- DIAG_INJECT arms its injection (R366); DEV_RESET answers, then resets everything but the always-on part, with cause
DEV_RESET (R418). CASC_MEMBER_REMOVE removes a joining member at once and one in service at the next edge; CASC_MEMBER_ADD
lets a removed member with the same configuration join again (R479, R480). PWR_OP_SET starts a change to the point asked for
with a spare PLL, raising the rail first where the clock rises; CLK_SPREAD_SET asks for the spread at the next edge (R408,
R410). -/
def Obligations.SystemCommandsAct : Prop :=
  (∀ (h : Hdr) (target inst kind : Byte) (tick : Dword) (arg : Word) (s : State),
    accepts (.diagInject h target inst kind tick arg) s = true →
    exec (.diagInject h target inst kind tick arg) s = .next (((s.taken h).onSafety fun f => { f with
      injections := f.injections ++ [{ target := target.toNat, inst := inst.toNat, kind := kind.toNat,
                                       tick := tick.toNat, arg := arg.toNat }] }).final h 0x0901 .ok)) ∧
  (∀ (h : Hdr) (s : State), accepts (.devReset h) s = true →
    exec (.devReset h) s = .next ((s.answered h 0x0104 .ok).cleared false s.clock.holds 4)) ∧
  (∀ (h : Hdr) (p : Byte) (s : State), accepts (.cascMemberRemove h p) s = true →
    ((Tbl.get ({} : Member) s.casc.members p.toNat).state = .joining →
      exec (.cascMemberRemove h p) s = .next (((s.taken h).onCasc fun c => { c with
        members := Tbl.upd {} c.members p.toNat fun m => { m with
          state := .removed, synced := false, snapAt := none } }).final h 0x0B01 .ok)) ∧
    ((Tbl.get ({} : Member) s.casc.members p.toNat).state ≠ .joining →
      exec (.cascMemberRemove h p) s = .next (((s.taken h).onCasc fun c => { c with
        removals := c.removals ++ [p.toNat] }).final h 0x0B01 .ok))) ∧
  (∀ (h : Hdr) (p : Byte) (s : State), accepts (.cascMemberAdd h p) s = true →
    exec (.cascMemberAdd h p) s = .next (((s.taken h).onCasc fun c => { c with
      members := Tbl.upd {} c.members p.toNat fun m =>
        if m.state == .inService || m.state == .joining then m
        else { m with state := .joining, synced := false, snapAt := none } }).final h 0x0B02 .ok)) ∧
  (∀ (h : Hdr) (p : Byte) (spare : Nat) (s : State), accepts (.pwrOpSet h p) s = true → s.clock.freeSpare = some spare →
    exec (.pwrOpSet h p) s = .next (((s.taken h).onClock fun c => { c with
      change := some { target := p.toNat, raising := decide (arithMhz s.clock.op < arithMhz p.toNat), spare := spare }
      opTarget := p.toNat
      targetMv := if arithMhz s.clock.op < arithMhz p.toNat then opMillivolts p.toNat else c.targetMv }).final h 0x0C00
      .ok)) ∧
  (∀ (h : Hdr) (depth rate : Byte) (s : State), accepts (.clkSpreadSet h depth rate) s = true →
    exec (.clkSpreadSet h depth rate) s = .next (((s.taken h).onClock fun c => { c with
      spreadWaiting := some (depth.toNat, rate.toNat) }).final h 0x0C01 .ok))

/-- The security commands (R451, R455, R459, R460): SEC_ATTEST reserves an XMSS index and queues its report; SEC_LIFECYCLE ends what Primrose
holds, writes the transition to the NVM, wipes the secure region and renews the challenge nonce; SEC_FW_UPDATE takes the
image it names. -/
def Obligations.SecurityCommandsAct : Prop :=
  (∀ (h : Hdr) (nonce : List Byte) (raddr : Dword) (nvmOk : Bool) (i : Nat) (u : State) (s : State),
    accepts (.secAttest h nonce raddr nvmOk) s = true → (s.taken h).reserve nvmOk = (some i, u) →
    exec (.secAttest h nonce raddr nvmOk) s = .next ((u.interim h 0x0A00 .pending).onSec fun p => { p with
      cmds := p.cmds ++ [⟨h, .attest nonce raddr.toNat, i⟩] })) ∧
  (∀ (h : Hdr) (nonce : List Byte) (raddr : Dword) (nvmOk : Bool) (u : State) (s : State),
    accepts (.secAttest h nonce raddr nvmOk) s = true → (s.taken h).reserve nvmOk = (none, u) →
    exec (.secAttest h nonce raddr nvmOk) s = .next (u.final h 0x0A00 .authFail)) ∧
  (∀ (h : Hdr) (target : Byte) (token : List Byte) (s : State), accepts (.secLifecycle h target token) s = true →
    exec (.secLifecycle h target token) s = .next ((((s.pended h 0x0A01).endSec).onSec fun p => { p with
      nvm := p.nvm.transition target.toNat token, cmds := [⟨h, .lifecycle target.toNat, 0⟩] }).wipeSecure.freshNonce)) ∧
  (∀ (h : Hdr) (addr : Dword) (len : Word) (s : State), accepts (.secFwUpdate h addr len) s = true →
    exec (.secFwUpdate h addr len) s = .next ((s.pended h 0x0A02).takeImage
      ⟨h, .fwUpdate (FwImage.ofBytes (s.ddrBytes addr.toNat len.toNat)) false, 0⟩
      (FwImage.ofBytes (s.ddrBytes addr.toNat len.toNat))))

/-- R5: a grade E part refuses every request for OP0 with ST_BAD_PARAM. -/
def Obligations.GradeERefusesOP0 : Prop :=
  ∀ (h : Hdr) (s : State), s.ident.fusedGrade = 1 → s.takes h = true →
    exec (.pwrOpSet h 0) s = .next (s.answered h 0x0C00 .badParam)

/-- The bytes of cluster `c` that the debug window shows (Table 15-2, R385): its cluster memory, its core scratchpads (but for the
roadmap bitmaps of a slot that still holds a context, which are shown as the next tick finds them), and its Field Stores. -/
def clusterByteOf (s : State) (c a : Nat) : Prop :=
  (0x1010000000 + c * 0x1000000 ≤ a ∧ a < 0x1010000000 + (c + 1) * 0x1000000) ∨
  ((0x1020000000 + c * 0x800000 ≤ a ∧ a < 0x1020000000 + (c + 1) * 0x800000) ∧
    (0x7F800 ≤ a % 0x200000 → a % 0x200000 < 0x80000 → s.teasel.inSlot' ((a % 0x200000 - 0x7F800) / 0x80) = none)) ∨
  (∃ t, 18 * c ≤ t ∧ t < 18 * c + 18 ∧ 0x1040000000 + t * 0x400000 ≤ a ∧ a < 0x1040000000 + (t + 1) * 0x400000)

/-- R415: PWR_CLUSTER_SET acts in OP3 and answers ST_BUSY elsewhere; its states are 0 ON, 1 RETENTION and 2 OFF; a cluster
switched off reads zero in its memories, and its counters are reset. -/
def Obligations.ClusterSetOnlyInOP3 : Prop :=
  (∀ (h : Hdr) (mask st : Byte) (s : State), s.takes h = true → mask.toNat < 16 → st.toNat < 3 → s.clock.op ≠ 3 →
    exec (.pwrClusterSet h mask st) s = .next (s.answered h 0x0C02 .busy)) ∧
  (∀ (h : Hdr) (mask st : Byte) (s : State), s.takes h = true → mask.toNat < 16 → st.toNat < 3 → s.clock.op = 3 →
    s.mem.sram.wf = true → s.clock.doms.length = 9 →
    ∃ u : State, exec (.pwrClusterSet h mask st) s = .next (u.final h 0x0C02 .ok) ∧
      (∀ c < 4, mask.toNat.testBit c = true →
        u.clock.doms[3 + c]? = some (if st.toNat = 0 then .on else if st.toNat = 1 then .retention else .off)) ∧
      (∀ c < 4, mask.toNat.testBit c = true → st.toNat = 2 →
        (∀ a b, clusterByteOf u c a → u.devByte? a = some b → b = 0) ∧
          ∀ n, counterUnit n = 1 + c → u.bindweed.ctr n = {}) ∧
      (∀ c < 4, mask.toNat.testBit c = false → u.clock.doms[3 + c]? = s.clock.doms[3 + c]?))

/-! ### Tick edges -/

/-- R13: with SRC = TICK_IN a rising edge comes at least PERIOD_US / 2 after the previous accepted edge and is accepted, or
comes earlier, is ignored and counted in SYS_TICK_FAST_CNT with TICK_FAST set. -/
def Obligations.FastTickInEdgeIgnored : Prop :=
  ∀ (e : Edge) (prev : Nat) (s : State), s.edgesRun = true → s.tick.src = 1 → s.tick.holdover = false →
    s.tick.lastEdge = some prev →
    (2 * (e.time - prev) < s.tick.periodUs * 1000 →
      exec (.tickInEdge e) s = .next (((s.advance e.time).onTick fun t => { t with
        lastTickIn := some e.time, fastF := true, fastCnt := t.fastCnt.incr }).serve)) ∧
    (s.tick.periodUs * 1000 ≤ 2 * (e.time - prev) →
      exec (.tickInEdge e) s = .next ((((s.advance e.time).onTick fun t => { t with
        lastTickIn := some e.time }).edge e.ac 1).serve))

/-- An accepted edge gives the tick the next number, takes this instant as the edge, and says which source made it
(R11). -/
def Obligations.EdgeNumbersTheTick : Prop :=
  ∀ (s : State) (ac : Nat) (src : BitVec 2), s.zheda.run = .live →
    (s.edge ac src).tick.num.val = s.tick.num.val + 1 ∧ (s.edge ac src).tick.lastEdge = some s.now ∧
    (s.edge ac src).tick.activeSrc = src

/-- The other sources' edges (R12, R14 to R16): the internal generator with SRC = 0; a PTP edge with SRC = 2 that is not
early; in holdover the internal edge one period after the last, entered 1.5 periods after it; the fourth TICK_IN edge in a
row that qualifies ends holdover. -/
def Obligations.OtherEdgesAccepted : Prop :=
  (∀ (e : Edge) (s : State), s.edgesRun = true → s.tick.src = 0 →
    exec (.internalTickEdge e) s = .next (((s.advance e.time).edge e.ac 0).serve)) ∧
  (∀ (e : Edge) (s : State), s.edgesRun = true → s.tick.src = 2 → s.tick.early e.time = false →
    exec (.ptpTickEdge e) s = .next (((s.advance e.time).edge e.ac 2).serve)) ∧
  (∀ (e : Edge) (prev : Nat) (s : State), s.edgesRun = true → s.tick.src = 1 → s.tick.lastEdge = some prev →
    s.tick.holdover = true → s.tick.periodUs * 1000 ≤ e.time - prev →
    exec (.holdoverEdge e) s = .next (((s.advance e.time).edge e.ac 0).serve)) ∧
  (∀ (e : Edge) (prev : Nat) (s : State), s.edgesRun = true → s.tick.src = 1 → s.tick.lastEdge = some prev →
    s.tick.holdover = false → 3 * s.tick.periodUs * 1000 ≤ 2 * (e.time - prev) →
    exec (.holdoverEdge e) s = .next ((((s.advance e.time).onTick fun t => { t with
      holdover := true, tickInRun := 0, lostF := true }).edge e.ac 0).serve)) ∧
  (∀ (e : Edge) (s : State), s.edgesRun = true → s.tick.src = 1 → s.tick.holdover = true →
    s.tick.qualifies e.time = true → s.tick.tickInRun = 3 → s.tick.acE ≤ e.ac →
    exec (.tickInEdge e) s = .next ((((s.advance e.time).onTick fun t => { t with
      tickInRun := 0, lastTickIn := some e.time, holdover := false }).edge e.ac 1).serve))

/-! ### The items of a tick -/

/-- A commit check job of an entry that is valid in a hand-off that is not stale records what the segment check and the stop
check of the serving tile found (R229 to R231); without an uncorrectable word or FSERR it records nothing else but the
counts. -/
def Obligations.CommitJobRecordsItsChecks : Prop :=
  ∀ (slot : Fin 16) (rank : Fin 8) (f : FgSlot) (h : HandOff) (t : Nat) (e : HEntry) (s : State), s.running = true →
    s.casc.memberInService = false → s.tick.prog.decided = false → s.fgSlot slot = some f → s.handoffIn slot = some h →
    s.jobTile slot rank = some t → h.entries[rank.val]? = some e → e.valid = true → h.stale = false →
    exec (.commitCheckJob slot rank) s = .next ((((s.checkCounts t (s.runChecks slot f t e).seg).checkCounts t
      (s.runChecks slot f t e).stop).updHolSlot slot fun x => { x with
        checks := setAt ((x.checks ++ List.replicate 8 ({} : EntryCheck)).take 8) rank (s.runChecks slot f t e) }))

/-- The decision of a tick is made once: every foreground slot is decided in order and the decision is marked; a second one
changes nothing (R233). -/
def Obligations.DecisionMadeOnce : Prop :=
  (∀ s : State, s.running = true → s.casc.memberInService = false → s.tick.prog.decided = false →
    ∃ u t : State, exec .decisionItem s = .next t ∧ u.tick.prog.decided = true ∧ u.commit.frames = [] ∧
      u.commit.selected = false ∧
      t = (u.teasel.fg.foldl (fun s (e : Nat × FgSlot) => s.decideSlot e.1 e.2) u).castAll 3
        (.decision (u.teasel.fg.foldl (fun s (e : Nat × FgSlot) => s.decideSlot e.1 e.2) u).decisionAnchors)) ∧
  (∀ s : State, s.tick.prog.decided = true → exec .decisionItem s = .next s)

/-- Egress (R236, R438): the selection at the start of the window fixes each frame, once; a gate opens on an enabled port;
as it closes, the frames not yet sent on the port are dropped and counted late; a frame sent leaves the port's list, and its
parts stand on the wire with one counter. -/
def Obligations.EgressWindow : Prop :=
  (∀ (time : Nat) (s : State), s.running = true → s.tick.prog.decided = true → s.commit.selected = false →
    exec (.egressSelect time) s = .next (s.commit.frames.foldl State.selectFrame
      ((((s.advance time).onCommit fun c => { c with selected := true }).updTrace fun t => { t with
        estopEgress := s.commit.estopLatch })))) ∧
  (∀ (port : Fin 2) (time : Nat) (s : State),
    exec (.egressGateOpen port time) s = .next ((s.advance time).onHost fun h => { h with
      ports := modAt (fun x => { x with gate := x.en }) h.ports port })) ∧
  (∀ (port : Fin 2) (s : State), ∃ t : State, exec (.egressGateClose port) s = .next t ∧
    t.commit.frames = (s.commit.frames.map fun q => { q with todo := q.todo.filter (· != port.val) }) ∧
    t.host.txLate = (s.host.txLate || decide (0 < (s.commit.frames.filter fun q => port.val ∈ q.todo).length)) ∧
    t.host.ports = modAt (fun x => { x with
      gate := false
      txLateCnt := x.txLateCnt.add (s.commit.frames.filter fun q => port.val ∈ q.todo).length }) s.host.ports port) ∧
  (∀ (slot : Fin 16) (port : Fin 2) (q : QueuedFrame) (d : EthDest) (c : Half) (s : State),
    (s.commit.frames.find? fun q => q.slot == slot.val) = some q → s.host.destOf q.frame.ctx = some d → s.up = true →
    s.sendsNow q port = true → q.counter = some c → q.sent = true →
    exec (.trajFrameSent slot port) s = .next ((s.updFrame slot fun y => { y with
        sent := true, counter := some c, todo := y.todo.filter (· != port.val) }).onHost fun h => { h with
      wire := h.wire ++ wireFrames port d (chunks (s.host.partSize d) q.frame.bytes.length q.frame.bytes)
        q.frame.bytes.length q.frame.ctx c.toNat s.txInstant
      ports := modAt (fun x => { x with
        txCnt := x.txCnt.add (chunks (s.host.partSize d) q.frame.bytes.length q.frame.bytes).length }) h.ports port
      egress := Tbl.upd { ctx := 0, payload := [], time := 0, counter := none } h.egress slot fun x => { x with
        counter := some c } }))

/-- The context load of a tick without a memory error loads every foreground slot in order and is marked done (R115, R134,
R139). The collision phase writes one record per live evaluation (R160, R163). A roster tag that names a FAILED tile is
counted FORGED, one with a stale generation excludes the engine and fails the tile, and one that matches changes nothing
(R354). -/
def Obligations.TickItemsAct : Prop :=
  (∀ (m : ItemFault) (s : State), s.running = true → s.casc.memberInService = false → m.uncorrectable = none →
    exec (.contextLoad m) s = .next (((s.fgFault m).teasel.fg.foldl
      (fun s (e : Nat × FgSlot) => s.loadSlot e.1 e.2) (s.fgFault m)).updProg fun p => { p with loaded := true })) ∧
  (∀ (m : ItemFault) (flips : List (Nat × FsFlip)) (s : State), s.running = true →
    ∃ t : State, exec (.collisionPhase m flips) s = .next t ∧
      t.harebell.live = ((s.fgFault m).flipStores flips).liveEvals.map ((s.fgFault m).flipStores flips).liveRec ∧
      (((s.fgFault m).flipStores flips).goldSetup = none → t.harebell.golden = [])) ∧
  (∀ (tile : Fin 72) (gen : Half) (s : State),
    ((s.safety.tile tile).role = .failed → (s.safety.tile tile).ghostLogged = true →
      exec (.rosterTagReject tile gen) s = .next (s.onSafety fun f => { f with
        ghostCnt := f.ghostCnt.incr, ghostF := true })) ∧
    ((s.safety.tile tile).role = .failed → (s.safety.tile tile).ghostLogged = false →
      exec (.rosterTagReject tile gen) s = .next (((s.onSafety fun f => { f with
        ghostCnt := f.ghostCnt.incr, ghostF := true }).updTile tile fun y => { y with ghostLogged := true }).logFault 1
          tile 0x0104 0)) ∧
    ((s.safety.tile tile).role ≠ .failed → gen = (s.safety.rots.getD (tile / 18) {}).gen →
      exec (.rosterTagReject tile gen) s = .next s) ∧
    ((s.safety.tile tile).role ≠ .failed → gen ≠ (s.safety.rots.getD (tile / 18) {}).gen →
      ∃ u : State, exec (.rosterTagReject tile gen) s = .next (u.tileFails tile 0x0103) ∧
        u.safety.tagCnt = s.safety.tagCnt.incr ∧
        ∀ p, (s.safety.tile tile).serves = some p → 16 * (tile / 18) + p ∈ u.safety.maskNow))

/-- The W stage (R35, R51, R72, R73, R98, R174, R180): the predictor's probabilities are those of its graph; the transform gives the coarse layers, or
holds the grids where its unit or its input is missing; the rings publish a grid for every foreground slot; assembly builds
the field of this tick with its CRC; the broadcast sends the field, or holds the previous one where none was assembled. -/
def Obligations.WorldStageItems : Prop :=
  (∀ (m : ItemFault) (b : Bundle) (p : Predictor) (s : State), s.running = true → s.casc.memberInService = false →
    s.bundle = some b → b.predictor = some p → m = {} → s.astersRun = true →
    ∃ t : State, exec (.occupancyPredictor m) s = .next t ∧
      t.world.pred = some ((p.graph.eval { seed := b.worldSeed, base := 0xA0000000, tick := s.tickNo }
        (s.predictorIn b p)).1.words.map fun w => (probOf w).1)) ∧
  (∀ (b : Bundle) (s : State), s.running = true → s.casc.memberInService = false → s.bundle = some b →
    (s.transformRuns b = true →
      exec .cornflowerTransform s = .next (s.onWorld fun w => { w with coarse := some (s.fieldInputs b).coarse })) ∧
    (s.transformRuns b = false →
      exec .cornflowerTransform s = .next (s.onCornflower fun c => { c with edtIncomplete := true, ctgHeld := true }))) ∧
  (∀ (b : Bundle) (coarse : List Nat) (s : State), s.running = true → s.bundle = some b → s.zheda.ctl.wfEn = true →
    s.coarseNow = some coarse → s.cornflower.failedMask = 0 →
    exec .wavefrontRings s = .next (s.teasel.fg.foldl (fun s (e : Nat × FgSlot) => s.slotRings b coarse e.1 e.2)
      (s.onCornflower fun c => { c with ringsRanThisTick := true }))) ∧
  (∀ (b : Bundle) (coarse : List Nat) (s : State), s.running = true → s.casc.memberInService = false →
    s.bundle = some b → s.world.coarse = some coarse →
    ∃ (t : State) (f : BuiltField), exec .fieldAssembly s = .next t ∧ t.world.built = some f ∧ f.version = s.tickNo ∧
      f.origin = s.world.origin ∧ f.t0 = s.tick.stamp ∧ f.layerMs = b.layerMs ∧
      f.crc = crc32c (f.img.reads 0 imageBytes) ∧ t.tick.prog.assembled = true) ∧
  (∀ (bad : List (Nat × Nat)) (s : State), s.running = true → s.tick.prog.bcastDone = false →
    (∀ f : BuiltField, s.fieldToSend = some f → ∃ t : State, exec (.fieldBroadcast bad) s = .next t ∧
      t.tick.prog.bcastDone = true) ∧
    (s.fieldToSend = none → ∃ t : State, exec (.fieldBroadcast bad) s = .next t ∧ t.world.fieldHeld = true ∧
      t.world.stores = s.world.stores))

/-- The selection stage (R103, R189, R192, R195, R196, R349, R477): cluster selection makes the exclusion mask final and selects every planned slot; the die merge
merges every slot's four lists, and the cascade merge the members' results; the critic scores the merged result, and the
re-rank publishes it in the order of its new keys. -/
def Obligations.SelectionStageItems : Prop :=
  (∀ (m : ItemFault) (s : State), s.running = true → m.uncorrectable = none →
    ∃ u t : State, exec (.clusterSelection m) s = .next t ∧
      t = u.planSlots.foldl (fun s (e : Nat × FgSlot) => s.selectSlot e.1 e.2) u ∧
      u.safety.exclMask = (s.fgFault m).safety.maskNow ∧ u.poppy.lenSel = u.selLen) ∧
  (∀ (m : ItemFault) (s : State), s.running = true → m.uncorrectable = none →
    ∃ u : State, u = ((s.fgFault m).onCasc fun c => { c with ownResults := [] }).planSlots.foldl
        (fun s (e : Nat × FgSlot) => s.mergeSlot e.1 e.2) ((s.fgFault m).onCasc fun c => { c with ownResults := [] }) ∧
      exec (.dieMerge m) s = .next (u.castMaster 5 (.result (u.planSlots.map fun (e : Nat × FgSlot) =>
        (e.1, Tbl.find? u.casc.ownResults e.1))))) ∧
  (∀ s : State, s.running = true → s.leads = true →
    exec .cascadeMerge s = .next (s.planSlots.foldl (fun s (e : Nat × FgSlot) => s.cascadeSlot e.1 e.2) s)) ∧
  (∀ (slot : Fin 16) (c : Critic) (f : FgSlot) (d : DieRes) (s : State), s.running = true →
    (s.bundle.bind (·.critic)) = some c → s.fgSlot slot = some f → (s.popSlot slot).merged = some d →
    s.astersRun = true →
    ∃ t : State, exec (.critic slot {}) s = .next t ∧
      (t.popSlot slot).scores = some (s.criticScores slot f c d).1) ∧
  (∀ (slot : Fin 16) (c : Critic) (d : DieRes) (sc : List Word) (s : State), s.running = true →
    (s.bundle.bind (·.critic)) = some c → (s.popSlot slot).merged = some d → (s.popSlot slot).scores = some sc →
    exec (.reRank slot) s = .next ((s.publish slot (d.rerank (d.entries.zipIdx.map fun (e : PEntry × Nat) =>
      (criticKey c.shift e.1.cost (sc.getD e.2 0)).1))).updPopSlot slot fun y => { y with
        merged := none, scores := none }))

/-- The Vetch items (R213, R218, R219, R222, R225; the proposal network R100, R101): feasibility takes the first dynamically feasible rank for refinement; an iteration tries one more
step on that entry alone; the stop stage gives every entry its stop; a window cut ends refinement at the iteration in
progress; the proposal network writes the next tick's mixture; the hand-off is made once. -/
def Obligations.VetchItems : Prop :=
  (∀ (slot : Fin 16) (f : FgSlot) (d : DieRes) (m : ItemFault) (s : State), s.running = true → s.vetFg slot = some f →
    (s.vetSlot slot).phase = .idle → s.vetTurn slot = true → m.uncorrectable = none →
    (s.fgFault m).fresh.2.vetResult slot = some d →
    ∃ t : State, exec (.vetchFeasibility slot m) s = .next t ∧ (t.vetSlot slot).work.length = 8 ∧
      (t.vetSlot slot).refRank = firstIx HEntry.dynOk (t.vetSlot slot).work ∧ (t.vetSlot slot).itersTried = 0 ∧
      ((t.vetSlot slot).refRank = none → (t.vetSlot slot).phase = .stopping)) ∧
  (∀ (slot : Fin 16) (f : FgSlot) (r : Nat) (e : HEntry) (m : ItemFault) (s : State), s.running = true →
    s.vetFg slot = some f → (s.vetSlot slot).phase = .refining → (s.vetSlot slot).refRank = some r →
    (s.vetSlot slot).work[r]? = some e → m.uncorrectable = none →
    ∃ (t : State) (e' : HEntry), exec (.vetchIteration slot m) s = .next t ∧
      (t.vetSlot slot).work = (s.vetSlot slot).work.set r e' ∧
      (t.vetSlot slot).itersTried = (s.vetSlot slot).itersTried + 1 ∧
      (t.vetSlot slot).nextAc = (s.vetSlot slot).nextAc + (s.vetLen slot f).lIt) ∧
  (∀ (slot : Fin 16) (f : FgSlot) (m : ItemFault) (s : State), s.running = true → s.vetFg slot = some f →
    (s.vetSlot slot).phase = .stopping → m.uncorrectable = none →
    ∃ t : State, exec (.vetchStop slot m) s = .next t ∧ (t.vetSlot slot).phase = .done ∧
      (t.vetSlot slot).work = (s.vetSlot slot).work.map ((s.fgFault m).vetStopEntry f)) ∧
  (∀ (slot : Fin 16) (s : State), s.running = true → (s.vetFg slot).isSome = true → s.zheda.trace.nonrepro = true →
    ((s.vetSlot slot).phase = .refining → exec (.vetchWindowCut slot) s = .next ((s.onVetch VetchSt.cut).updVetSlot slot
      fun v => { v with
        cutNow := v.itersTried + 1
        phase := .stopping })) ∧
    ((s.vetSlot slot).phase = .stopping → exec (.vetchWindowCut slot) s = .next ((s.onVetch VetchSt.cut).updVetSlot slot
      fun v => { v with phase := .cut }))) ∧
  (∀ (slot : Fin 16) (f : FgSlot) (g : Graph) (m : ItemFault) (s : State), s.running = true → s.fgSlot slot = some f →
    (s.entryOf f.model).proposal = some g → m.uncorrectable = none → (s.fgFault m).astersRun = true →
    ∃ t : State, exec (.proposalNetwork slot m) s = .next t ∧
      Tbl.find? t.aster.mixes (f.ctx * 2 + (s.tickNo + 1) % 2) = some { valid := true, data :=
        (g.eval { seed := f.seed, base := 0xA0100000, tick := s.tickNo }
          [(0, fp32Tensor (Config.features (Mem.reads f.rec' 0x800 256)
            (((s.stateNow f.ctx).map RobotState.words).getD [])))]).1.words }) ∧
  (∀ (m : ItemFault) (s : State), s.running = true → s.tick.prog.handedOff = false →
    (s.casc.memberInService = true → exec (.handoff m) s = .next
      ((s.updProg fun p => { p with handedOff := true }).castMaster 6 s.memberStatus)) ∧
    (s.casc.memberInService = false → ∃ u : State, exec (.handoff m) s = .next
      ((u.updProg fun p => { p with handedOff := true }).castAll 7 (.handoff u.handoffCopies)) ∧
      u.tick = (s.fgFault m).tick)) ∧
  (∀ (m : ItemFault) (s : State), s.tick.prog.handedOff = true → exec (.handoff m) s = .next s)

/-! ### Background work -/

/-- Background slices (R272, R275, R286, R332): the dispatcher gives a free server the first waiting item that fits, or nothing;
the slice of a flow item that goes on frees the server, its last one ends the item; a long operation's slice is counted in
the operation; firmware work leaves the server. -/
def Obligations.BackgroundSlices : Prop :=
  (∀ (c : ServerClass) (server : Fin 64) (ac len : Nat) (s : State), s.up = true → s.teasel.bgEn = true →
    s.zheda.run ≠ .replay → s.serverFree c server = true →
    ((s.reachAc ac).bestChoice c (ac + 4) len = none →
      exec (.backgroundDispatch c server ac len) s = .next (s.reachAc ac)) ∧
    (∀ (x : Choice) (n : Nat) (o : LongOp), (s.reachAc ac).bestChoice c (ac + 4) len = some x → x.work = .long n →
      (s.reachAc ac).longAt n = some o →
      exec (.backgroundDispatch c server ac len) s = .next (((s.reachAc ac).onTeasel fun t => { t with
        running := t.running ++ [{ cls := c, server := server, work := .long n, start := ac + 4, len := x.len }]
        }).sliceStarts n o)) ∧
    (∀ (x : Choice) (n : Nat) (e : PoolEntry), (s.reachAc ac).bestChoice c (ac + 4) len = some x → x.work = .flow n →
      (s.reachAc ac).poolEntry n = some e → ((s.reachAc ac).ctx (itemCtx e.bytes)).state ≠ .free →
      exec (.backgroundDispatch c server ac len) s = .next ((s.reachAc ac).startItem c server (ac + 4) x.len n e))) ∧
  (∀ (c : ServerClass) (server : Fin 64) (ac len : Nat) (s : State), s.serverFree c server = false →
    exec (.backgroundDispatch c server ac len) s = .next s) ∧
  (∀ (c : ServerClass) (server : Fin 64) (last ue : Bool) (errs : List (Nat × GranErr)) (r : Running) (n : Nat)
    (s : State), s.runningOn c server = some r →
    (r.work = .flow n → last = false → ue = false → exec (.backgroundSliceEnd c server last ue errs) s = .next
      (((s.updPool n fun e => { e with slicesDone := e.slicesDone + 1 }).onTeasel fun t =>
        { t with running := t.running.filter fun x => x.work != .flow n }).serve)) ∧
    (r.work = .flow n → (last || ue) = true →
      exec (.backgroundSliceEnd c server last ue errs) s = .next ((s.itemDone r n ue).serve)) ∧
    (r.work = .long n → exec (.backgroundSliceEnd c server last ue errs) s = .next
      ((s.longSliceEnd n last ue errs).serve)) ∧
    (r.work = .firmware n → exec (.backgroundSliceEnd c server last ue errs) s = .next ((s.onTeasel fun t => { t with
      running := t.running.filter fun x => x.work != .firmware n
      fwReady := if last then t.fwReady.filter fun x => x.id != n else t.fwReady }).serve)) ∧
    (r.work = .flow n → exec (.flowItemComplete c server ue) s = .next ((s.itemDone r n ue).serve)))

/-- Field tests (R352, R356 to R358): a slice starts on an idle unit where it fits and keeps it busy; the last slice of a passed
sequence ends it, a failed one logs 0x0110 and takes the unit out; a sequence that lasts past its limit logs 0x0111 once. -/
def Obligations.TestSlices : Prop :=
  (∀ (u : TestUnit) (ac : Nat) (s : State), s.up = true → s.testable u = true → s.unitBusy (testNum u) = false →
    s.testFits (testNum u) ac = true →
    ∃ t : State, exec (.testSliceStart u ac) s = .next t ∧
      t.safety.testing = (s.reachAc ac).safety.testing ++ [⟨testNum u, ac, (testShape (testNum u)).1⟩]) ∧
  (∀ (u : TestUnit) (r : TestResult) (s : State), (s.safety.testing.any fun t => t.unit == testNum u) = true →
    s.safety.failNext (s.testId (testNum u)).1 (s.testId (testNum u)).2 = none →
    let v := s.onSafety fun f => { f with testing := f.testing.filter fun t => t.unit != testNum u }
    (∀ c : Fin 93, u = .cov c → r = .pass → exec (.testSliceEnd u r) s = .next (v.covPasses c).serve) ∧
    (∀ c : Fin 93, u = .cov c → r = .fail → exec (.testSliceEnd u r) s = .next
      (((if c.val < 29 then v.wear (s.testId (testNum u)).1 (s.testId (testNum u)).2 fun l =>
        { l with testsFailed := l.testsFailed + 1 } else v).covFails c none false).serve)) ∧
    (∀ t : Fin 72, u = .tile t → r = .pass ∨ r = .fail →
      exec (.testSliceEnd u r) s = .next (v.tileSlice t (r == .pass) false).serve) ∧
    (u = .vetSpare → r = .pass ∨ r = .fail → exec (.testSliceEnd u r) s = .next (v.vetSlice (r == .pass) false).serve)) ∧
  (∀ (c : Fin 93) (k : Nat) (s : State), (Tbl.get {} s.safety.cov c).startTick = some k →
    s.safety.covUnit.toNat < s.tickNo - k → (Tbl.get {} s.safety.cov c).late = false →
    exec (.coverageExceeded (.cov c)) s = .next (((s.onSafety fun f => { f with covF := true }).logFault
      (s.testId c).1 (s.testId c).2 0x0111 0).onSafety fun f => { f with
        cov := Tbl.upd {} f.cov c fun x => { x with late := true } })) ∧
  (∀ (n : Fin 72) (s : State), (s.safety.tile n).role ≠ .failed → (s.safety.tile n).covLogged = false →
    s.safety.covTile.toNat < s.tickNo - (s.safety.tile n).covTick →
    exec (.coverageExceeded (.tile n)) s = .next (((s.onSafety fun f => { f with covF := true }).logFault
      (s.testId (100 + n)).1 (s.testId (100 + n)).2 0x0111 0).updTile n fun y => { y with covLogged := true }))

/-- Tick records, checkpoints and replay (R75, R261, R262, R264 to R266): the record of the tick before goes to the record ring, or is lost
and counted as a gap; a captured checkpoint goes to the oldest slot, or is abandoned and counted; a replay step runs the
recorded tick on the snapshot; a Field Store peek that is due completes; SNAP_SAVE ends with the image written. -/
def Obligations.TraceItems : Prop :=
  (∀ (x : TickTrace) (s : State), s.up = true → s.zheda.prevTrace = some x →
    (exec (.zhedaRecordWrite false) s = .next (s.onZheda ZhedaSt.gapped)) ∧
    ∃ t : State, exec (.zhedaRecordWrite true) s = .next t ∧ t.zheda.prevTrace = none ∧
      t.zheda.last.val = BitVec.ofNat 64 x.tick ∧
      ∃ r ∈ t.zheda.records, r.tick = x.tick ∧
        r.bytes = x.record s.zheda.records.getLast? s.zheda.fw s.ident.profile.toNat) ∧
  (∀ (x : Capture) (s : State), s.up = true → s.zheda.capture = some x →
    (exec (.checkpointCapture false) s = .next (s.onZheda ZhedaSt.abandon)) ∧
    ∃ t : State, exec (.checkpointCapture true) s = .next t ∧ t.zheda.capture = none ∧ t.zheda.ckptDone = true ∧
      Tbl.find? t.zheda.ckpts s.zheda.oldestSlot = some x.snap) ∧
  (∀ (n : Nat) (o : LongOp) (j : ReplayJob) (s : State), s.replayOp = some (n, o, j) → s.up = true →
    s.zheda.run = .replay →
    (s.replayInput j.fromHost j.inputAddr j.snap.k j.next = none →
      exec .replayStep s = .next (s.endLong n .replayMismatch).serve) ∧
    (∀ (r : ZRecord) (es : List JEntry), s.replayInput j.fromHost j.inputAddr j.snap.k j.next = some (r, es) →
      (entriesMatch r.bytes es = false → exec .replayStep s = .next (s.endLong n .replayMismatch).serve) ∧
      (∀ (x : StepIn) (b c : BundleSlot), entriesMatch r.bytes es = true →
        x = { bytes := r.bytes, entries := es, before := s.flagsAt j (j.next - 1), before2 := s.flagsAt j (j.next - 2) } →
        s.bundleOf x.digest = some c → s.bundleOf j.snap.cfgDigest = some b → j.next ≠ j.target →
        exec .replayStep s = .next (s.afterStep n o { j with
          snap := (s.runStep j.snap b x).fin.takeSnap (j.next + 1)
          next := j.next + 1
          steps := j.steps + 1
          firstDiff := if j.firstDiff.isNone && (s.runStep j.snap b x).differs x then some j.next else j.firstDiff
          faultTick := j.faultTick || r.fault }).serve))) ∧
  (∀ (n : Fin 72) (s : State), (s.store n).peekBusy = true → (s.store n).bcast = false →
    exec (.peekComplete n) s = .next (s.peekEnd n)) ∧
  (∀ (j : SaveJob) (s : State), s.cmd.saving = some j →
    (∀ n, j.slot = some n → exec .snapSaveDone s = .next ((((s.onCmd fun c => { c with saving := none }).putCkpt n
      j.snap).final j.hdr 0x0802 .ok (toLe 4 j.snap.image.length)).serve)) ∧
    (j.slot = none → exec .snapSaveDone s = .next ((((s.onCmd fun c => { c with saving := none }).hostWrite j.addr
      j.snap.image).final j.hdr 0x0802 .ok (toLe 4 j.snap.image.length)).serve)))

/-! ### The outside world -/

/-- The E-stop pin (R242 to R244): a fall latches the stop at once and is counted, a rise starts the time the pin has been
high 2 µs back; neither depends on the tick. -/
def Obligations.EstopPinLatchesAtOnce : Prop :=
  (∀ (time : Nat) (s : State), s.clock.holds.por = false → s.commit.estopActive = false →
    exec (.estopActive time) s = .next ((s.advance time).onCommit fun c => { c with
      estopActive := true
      lastLow := max s.now time
      estopLatch := true
      estopSeen := true
      estopCnt := c.estopCnt.incr
      rearm := false })) ∧
  (∀ (time : Nat) (s : State), s.clock.holds.por = false → s.commit.estopActive = true →
    exec (.estopActive time) s = .next ((s.advance time).onCommit fun c => { c with lastLow := max s.now time })) ∧
  (∀ (time : Nat) (s : State), s.commit.estopActive = true →
    exec (.estopInactive time) s = .next ((s.advance time).onCommit fun c => { c with
      estopActive := false
      lastLow := max c.lastLow (max s.now time - 2000) })) ∧
  (∀ (time : Nat) (s : State), s.commit.estopActive = false → s.commit.lastLow + 10000000 ≤ time →
    exec (.estopRearmReady time) s = .next (s.advance time))

/-- Synchronised time (R17, R440 to R442): losing it marks PTP unlocked and SYNC_LOST; a Sync whose offset passes STEP_NS steps the
clock and counts as lost, a smaller one lets the servo follow; a grandmaster is in sync where its own time is good; the
signal state of a port is as its pins say. A frame received on an enabled port is counted; one that passes the port's filters
and finds room goes to its disposition, one that does not is counted dropped, one without room overflows (R435).
The sign of an offset is the model's reading (log entry 49). -/
def Obligations.NetworkEventsAct : Prop :=
  (∀ (time : Nat) (s : State), ∃ t : State, exec (.syncLost time) s = .next t ∧ t.host.locked = false ∧
    t.host.goodSyncs = 0 ∧ t.tick.syncLost = true ∧ t.tick.lostF = true ∧ t.now = max s.now time) ∧
  (∀ (time : Nat) (port : Fin 2) (offset : Int) (s : State), s.host.xtalOut = false →
    (s.host.ports.getD port {}).en = true → s.host.stepNs.toNat < offset.natAbs →
    ∃ t : State, exec (.ptpSyncRx time port offset) s = .next t ∧ t.host.stepped = true ∧ t.host.locked = false ∧
      t.tick.syncLost = true ∧ t.host.ptpOffset = offset ∧ t.host.ptpSince = max s.now time ∧
      (t.host.ptpBase : Int) = max 0 ((s.host.ptpAt (max s.now time) : Int) - offset)) ∧
  (∀ (time : Nat) (port : Fin 2) (offset : Int) (s : State), s.host.xtalOut = false →
    (s.host.ports.getD port {}).en = true → offset.natAbs ≤ s.host.stepNs.toNat →
    ∃ t : State, exec (.ptpSyncRx time port offset) s = .next t ∧ t.host.ptpOffset = offset ∧
      t.host.goodSyncs = (if offset.natAbs ≤ s.host.lockNs.toNat then min 4 (s.host.goodSyncs + 1) else 0) ∧
      (offset.natAbs ≤ s.host.lockNs.toNat → 3 ≤ s.host.goodSyncs → s.host.gm = false →
        t.host.locked = true ∧ t.tick.syncLost = false)) ∧
  (∀ (time : Nat) (gm : Bool) (s : State), ∃ t : State, exec (.bestMasterChange time gm) s = .next t ∧ t.host.gm = gm ∧
    (gm = true → s.host.profileE2E = false → t.host.locked = (s.host.gmOk && !s.host.xtalOut)) ∧
    (gm = false → t.host.locked = s.host.locked)) ∧
  (∀ (port : Fin 2) (los lock : Bool) (s : State), exec (.ethLossOfSignal port los lock) s = .next (s.onHost fun h => { h with
    ports := modAt (fun x => { x with rxLos := los, blockLock := lock }) h.ports port })) ∧
  (∀ (time : Nat) (port : Fin 2) (fcsOk room : Bool) (bs : List Byte) (s : State), s.up = true →
    (s.host.ports.getD port {}).en = true → s.host.xtalOut = false →
    (fcsOk && (ethParts bs).etherType == 0x88F7) = false → s.casc.memberInService = false →
    let u := (s.advance time).updPort port fun x => { x with rxCnt := x.rxCnt.incr }
    ((s.host.ports.getD port {}).passes fcsOk bs = false →
      exec (.ethFrameRx time port fcsOk bs room) s =
        .next (u.updPort port fun x => { x with rxDropCnt := x.rxDropCnt.incr })) ∧
    ((s.host.ports.getD port {}).passes fcsOk bs = true → room = false →
      exec (.ethFrameRx time port fcsOk bs room) s = .next ((u.updPort port fun x => { x with
        rxOvfCnt := x.rxOvfCnt.incr }).onHost fun h => { h with rxOvf := true })) ∧
    ((s.host.ports.getD port {}).passes fcsOk bs = true → room = true → (s.master 13).frozen = false →
      exec (.ethFrameRx time port fcsOk bs room) s = .next (u.receive (protectedIn bs)).1))

/-- Cascade ports (R465 to R472): a link frame that goes on leaves by the other port with one hop fewer, one for this device
joins its transfer; a trained port starts its sequence anew, and at a member does no more; a port down at a member marks it
so; a member in service without a TICK for 1.5 periods isolates and logs 0x0160. The bytes
of a transfer and the count of hops are the model's (log entries 26 and 168). -/
def Obligations.CascadePortsAct : Prop :=
  (∀ (time : Nat) (port : Fin 2) (bs : List Byte) (s : State), s.up = true → (s.casc.port port).trained = true →
    let f := linkFrameOf bs
    let v := (s.advance time).onCasc fun c => c.updPort port fun x => { x with rxSeq := some f.seq }
    (s.clock.cascRole && f.src == 0 && f.crcOk) = false →
    (s.goesOn f = true → s.isTarget f = false →
      exec (.ulbFrameRx time port bs) s = .next (v.onCasc fun c => c.forward (1 - port) f)) ∧
    (s.goesOn f = false → s.isTarget f = true → s.takesType f = true → (s.master 14).frozen = false →
      exec (.ulbFrameRx time port bs) s = .next (v.takeFrame port (s.casc.port port).rxSeq f).serve) ∧
    (s.goesOn f = false → s.isTarget f = false → exec (.ulbFrameRx time port bs) s = .next v)) ∧
  (∀ (port : Fin 2) (delays : List Nat) (ring second : Bool) (s : State), s.up = true → s.clock.xtalFail = false →
    s.clock.cascRole = false →
    exec (.ulbPortTrained port delays ring second) s = .next (s.onCasc fun c => c.updPort port fun x => { x with
      trained := true
      laneLock := 0xF
      rxSeq := none
      txSeq := 0 })) ∧
  (∀ (port : Fin 2) (delays : List Nat) (ring second : Bool) (s : State), s.up = true → s.clock.xtalFail = false →
    s.clock.cascRole = true → ∃ u : State, exec (.ulbPortTrained port delays ring second) s = .next u.tellPositions ∧
      (second = true → u.casc.dualMaster = true) ∧ (ring = true → u.casc.ring = true)) ∧
  (∀ (port : Fin 2) (lanes : BitVec 4) (s : State), s.clock.cascRole = false →
    exec (.ulbPortDown port lanes) s = .next (s.onCasc fun c => c.updPort port fun x => { x with
      trained := false
      laneLock := lanes
      neighbour := 0xFF })) ∧
  (∀ (port : Fin 2) (lanes : BitVec 4) (s : State), s.clock.cascRole = true →
    exec (.ulbPortDown port lanes) s = .next (s.onCasc fun c => (c.updPort port fun x => { x with
      trained := false
      laneLock := lanes
      neighbour := 0xFF }).routesLost port)) ∧
  (∀ (time k : Nat) (s : State), s.up = true → s.casc.memberInService = true → s.casc.lastTick = some k →
    3 * s.tick.periodUs * 1000 ≤ 2 * (max s.now time - k) →
    exec (.cascTickTimeout time) s = .next ((((s.advance time).isolate).logFault 13 s.casc.position 0x0160 2).serve))

/-! ### Rings, doorbells, mailboxes -/

/-- An access from this master reaches what it names: the host's link is up where the master is the host, and Thistle has not
frozen it (R360, R430). -/
def reaches (s : State) (who : Master) : Bool :=
  (who != .host || s.host.up) && !((who.num.map fun m => (s.master m).frozen).getD false)

/-- Doorbells (R312): a write by a master that may ring it stores the value and makes it pending, or counts it
coalesced while one is pending, and a write by another is refused WRONG_SENDER; the receiver's read clears it; a ring's two
doorbells are written the same way, and RING_CFG configures the ring (R319). Mailboxes (R310, R311): a message by the sender of an
empty mailbox fills its 64-byte slot, whole or by its last word over the staged ones; a staged word changes the staging bytes
alone; a message refused sets its cause; the receiver's ACK empties the slot, another's is refused WRONG_SENDER. -/
def Obligations.DoorbellsRingsMailboxes : Prop :=
  (∀ (d : Fin 256) (who : Master) (v : Word) (s : State), reaches s who = true →
    (bellWriter d who = true → exec (.doorbellWrite d who v) s = .next (s.onCowslip fun c => { c with
      bells := Tbl.upd {} c.bells d fun b =>
        if b.pending then { b with
          value := v
          coalesced := if b.coalesced = 255 then 255 else b.coalesced + 1 }
        else { b with
          value := v
          pending := true } }).serve) ∧
    (bellWriter d who = false → exec (.doorbellWrite d who v) s = .next (s.onCowslip fun c => { c with
      errCause := 1
      errTarget := BitVec.ofNat 8 (0x80 + (d - 128))
      refused := true
      refuseCnt := c.refuseCnt.incr }).serve)) ∧
  (∀ (r : Fin 64) (v : Word) (s : State), exec (.sqDoorbell r v) s = exec (.doorbellWrite ⟨r, by omega⟩ .host v) s ∧
    exec (.cqDoorbell r v) s = exec (.doorbellWrite ⟨64 + r, by omega⟩ .host v) s) ∧
  (∀ (d : Fin 256) (who : Master) (s : State), reaches s who = true →
    let b := Tbl.get {} s.cowslip.bells d
    (who = bellReceiver d → exec (.doorbellServiceRead d who) s = .next ((s.setRdata
      [b.value, packWord [(8, b2n b.pending), (0, b.coalesced.toNat)]]).onCowslip fun c => { c with
        bells := Tbl.upd {} c.bells d fun b => { b with pending := false, coalesced := 0 } })) ∧
    (who ≠ bellReceiver d → exec (.doorbellServiceRead d who) s = .next (s.setRdata [b.value]))) ∧
  (∀ (r : Fin 64) (cfg : Word) (s : State), reaches s .host = true → s.regOk (0x1010 + r * 0x20) = true →
    exec (.ringEnable r cfg) s = .next (s.updRing r fun g => g.cfgWrite cfg).serve) ∧
  (∀ (m : Fin 64) (who : Master) (bs : List Byte) (s : State), reaches s who = true →
    (s.mboxCause m who = none → bs.length = 64 → exec (.mailboxCommit m who (.whole bs)) s = .next (s.fillMbox m bs).serve) ∧
    (∀ c, s.mboxCause m who = some c →
      exec (.mailboxCommit m who (.whole bs)) s = .next (s.mboxRefuse m c).serve)) ∧
  (∀ (m : Fin 64) (who : Master) (v : Word) (s : State), reaches s who = true → s.mboxCause m who = none →
    exec (.mailboxCommit m who (.last v)) s = .next (s.fillMbox m ((s.mbox m).staging.take 60 ++ toLe 4 v.toNat)).serve) ∧
  (∀ (m : Fin 64) (who : Master) (w : Fin 15) (v : Word) (s : State), reaches s who = true →
    (s.mboxCause m who = none → exec (.mailboxStageWrite m who w v) s = .next (s.setMbox m { s.mbox m with
      staging := (s.mbox m).staging.take (4 * w) ++ toLe 4 v.toNat ++ (s.mbox m).staging.drop (4 * w + 4) })) ∧
    (∀ c, s.mboxCause m who = some c → exec (.mailboxStageWrite m who w v) s = .next (s.mboxRefuse m c))) ∧
  (∀ (m : Fin 64) (who : Master) (v : Word) (s : State), reaches s who = true → s.domOn (mboxDomain m) = true →
    let u := s.setMbox m { s.mbox m with
      vector := fld v 16 6
      refused := w1c (s.mbox m).refused v 4
      emptyIe := v.getLsbD 3
      fullIe := v.getLsbD 2 }
    (v.getLsbD 1 = false → exec (.mailboxAck m who v) s = .next u.serve) ∧
    (v.getLsbD 1 = true → mboxReceiver m who = true → exec (.mailboxAck m who v) s = .next (u.emptyMbox m).serve) ∧
    (v.getLsbD 1 = true → mboxReceiver m who = false → exec (.mailboxAck m who v) s = .next (u.mboxRefuse m 1).serve))

/-! ### Counters and watches -/

/-- An operation on this counter reaches its unit: the unit's power domain is on, and the host keeps to its own counters
(R294). -/
def counts (s : State) (who : Master) (n : Nat) : Bool :=
  reaches s who && (who != .host || hostCounter n) && s.domOn (unitDomain (counterUnit n))

/-- R296: the operations of Table 12-1 on a counter that is in no pair: VALUE sets it, ADD and SUB change it under its mode,
FETCH_INC answers the old value and adds 1, ATTR clears SAT and changes the mode of a counter that no pair and no armed watch
holds. Each evaluates the counter's watches. What a host's
operation outside 0x1000 to 0x1FFF answers is the model's reading (log entry 44). -/
def Obligations.CounterOperations : Prop :=
  ∀ (n : Fin 24576) (who : Master) (x : Word) (s : State), counts s who n = true →
    let c := s.bindweed.ctr n
    (s.bindweed.pairOf n = none →
      exec (.counterValue n who x) s =
        .next (s.counterChanged n { s.bindweed with ctrs := Tbl.put s.bindweed.ctrs n { c with value := x } }) ∧
      exec (.counterAdd n who x) s = .next (s.counterChanged n (s.bindweed.store n (c.add x))) ∧
      exec (.counterFetchInc n who) s =
        .next ((s.setRdata [c.value]).counterChanged n (s.bindweed.store n (c.add 1)))) ∧
    ((s.bindweed.pairOf n).isSome = true →
      exec (.counterValue n who x) s = .next (s.onBindweed fun b => b.refuse n 1 (who == .host))) ∧
    (c.seqMode = false → exec (.counterSub n who x) s = .next (s.counterChanged n (s.bindweed.store n (c.sub x)))) ∧
    (c.seqMode = true → exec (.counterSub n who x) s = .next (s.onBindweed fun b => b.refuse n 1 (who == .host))) ∧
    (exec (.counterAttr n who x) s = .next (s.onBindweed fun b => { b with
      ctrs := Tbl.put b.ctrs n
        (if x.getLsbD 0 ≠ c.seqMode ∧ b.pairOf n = none ∧ b.armedOn n = [] then
          { value := 0, sat := w1c c.sat x 1, seqMode := x.getLsbD 0 }
        else { c with sat := w1c c.sat x 1 }) }))

/-- R295: a SAT counter stops at 0xFFFFFFFF and at 0 and marks itself; a SEQ counter wraps. R300: what a pair of a
producer P and a consumer C with B buffers allows. -/
def Obligations.CounterArithmetic : Prop :=
  (∀ (c : Counter) (x : Word), c.seqMode = false →
    ((c.add x).1.value.toNat = min 0xFFFFFFFF (c.value.toNat + x.toNat) ∧
      (c.add x).2 = decide (0xFFFFFFFF < c.value.toNat + x.toNat) ∧ (c.add x).1.sat = (c.sat || (c.add x).2)) ∧
    ((c.sub x).1.value.toNat = c.value.toNat - x.toNat ∧ (c.sub x).2 = decide (c.value.toNat < x.toNat) ∧
      (c.sub x).1.sat = (c.sat || (c.sub x).2))) ∧
  (∀ (c : Counter) (x : Word), c.seqMode = true → c.add x = ({ c with value := c.value + x }, false)) ∧
  (∀ (b : BindweedSt) (n i : Nat) (p : Pair) (d : Word), b.pairOf n = some (i, p) →
    (p.prod = n → (b.addAllowed n d = true ↔ ((b.ctr n).value + d - (b.ctr p.cons).value).toNat ≤ p.bufs)) ∧
    (p.prod ≠ n → (b.addAllowed n d = true ↔ ((b.ctr p.prod).value - ((b.ctr n).value + d)).toNat < 2 ^ 31)))

/-- Watches and stalls (R300, R302, R303, R306): arming a watch that is not refused registers it under the next sequence number; a
refused one stays disarmed and sets WATCH_REFUSED; while it is armed only a write without ARM acts; FIRED reads clear; a stall
held past the limit is refused STALL_TIMEOUT. -/
def Obligations.WatchesAndStalls : Prop :=
  (∀ (w : Fin 2048) (who : Master) (cfg : Word) (s : State), reaches s who = true →
    (who != .host || decide (s.bindweed.hostFirst.toNat ≤ w)) = true →
    let x : Watch := Tbl.get {} s.bindweed.watches w
    let y : Watch := { x with
      armed := false
      consume := cfg.getLsbD 17
      counter := fld cfg 0 15 }
    (cfg.getLsbD 31 = false → exec (.watchArm w who cfg) s =
      .next (s.onBindweed fun b => { b with watches := Tbl.put b.watches w y })) ∧
    (cfg.getLsbD 31 = true → x.armed = true → exec (.watchArm w who cfg) s = .next s) ∧
    (cfg.getLsbD 31 = true → x.armed = false → watchRefused s.bindweed w y = true → exec (.watchArm w who cfg) s =
      .next (s.onBindweed fun b => { b with
        watches := Tbl.put b.watches w y
        watchRefused := true })) ∧
    (cfg.getLsbD 31 = true → x.armed = false → watchRefused s.bindweed w y = false → exec (.watchArm w who cfg) s =
      .next ((s.onBindweed fun b => { b with
        watches := Tbl.put b.watches w { y with armed := true, fired := false, seq := b.regSeq }
        regSeq := b.regSeq + 1 }).evalNew w))) ∧
  (∀ (i : Fin 64) (s : State), reaches s .host = true → exec (.firedRead i) s =
    .next ((s.setRdata [Tbl.get 0 s.bindweed.fired i]).onBindweed fun b => { b with fired := Tbl.del b.fired i })) ∧
  (∀ (unit : Fin 5) (i : Nat) (q : StalledAdd) (s : State), (Tbl.get [] s.bindweed.stalls unit)[i]? = some q →
    exec (.coreStallTimeout unit i) s = .next (s.onBindweed fun b => BindweedSt.refuse { b with
      stalls := Tbl.put b.stalls unit ((Tbl.get [] s.bindweed.stalls unit).eraseIdx i) } q.counter 4 (q.master == .host)))

/-! ### Registers and windows -/

/-- An access to the register at `off` by this master reaches it: Thistle opens the window to the master, and the block's power
domain and crystal serve it (R359, R372, R400, R414). -/
def opens (s : State) (who : Master) (off : Nat) (write : Bool) : Bool :=
  reaches s who && ((windowBreach who off write).isNone || who.num.isNone) && s.regOk off

/-- Register accesses with an effect of their own. Reading the low word of a statistics counter answers it, latches the high
word and clears the counter; reading the low word of a 64-bit pair latches its high word; reading PWR_TEMP clears the peak;
the selection registers choose what their data registers show. THI_UNFREEZE with the violation number of a frozen master
releases it, one that carries foreground work at the next edge, and any other value does nothing; CLK_DOM_RESET resets the
domain but not for the host; MEM_BAR2_SEL moves the window (R43, R75, R362, R372,
R393, R407, R416). -/
def Obligations.RegisterAccessesWithEffect : Prop :=
  (∀ (off : Nat) (c : StatCnt) (put : StatCnt → State) (s : State), opens s .host off false = true →
    s.cntAt off = some (c, put) →
    exec (.counterLoRead off) s =
      .next ((put { val := 0, hi := (if c.val = BitVec.allOnes 48 then 0x80000000 else 0) ||| (c.val.extractLsb' 32 16).setWidth 32 }).setRdata
        [c.val.setWidth 32])) ∧
  (∀ (off time : Nat) (v : Dword) (hi : Word) (put : Word → State) (s : State),
    opens (s.advance time) .host off false = true → (s.advance time).pairAt off = some (v, hi, put) →
    exec (.latchingLoRead off time) s = .next ((put ((v >>> 32).setWidth 32)).setRdata [v.setWidth 32])) ∧
  (∀ s : State, opens s .host 0x10000C false = true →
    exec .tempPeakRead s = .next ((s.setRdata [packWord [(16, unS 16 s.clock.peak), (0, unS 16 (tMax s.clock.temps))]]).onClock
      fun c => { c with peak := 0 })) ∧
  (∀ (tile : Fin 72) (v : Word) (s : State), opens s .host (0x2002C + tile * 0x40) true = true →
    let u := s.updStore tile fun x => { x with
      peekAddr := v.setWidth 22
      peekBusy := true }
    ((s.store tile).bcast = true → exec (.fsPeekStart tile v) s = .next u) ∧
    ((s.store tile).bcast = false → exec (.fsPeekStart tile v) s = .next (u.peekEnd tile))) ∧
  (∀ (slot : Fin 16) (v : Word) (s : State), opens s .host (0x50118 + slot * 0x20) true = true →
    exec (.ctgPeekSelect slot v) s = .next (s.updCflSlot slot fun x => { x with peekCell := fld v 0 16 })) ∧
  (∀ (v : Word) (s : State), opens s .host 0xA0080 true = true →
    exec (.flowRecordSelect v) s = .next (s.onTeasel fun t => { t with
      flowSel := fld v 0 18
      flowData := (s.flow (fldN v 0 18)).words })) ∧
  (∀ (v : Word) (s : State), opens s .host 0xC0300 true = true →
    exec (.ledgerSelect v) s = .next (s.onSafety fun f => { f with
      ledgerSel := fld v 0 12
      ledgerData := (Tbl.get ({} : LedgerEntry) s.sec.nvm.ledger (fldN v 8 4 * 256 + fldN v 0 8)).bytes })) ∧
  (∀ (v : Word) (s : State), s.host.up = true →
    (fldN v 16 16 < 15 → (s.master (fldN v 16 16)).frozen = true → (s.master (fldN v 16 16)).releaseAtEdge = false →
      (s.master (fldN v 16 16)).vseq = fld v 0 16 → fldN v 16 16 ≠ 4 →
      (s.foregroundMaster (fldN v 16 16) = false → exec (.thiUnfreeze v) s = .next ((s.onSafety fun f => { f with
        unfreezeCnt := f.unfreezeCnt.incr }).releaseMaster (fldN v 16 16)).serve) ∧
      (s.foregroundMaster (fldN v 16 16) = true → exec (.thiUnfreeze v) s = .next (s.onSafety fun f => { f with
        unfreezeCnt := f.unfreezeCnt.incr
        masters := Tbl.upd {} f.masters (fldN v 16 16) fun x => { x with held := [], releaseAtEdge := true } }).serve)) ∧
    ((s.master (fldN v 16 16)).vseq ≠ fld v 0 16 → exec (.thiUnfreeze v) s = .next s.serve)) ∧
  (∀ (who : Master) (v : Word) (s : State), who ≠ .host → opens s who 0xF0030 true = true →
    exec (.clkDomainReset who v) s = .next (s.startDomainReset (fldN v 0 6))) ∧
  (∀ (v : Word) (s : State), opens s .host 0xF0030 true = true → exec (.clkDomainReset .host v) s = .next s) ∧
  (∀ (v : Word) (s : State), reaches s .host = true →
    exec (.bar2WindowSelect v) s = .next (s.onMem fun m => { m with bar2Sel := fld v 0 3 }))

/-- The registers whose writes act beyond their own fields, by the offset of the control window. -/
def actsBeyond (off : Nat) : Bool :=
  let o := off % 0x10000
  (off % 4 != 0) || (decide (0x200000 ≤ off) && decide (off < 0x300000)) || (off / 0x10000 == 11) ||
  (off / 0x10000 == 0 && decide (0x1000 ≤ o) && decide (o < 0x1800) && o % 0x20 == 0x10) ||
  (off / 0x10000 == 2 && o % 0x40 == 0x2C && decide (o / 0x40 < 72)) ||
  (off / 0x10000 == 5 && decide (0x100 ≤ o) && decide (o < 0x300) && o % 0x20 == 0x18) ||
  (off / 0x10000 == 10 && o == 0x80) || (off / 0x10000 == 12 && o == 0x300) ||
  (off / 0x10000 == 13 && o == 0x1004) || (off / 0x10000 == 15 && o == 0x30) || (off / 0x10000 == 17 && o == 4)

/-- Register writes: one that acts beyond its own fields is the command of that name; one that reaches nothing is answered
Completer Abort to the host; any other writes its fields and leaves commands, world results, memory and time as they are. -/
def Obligations.RegisterWrites : Prop :=
  (∀ (r : Fin 64) (v : Word) (s : State),
    exec (.registerWrite (0x1010 + r * 0x20) .host v) s = exec (.ringEnable r v) s) ∧
  (∀ (m : Fin 64) (who : Master) (v : Word) (s : State),
    exec (.registerWrite (0xB0100 + m * 4) who v) s = exec (.mailboxAck m who v) s) ∧
  (∀ (d : Fin 256) (who : Master) (v : Word) (s : State),
    exec (.registerWrite (0xB2000 + d * 4) who v) s = exec (.doorbellWrite d who v) s) ∧
  (∀ (w : Fin 2048) (who : Master) (v : Word) (s : State),
    exec (.registerWrite (0x201000 + w * 16) who v) s = exec (.watchArm w who v) s) ∧
  (∀ (n : Fin 24576) (who : Master) (v : Word) (s : State),
    exec (.registerWrite (0x220000 + n * 4) who v) s = exec (.counterValue n who v) s ∧
    exec (.registerWrite (0x240000 + n * 4) who v) s = exec (.counterAdd n who v) s ∧
    exec (.registerWrite (0x260000 + n * 4) who v) s = exec (.counterSub n who v) s ∧
    exec (.registerWrite (0x2A0000 + n * 4) who v) s = exec (.counterAttr n who v) s) ∧
  (∀ (who : Master) (v : Word) (s : State),
    exec (.registerWrite 0xF0030 who v) s = exec (.clkDomainReset who v) s) ∧
  (∀ (off : Nat) (who : Master) (v : Word) (s : State), actsBeyond off = false → opens s who off true = true →
    ∃ t : State, exec (.registerWrite off who v) s = .next t ∧ t = s.plainWrite off who v ∧
      t.sec = s.sec ∧ t.mem.ddr = s.mem.ddr ∧ t.mem.sram = s.mem.sram ∧ t.casc.members = s.casc.members ∧
      t.now = s.now ∧ t.pending = s.pending) ∧
  (∀ (off : Nat) (v : Word) (s : State), actsBeyond off = false → reaches s .host = true →
    windowBreach .host off true = none → s.regOk off = false →
    exec (.registerWrite off .host v) s = .next (s.abortAccess true))

/-- R393: BAR2 offset x maps device address MEM_BAR2_SEL.WINDOW × 0x1_0000_0000 + x; an access at or above 0x7_8000_0000 is
answered Completer Abort; a write to MEM_BAR2_SEL applies to every request after it; reads have no side effects. A write the
host's window opens stores its bytes there and no others. -/
def Obligations.Bar2Accesses : Prop :=
  (∀ (off : Nat) (s : State), s.bar2Addr off = s.mem.bar2Sel.toNat * 0x100000000 + off) ∧
  (∀ (v : Word) (s : State), reaches s .host = true → ∃ t : State, exec (.bar2WindowSelect v) s = .next t ∧
    t.mem.bar2Sel = fld v 0 3) ∧
  (∀ (off len : Nat) (data : Option (List Byte)) (err : GranErr) (s : State), reaches s .host = true →
    0x780000000 < s.bar2Addr off + len →
    exec (.bar2Access off len data err) s = .next (s.abortAccess data.isSome)) ∧
  (∀ (off len : Nat) (s : State), reaches s .host = true → s.bar2Addr off + len ≤ 0x780000000 →
    (hostWindow (s.bar2Addr off)).isSome = true →
    exec (.bar2Access off len none .clean) s =
      .next (s.setRdata (wordsOf ((List.range len).map fun i => s.ddrByte (s.bar2Addr off + i))))) ∧
  (∀ (off : Nat) (bs : List Byte) (s : State), reaches s .host = true → s.mem.ddr.wf = true →
    s.bar2Addr off + bs.length ≤ 0x780000000 → hostWindow (s.bar2Addr off) = some true →
    ∃ t : State, exec (.bar2Access off bs.length (some bs) .clean) s = .next t ∧
      (∀ i < bs.length, t.mem.ddr.read (s.bar2Addr off + i) = bs.getD i 0) ∧
      (∀ a, a < s.bar2Addr off ∨ s.bar2Addr off + bs.length ≤ a → t.mem.ddr.read a = s.mem.ddr.read a) ∧
      t = s.onMem fun m => { m with ddr := t.mem.ddr })

/-- What else comes over PCIe (R360, R426, R428, R429): a request outside the BARs or of a kind not supported is
logged, and answered with no data; a poisoned write is discarded, logged and raises the link error interrupt; a Thistle
violation freezes its master and logs the fault; a failed DMA read is counted with its address; unmasking a vector sends the
interrupts it held. -/
def Obligations.PcieRequestsAndViolations : Prop :=
  (∀ (w : Bool) (s : State),
    exec (.pcieRequestRx (.outsideBars w)) s = .next ((if w then s else s.setRdata []).onHost fun h => { h with
      aerLogged := h.aerLogged + 1 })) ∧
  (∀ s : State, exec (.pcieRequestRx .unsupportedKind) s = .next (s.onHost fun h => { h with
    aerLogged := h.aerLogged + 1 })) ∧
  (∀ s : State, exec (.pcieRequestRx .poisonedWrite) s = .next ((s.onHost fun h => { h with
    poisonRx := true
    aerLogged := h.aerLogged + 1 }).interrupt s.host.errVec.toNat 1)) ∧
  (∀ (m : Fin 15) (cls : BitVec 4) (addr : Dword) (write secure : Bool) (len : BitVec 7) (s : State),
    ((s.master m).frozen = true → exec (.thistleViolation m cls addr write secure len) s =
      .next (s.onSafety fun f => { f with violCnt := f.violCnt.incr })) ∧
    ((s.master m).frozen = false → ∃ t : State, exec (.thistleViolation m cls addr write secure len) s = .next t ∧
      (t.master m).frozen = true ∧ (t.master m).vseq = (s.master m).vseq + 1 ∧ (t.master m).cls = cls ∧
      (t.master m).addr = addr ∧ (t.master m).write = write ∧ (t.master m).len = len ∧
      (∀ k, k ≠ m.val → t.master k = s.master k) ∧
      ∃ e : FaultEntry, t.safety.log = (e :: s.safety.log).take 1024 ∧ e.unitClass = 8 ∧ e.inst = m ∧
        e.code = (if cls = 6 then 0x0121 else 0x0120))) ∧
  (∀ (addr : Dword) (s : State), exec (.dmaReadError addr .other) s = .next (s.onHost fun h => { h with
    dmaErr := true
    dmaErrCnt := h.dmaErrCnt.incr
    dmaErrAddr := { h.dmaErrAddr with val := addr } }).serve) ∧
  (∀ (i : Fin 64) (s : State), exec (.msixVectorUnmask (some i)) s = .next (s.onHost fun h =>
    HostSt.msixFlush { h with vecs := Tbl.upd {} h.vecs i fun x => { x with masked := false } })) ∧
  (∀ s : State, exec (.msixVectorUnmask none) s = .next (s.onHost fun h => HostSt.msixFlush { h with funcMask := false }))

/-- PCIe link events (R430, R431): a link down, a function-level reset and PERST# disable every ring and release master 0,
and each leaves its mark; PERST# resets the configuration space and domains 48 and 49; the link comes up only with PERST#
released. USB (R443 to R445, R456): a transfer of a whole packet is counted and queued behind the packets that wait, another is
dropped and counted; a bus reset drops what is queued; connecting, suspending and resuming change the port's state; in
recovery the port takes an image and answers its check. What a suspend keeps is the model's reading (log entry 50). -/
def Obligations.LinkAndUsbEvents : Prop :=
  (∀ s : State, exec .pcieLinkDown s = .next ((s.onHost fun h => { h with
    dlActive := false
    width := 0
    speed := 0
    linkDown := true }).hostGone).serve) ∧
  (∀ s : State, exec .functionLevelReset s =
    .next ((s.onHost fun h => { h.confReset with flrSeen := true }).hostGone).serve) ∧
  (∀ s : State, exec .perstAssert s = .next ((((s.onHost fun h => { h.confReset with
    perst := true
    dlActive := false
    width := 0
    speed := 0
    perstSeen := true }).hostGone).resetDomain 48).resetDomain 49).serve) ∧
  (∀ (s : State) (r : Nat), ((s.hostGone).ring r).en = false ∧ ((s.hostGone).master 0).frozen = false) ∧
  (∀ s : State, exec .perstRelease s = .next (s.onHost fun h => { h with perst := false })) ∧
  (∀ (w : BitVec 6) (v : BitVec 4) (s : State),
    (s.host.perst = false → exec (.pcieLinkUp w v) s = .next (s.onHost fun h => { h with
      dlActive := true
      width := w
      speed := v })) ∧
    (s.host.perst = true → exec (.pcieLinkUp w v) s = .next s)) ∧
  (∀ (d3 : Bool) (s : State), exec (.powerStateChange d3) s = .next (s.onHost fun h => { h with d3hot := d3 })) ∧
  (∀ (bs : List Byte) (s : State), s.host.usbEn = true → s.host.usbConnected = true → s.host.usbSuspended = false →
    (s.master 1).frozen = false →
    (32 ≤ bs.length → bs.length = 32 + hdrLen bs → exec (.usbCommandTransfer bs) s = .next (s.onHost fun h => { h with
      usbCmdCnt := h.usbCmdCnt.incr
      usbOut := h.usbOut ++ [bs] }).serve) ∧
    (bs.length < 32 ∨ bs.length ≠ 32 + hdrLen bs → exec (.usbCommandTransfer bs) s = .next (s.onHost fun h => { h with
      usbDropCnt := h.usbDropCnt.incr }))) ∧
  (∀ s : State, exec .usbBusReset s = .next (s.onHost fun h => { h with
    usbOut := []
    usbIn := []
    usbConnected := false
    usbConfigured := false
    usbSuspended := false })) ∧
  (∀ s : State, exec .usbSuspend s = .next (s.onHost fun h => { h with usbSuspended := h.usbConnected }) ∧
    exec .usbResume s = .next (s.onHost fun h => { h with usbSuspended := false })) ∧
  (∀ (ss : Bool) (s : State), s.clock.usbOff = false → exec (.usbConnect ss) s = .next (s.onHost fun h => { h with
    usbConnected := true
    usbConfigured := true
    usbSuper := ss
    usbSuspended := false })) ∧
  (∀ (bs : List Byte) (s : State), s.clock.ready = false → s.clock.holds.any = false → s.host.usbConnected = true →
    (s.clock.recovery || s.clock.bootSrc == 2) = true →
    (bs.length < 5840 → exec (.usbRecoveryImage bs) s = .next (s.onHost fun h => { h with
      usbIn := h.usbIn ++ [.header (statusHeader .badParam)] })) ∧
    (5840 ≤ bs.length → exec (.usbRecoveryImage bs) s = .next (s.takeImage
      ⟨{ ring := 80 }, .fwUpdate (FwImage.ofBytes bs) true, 0⟩ (FwImage.ofBytes bs))))

/-! ### Long jobs that end -/

/-- The configuration jobs end (R329, R337, R338): a load stages the bundle its checks accept and answers the status they give, a
staging ends ready to switch, or with the uncorrectable error it met; a store puts the bundle in the NOR flash. Primrose's
jobs end (R451, R454, R455, R460): an attestation report goes to its address and clears the tamper mark; a lifecycle change never lowers
the fuse, answers, and resets the device; a verified image is programmed, or leaves the flash without one. -/
def Obligations.JobsEnd : Prop :=
  (∀ (h : Hdr) (gen len : Nat) (src : Option Nat) (digest : List Byte) (s : State),
    s.cmd.phase = .loading h gen src len digest → s.pathFrozen h.ring = false →
    let r := loadOutcome gen len digest (s.loadBytes src len)
    exec .configLoadDone s = .next (((s.onCmd fun c => { c with
      phase := .idle
      chunks := []
      staged := r.2
      rejected := c.rejected || r.1 != .ok }).final h 0x0201 r.1 (toLe 4 gen)).serve)) ∧
  (∀ (h : Hdr) (gen : Nat) (s : State), s.cmd.phase = .staging h gen → s.pathFrozen h.ring = false → s.zheda.run ≠ .replay →
    exec (.configStagingDone false) s =
      .next (((s.onCmd fun c => { c with phase := .switchPending }).final h 0x0202 .ok (toLe 4 gen)).serve) ∧
    exec (.configStagingDone true) s =
      .next (((s.onCmd fun c => { c with phase := .idle }).final h 0x0202 .eccUncorr (toLe 4 gen)).serve)) ∧
  (∀ (h : Hdr) (b : BundleSlot) (s : State), s.cmd.storing = some (h, b) →
    exec (.configStoreDone true) s = .next ((((s.onCmd fun c => { c with storing := none }).onSec fun p => { p with
      nor := { p.nor with bundle := some (b.bytes, b.length) } }).final h 0x0206 .ok (toLe 4 b.gen)).serve) ∧
    exec (.configStoreDone false) s = .next s.serve) ∧
  (∀ (h : Hdr) (nonce : List Byte) (raddr i : Nat) (l : List SecCmd) (s : State),
    s.sec.cmds = ⟨h, .attest nonce raddr, i⟩ :: l → (s.master 4).frozen = false →
    exec .attestReportDone s = .next (((s.onSec fun p => { p with
      cmds := l
      tampered := false }).finalReply h 0x0A00 raddr (s.report nonce i) (toLe 4 (s.report nonce i).length)).serve)) ∧
  (∀ (h : Hdr) (target i : Nat) (l : List SecCmd) (s : State), s.sec.cmds = ⟨h, .lifecycle target, i⟩ :: l →
    (s.master 4).frozen = false → ∃ t : State, exec .lifecycleFuseBlown s = .next t ∧
      t.sec.fuses.lifecycle = max s.sec.fuses.lifecycle target ∧ t.sec.cmds = [] ∧ t.clock.rstCause = 2 ∧
      t.clock.ready = false) ∧
  (∀ (h : Hdr) (f : FwImage) (usb : Bool) (i : Nat) (l : List SecCmd) (s : State),
    s.sec.cmds = ⟨h, .fwUpdate f usb, i⟩ :: l → (s.master 4).frozen = false →
    exec (.fwUpdateProgrammed false) s = .next (s.onSec fun p => { p with nor := { p.nor with image := none } }).serve ∧
    ∃ u : State, exec (.fwUpdateProgrammed true) s = .next (u.answerSec ⟨h, .fwUpdate f usb, i⟩ .ok).serve ∧
      u.sec.nor.image = some f ∧ u.sec.cmds = l ∧ (s.clock.ready = true → u.clock = s.clock))

/-- Tamper and wipe (R386, R461, R462): a source not seen before wipes the secure region, counts the event and logs 0x0150; a
finished wipe leaves every byte of the region 0, and opens it only where its check passed and no source is active; a wipe
that fails its check closes it and logs 0x0131. What TAMPER_DETECT's operand names is the model's reading (log entry 155). -/
def Obligations.TamperWipesSecureRegion : Prop :=
  (∀ (src : BitVec 4) (s : State), src &&& ~~~s.clock.tamperSrc ≠ 0 → s.clock.holds.por = false → 2 ≤ s.clock.step →
    ∃ u : State, exec (.tamperDetect src) s = .next (u.logFault 12 0 0x0150 1).serve ∧ u.clock.tamperSrc = src ∧
      u.mem.secure = .wiping ∧ u.sec.tampered = true ∧
      u.sec.nvm.tamperCnt = min (s.sec.nvm.tamperCnt + 1) 0xFFFFFFFF) ∧
  (∀ (ok : Bool) (s : State), s.mem.secure = .wiping → s.mem.sram.wf = true →
    ∃ t : State, exec (.secureWipeDone ok) s = .next t ∧ t.mem.secWiped = true ∧
      t.mem.secure = (if !ok then .closed else if s.clock.tamperSrc = 0 then .opened else .wiping) ∧
      (∀ a, 0x1000000000 ≤ a → a < 0x1000100000 → t.mem.sram.read a = 0) ∧
      (∀ a, a < 0x1000000000 ∨ 0x1000100000 ≤ a → t.mem.sram.read a = s.mem.sram.read a) ∧
      (ok = false → ∃ e : FaultEntry, t.safety.log = (e :: s.safety.log).take 1024 ∧ e.code = 0x0131 ∧ e.sev = 3)) ∧
  (∀ (ok : Bool) (s : State), s.mem.secure ≠ .wiping → exec (.secureWipeDone ok) s = .next s)

/-! ### Clocks, power, boot -/

/-- Clock events (R399 to R402, R405, R407): a crystal count joins the passing run, and 16 within 3 accept the crystal; the timeout goes on
without it and logs 0x0133; a lost PLL of a role is replaced by a free spare and logged 0x0132; a locked spare takes the
role; two windows without an edge stall a domain, whose reset ends the stall. Power events (R390, R410, R413, R416, R417, R492): the
regulator at its target settles a rise 20 µs later and ends a fall; one that does not reach it is logged 0x0135 with OP_ABORT; an alert likewise;
a temperature at the shutdown threshold resets the device with its cause and holds it; a supply excursion resets and holds it
until the supplies return; the scrubber moves on granule by granule, 256 bytes each (the
model's choice, log entry 108). -/
def Obligations.ClockAndPowerEvents : Prop :=
  (∀ (time count : Nat) (s : State), s.clock.holds.por = false → s.clock.xtalOk = false → s.clock.xtalFail = false →
    ∃ t : State, exec (.xtalWindow time count) s = .next t ∧ t.clock.xtalCount = count ∧
      t.clock.xtalOk = runAccepts (passRun s.clock.n0 s.clock.xtalRun count) ∧
      t.clock.onRc = (s.clock.onRc && !t.clock.xtalOk)) ∧
  (∀ (time : Nat) (refclk : Bool) (s : State), s.clock.holds.por = false → s.clock.xtalOk = false →
    s.clock.xtalFail = false → ∃ u : State, exec (.xtalTimeout time refclk) s = .next (u.logFault 7 0 0x0133 1) ∧
      u.clock.xtalFail = true ∧ u.clock.usbOff = !refclk ∧ u.host.xtalOut = true ∧
      ∀ p ∈ u.casc.ports, p.trained = false) ∧
  (∀ (pll : Fin 10) (role spare : Nat) (s : State), s.clock.holds.any = false → s.clock.ready = true →
    s.clock.pllFailed.contains pll.val = false → firstIx (· == pll.val) s.clock.pllMap = some role →
    role ≠ 0 →
    ({ s.clock with
      pllFailed := s.clock.pllFailed ++ [pll.val]
      pllLocked := s.clock.pllLocked.filter (· != pll.val) } : ClockSt).freeSpare = some spare →
    exec (.pllLossOfLock pll) s = .next ((s.onClock fun c => { c with
      pllFailed := c.pllFailed ++ [pll.val]
      pllLocked := c.pllLocked.filter (· != pll.val)
      repairs := c.repairs ++ [⟨role, spare⟩]
      spareUsed := true }).logFault 7 pll 0x0132 1)) ∧
  (∀ (pll : Fin 10) (r : PllRepair) (s : State), s.clock.repairs.find? (fun r => r.spare == pll.val) = some r →
    exec (.sparePllLocked pll) s = .next (s.onClock fun c => { c with
      repairs := c.repairs.filter (· != r)
      pllMap := setAt c.pllMap r.role pll
      pllLocked := c.pllLocked ++ [pll.val] })) ∧
  (∀ (d : Fin 64) (s : State), s.clock.holds.any = false → s.clock.ready = true → s.monitored d = true →
    d ≠ 59 → d ≠ 62 → d ≠ 63 → (Tbl.get {} s.clock.domains d).idleWindows = 1 →
    ∃ u : State, exec (.clockMonitorWindow d 0) s = .next (u.logFault 7 d 0x0132 2) ∧
      (Tbl.get {} u.clock.domains d).stalled = true ∧ u.clock.stallF = true ∧
      u.clock.stallMask = s.clock.stallMask ||| BitVec.ofNat 64 (2 ^ d.val)) ∧
  (∀ (d : Fin 64) (s : State), (Tbl.get {} s.clock.domains d).resetting = true →
    exec (.domainResetDone d) s = .next (s.onClock fun c => { c with domains := Tbl.upd {} c.domains d fun x => { x with
      resetting := false
      stalled := false
      idleWindows := 0 } }).serve) ∧
  (∀ (mv : Half) (s : State),
    (mv.toNat = s.clock.targetMv → exec (.regulatorInRegulation mv) s = .next (s.onClock fun c => { c with
      voutMv := mv.toNat
      lowering := false
      change := c.change.map fun x => { x with settled := some (x.settled.getD (s.now + 20000)) } })) ∧
    (mv.toNat ≠ s.clock.targetMv →
      exec (.regulatorInRegulation mv) s = .next (s.onClock fun c => { c with voutMv := mv.toNat }))) ∧
  (∀ s : State, s.clock.lowering = true → exec .avsTimeout s = .next ((s.onClock fun c => { c with
    lowering := false
    avsErr := true
    opAbort := true }).logFault 14 0 0x0135 1)) ∧
  (∀ s : State, s.clock.holds.any = false →
    exec .pmbusAlert s = .next ((s.onClock fun c => { c with regAlert := true }).logFault 14 0 0x0135 1)) ∧
  (∀ (temps : List Int) (s : State), temps.length = 8 → s.clock.holds.any = false →
    (4 * (s.clock.shutC : Int) ≤ tMax temps → ∃ t : State, exec (.thermalSample temps) s = .next t ∧
      t.clock.holds.thermal = true ∧ t.clock.rstCause = 8 ∧ t.clock.ready = false) ∧
    (tMax temps < 4 * (s.clock.critC : Int) → tMax temps < 4 * (s.clock.shutC : Int) → s.clock.thermCrit = false →
      exec (.thermalSample temps) s = .next (s.onClock fun c => c.sample temps))) ∧
  (∀ (glitch : Bool) (s : State), s.clock.holds.por = false → s.clock.holds.supply = false →
    ∃ t : State, exec (.supplyExcursion glitch) s = .next t ∧ t.clock.holds.supply = true ∧ t.clock.rstCause = 2 ∧
      t.clock.ready = false) ∧
  (∀ s : State, s.clock.holds.supply = true → s.clock.step ≠ 1 →
    exec .supplyRecovered s = .next (s.onClock fun c => { c with holds := { c.holds with supply := false } })) ∧
  (∀ (other : Bool) (s : State), s.mem.scrubEn = true →
    (s.mem.scrubPos * 256 + 256 < ddrEnd → exec (.scrubGranule .clean other) s =
      .next (s.onMem fun m => { m with scrubPos := m.scrubPos + 1 })) ∧
    (ddrEnd ≤ s.mem.scrubPos * 256 + 256 → exec (.scrubGranule .clean other) s =
      .next (s.onMem fun m => { m with
        scrubPos := 0
        rowCe := [] })))

/-- Reset and boot (R418 to R420, R454): POR, VDD_AON and SYS_RST_N reset the device with their cause and hold it; the release of
POR samples the straps and starts the boot; BOOT_READY ends it at OP1 or at the stored bundle's point, reports READY, raises
the rollback fuse to the image's and starts the measurement chain; a failed boot enters recovery with its code. The check of the
image's signature is an opaque function (log entry 11). -/
def Obligations.ResetAndBoot : Prop :=
  (∀ s : State, ∃ t : State, exec .porAssert s = .next t ∧ exec .vddAonLow s = .next t ∧ t.clock.holds.por = true ∧
    t.clock.rstCause = 1 ∧ t.clock.ready = false ∧ t.now = s.now ∧ t.pending = s.pending ∧ t.sec.fuses = s.sec.fuses ∧
    t.sec.nvm = s.sec.nvm ∧ t.teasel = {} ∧ t.cmd = {} ∧ t.tick = {}) ∧
  (∀ s : State, s.clock.holds.por = false → ∃ t : State, exec .sysReset s = .next t ∧ t.clock.holds.sysRst = true ∧
    t.clock.rstCause = 2 ∧ t.clock.ready = false ∧ t.teasel = {} ∧ t.cmd = {} ∧ t.tick = {} ∧ t.sec.fuses = s.sec.fuses) ∧
  (∀ s : State, exec .sysResetRelease s =
    .next (s.onClock fun c => { c with holds := { c.holds with sysRst := false } })) ∧
  (∀ (time : Nat) (straps : Straps) (s : State), s.clock.holds.por = true →
    (∃ t : State, exec (.porRelease time straps true) s = .next t ∧ t.clock.holds.por = false ∧
      t.clock.holds.supply = false ∧ t.clock.step = 2 ∧ t.clock.bootSrc = straps.bootSrc ∧
      t.clock.cascRole = straps.cascRole ∧ t.ident.gradeSel = straps.gradeSel ∧ t.clock.porAt = max s.now time) ∧
    (∃ t : State, exec (.porRelease time straps false) s = .next t ∧ t.clock.holds.por = false ∧
      t.clock.holds.supply = true ∧ t.clock.step = s.clock.step)) ∧
  (∀ (time : Nat) (unrepaired : List Nat) (img : FwImage) (s : State), s.bootable = true → s.bootImage = some img →
    ∃ t : State, exec (.bootReady time unrepaired) s = .next t ∧ t.clock.ready = true ∧ t.clock.step = 6 ∧
      t.clock.recovery = false ∧ t.sec.image = some img ∧ t.sec.fuses.rollback = max s.sec.fuses.rollback img.rollback ∧
      t.clock.bootMs = (max s.now time - s.clock.porAt) / 1000000 ∧
      (s.storedBundle = none → t.clock.op = 1 ∧ t.clock.voutMv = 700 ∧ t.clock.failCode = 0) ∧
      (s.storedBundle = some none → t.clock.op = 1 ∧ t.clock.failCode = 5)) ∧
  (∀ (code : Fin 5) (s : State), s.clock.ready = false → s.clock.holds.any = false → code ≠ 0 →
    ∃ t : State, exec (.bootFail code) s = .next t ∧ t.clock.recovery = true ∧ t.clock.failCode = code ∧
      t.clock.step = (if code.val ≤ 2 then 3 else 2))

/-! ### Whole-machine rules -/

/-- R340: while a commit or rollback waits for its edge, PWR_OP_SET and CLK_SPREAD_SET are refused with ST_BAD_PARAM if the
bundle about to become active would fail R31 under the setting requested; CONFIG_LOAD, CONFIG_COMMIT and CONFIG_ROLLBACK are
refused with ST_BUSY while the run state is PAUSING, PAUSED or REPLAY. -/
def Obligations.CommitWaitGuardsItsSetting : Prop :=
  (∀ (h : Hdr) (b : BundleSlot) (s : State), s.takes h = true →
    (s.cmd.committing = true ∧ s.cmd.staged = some b) ∨ (s.cmd.rollback = true ∧ s.cmd.previous = some b) →
    (∀ p : Byte, p.toNat < 3 → programFits b.bundle.program b.bundle.periodUs b.bundle.emitUs b.bundle.qMax
        ⟨p.toNat, s.clock.spreadDepth, s.clock.xtalFail⟩ = false →
      exec (.pwrOpSet h p) s = .next (s.answered h 0x0C00 .badParam)) ∧
    (∀ depth rate : Byte, s.clock.op ≠ 3 → programFits b.bundle.program b.bundle.periodUs b.bundle.emitUs b.bundle.qMax
        ⟨s.clock.op, depth.toNat, s.clock.xtalFail⟩ = false →
      exec (.clkSpreadSet h depth rate) s = .next (s.answered h 0x0C01 .badParam))) ∧
  (∀ (h : Hdr) (s : State), s.takes h = true → s.zheda.run ≠ .live →
    (∀ (gen : Word) (source : Byte) (addr : Dword) (len : Word) (digest : List Byte),
      source.toNat ≤ 1 → (h.ring = 80 → source = 1 ∧ addr = 0) →
      exec (.configLoad h gen source addr len digest) s = .next (s.answered h 0x0201 .busy).rejected) ∧
    (∀ gen : Word, exec (.configCommit h gen) s = .next (s.answered h 0x0202 .busy).rejected) ∧
    (∀ gen : Word, exec (.configRollback h gen) s = .next (s.answered h 0x0203 .busy).rejected))

/-- What the registers read right after reset, where the register tables state a value: RUN_STAT, ZHD_CFG, FLT_CFG, E2E_CFG,
RING_CFG of ring 0, LUP_CTRL and LUP_GOLD_BASE, HB_T_STAT of tile 0, CFL_LEN_EDT, POP_SLOT_TOP of slot 0, VET_MAP, HOL_CTRL,
HOL_CFG, TSL_CTRL, TSL_POOL, TSL_DL_CAP_A, CAM_CTRL, CAM_COV_CFG, CAM_CE_LIMIT, CAM_ROT_0, PWR_RST_CAUSE, CLK_PLL_MAP,
MEM_SCRUB_CFG, ETH_PTP_THR, ULB_CTRL, BND_CTRL and BND_STALL_LIMIT. -/
def Obligations.ResetValues : Prop :=
  ∀ e ∈ ([(0x300, 0), (0x330, 0x04000403), (0x500, 1), (0x600, 0x186A0), (0x1010, 0x00040480), (0x30000, 3),
      (0x30008, 0xFFFFFC00), (0x10400, 0x007F0008), (0x50008, 0x3CC00), (0x6011C, 0xFFFFFFFF), (0x70008, 0x4688),
      (0x80000, 0xFFFF), (0x80008, 0x1388), (0xA0000, 3), (0xA0008, 0x20000), (0xA0014, 0x10001000), (0xC0000, 0x102),
      (0xC0028, 0x10002000), (0xC002C, 0x10), (0xC0100, 0x1007F), (0x100030, 1), (0xF0010, 0x76543210),
      (0x110008, 0x80015180), (0x130014, 0x03E80064), (0x150000, 0x101), (0x200000, 0x600), (0x200008, 0x10000)] :
      List (Nat × Nat)), (State.reset.peekReg e.1).toNat = e.2
end

