-- ==== Sys2Proof/Laws/State.lean ====
section
/-! SUPPORT. What each named update of State does to each field. -/

namespace Sys2Proof.Machine.State

variable (s : State)

@[simp] theorem onIdent_ident (f : IdSt → IdSt) : (s.onIdent f).ident = f s.ident := rfl
@[simp] theorem onIdent_tick (f : IdSt → IdSt) : (s.onIdent f).tick = s.tick := rfl
@[simp] theorem onIdent_world (f : IdSt → IdSt) : (s.onIdent f).world = s.world := rfl
@[simp] theorem onIdent_aster (f : IdSt → IdSt) : (s.onIdent f).aster = s.aster := rfl
@[simp] theorem onIdent_lupin (f : IdSt → IdSt) : (s.onIdent f).lupin = s.lupin := rfl
@[simp] theorem onIdent_harebell (f : IdSt → IdSt) : (s.onIdent f).harebell = s.harebell := rfl
@[simp] theorem onIdent_cornflower (f : IdSt → IdSt) : (s.onIdent f).cornflower = s.cornflower := rfl
@[simp] theorem onIdent_poppy (f : IdSt → IdSt) : (s.onIdent f).poppy = s.poppy := rfl
@[simp] theorem onIdent_vetch (f : IdSt → IdSt) : (s.onIdent f).vetch = s.vetch := rfl
@[simp] theorem onIdent_commit (f : IdSt → IdSt) : (s.onIdent f).commit = s.commit := rfl
@[simp] theorem onIdent_zheda (f : IdSt → IdSt) : (s.onIdent f).zheda = s.zheda := rfl
@[simp] theorem onIdent_teasel (f : IdSt → IdSt) : (s.onIdent f).teasel = s.teasel := rfl
@[simp] theorem onIdent_bindweed (f : IdSt → IdSt) : (s.onIdent f).bindweed = s.bindweed := rfl
@[simp] theorem onIdent_cowslip (f : IdSt → IdSt) : (s.onIdent f).cowslip = s.cowslip := rfl
@[simp] theorem onIdent_cmd (f : IdSt → IdSt) : (s.onIdent f).cmd = s.cmd := rfl
@[simp] theorem onIdent_safety (f : IdSt → IdSt) : (s.onIdent f).safety = s.safety := rfl
@[simp] theorem onIdent_mem (f : IdSt → IdSt) : (s.onIdent f).mem = s.mem := rfl
@[simp] theorem onIdent_clock (f : IdSt → IdSt) : (s.onIdent f).clock = s.clock := rfl
@[simp] theorem onIdent_host (f : IdSt → IdSt) : (s.onIdent f).host = s.host := rfl
@[simp] theorem onIdent_sec (f : IdSt → IdSt) : (s.onIdent f).sec = s.sec := rfl
@[simp] theorem onIdent_casc (f : IdSt → IdSt) : (s.onIdent f).casc = s.casc := rfl
@[simp] theorem onIdent_now (f : IdSt → IdSt) : (s.onIdent f).now = s.now := rfl
@[simp] theorem onIdent_rdata (f : IdSt → IdSt) : (s.onIdent f).rdata = s.rdata := rfl
@[simp] theorem onIdent_freeIx (f : IdSt → IdSt) : (s.onIdent f).freeIx = s.freeIx := rfl
@[simp] theorem onIdent_pending (f : IdSt → IdSt) : (s.onIdent f).pending = s.pending := rfl
@[simp] theorem onTick_ident (f : TickSt → TickSt) : (s.onTick f).ident = s.ident := rfl
@[simp] theorem onTick_tick (f : TickSt → TickSt) : (s.onTick f).tick = f s.tick := rfl
@[simp] theorem onTick_world (f : TickSt → TickSt) : (s.onTick f).world = s.world := rfl
@[simp] theorem onTick_aster (f : TickSt → TickSt) : (s.onTick f).aster = s.aster := rfl
@[simp] theorem onTick_lupin (f : TickSt → TickSt) : (s.onTick f).lupin = s.lupin := rfl
@[simp] theorem onTick_harebell (f : TickSt → TickSt) : (s.onTick f).harebell = s.harebell := rfl
@[simp] theorem onTick_cornflower (f : TickSt → TickSt) : (s.onTick f).cornflower = s.cornflower := rfl
@[simp] theorem onTick_poppy (f : TickSt → TickSt) : (s.onTick f).poppy = s.poppy := rfl
@[simp] theorem onTick_vetch (f : TickSt → TickSt) : (s.onTick f).vetch = s.vetch := rfl
@[simp] theorem onTick_commit (f : TickSt → TickSt) : (s.onTick f).commit = s.commit := rfl
@[simp] theorem onTick_zheda (f : TickSt → TickSt) : (s.onTick f).zheda = s.zheda := rfl
@[simp] theorem onTick_teasel (f : TickSt → TickSt) : (s.onTick f).teasel = s.teasel := rfl
@[simp] theorem onTick_bindweed (f : TickSt → TickSt) : (s.onTick f).bindweed = s.bindweed := rfl
@[simp] theorem onTick_cowslip (f : TickSt → TickSt) : (s.onTick f).cowslip = s.cowslip := rfl
@[simp] theorem onTick_cmd (f : TickSt → TickSt) : (s.onTick f).cmd = s.cmd := rfl
@[simp] theorem onTick_safety (f : TickSt → TickSt) : (s.onTick f).safety = s.safety := rfl
@[simp] theorem onTick_mem (f : TickSt → TickSt) : (s.onTick f).mem = s.mem := rfl
@[simp] theorem onTick_clock (f : TickSt → TickSt) : (s.onTick f).clock = s.clock := rfl
@[simp] theorem onTick_host (f : TickSt → TickSt) : (s.onTick f).host = s.host := rfl
@[simp] theorem onTick_sec (f : TickSt → TickSt) : (s.onTick f).sec = s.sec := rfl
@[simp] theorem onTick_casc (f : TickSt → TickSt) : (s.onTick f).casc = s.casc := rfl
@[simp] theorem onTick_now (f : TickSt → TickSt) : (s.onTick f).now = s.now := rfl
@[simp] theorem onTick_rdata (f : TickSt → TickSt) : (s.onTick f).rdata = s.rdata := rfl
@[simp] theorem onTick_freeIx (f : TickSt → TickSt) : (s.onTick f).freeIx = s.freeIx := rfl
@[simp] theorem onTick_pending (f : TickSt → TickSt) : (s.onTick f).pending = s.pending := rfl
@[simp] theorem onWorld_ident (f : WorldSt → WorldSt) : (s.onWorld f).ident = s.ident := rfl
@[simp] theorem onWorld_tick (f : WorldSt → WorldSt) : (s.onWorld f).tick = s.tick := rfl
@[simp] theorem onWorld_world (f : WorldSt → WorldSt) : (s.onWorld f).world = f s.world := rfl
@[simp] theorem onWorld_aster (f : WorldSt → WorldSt) : (s.onWorld f).aster = s.aster := rfl
@[simp] theorem onWorld_lupin (f : WorldSt → WorldSt) : (s.onWorld f).lupin = s.lupin := rfl
@[simp] theorem onWorld_harebell (f : WorldSt → WorldSt) : (s.onWorld f).harebell = s.harebell := rfl
@[simp] theorem onWorld_cornflower (f : WorldSt → WorldSt) : (s.onWorld f).cornflower = s.cornflower := rfl
@[simp] theorem onWorld_poppy (f : WorldSt → WorldSt) : (s.onWorld f).poppy = s.poppy := rfl
@[simp] theorem onWorld_vetch (f : WorldSt → WorldSt) : (s.onWorld f).vetch = s.vetch := rfl
@[simp] theorem onWorld_commit (f : WorldSt → WorldSt) : (s.onWorld f).commit = s.commit := rfl
@[simp] theorem onWorld_zheda (f : WorldSt → WorldSt) : (s.onWorld f).zheda = s.zheda := rfl
@[simp] theorem onWorld_teasel (f : WorldSt → WorldSt) : (s.onWorld f).teasel = s.teasel := rfl
@[simp] theorem onWorld_bindweed (f : WorldSt → WorldSt) : (s.onWorld f).bindweed = s.bindweed := rfl
@[simp] theorem onWorld_cowslip (f : WorldSt → WorldSt) : (s.onWorld f).cowslip = s.cowslip := rfl
@[simp] theorem onWorld_cmd (f : WorldSt → WorldSt) : (s.onWorld f).cmd = s.cmd := rfl
@[simp] theorem onWorld_safety (f : WorldSt → WorldSt) : (s.onWorld f).safety = s.safety := rfl
@[simp] theorem onWorld_mem (f : WorldSt → WorldSt) : (s.onWorld f).mem = s.mem := rfl
@[simp] theorem onWorld_clock (f : WorldSt → WorldSt) : (s.onWorld f).clock = s.clock := rfl
@[simp] theorem onWorld_host (f : WorldSt → WorldSt) : (s.onWorld f).host = s.host := rfl
@[simp] theorem onWorld_sec (f : WorldSt → WorldSt) : (s.onWorld f).sec = s.sec := rfl
@[simp] theorem onWorld_casc (f : WorldSt → WorldSt) : (s.onWorld f).casc = s.casc := rfl
@[simp] theorem onWorld_now (f : WorldSt → WorldSt) : (s.onWorld f).now = s.now := rfl
@[simp] theorem onWorld_rdata (f : WorldSt → WorldSt) : (s.onWorld f).rdata = s.rdata := rfl
@[simp] theorem onWorld_freeIx (f : WorldSt → WorldSt) : (s.onWorld f).freeIx = s.freeIx := rfl
@[simp] theorem onWorld_pending (f : WorldSt → WorldSt) : (s.onWorld f).pending = s.pending := rfl
@[simp] theorem onAster_ident (f : AsterSt → AsterSt) : (s.onAster f).ident = s.ident := rfl
@[simp] theorem onAster_tick (f : AsterSt → AsterSt) : (s.onAster f).tick = s.tick := rfl
@[simp] theorem onAster_world (f : AsterSt → AsterSt) : (s.onAster f).world = s.world := rfl
@[simp] theorem onAster_aster (f : AsterSt → AsterSt) : (s.onAster f).aster = f s.aster := rfl
@[simp] theorem onAster_lupin (f : AsterSt → AsterSt) : (s.onAster f).lupin = s.lupin := rfl
@[simp] theorem onAster_harebell (f : AsterSt → AsterSt) : (s.onAster f).harebell = s.harebell := rfl
@[simp] theorem onAster_cornflower (f : AsterSt → AsterSt) : (s.onAster f).cornflower = s.cornflower := rfl
@[simp] theorem onAster_poppy (f : AsterSt → AsterSt) : (s.onAster f).poppy = s.poppy := rfl
@[simp] theorem onAster_vetch (f : AsterSt → AsterSt) : (s.onAster f).vetch = s.vetch := rfl
@[simp] theorem onAster_commit (f : AsterSt → AsterSt) : (s.onAster f).commit = s.commit := rfl
@[simp] theorem onAster_zheda (f : AsterSt → AsterSt) : (s.onAster f).zheda = s.zheda := rfl
@[simp] theorem onAster_teasel (f : AsterSt → AsterSt) : (s.onAster f).teasel = s.teasel := rfl
@[simp] theorem onAster_bindweed (f : AsterSt → AsterSt) : (s.onAster f).bindweed = s.bindweed := rfl
@[simp] theorem onAster_cowslip (f : AsterSt → AsterSt) : (s.onAster f).cowslip = s.cowslip := rfl
@[simp] theorem onAster_cmd (f : AsterSt → AsterSt) : (s.onAster f).cmd = s.cmd := rfl
@[simp] theorem onAster_safety (f : AsterSt → AsterSt) : (s.onAster f).safety = s.safety := rfl
@[simp] theorem onAster_mem (f : AsterSt → AsterSt) : (s.onAster f).mem = s.mem := rfl
@[simp] theorem onAster_clock (f : AsterSt → AsterSt) : (s.onAster f).clock = s.clock := rfl
@[simp] theorem onAster_host (f : AsterSt → AsterSt) : (s.onAster f).host = s.host := rfl
@[simp] theorem onAster_sec (f : AsterSt → AsterSt) : (s.onAster f).sec = s.sec := rfl
@[simp] theorem onAster_casc (f : AsterSt → AsterSt) : (s.onAster f).casc = s.casc := rfl
@[simp] theorem onAster_now (f : AsterSt → AsterSt) : (s.onAster f).now = s.now := rfl
@[simp] theorem onAster_rdata (f : AsterSt → AsterSt) : (s.onAster f).rdata = s.rdata := rfl
@[simp] theorem onAster_freeIx (f : AsterSt → AsterSt) : (s.onAster f).freeIx = s.freeIx := rfl
@[simp] theorem onAster_pending (f : AsterSt → AsterSt) : (s.onAster f).pending = s.pending := rfl
@[simp] theorem onLupin_ident (f : LupinSt → LupinSt) : (s.onLupin f).ident = s.ident := rfl
@[simp] theorem onLupin_tick (f : LupinSt → LupinSt) : (s.onLupin f).tick = s.tick := rfl
@[simp] theorem onLupin_world (f : LupinSt → LupinSt) : (s.onLupin f).world = s.world := rfl
@[simp] theorem onLupin_aster (f : LupinSt → LupinSt) : (s.onLupin f).aster = s.aster := rfl
@[simp] theorem onLupin_lupin (f : LupinSt → LupinSt) : (s.onLupin f).lupin = f s.lupin := rfl
@[simp] theorem onLupin_harebell (f : LupinSt → LupinSt) : (s.onLupin f).harebell = s.harebell := rfl
@[simp] theorem onLupin_cornflower (f : LupinSt → LupinSt) : (s.onLupin f).cornflower = s.cornflower := rfl
@[simp] theorem onLupin_poppy (f : LupinSt → LupinSt) : (s.onLupin f).poppy = s.poppy := rfl
@[simp] theorem onLupin_vetch (f : LupinSt → LupinSt) : (s.onLupin f).vetch = s.vetch := rfl
@[simp] theorem onLupin_commit (f : LupinSt → LupinSt) : (s.onLupin f).commit = s.commit := rfl
@[simp] theorem onLupin_zheda (f : LupinSt → LupinSt) : (s.onLupin f).zheda = s.zheda := rfl
@[simp] theorem onLupin_teasel (f : LupinSt → LupinSt) : (s.onLupin f).teasel = s.teasel := rfl
@[simp] theorem onLupin_bindweed (f : LupinSt → LupinSt) : (s.onLupin f).bindweed = s.bindweed := rfl
@[simp] theorem onLupin_cowslip (f : LupinSt → LupinSt) : (s.onLupin f).cowslip = s.cowslip := rfl
@[simp] theorem onLupin_cmd (f : LupinSt → LupinSt) : (s.onLupin f).cmd = s.cmd := rfl
@[simp] theorem onLupin_safety (f : LupinSt → LupinSt) : (s.onLupin f).safety = s.safety := rfl
@[simp] theorem onLupin_mem (f : LupinSt → LupinSt) : (s.onLupin f).mem = s.mem := rfl
@[simp] theorem onLupin_clock (f : LupinSt → LupinSt) : (s.onLupin f).clock = s.clock := rfl
@[simp] theorem onLupin_host (f : LupinSt → LupinSt) : (s.onLupin f).host = s.host := rfl
@[simp] theorem onLupin_sec (f : LupinSt → LupinSt) : (s.onLupin f).sec = s.sec := rfl
@[simp] theorem onLupin_casc (f : LupinSt → LupinSt) : (s.onLupin f).casc = s.casc := rfl
@[simp] theorem onLupin_now (f : LupinSt → LupinSt) : (s.onLupin f).now = s.now := rfl
@[simp] theorem onLupin_rdata (f : LupinSt → LupinSt) : (s.onLupin f).rdata = s.rdata := rfl
@[simp] theorem onLupin_freeIx (f : LupinSt → LupinSt) : (s.onLupin f).freeIx = s.freeIx := rfl
@[simp] theorem onLupin_pending (f : LupinSt → LupinSt) : (s.onLupin f).pending = s.pending := rfl
@[simp] theorem onHarebell_ident (f : HarebellSt → HarebellSt) : (s.onHarebell f).ident = s.ident := rfl
@[simp] theorem onHarebell_tick (f : HarebellSt → HarebellSt) : (s.onHarebell f).tick = s.tick := rfl
@[simp] theorem onHarebell_world (f : HarebellSt → HarebellSt) : (s.onHarebell f).world = s.world := rfl
@[simp] theorem onHarebell_aster (f : HarebellSt → HarebellSt) : (s.onHarebell f).aster = s.aster := rfl
@[simp] theorem onHarebell_lupin (f : HarebellSt → HarebellSt) : (s.onHarebell f).lupin = s.lupin := rfl
@[simp] theorem onHarebell_harebell (f : HarebellSt → HarebellSt) : (s.onHarebell f).harebell = f s.harebell := rfl
@[simp] theorem onHarebell_cornflower (f : HarebellSt → HarebellSt) : (s.onHarebell f).cornflower = s.cornflower := rfl
@[simp] theorem onHarebell_poppy (f : HarebellSt → HarebellSt) : (s.onHarebell f).poppy = s.poppy := rfl
@[simp] theorem onHarebell_vetch (f : HarebellSt → HarebellSt) : (s.onHarebell f).vetch = s.vetch := rfl
@[simp] theorem onHarebell_commit (f : HarebellSt → HarebellSt) : (s.onHarebell f).commit = s.commit := rfl
@[simp] theorem onHarebell_zheda (f : HarebellSt → HarebellSt) : (s.onHarebell f).zheda = s.zheda := rfl
@[simp] theorem onHarebell_teasel (f : HarebellSt → HarebellSt) : (s.onHarebell f).teasel = s.teasel := rfl
@[simp] theorem onHarebell_bindweed (f : HarebellSt → HarebellSt) : (s.onHarebell f).bindweed = s.bindweed := rfl
@[simp] theorem onHarebell_cowslip (f : HarebellSt → HarebellSt) : (s.onHarebell f).cowslip = s.cowslip := rfl
@[simp] theorem onHarebell_cmd (f : HarebellSt → HarebellSt) : (s.onHarebell f).cmd = s.cmd := rfl
@[simp] theorem onHarebell_safety (f : HarebellSt → HarebellSt) : (s.onHarebell f).safety = s.safety := rfl
@[simp] theorem onHarebell_mem (f : HarebellSt → HarebellSt) : (s.onHarebell f).mem = s.mem := rfl
@[simp] theorem onHarebell_clock (f : HarebellSt → HarebellSt) : (s.onHarebell f).clock = s.clock := rfl
@[simp] theorem onHarebell_host (f : HarebellSt → HarebellSt) : (s.onHarebell f).host = s.host := rfl
@[simp] theorem onHarebell_sec (f : HarebellSt → HarebellSt) : (s.onHarebell f).sec = s.sec := rfl
@[simp] theorem onHarebell_casc (f : HarebellSt → HarebellSt) : (s.onHarebell f).casc = s.casc := rfl
@[simp] theorem onHarebell_now (f : HarebellSt → HarebellSt) : (s.onHarebell f).now = s.now := rfl
@[simp] theorem onHarebell_rdata (f : HarebellSt → HarebellSt) : (s.onHarebell f).rdata = s.rdata := rfl
@[simp] theorem onHarebell_freeIx (f : HarebellSt → HarebellSt) : (s.onHarebell f).freeIx = s.freeIx := rfl
@[simp] theorem onHarebell_pending (f : HarebellSt → HarebellSt) : (s.onHarebell f).pending = s.pending := rfl
@[simp] theorem onCornflower_ident (f : CornflowerSt → CornflowerSt) : (s.onCornflower f).ident = s.ident := rfl
@[simp] theorem onCornflower_tick (f : CornflowerSt → CornflowerSt) : (s.onCornflower f).tick = s.tick := rfl
@[simp] theorem onCornflower_world (f : CornflowerSt → CornflowerSt) : (s.onCornflower f).world = s.world := rfl
@[simp] theorem onCornflower_aster (f : CornflowerSt → CornflowerSt) : (s.onCornflower f).aster = s.aster := rfl
@[simp] theorem onCornflower_lupin (f : CornflowerSt → CornflowerSt) : (s.onCornflower f).lupin = s.lupin := rfl
@[simp] theorem onCornflower_harebell (f : CornflowerSt → CornflowerSt) : (s.onCornflower f).harebell = s.harebell := rfl
@[simp] theorem onCornflower_cornflower (f : CornflowerSt → CornflowerSt) : (s.onCornflower f).cornflower = f s.cornflower := rfl
@[simp] theorem onCornflower_poppy (f : CornflowerSt → CornflowerSt) : (s.onCornflower f).poppy = s.poppy := rfl
@[simp] theorem onCornflower_vetch (f : CornflowerSt → CornflowerSt) : (s.onCornflower f).vetch = s.vetch := rfl
@[simp] theorem onCornflower_commit (f : CornflowerSt → CornflowerSt) : (s.onCornflower f).commit = s.commit := rfl
@[simp] theorem onCornflower_zheda (f : CornflowerSt → CornflowerSt) : (s.onCornflower f).zheda = s.zheda := rfl
@[simp] theorem onCornflower_teasel (f : CornflowerSt → CornflowerSt) : (s.onCornflower f).teasel = s.teasel := rfl
@[simp] theorem onCornflower_bindweed (f : CornflowerSt → CornflowerSt) : (s.onCornflower f).bindweed = s.bindweed := rfl
@[simp] theorem onCornflower_cowslip (f : CornflowerSt → CornflowerSt) : (s.onCornflower f).cowslip = s.cowslip := rfl
@[simp] theorem onCornflower_cmd (f : CornflowerSt → CornflowerSt) : (s.onCornflower f).cmd = s.cmd := rfl
@[simp] theorem onCornflower_safety (f : CornflowerSt → CornflowerSt) : (s.onCornflower f).safety = s.safety := rfl
@[simp] theorem onCornflower_mem (f : CornflowerSt → CornflowerSt) : (s.onCornflower f).mem = s.mem := rfl
@[simp] theorem onCornflower_clock (f : CornflowerSt → CornflowerSt) : (s.onCornflower f).clock = s.clock := rfl
@[simp] theorem onCornflower_host (f : CornflowerSt → CornflowerSt) : (s.onCornflower f).host = s.host := rfl
@[simp] theorem onCornflower_sec (f : CornflowerSt → CornflowerSt) : (s.onCornflower f).sec = s.sec := rfl
@[simp] theorem onCornflower_casc (f : CornflowerSt → CornflowerSt) : (s.onCornflower f).casc = s.casc := rfl
@[simp] theorem onCornflower_now (f : CornflowerSt → CornflowerSt) : (s.onCornflower f).now = s.now := rfl
@[simp] theorem onCornflower_rdata (f : CornflowerSt → CornflowerSt) : (s.onCornflower f).rdata = s.rdata := rfl
@[simp] theorem onCornflower_freeIx (f : CornflowerSt → CornflowerSt) : (s.onCornflower f).freeIx = s.freeIx := rfl
@[simp] theorem onCornflower_pending (f : CornflowerSt → CornflowerSt) : (s.onCornflower f).pending = s.pending := rfl
@[simp] theorem onPoppy_ident (f : PoppySt → PoppySt) : (s.onPoppy f).ident = s.ident := rfl
@[simp] theorem onPoppy_tick (f : PoppySt → PoppySt) : (s.onPoppy f).tick = s.tick := rfl
@[simp] theorem onPoppy_world (f : PoppySt → PoppySt) : (s.onPoppy f).world = s.world := rfl
@[simp] theorem onPoppy_aster (f : PoppySt → PoppySt) : (s.onPoppy f).aster = s.aster := rfl
@[simp] theorem onPoppy_lupin (f : PoppySt → PoppySt) : (s.onPoppy f).lupin = s.lupin := rfl
@[simp] theorem onPoppy_harebell (f : PoppySt → PoppySt) : (s.onPoppy f).harebell = s.harebell := rfl
@[simp] theorem onPoppy_cornflower (f : PoppySt → PoppySt) : (s.onPoppy f).cornflower = s.cornflower := rfl
@[simp] theorem onPoppy_poppy (f : PoppySt → PoppySt) : (s.onPoppy f).poppy = f s.poppy := rfl
@[simp] theorem onPoppy_vetch (f : PoppySt → PoppySt) : (s.onPoppy f).vetch = s.vetch := rfl
@[simp] theorem onPoppy_commit (f : PoppySt → PoppySt) : (s.onPoppy f).commit = s.commit := rfl
@[simp] theorem onPoppy_zheda (f : PoppySt → PoppySt) : (s.onPoppy f).zheda = s.zheda := rfl
@[simp] theorem onPoppy_teasel (f : PoppySt → PoppySt) : (s.onPoppy f).teasel = s.teasel := rfl
@[simp] theorem onPoppy_bindweed (f : PoppySt → PoppySt) : (s.onPoppy f).bindweed = s.bindweed := rfl
@[simp] theorem onPoppy_cowslip (f : PoppySt → PoppySt) : (s.onPoppy f).cowslip = s.cowslip := rfl
@[simp] theorem onPoppy_cmd (f : PoppySt → PoppySt) : (s.onPoppy f).cmd = s.cmd := rfl
@[simp] theorem onPoppy_safety (f : PoppySt → PoppySt) : (s.onPoppy f).safety = s.safety := rfl
@[simp] theorem onPoppy_mem (f : PoppySt → PoppySt) : (s.onPoppy f).mem = s.mem := rfl
@[simp] theorem onPoppy_clock (f : PoppySt → PoppySt) : (s.onPoppy f).clock = s.clock := rfl
@[simp] theorem onPoppy_host (f : PoppySt → PoppySt) : (s.onPoppy f).host = s.host := rfl
@[simp] theorem onPoppy_sec (f : PoppySt → PoppySt) : (s.onPoppy f).sec = s.sec := rfl
@[simp] theorem onPoppy_casc (f : PoppySt → PoppySt) : (s.onPoppy f).casc = s.casc := rfl
@[simp] theorem onPoppy_now (f : PoppySt → PoppySt) : (s.onPoppy f).now = s.now := rfl
@[simp] theorem onPoppy_rdata (f : PoppySt → PoppySt) : (s.onPoppy f).rdata = s.rdata := rfl
@[simp] theorem onPoppy_freeIx (f : PoppySt → PoppySt) : (s.onPoppy f).freeIx = s.freeIx := rfl
@[simp] theorem onPoppy_pending (f : PoppySt → PoppySt) : (s.onPoppy f).pending = s.pending := rfl
@[simp] theorem onVetch_ident (f : VetchSt → VetchSt) : (s.onVetch f).ident = s.ident := rfl
@[simp] theorem onVetch_tick (f : VetchSt → VetchSt) : (s.onVetch f).tick = s.tick := rfl
@[simp] theorem onVetch_world (f : VetchSt → VetchSt) : (s.onVetch f).world = s.world := rfl
@[simp] theorem onVetch_aster (f : VetchSt → VetchSt) : (s.onVetch f).aster = s.aster := rfl
@[simp] theorem onVetch_lupin (f : VetchSt → VetchSt) : (s.onVetch f).lupin = s.lupin := rfl
@[simp] theorem onVetch_harebell (f : VetchSt → VetchSt) : (s.onVetch f).harebell = s.harebell := rfl
@[simp] theorem onVetch_cornflower (f : VetchSt → VetchSt) : (s.onVetch f).cornflower = s.cornflower := rfl
@[simp] theorem onVetch_poppy (f : VetchSt → VetchSt) : (s.onVetch f).poppy = s.poppy := rfl
@[simp] theorem onVetch_vetch (f : VetchSt → VetchSt) : (s.onVetch f).vetch = f s.vetch := rfl
@[simp] theorem onVetch_commit (f : VetchSt → VetchSt) : (s.onVetch f).commit = s.commit := rfl
@[simp] theorem onVetch_zheda (f : VetchSt → VetchSt) : (s.onVetch f).zheda = s.zheda := rfl
@[simp] theorem onVetch_teasel (f : VetchSt → VetchSt) : (s.onVetch f).teasel = s.teasel := rfl
@[simp] theorem onVetch_bindweed (f : VetchSt → VetchSt) : (s.onVetch f).bindweed = s.bindweed := rfl
@[simp] theorem onVetch_cowslip (f : VetchSt → VetchSt) : (s.onVetch f).cowslip = s.cowslip := rfl
@[simp] theorem onVetch_cmd (f : VetchSt → VetchSt) : (s.onVetch f).cmd = s.cmd := rfl
@[simp] theorem onVetch_safety (f : VetchSt → VetchSt) : (s.onVetch f).safety = s.safety := rfl
@[simp] theorem onVetch_mem (f : VetchSt → VetchSt) : (s.onVetch f).mem = s.mem := rfl
@[simp] theorem onVetch_clock (f : VetchSt → VetchSt) : (s.onVetch f).clock = s.clock := rfl
@[simp] theorem onVetch_host (f : VetchSt → VetchSt) : (s.onVetch f).host = s.host := rfl
@[simp] theorem onVetch_sec (f : VetchSt → VetchSt) : (s.onVetch f).sec = s.sec := rfl
@[simp] theorem onVetch_casc (f : VetchSt → VetchSt) : (s.onVetch f).casc = s.casc := rfl
@[simp] theorem onVetch_now (f : VetchSt → VetchSt) : (s.onVetch f).now = s.now := rfl
@[simp] theorem onVetch_rdata (f : VetchSt → VetchSt) : (s.onVetch f).rdata = s.rdata := rfl
@[simp] theorem onVetch_freeIx (f : VetchSt → VetchSt) : (s.onVetch f).freeIx = s.freeIx := rfl
@[simp] theorem onVetch_pending (f : VetchSt → VetchSt) : (s.onVetch f).pending = s.pending := rfl
@[simp] theorem onCommit_ident (f : CommitSt → CommitSt) : (s.onCommit f).ident = s.ident := rfl
@[simp] theorem onCommit_tick (f : CommitSt → CommitSt) : (s.onCommit f).tick = s.tick := rfl
@[simp] theorem onCommit_world (f : CommitSt → CommitSt) : (s.onCommit f).world = s.world := rfl
@[simp] theorem onCommit_aster (f : CommitSt → CommitSt) : (s.onCommit f).aster = s.aster := rfl
@[simp] theorem onCommit_lupin (f : CommitSt → CommitSt) : (s.onCommit f).lupin = s.lupin := rfl
@[simp] theorem onCommit_harebell (f : CommitSt → CommitSt) : (s.onCommit f).harebell = s.harebell := rfl
@[simp] theorem onCommit_cornflower (f : CommitSt → CommitSt) : (s.onCommit f).cornflower = s.cornflower := rfl
@[simp] theorem onCommit_poppy (f : CommitSt → CommitSt) : (s.onCommit f).poppy = s.poppy := rfl
@[simp] theorem onCommit_vetch (f : CommitSt → CommitSt) : (s.onCommit f).vetch = s.vetch := rfl
@[simp] theorem onCommit_commit (f : CommitSt → CommitSt) : (s.onCommit f).commit = f s.commit := rfl
@[simp] theorem onCommit_zheda (f : CommitSt → CommitSt) : (s.onCommit f).zheda = s.zheda := rfl
@[simp] theorem onCommit_teasel (f : CommitSt → CommitSt) : (s.onCommit f).teasel = s.teasel := rfl
@[simp] theorem onCommit_bindweed (f : CommitSt → CommitSt) : (s.onCommit f).bindweed = s.bindweed := rfl
@[simp] theorem onCommit_cowslip (f : CommitSt → CommitSt) : (s.onCommit f).cowslip = s.cowslip := rfl
@[simp] theorem onCommit_cmd (f : CommitSt → CommitSt) : (s.onCommit f).cmd = s.cmd := rfl
@[simp] theorem onCommit_safety (f : CommitSt → CommitSt) : (s.onCommit f).safety = s.safety := rfl
@[simp] theorem onCommit_mem (f : CommitSt → CommitSt) : (s.onCommit f).mem = s.mem := rfl
@[simp] theorem onCommit_clock (f : CommitSt → CommitSt) : (s.onCommit f).clock = s.clock := rfl
@[simp] theorem onCommit_host (f : CommitSt → CommitSt) : (s.onCommit f).host = s.host := rfl
@[simp] theorem onCommit_sec (f : CommitSt → CommitSt) : (s.onCommit f).sec = s.sec := rfl
@[simp] theorem onCommit_casc (f : CommitSt → CommitSt) : (s.onCommit f).casc = s.casc := rfl
@[simp] theorem onCommit_now (f : CommitSt → CommitSt) : (s.onCommit f).now = s.now := rfl
@[simp] theorem onCommit_rdata (f : CommitSt → CommitSt) : (s.onCommit f).rdata = s.rdata := rfl
@[simp] theorem onCommit_freeIx (f : CommitSt → CommitSt) : (s.onCommit f).freeIx = s.freeIx := rfl
@[simp] theorem onCommit_pending (f : CommitSt → CommitSt) : (s.onCommit f).pending = s.pending := rfl
@[simp] theorem onZheda_ident (f : ZhedaSt → ZhedaSt) : (s.onZheda f).ident = s.ident := rfl
@[simp] theorem onZheda_tick (f : ZhedaSt → ZhedaSt) : (s.onZheda f).tick = s.tick := rfl
@[simp] theorem onZheda_world (f : ZhedaSt → ZhedaSt) : (s.onZheda f).world = s.world := rfl
@[simp] theorem onZheda_aster (f : ZhedaSt → ZhedaSt) : (s.onZheda f).aster = s.aster := rfl
@[simp] theorem onZheda_lupin (f : ZhedaSt → ZhedaSt) : (s.onZheda f).lupin = s.lupin := rfl
@[simp] theorem onZheda_harebell (f : ZhedaSt → ZhedaSt) : (s.onZheda f).harebell = s.harebell := rfl
@[simp] theorem onZheda_cornflower (f : ZhedaSt → ZhedaSt) : (s.onZheda f).cornflower = s.cornflower := rfl
@[simp] theorem onZheda_poppy (f : ZhedaSt → ZhedaSt) : (s.onZheda f).poppy = s.poppy := rfl
@[simp] theorem onZheda_vetch (f : ZhedaSt → ZhedaSt) : (s.onZheda f).vetch = s.vetch := rfl
@[simp] theorem onZheda_commit (f : ZhedaSt → ZhedaSt) : (s.onZheda f).commit = s.commit := rfl
@[simp] theorem onZheda_zheda (f : ZhedaSt → ZhedaSt) : (s.onZheda f).zheda = f s.zheda := rfl
@[simp] theorem onZheda_teasel (f : ZhedaSt → ZhedaSt) : (s.onZheda f).teasel = s.teasel := rfl
@[simp] theorem onZheda_bindweed (f : ZhedaSt → ZhedaSt) : (s.onZheda f).bindweed = s.bindweed := rfl
@[simp] theorem onZheda_cowslip (f : ZhedaSt → ZhedaSt) : (s.onZheda f).cowslip = s.cowslip := rfl
@[simp] theorem onZheda_cmd (f : ZhedaSt → ZhedaSt) : (s.onZheda f).cmd = s.cmd := rfl
@[simp] theorem onZheda_safety (f : ZhedaSt → ZhedaSt) : (s.onZheda f).safety = s.safety := rfl
@[simp] theorem onZheda_mem (f : ZhedaSt → ZhedaSt) : (s.onZheda f).mem = s.mem := rfl
@[simp] theorem onZheda_clock (f : ZhedaSt → ZhedaSt) : (s.onZheda f).clock = s.clock := rfl
@[simp] theorem onZheda_host (f : ZhedaSt → ZhedaSt) : (s.onZheda f).host = s.host := rfl
@[simp] theorem onZheda_sec (f : ZhedaSt → ZhedaSt) : (s.onZheda f).sec = s.sec := rfl
@[simp] theorem onZheda_casc (f : ZhedaSt → ZhedaSt) : (s.onZheda f).casc = s.casc := rfl
@[simp] theorem onZheda_now (f : ZhedaSt → ZhedaSt) : (s.onZheda f).now = s.now := rfl
@[simp] theorem onZheda_rdata (f : ZhedaSt → ZhedaSt) : (s.onZheda f).rdata = s.rdata := rfl
@[simp] theorem onZheda_freeIx (f : ZhedaSt → ZhedaSt) : (s.onZheda f).freeIx = s.freeIx := rfl
@[simp] theorem onZheda_pending (f : ZhedaSt → ZhedaSt) : (s.onZheda f).pending = s.pending := rfl
@[simp] theorem onTeasel_ident (f : TeaselSt → TeaselSt) : (s.onTeasel f).ident = s.ident := rfl
@[simp] theorem onTeasel_tick (f : TeaselSt → TeaselSt) : (s.onTeasel f).tick = s.tick := rfl
@[simp] theorem onTeasel_world (f : TeaselSt → TeaselSt) : (s.onTeasel f).world = s.world := rfl
@[simp] theorem onTeasel_aster (f : TeaselSt → TeaselSt) : (s.onTeasel f).aster = s.aster := rfl
@[simp] theorem onTeasel_lupin (f : TeaselSt → TeaselSt) : (s.onTeasel f).lupin = s.lupin := rfl
@[simp] theorem onTeasel_harebell (f : TeaselSt → TeaselSt) : (s.onTeasel f).harebell = s.harebell := rfl
@[simp] theorem onTeasel_cornflower (f : TeaselSt → TeaselSt) : (s.onTeasel f).cornflower = s.cornflower := rfl
@[simp] theorem onTeasel_poppy (f : TeaselSt → TeaselSt) : (s.onTeasel f).poppy = s.poppy := rfl
@[simp] theorem onTeasel_vetch (f : TeaselSt → TeaselSt) : (s.onTeasel f).vetch = s.vetch := rfl
@[simp] theorem onTeasel_commit (f : TeaselSt → TeaselSt) : (s.onTeasel f).commit = s.commit := rfl
@[simp] theorem onTeasel_zheda (f : TeaselSt → TeaselSt) : (s.onTeasel f).zheda = s.zheda := rfl
@[simp] theorem onTeasel_teasel (f : TeaselSt → TeaselSt) : (s.onTeasel f).teasel = f s.teasel := rfl
@[simp] theorem onTeasel_bindweed (f : TeaselSt → TeaselSt) : (s.onTeasel f).bindweed = s.bindweed := rfl
@[simp] theorem onTeasel_cowslip (f : TeaselSt → TeaselSt) : (s.onTeasel f).cowslip = s.cowslip := rfl
@[simp] theorem onTeasel_cmd (f : TeaselSt → TeaselSt) : (s.onTeasel f).cmd = s.cmd := rfl
@[simp] theorem onTeasel_safety (f : TeaselSt → TeaselSt) : (s.onTeasel f).safety = s.safety := rfl
@[simp] theorem onTeasel_mem (f : TeaselSt → TeaselSt) : (s.onTeasel f).mem = s.mem := rfl
@[simp] theorem onTeasel_clock (f : TeaselSt → TeaselSt) : (s.onTeasel f).clock = s.clock := rfl
@[simp] theorem onTeasel_host (f : TeaselSt → TeaselSt) : (s.onTeasel f).host = s.host := rfl
@[simp] theorem onTeasel_sec (f : TeaselSt → TeaselSt) : (s.onTeasel f).sec = s.sec := rfl
@[simp] theorem onTeasel_casc (f : TeaselSt → TeaselSt) : (s.onTeasel f).casc = s.casc := rfl
@[simp] theorem onTeasel_now (f : TeaselSt → TeaselSt) : (s.onTeasel f).now = s.now := rfl
@[simp] theorem onTeasel_rdata (f : TeaselSt → TeaselSt) : (s.onTeasel f).rdata = s.rdata := rfl
@[simp] theorem onTeasel_freeIx (f : TeaselSt → TeaselSt) : (s.onTeasel f).freeIx = s.freeIx := rfl
@[simp] theorem onTeasel_pending (f : TeaselSt → TeaselSt) : (s.onTeasel f).pending = s.pending := rfl
@[simp] theorem onBindweed_ident (f : BindweedSt → BindweedSt) : (s.onBindweed f).ident = s.ident := rfl
@[simp] theorem onBindweed_tick (f : BindweedSt → BindweedSt) : (s.onBindweed f).tick = s.tick := rfl
@[simp] theorem onBindweed_world (f : BindweedSt → BindweedSt) : (s.onBindweed f).world = s.world := rfl
@[simp] theorem onBindweed_aster (f : BindweedSt → BindweedSt) : (s.onBindweed f).aster = s.aster := rfl
@[simp] theorem onBindweed_lupin (f : BindweedSt → BindweedSt) : (s.onBindweed f).lupin = s.lupin := rfl
@[simp] theorem onBindweed_harebell (f : BindweedSt → BindweedSt) : (s.onBindweed f).harebell = s.harebell := rfl
@[simp] theorem onBindweed_cornflower (f : BindweedSt → BindweedSt) : (s.onBindweed f).cornflower = s.cornflower := rfl
@[simp] theorem onBindweed_poppy (f : BindweedSt → BindweedSt) : (s.onBindweed f).poppy = s.poppy := rfl
@[simp] theorem onBindweed_vetch (f : BindweedSt → BindweedSt) : (s.onBindweed f).vetch = s.vetch := rfl
@[simp] theorem onBindweed_commit (f : BindweedSt → BindweedSt) : (s.onBindweed f).commit = s.commit := rfl
@[simp] theorem onBindweed_zheda (f : BindweedSt → BindweedSt) : (s.onBindweed f).zheda = s.zheda := rfl
@[simp] theorem onBindweed_teasel (f : BindweedSt → BindweedSt) : (s.onBindweed f).teasel = s.teasel := rfl
@[simp] theorem onBindweed_bindweed (f : BindweedSt → BindweedSt) : (s.onBindweed f).bindweed = f s.bindweed := rfl
@[simp] theorem onBindweed_cowslip (f : BindweedSt → BindweedSt) : (s.onBindweed f).cowslip = s.cowslip := rfl
@[simp] theorem onBindweed_cmd (f : BindweedSt → BindweedSt) : (s.onBindweed f).cmd = s.cmd := rfl
@[simp] theorem onBindweed_safety (f : BindweedSt → BindweedSt) : (s.onBindweed f).safety = s.safety := rfl
@[simp] theorem onBindweed_mem (f : BindweedSt → BindweedSt) : (s.onBindweed f).mem = s.mem := rfl
@[simp] theorem onBindweed_clock (f : BindweedSt → BindweedSt) : (s.onBindweed f).clock = s.clock := rfl
@[simp] theorem onBindweed_host (f : BindweedSt → BindweedSt) : (s.onBindweed f).host = s.host := rfl
@[simp] theorem onBindweed_sec (f : BindweedSt → BindweedSt) : (s.onBindweed f).sec = s.sec := rfl
@[simp] theorem onBindweed_casc (f : BindweedSt → BindweedSt) : (s.onBindweed f).casc = s.casc := rfl
@[simp] theorem onBindweed_now (f : BindweedSt → BindweedSt) : (s.onBindweed f).now = s.now := rfl
@[simp] theorem onBindweed_rdata (f : BindweedSt → BindweedSt) : (s.onBindweed f).rdata = s.rdata := rfl
@[simp] theorem onBindweed_freeIx (f : BindweedSt → BindweedSt) : (s.onBindweed f).freeIx = s.freeIx := rfl
@[simp] theorem onBindweed_pending (f : BindweedSt → BindweedSt) : (s.onBindweed f).pending = s.pending := rfl
@[simp] theorem onCowslip_ident (f : CowslipSt → CowslipSt) : (s.onCowslip f).ident = s.ident := rfl
@[simp] theorem onCowslip_tick (f : CowslipSt → CowslipSt) : (s.onCowslip f).tick = s.tick := rfl
@[simp] theorem onCowslip_world (f : CowslipSt → CowslipSt) : (s.onCowslip f).world = s.world := rfl
@[simp] theorem onCowslip_aster (f : CowslipSt → CowslipSt) : (s.onCowslip f).aster = s.aster := rfl
@[simp] theorem onCowslip_lupin (f : CowslipSt → CowslipSt) : (s.onCowslip f).lupin = s.lupin := rfl
@[simp] theorem onCowslip_harebell (f : CowslipSt → CowslipSt) : (s.onCowslip f).harebell = s.harebell := rfl
@[simp] theorem onCowslip_cornflower (f : CowslipSt → CowslipSt) : (s.onCowslip f).cornflower = s.cornflower := rfl
@[simp] theorem onCowslip_poppy (f : CowslipSt → CowslipSt) : (s.onCowslip f).poppy = s.poppy := rfl
@[simp] theorem onCowslip_vetch (f : CowslipSt → CowslipSt) : (s.onCowslip f).vetch = s.vetch := rfl
@[simp] theorem onCowslip_commit (f : CowslipSt → CowslipSt) : (s.onCowslip f).commit = s.commit := rfl
@[simp] theorem onCowslip_zheda (f : CowslipSt → CowslipSt) : (s.onCowslip f).zheda = s.zheda := rfl
@[simp] theorem onCowslip_teasel (f : CowslipSt → CowslipSt) : (s.onCowslip f).teasel = s.teasel := rfl
@[simp] theorem onCowslip_bindweed (f : CowslipSt → CowslipSt) : (s.onCowslip f).bindweed = s.bindweed := rfl
@[simp] theorem onCowslip_cowslip (f : CowslipSt → CowslipSt) : (s.onCowslip f).cowslip = f s.cowslip := rfl
@[simp] theorem onCowslip_cmd (f : CowslipSt → CowslipSt) : (s.onCowslip f).cmd = s.cmd := rfl
@[simp] theorem onCowslip_safety (f : CowslipSt → CowslipSt) : (s.onCowslip f).safety = s.safety := rfl
@[simp] theorem onCowslip_mem (f : CowslipSt → CowslipSt) : (s.onCowslip f).mem = s.mem := rfl
@[simp] theorem onCowslip_clock (f : CowslipSt → CowslipSt) : (s.onCowslip f).clock = s.clock := rfl
@[simp] theorem onCowslip_host (f : CowslipSt → CowslipSt) : (s.onCowslip f).host = s.host := rfl
@[simp] theorem onCowslip_sec (f : CowslipSt → CowslipSt) : (s.onCowslip f).sec = s.sec := rfl
@[simp] theorem onCowslip_casc (f : CowslipSt → CowslipSt) : (s.onCowslip f).casc = s.casc := rfl
@[simp] theorem onCowslip_now (f : CowslipSt → CowslipSt) : (s.onCowslip f).now = s.now := rfl
@[simp] theorem onCowslip_rdata (f : CowslipSt → CowslipSt) : (s.onCowslip f).rdata = s.rdata := rfl
@[simp] theorem onCowslip_freeIx (f : CowslipSt → CowslipSt) : (s.onCowslip f).freeIx = s.freeIx := rfl
@[simp] theorem onCowslip_pending (f : CowslipSt → CowslipSt) : (s.onCowslip f).pending = s.pending := rfl
@[simp] theorem onCmd_ident (f : CommandSt → CommandSt) : (s.onCmd f).ident = s.ident := rfl
@[simp] theorem onCmd_tick (f : CommandSt → CommandSt) : (s.onCmd f).tick = s.tick := rfl
@[simp] theorem onCmd_world (f : CommandSt → CommandSt) : (s.onCmd f).world = s.world := rfl
@[simp] theorem onCmd_aster (f : CommandSt → CommandSt) : (s.onCmd f).aster = s.aster := rfl
@[simp] theorem onCmd_lupin (f : CommandSt → CommandSt) : (s.onCmd f).lupin = s.lupin := rfl
@[simp] theorem onCmd_harebell (f : CommandSt → CommandSt) : (s.onCmd f).harebell = s.harebell := rfl
@[simp] theorem onCmd_cornflower (f : CommandSt → CommandSt) : (s.onCmd f).cornflower = s.cornflower := rfl
@[simp] theorem onCmd_poppy (f : CommandSt → CommandSt) : (s.onCmd f).poppy = s.poppy := rfl
@[simp] theorem onCmd_vetch (f : CommandSt → CommandSt) : (s.onCmd f).vetch = s.vetch := rfl
@[simp] theorem onCmd_commit (f : CommandSt → CommandSt) : (s.onCmd f).commit = s.commit := rfl
@[simp] theorem onCmd_zheda (f : CommandSt → CommandSt) : (s.onCmd f).zheda = s.zheda := rfl
@[simp] theorem onCmd_teasel (f : CommandSt → CommandSt) : (s.onCmd f).teasel = s.teasel := rfl
@[simp] theorem onCmd_bindweed (f : CommandSt → CommandSt) : (s.onCmd f).bindweed = s.bindweed := rfl
@[simp] theorem onCmd_cowslip (f : CommandSt → CommandSt) : (s.onCmd f).cowslip = s.cowslip := rfl
@[simp] theorem onCmd_cmd (f : CommandSt → CommandSt) : (s.onCmd f).cmd = f s.cmd := rfl
@[simp] theorem onCmd_safety (f : CommandSt → CommandSt) : (s.onCmd f).safety = s.safety := rfl
@[simp] theorem onCmd_mem (f : CommandSt → CommandSt) : (s.onCmd f).mem = s.mem := rfl
@[simp] theorem onCmd_clock (f : CommandSt → CommandSt) : (s.onCmd f).clock = s.clock := rfl
@[simp] theorem onCmd_host (f : CommandSt → CommandSt) : (s.onCmd f).host = s.host := rfl
@[simp] theorem onCmd_sec (f : CommandSt → CommandSt) : (s.onCmd f).sec = s.sec := rfl
@[simp] theorem onCmd_casc (f : CommandSt → CommandSt) : (s.onCmd f).casc = s.casc := rfl
@[simp] theorem onCmd_now (f : CommandSt → CommandSt) : (s.onCmd f).now = s.now := rfl
@[simp] theorem onCmd_rdata (f : CommandSt → CommandSt) : (s.onCmd f).rdata = s.rdata := rfl
@[simp] theorem onCmd_freeIx (f : CommandSt → CommandSt) : (s.onCmd f).freeIx = s.freeIx := rfl
@[simp] theorem onCmd_pending (f : CommandSt → CommandSt) : (s.onCmd f).pending = s.pending := rfl
@[simp] theorem onSafety_ident (f : SafetySt → SafetySt) : (s.onSafety f).ident = s.ident := rfl
@[simp] theorem onSafety_tick (f : SafetySt → SafetySt) : (s.onSafety f).tick = s.tick := rfl
@[simp] theorem onSafety_world (f : SafetySt → SafetySt) : (s.onSafety f).world = s.world := rfl
@[simp] theorem onSafety_aster (f : SafetySt → SafetySt) : (s.onSafety f).aster = s.aster := rfl
@[simp] theorem onSafety_lupin (f : SafetySt → SafetySt) : (s.onSafety f).lupin = s.lupin := rfl
@[simp] theorem onSafety_harebell (f : SafetySt → SafetySt) : (s.onSafety f).harebell = s.harebell := rfl
@[simp] theorem onSafety_cornflower (f : SafetySt → SafetySt) : (s.onSafety f).cornflower = s.cornflower := rfl
@[simp] theorem onSafety_poppy (f : SafetySt → SafetySt) : (s.onSafety f).poppy = s.poppy := rfl
@[simp] theorem onSafety_vetch (f : SafetySt → SafetySt) : (s.onSafety f).vetch = s.vetch := rfl
@[simp] theorem onSafety_commit (f : SafetySt → SafetySt) : (s.onSafety f).commit = s.commit := rfl
@[simp] theorem onSafety_zheda (f : SafetySt → SafetySt) : (s.onSafety f).zheda = s.zheda := rfl
@[simp] theorem onSafety_teasel (f : SafetySt → SafetySt) : (s.onSafety f).teasel = s.teasel := rfl
@[simp] theorem onSafety_bindweed (f : SafetySt → SafetySt) : (s.onSafety f).bindweed = s.bindweed := rfl
@[simp] theorem onSafety_cowslip (f : SafetySt → SafetySt) : (s.onSafety f).cowslip = s.cowslip := rfl
@[simp] theorem onSafety_cmd (f : SafetySt → SafetySt) : (s.onSafety f).cmd = s.cmd := rfl
@[simp] theorem onSafety_safety (f : SafetySt → SafetySt) : (s.onSafety f).safety = f s.safety := rfl
@[simp] theorem onSafety_mem (f : SafetySt → SafetySt) : (s.onSafety f).mem = s.mem := rfl
@[simp] theorem onSafety_clock (f : SafetySt → SafetySt) : (s.onSafety f).clock = s.clock := rfl
@[simp] theorem onSafety_host (f : SafetySt → SafetySt) : (s.onSafety f).host = s.host := rfl
@[simp] theorem onSafety_sec (f : SafetySt → SafetySt) : (s.onSafety f).sec = s.sec := rfl
@[simp] theorem onSafety_casc (f : SafetySt → SafetySt) : (s.onSafety f).casc = s.casc := rfl
@[simp] theorem onSafety_now (f : SafetySt → SafetySt) : (s.onSafety f).now = s.now := rfl
@[simp] theorem onSafety_rdata (f : SafetySt → SafetySt) : (s.onSafety f).rdata = s.rdata := rfl
@[simp] theorem onSafety_freeIx (f : SafetySt → SafetySt) : (s.onSafety f).freeIx = s.freeIx := rfl
@[simp] theorem onSafety_pending (f : SafetySt → SafetySt) : (s.onSafety f).pending = s.pending := rfl
@[simp] theorem onMem_ident (f : MemorySt → MemorySt) : (s.onMem f).ident = s.ident := rfl
@[simp] theorem onMem_tick (f : MemorySt → MemorySt) : (s.onMem f).tick = s.tick := rfl
@[simp] theorem onMem_world (f : MemorySt → MemorySt) : (s.onMem f).world = s.world := rfl
@[simp] theorem onMem_aster (f : MemorySt → MemorySt) : (s.onMem f).aster = s.aster := rfl
@[simp] theorem onMem_lupin (f : MemorySt → MemorySt) : (s.onMem f).lupin = s.lupin := rfl
@[simp] theorem onMem_harebell (f : MemorySt → MemorySt) : (s.onMem f).harebell = s.harebell := rfl
@[simp] theorem onMem_cornflower (f : MemorySt → MemorySt) : (s.onMem f).cornflower = s.cornflower := rfl
@[simp] theorem onMem_poppy (f : MemorySt → MemorySt) : (s.onMem f).poppy = s.poppy := rfl
@[simp] theorem onMem_vetch (f : MemorySt → MemorySt) : (s.onMem f).vetch = s.vetch := rfl
@[simp] theorem onMem_commit (f : MemorySt → MemorySt) : (s.onMem f).commit = s.commit := rfl
@[simp] theorem onMem_zheda (f : MemorySt → MemorySt) : (s.onMem f).zheda = s.zheda := rfl
@[simp] theorem onMem_teasel (f : MemorySt → MemorySt) : (s.onMem f).teasel = s.teasel := rfl
@[simp] theorem onMem_bindweed (f : MemorySt → MemorySt) : (s.onMem f).bindweed = s.bindweed := rfl
@[simp] theorem onMem_cowslip (f : MemorySt → MemorySt) : (s.onMem f).cowslip = s.cowslip := rfl
@[simp] theorem onMem_cmd (f : MemorySt → MemorySt) : (s.onMem f).cmd = s.cmd := rfl
@[simp] theorem onMem_safety (f : MemorySt → MemorySt) : (s.onMem f).safety = s.safety := rfl
@[simp] theorem onMem_mem (f : MemorySt → MemorySt) : (s.onMem f).mem = f s.mem := rfl
@[simp] theorem onMem_clock (f : MemorySt → MemorySt) : (s.onMem f).clock = s.clock := rfl
@[simp] theorem onMem_host (f : MemorySt → MemorySt) : (s.onMem f).host = s.host := rfl
@[simp] theorem onMem_sec (f : MemorySt → MemorySt) : (s.onMem f).sec = s.sec := rfl
@[simp] theorem onMem_casc (f : MemorySt → MemorySt) : (s.onMem f).casc = s.casc := rfl
@[simp] theorem onMem_now (f : MemorySt → MemorySt) : (s.onMem f).now = s.now := rfl
@[simp] theorem onMem_rdata (f : MemorySt → MemorySt) : (s.onMem f).rdata = s.rdata := rfl
@[simp] theorem onMem_freeIx (f : MemorySt → MemorySt) : (s.onMem f).freeIx = s.freeIx := rfl
@[simp] theorem onMem_pending (f : MemorySt → MemorySt) : (s.onMem f).pending = s.pending := rfl
@[simp] theorem onClock_ident (f : ClockSt → ClockSt) : (s.onClock f).ident = s.ident := rfl
@[simp] theorem onClock_tick (f : ClockSt → ClockSt) : (s.onClock f).tick = s.tick := rfl
@[simp] theorem onClock_world (f : ClockSt → ClockSt) : (s.onClock f).world = s.world := rfl
@[simp] theorem onClock_aster (f : ClockSt → ClockSt) : (s.onClock f).aster = s.aster := rfl
@[simp] theorem onClock_lupin (f : ClockSt → ClockSt) : (s.onClock f).lupin = s.lupin := rfl
@[simp] theorem onClock_harebell (f : ClockSt → ClockSt) : (s.onClock f).harebell = s.harebell := rfl
@[simp] theorem onClock_cornflower (f : ClockSt → ClockSt) : (s.onClock f).cornflower = s.cornflower := rfl
@[simp] theorem onClock_poppy (f : ClockSt → ClockSt) : (s.onClock f).poppy = s.poppy := rfl
@[simp] theorem onClock_vetch (f : ClockSt → ClockSt) : (s.onClock f).vetch = s.vetch := rfl
@[simp] theorem onClock_commit (f : ClockSt → ClockSt) : (s.onClock f).commit = s.commit := rfl
@[simp] theorem onClock_zheda (f : ClockSt → ClockSt) : (s.onClock f).zheda = s.zheda := rfl
@[simp] theorem onClock_teasel (f : ClockSt → ClockSt) : (s.onClock f).teasel = s.teasel := rfl
@[simp] theorem onClock_bindweed (f : ClockSt → ClockSt) : (s.onClock f).bindweed = s.bindweed := rfl
@[simp] theorem onClock_cowslip (f : ClockSt → ClockSt) : (s.onClock f).cowslip = s.cowslip := rfl
@[simp] theorem onClock_cmd (f : ClockSt → ClockSt) : (s.onClock f).cmd = s.cmd := rfl
@[simp] theorem onClock_safety (f : ClockSt → ClockSt) : (s.onClock f).safety = s.safety := rfl
@[simp] theorem onClock_mem (f : ClockSt → ClockSt) : (s.onClock f).mem = s.mem := rfl
@[simp] theorem onClock_clock (f : ClockSt → ClockSt) : (s.onClock f).clock = f s.clock := rfl
@[simp] theorem onClock_host (f : ClockSt → ClockSt) : (s.onClock f).host = s.host := rfl
@[simp] theorem onClock_sec (f : ClockSt → ClockSt) : (s.onClock f).sec = s.sec := rfl
@[simp] theorem onClock_casc (f : ClockSt → ClockSt) : (s.onClock f).casc = s.casc := rfl
@[simp] theorem onClock_now (f : ClockSt → ClockSt) : (s.onClock f).now = s.now := rfl
@[simp] theorem onClock_rdata (f : ClockSt → ClockSt) : (s.onClock f).rdata = s.rdata := rfl
@[simp] theorem onClock_freeIx (f : ClockSt → ClockSt) : (s.onClock f).freeIx = s.freeIx := rfl
@[simp] theorem onClock_pending (f : ClockSt → ClockSt) : (s.onClock f).pending = s.pending := rfl
@[simp] theorem onHost_ident (f : HostSt → HostSt) : (s.onHost f).ident = s.ident := rfl
@[simp] theorem onHost_tick (f : HostSt → HostSt) : (s.onHost f).tick = s.tick := rfl
@[simp] theorem onHost_world (f : HostSt → HostSt) : (s.onHost f).world = s.world := rfl
@[simp] theorem onHost_aster (f : HostSt → HostSt) : (s.onHost f).aster = s.aster := rfl
@[simp] theorem onHost_lupin (f : HostSt → HostSt) : (s.onHost f).lupin = s.lupin := rfl
@[simp] theorem onHost_harebell (f : HostSt → HostSt) : (s.onHost f).harebell = s.harebell := rfl
@[simp] theorem onHost_cornflower (f : HostSt → HostSt) : (s.onHost f).cornflower = s.cornflower := rfl
@[simp] theorem onHost_poppy (f : HostSt → HostSt) : (s.onHost f).poppy = s.poppy := rfl
@[simp] theorem onHost_vetch (f : HostSt → HostSt) : (s.onHost f).vetch = s.vetch := rfl
@[simp] theorem onHost_commit (f : HostSt → HostSt) : (s.onHost f).commit = s.commit := rfl
@[simp] theorem onHost_zheda (f : HostSt → HostSt) : (s.onHost f).zheda = s.zheda := rfl
@[simp] theorem onHost_teasel (f : HostSt → HostSt) : (s.onHost f).teasel = s.teasel := rfl
@[simp] theorem onHost_bindweed (f : HostSt → HostSt) : (s.onHost f).bindweed = s.bindweed := rfl
@[simp] theorem onHost_cowslip (f : HostSt → HostSt) : (s.onHost f).cowslip = s.cowslip := rfl
@[simp] theorem onHost_cmd (f : HostSt → HostSt) : (s.onHost f).cmd = s.cmd := rfl
@[simp] theorem onHost_safety (f : HostSt → HostSt) : (s.onHost f).safety = s.safety := rfl
@[simp] theorem onHost_mem (f : HostSt → HostSt) : (s.onHost f).mem = s.mem := rfl
@[simp] theorem onHost_clock (f : HostSt → HostSt) : (s.onHost f).clock = s.clock := rfl
@[simp] theorem onHost_host (f : HostSt → HostSt) : (s.onHost f).host = f s.host := rfl
@[simp] theorem onHost_sec (f : HostSt → HostSt) : (s.onHost f).sec = s.sec := rfl
@[simp] theorem onHost_casc (f : HostSt → HostSt) : (s.onHost f).casc = s.casc := rfl
@[simp] theorem onHost_now (f : HostSt → HostSt) : (s.onHost f).now = s.now := rfl
@[simp] theorem onHost_rdata (f : HostSt → HostSt) : (s.onHost f).rdata = s.rdata := rfl
@[simp] theorem onHost_freeIx (f : HostSt → HostSt) : (s.onHost f).freeIx = s.freeIx := rfl
@[simp] theorem onHost_pending (f : HostSt → HostSt) : (s.onHost f).pending = s.pending := rfl
@[simp] theorem onSec_ident (f : SecuritySt → SecuritySt) : (s.onSec f).ident = s.ident := rfl
@[simp] theorem onSec_tick (f : SecuritySt → SecuritySt) : (s.onSec f).tick = s.tick := rfl
@[simp] theorem onSec_world (f : SecuritySt → SecuritySt) : (s.onSec f).world = s.world := rfl
@[simp] theorem onSec_aster (f : SecuritySt → SecuritySt) : (s.onSec f).aster = s.aster := rfl
@[simp] theorem onSec_lupin (f : SecuritySt → SecuritySt) : (s.onSec f).lupin = s.lupin := rfl
@[simp] theorem onSec_harebell (f : SecuritySt → SecuritySt) : (s.onSec f).harebell = s.harebell := rfl
@[simp] theorem onSec_cornflower (f : SecuritySt → SecuritySt) : (s.onSec f).cornflower = s.cornflower := rfl
@[simp] theorem onSec_poppy (f : SecuritySt → SecuritySt) : (s.onSec f).poppy = s.poppy := rfl
@[simp] theorem onSec_vetch (f : SecuritySt → SecuritySt) : (s.onSec f).vetch = s.vetch := rfl
@[simp] theorem onSec_commit (f : SecuritySt → SecuritySt) : (s.onSec f).commit = s.commit := rfl
@[simp] theorem onSec_zheda (f : SecuritySt → SecuritySt) : (s.onSec f).zheda = s.zheda := rfl
@[simp] theorem onSec_teasel (f : SecuritySt → SecuritySt) : (s.onSec f).teasel = s.teasel := rfl
@[simp] theorem onSec_bindweed (f : SecuritySt → SecuritySt) : (s.onSec f).bindweed = s.bindweed := rfl
@[simp] theorem onSec_cowslip (f : SecuritySt → SecuritySt) : (s.onSec f).cowslip = s.cowslip := rfl
@[simp] theorem onSec_cmd (f : SecuritySt → SecuritySt) : (s.onSec f).cmd = s.cmd := rfl
@[simp] theorem onSec_safety (f : SecuritySt → SecuritySt) : (s.onSec f).safety = s.safety := rfl
@[simp] theorem onSec_mem (f : SecuritySt → SecuritySt) : (s.onSec f).mem = s.mem := rfl
@[simp] theorem onSec_clock (f : SecuritySt → SecuritySt) : (s.onSec f).clock = s.clock := rfl
@[simp] theorem onSec_host (f : SecuritySt → SecuritySt) : (s.onSec f).host = s.host := rfl
@[simp] theorem onSec_sec (f : SecuritySt → SecuritySt) : (s.onSec f).sec = f s.sec := rfl
@[simp] theorem onSec_casc (f : SecuritySt → SecuritySt) : (s.onSec f).casc = s.casc := rfl
@[simp] theorem onSec_now (f : SecuritySt → SecuritySt) : (s.onSec f).now = s.now := rfl
@[simp] theorem onSec_rdata (f : SecuritySt → SecuritySt) : (s.onSec f).rdata = s.rdata := rfl
@[simp] theorem onSec_freeIx (f : SecuritySt → SecuritySt) : (s.onSec f).freeIx = s.freeIx := rfl
@[simp] theorem onSec_pending (f : SecuritySt → SecuritySt) : (s.onSec f).pending = s.pending := rfl
@[simp] theorem onCasc_ident (f : CascadeSt → CascadeSt) : (s.onCasc f).ident = s.ident := rfl
@[simp] theorem onCasc_tick (f : CascadeSt → CascadeSt) : (s.onCasc f).tick = s.tick := rfl
@[simp] theorem onCasc_world (f : CascadeSt → CascadeSt) : (s.onCasc f).world = s.world := rfl
@[simp] theorem onCasc_aster (f : CascadeSt → CascadeSt) : (s.onCasc f).aster = s.aster := rfl
@[simp] theorem onCasc_lupin (f : CascadeSt → CascadeSt) : (s.onCasc f).lupin = s.lupin := rfl
@[simp] theorem onCasc_harebell (f : CascadeSt → CascadeSt) : (s.onCasc f).harebell = s.harebell := rfl
@[simp] theorem onCasc_cornflower (f : CascadeSt → CascadeSt) : (s.onCasc f).cornflower = s.cornflower := rfl
@[simp] theorem onCasc_poppy (f : CascadeSt → CascadeSt) : (s.onCasc f).poppy = s.poppy := rfl
@[simp] theorem onCasc_vetch (f : CascadeSt → CascadeSt) : (s.onCasc f).vetch = s.vetch := rfl
@[simp] theorem onCasc_commit (f : CascadeSt → CascadeSt) : (s.onCasc f).commit = s.commit := rfl
@[simp] theorem onCasc_zheda (f : CascadeSt → CascadeSt) : (s.onCasc f).zheda = s.zheda := rfl
@[simp] theorem onCasc_teasel (f : CascadeSt → CascadeSt) : (s.onCasc f).teasel = s.teasel := rfl
@[simp] theorem onCasc_bindweed (f : CascadeSt → CascadeSt) : (s.onCasc f).bindweed = s.bindweed := rfl
@[simp] theorem onCasc_cowslip (f : CascadeSt → CascadeSt) : (s.onCasc f).cowslip = s.cowslip := rfl
@[simp] theorem onCasc_cmd (f : CascadeSt → CascadeSt) : (s.onCasc f).cmd = s.cmd := rfl
@[simp] theorem onCasc_safety (f : CascadeSt → CascadeSt) : (s.onCasc f).safety = s.safety := rfl
@[simp] theorem onCasc_mem (f : CascadeSt → CascadeSt) : (s.onCasc f).mem = s.mem := rfl
@[simp] theorem onCasc_clock (f : CascadeSt → CascadeSt) : (s.onCasc f).clock = s.clock := rfl
@[simp] theorem onCasc_host (f : CascadeSt → CascadeSt) : (s.onCasc f).host = s.host := rfl
@[simp] theorem onCasc_sec (f : CascadeSt → CascadeSt) : (s.onCasc f).sec = s.sec := rfl
@[simp] theorem onCasc_casc (f : CascadeSt → CascadeSt) : (s.onCasc f).casc = f s.casc := rfl
@[simp] theorem onCasc_now (f : CascadeSt → CascadeSt) : (s.onCasc f).now = s.now := rfl
@[simp] theorem onCasc_rdata (f : CascadeSt → CascadeSt) : (s.onCasc f).rdata = s.rdata := rfl
@[simp] theorem onCasc_freeIx (f : CascadeSt → CascadeSt) : (s.onCasc f).freeIx = s.freeIx := rfl
@[simp] theorem onCasc_pending (f : CascadeSt → CascadeSt) : (s.onCasc f).pending = s.pending := rfl
@[simp] theorem setNow_ident (x : Nat) : (s.setNow x).ident = s.ident := rfl
@[simp] theorem setNow_tick (x : Nat) : (s.setNow x).tick = s.tick := rfl
@[simp] theorem setNow_world (x : Nat) : (s.setNow x).world = s.world := rfl
@[simp] theorem setNow_aster (x : Nat) : (s.setNow x).aster = s.aster := rfl
@[simp] theorem setNow_lupin (x : Nat) : (s.setNow x).lupin = s.lupin := rfl
@[simp] theorem setNow_harebell (x : Nat) : (s.setNow x).harebell = s.harebell := rfl
@[simp] theorem setNow_cornflower (x : Nat) : (s.setNow x).cornflower = s.cornflower := rfl
@[simp] theorem setNow_poppy (x : Nat) : (s.setNow x).poppy = s.poppy := rfl
@[simp] theorem setNow_vetch (x : Nat) : (s.setNow x).vetch = s.vetch := rfl
@[simp] theorem setNow_commit (x : Nat) : (s.setNow x).commit = s.commit := rfl
@[simp] theorem setNow_zheda (x : Nat) : (s.setNow x).zheda = s.zheda := rfl
@[simp] theorem setNow_teasel (x : Nat) : (s.setNow x).teasel = s.teasel := rfl
@[simp] theorem setNow_bindweed (x : Nat) : (s.setNow x).bindweed = s.bindweed := rfl
@[simp] theorem setNow_cowslip (x : Nat) : (s.setNow x).cowslip = s.cowslip := rfl
@[simp] theorem setNow_cmd (x : Nat) : (s.setNow x).cmd = s.cmd := rfl
@[simp] theorem setNow_safety (x : Nat) : (s.setNow x).safety = s.safety := rfl
@[simp] theorem setNow_mem (x : Nat) : (s.setNow x).mem = s.mem := rfl
@[simp] theorem setNow_clock (x : Nat) : (s.setNow x).clock = s.clock := rfl
@[simp] theorem setNow_host (x : Nat) : (s.setNow x).host = s.host := rfl
@[simp] theorem setNow_sec (x : Nat) : (s.setNow x).sec = s.sec := rfl
@[simp] theorem setNow_casc (x : Nat) : (s.setNow x).casc = s.casc := rfl
@[simp] theorem setNow_now (x : Nat) : (s.setNow x).now = x := rfl
@[simp] theorem setNow_rdata (x : Nat) : (s.setNow x).rdata = s.rdata := rfl
@[simp] theorem setNow_freeIx (x : Nat) : (s.setNow x).freeIx = s.freeIx := rfl
@[simp] theorem setNow_pending (x : Nat) : (s.setNow x).pending = s.pending := rfl
@[simp] theorem setRdata_ident (x : List Word) : (s.setRdata x).ident = s.ident := rfl
@[simp] theorem setRdata_tick (x : List Word) : (s.setRdata x).tick = s.tick := rfl
@[simp] theorem setRdata_world (x : List Word) : (s.setRdata x).world = s.world := rfl
@[simp] theorem setRdata_aster (x : List Word) : (s.setRdata x).aster = s.aster := rfl
@[simp] theorem setRdata_lupin (x : List Word) : (s.setRdata x).lupin = s.lupin := rfl
@[simp] theorem setRdata_harebell (x : List Word) : (s.setRdata x).harebell = s.harebell := rfl
@[simp] theorem setRdata_cornflower (x : List Word) : (s.setRdata x).cornflower = s.cornflower := rfl
@[simp] theorem setRdata_poppy (x : List Word) : (s.setRdata x).poppy = s.poppy := rfl
@[simp] theorem setRdata_vetch (x : List Word) : (s.setRdata x).vetch = s.vetch := rfl
@[simp] theorem setRdata_commit (x : List Word) : (s.setRdata x).commit = s.commit := rfl
@[simp] theorem setRdata_zheda (x : List Word) : (s.setRdata x).zheda = s.zheda := rfl
@[simp] theorem setRdata_teasel (x : List Word) : (s.setRdata x).teasel = s.teasel := rfl
@[simp] theorem setRdata_bindweed (x : List Word) : (s.setRdata x).bindweed = s.bindweed := rfl
@[simp] theorem setRdata_cowslip (x : List Word) : (s.setRdata x).cowslip = s.cowslip := rfl
@[simp] theorem setRdata_cmd (x : List Word) : (s.setRdata x).cmd = s.cmd := rfl
@[simp] theorem setRdata_safety (x : List Word) : (s.setRdata x).safety = s.safety := rfl
@[simp] theorem setRdata_mem (x : List Word) : (s.setRdata x).mem = s.mem := rfl
@[simp] theorem setRdata_clock (x : List Word) : (s.setRdata x).clock = s.clock := rfl
@[simp] theorem setRdata_host (x : List Word) : (s.setRdata x).host = s.host := rfl
@[simp] theorem setRdata_sec (x : List Word) : (s.setRdata x).sec = s.sec := rfl
@[simp] theorem setRdata_casc (x : List Word) : (s.setRdata x).casc = s.casc := rfl
@[simp] theorem setRdata_now (x : List Word) : (s.setRdata x).now = s.now := rfl
@[simp] theorem setRdata_rdata (x : List Word) : (s.setRdata x).rdata = x := rfl
@[simp] theorem setRdata_freeIx (x : List Word) : (s.setRdata x).freeIx = s.freeIx := rfl
@[simp] theorem setRdata_pending (x : List Word) : (s.setRdata x).pending = s.pending := rfl
@[simp] theorem setFreeIx_ident (x : Nat) : (s.setFreeIx x).ident = s.ident := rfl
@[simp] theorem setFreeIx_tick (x : Nat) : (s.setFreeIx x).tick = s.tick := rfl
@[simp] theorem setFreeIx_world (x : Nat) : (s.setFreeIx x).world = s.world := rfl
@[simp] theorem setFreeIx_aster (x : Nat) : (s.setFreeIx x).aster = s.aster := rfl
@[simp] theorem setFreeIx_lupin (x : Nat) : (s.setFreeIx x).lupin = s.lupin := rfl
@[simp] theorem setFreeIx_harebell (x : Nat) : (s.setFreeIx x).harebell = s.harebell := rfl
@[simp] theorem setFreeIx_cornflower (x : Nat) : (s.setFreeIx x).cornflower = s.cornflower := rfl
@[simp] theorem setFreeIx_poppy (x : Nat) : (s.setFreeIx x).poppy = s.poppy := rfl
@[simp] theorem setFreeIx_vetch (x : Nat) : (s.setFreeIx x).vetch = s.vetch := rfl
@[simp] theorem setFreeIx_commit (x : Nat) : (s.setFreeIx x).commit = s.commit := rfl
@[simp] theorem setFreeIx_zheda (x : Nat) : (s.setFreeIx x).zheda = s.zheda := rfl
@[simp] theorem setFreeIx_teasel (x : Nat) : (s.setFreeIx x).teasel = s.teasel := rfl
@[simp] theorem setFreeIx_bindweed (x : Nat) : (s.setFreeIx x).bindweed = s.bindweed := rfl
@[simp] theorem setFreeIx_cowslip (x : Nat) : (s.setFreeIx x).cowslip = s.cowslip := rfl
@[simp] theorem setFreeIx_cmd (x : Nat) : (s.setFreeIx x).cmd = s.cmd := rfl
@[simp] theorem setFreeIx_safety (x : Nat) : (s.setFreeIx x).safety = s.safety := rfl
@[simp] theorem setFreeIx_mem (x : Nat) : (s.setFreeIx x).mem = s.mem := rfl
@[simp] theorem setFreeIx_clock (x : Nat) : (s.setFreeIx x).clock = s.clock := rfl
@[simp] theorem setFreeIx_host (x : Nat) : (s.setFreeIx x).host = s.host := rfl
@[simp] theorem setFreeIx_sec (x : Nat) : (s.setFreeIx x).sec = s.sec := rfl
@[simp] theorem setFreeIx_casc (x : Nat) : (s.setFreeIx x).casc = s.casc := rfl
@[simp] theorem setFreeIx_now (x : Nat) : (s.setFreeIx x).now = s.now := rfl
@[simp] theorem setFreeIx_rdata (x : Nat) : (s.setFreeIx x).rdata = s.rdata := rfl
@[simp] theorem setFreeIx_freeIx (x : Nat) : (s.setFreeIx x).freeIx = x := rfl
@[simp] theorem setFreeIx_pending (x : Nat) : (s.setFreeIx x).pending = s.pending := rfl
@[simp] theorem setPending_ident (x : List Instr) : (s.setPending x).ident = s.ident := rfl
@[simp] theorem setPending_tick (x : List Instr) : (s.setPending x).tick = s.tick := rfl
@[simp] theorem setPending_world (x : List Instr) : (s.setPending x).world = s.world := rfl
@[simp] theorem setPending_aster (x : List Instr) : (s.setPending x).aster = s.aster := rfl
@[simp] theorem setPending_lupin (x : List Instr) : (s.setPending x).lupin = s.lupin := rfl
@[simp] theorem setPending_harebell (x : List Instr) : (s.setPending x).harebell = s.harebell := rfl
@[simp] theorem setPending_cornflower (x : List Instr) : (s.setPending x).cornflower = s.cornflower := rfl
@[simp] theorem setPending_poppy (x : List Instr) : (s.setPending x).poppy = s.poppy := rfl
@[simp] theorem setPending_vetch (x : List Instr) : (s.setPending x).vetch = s.vetch := rfl
@[simp] theorem setPending_commit (x : List Instr) : (s.setPending x).commit = s.commit := rfl
@[simp] theorem setPending_zheda (x : List Instr) : (s.setPending x).zheda = s.zheda := rfl
@[simp] theorem setPending_teasel (x : List Instr) : (s.setPending x).teasel = s.teasel := rfl
@[simp] theorem setPending_bindweed (x : List Instr) : (s.setPending x).bindweed = s.bindweed := rfl
@[simp] theorem setPending_cowslip (x : List Instr) : (s.setPending x).cowslip = s.cowslip := rfl
@[simp] theorem setPending_cmd (x : List Instr) : (s.setPending x).cmd = s.cmd := rfl
@[simp] theorem setPending_safety (x : List Instr) : (s.setPending x).safety = s.safety := rfl
@[simp] theorem setPending_mem (x : List Instr) : (s.setPending x).mem = s.mem := rfl
@[simp] theorem setPending_clock (x : List Instr) : (s.setPending x).clock = s.clock := rfl
@[simp] theorem setPending_host (x : List Instr) : (s.setPending x).host = s.host := rfl
@[simp] theorem setPending_sec (x : List Instr) : (s.setPending x).sec = s.sec := rfl
@[simp] theorem setPending_casc (x : List Instr) : (s.setPending x).casc = s.casc := rfl
@[simp] theorem setPending_now (x : List Instr) : (s.setPending x).now = s.now := rfl
@[simp] theorem setPending_rdata (x : List Instr) : (s.setPending x).rdata = s.rdata := rfl
@[simp] theorem setPending_freeIx (x : List Instr) : (s.setPending x).freeIx = s.freeIx := rfl
@[simp] theorem setPending_pending (x : List Instr) : (s.setPending x).pending = x := rfl

end Sys2Proof.Machine.State
end

