-- ==== Sys2Proof/Laws/FrameShared.lean ====
section
/-! SUPPORT. What each shared operation leaves unchanged: for every function that answers a state, the conjunction of the components of State it does not touch. Cited by the frames of the commands. -/

set_option linter.unusedSimpArgs false
set_option linter.unusedVariables false

namespace Sys2Proof.Machine

theorem foldl_keep {α β γ : Type} (p : β → γ) (f : β → α → β) (h : ∀ s x, p (f s x) = p s) (l : List α) (s : β) :
    p (l.foldl f s) = p s := by
  induction l generalizing s with
  | nil => rfl
  | cons a r ih => simp [ih, h]

theorem foldl_proj {α γ : Type} (p : State → γ) (f : State → α → State) (l : List α) (s : State)
    (h : ∀ s x, p (f s x) = p s) : p (l.foldl f s) = p s := foldl_keep p f h l s
@[simp ↓] theorem foldl_ident {α : Type} (f : State → α → State) (h : ∀ s x, (f s x).ident = s.ident) (l : List α)
    (s : State) : (l.foldl f s).ident = s.ident := foldl_keep (·.ident) f h l s
theorem foldl_fst_ident {α β : Type} (f : State × β → α → State × β) (l : List α) (s : State × β)
    (h : ∀ s x, (f s x).1.ident = s.1.ident) : (l.foldl f s).1.ident = s.1.ident := foldl_keep (fun x => x.1.ident) f h l s
theorem foldl_snd_ident {α β : Type} (f : β × State → α → β × State) (l : List α) (s : β × State)
    (h : ∀ s x, (f s x).2.ident = s.2.ident) : (l.foldl f s).2.ident = s.2.ident := foldl_keep (fun x => x.2.ident) f h l s
@[simp ↓] theorem ite_ident (c : Prop) [Decidable c] (a b : State) :
    (if c then a else b).ident = if c then a.ident else b.ident := by split <;> rfl
@[simp ↓] theorem foldl_tick {α : Type} (f : State → α → State) (h : ∀ s x, (f s x).tick = s.tick) (l : List α)
    (s : State) : (l.foldl f s).tick = s.tick := foldl_keep (·.tick) f h l s
theorem foldl_fst_tick {α β : Type} (f : State × β → α → State × β) (l : List α) (s : State × β)
    (h : ∀ s x, (f s x).1.tick = s.1.tick) : (l.foldl f s).1.tick = s.1.tick := foldl_keep (fun x => x.1.tick) f h l s
theorem foldl_snd_tick {α β : Type} (f : β × State → α → β × State) (l : List α) (s : β × State)
    (h : ∀ s x, (f s x).2.tick = s.2.tick) : (l.foldl f s).2.tick = s.2.tick := foldl_keep (fun x => x.2.tick) f h l s
@[simp ↓] theorem ite_tick (c : Prop) [Decidable c] (a b : State) :
    (if c then a else b).tick = if c then a.tick else b.tick := by split <;> rfl
@[simp ↓] theorem foldl_world {α : Type} (f : State → α → State) (h : ∀ s x, (f s x).world = s.world) (l : List α)
    (s : State) : (l.foldl f s).world = s.world := foldl_keep (·.world) f h l s
theorem foldl_fst_world {α β : Type} (f : State × β → α → State × β) (l : List α) (s : State × β)
    (h : ∀ s x, (f s x).1.world = s.1.world) : (l.foldl f s).1.world = s.1.world := foldl_keep (fun x => x.1.world) f h l s
theorem foldl_snd_world {α β : Type} (f : β × State → α → β × State) (l : List α) (s : β × State)
    (h : ∀ s x, (f s x).2.world = s.2.world) : (l.foldl f s).2.world = s.2.world := foldl_keep (fun x => x.2.world) f h l s
@[simp ↓] theorem ite_world (c : Prop) [Decidable c] (a b : State) :
    (if c then a else b).world = if c then a.world else b.world := by split <;> rfl
@[simp ↓] theorem foldl_aster {α : Type} (f : State → α → State) (h : ∀ s x, (f s x).aster = s.aster) (l : List α)
    (s : State) : (l.foldl f s).aster = s.aster := foldl_keep (·.aster) f h l s
theorem foldl_fst_aster {α β : Type} (f : State × β → α → State × β) (l : List α) (s : State × β)
    (h : ∀ s x, (f s x).1.aster = s.1.aster) : (l.foldl f s).1.aster = s.1.aster := foldl_keep (fun x => x.1.aster) f h l s
theorem foldl_snd_aster {α β : Type} (f : β × State → α → β × State) (l : List α) (s : β × State)
    (h : ∀ s x, (f s x).2.aster = s.2.aster) : (l.foldl f s).2.aster = s.2.aster := foldl_keep (fun x => x.2.aster) f h l s
@[simp ↓] theorem ite_aster (c : Prop) [Decidable c] (a b : State) :
    (if c then a else b).aster = if c then a.aster else b.aster := by split <;> rfl
@[simp ↓] theorem foldl_lupin {α : Type} (f : State → α → State) (h : ∀ s x, (f s x).lupin = s.lupin) (l : List α)
    (s : State) : (l.foldl f s).lupin = s.lupin := foldl_keep (·.lupin) f h l s
theorem foldl_fst_lupin {α β : Type} (f : State × β → α → State × β) (l : List α) (s : State × β)
    (h : ∀ s x, (f s x).1.lupin = s.1.lupin) : (l.foldl f s).1.lupin = s.1.lupin := foldl_keep (fun x => x.1.lupin) f h l s
theorem foldl_snd_lupin {α β : Type} (f : β × State → α → β × State) (l : List α) (s : β × State)
    (h : ∀ s x, (f s x).2.lupin = s.2.lupin) : (l.foldl f s).2.lupin = s.2.lupin := foldl_keep (fun x => x.2.lupin) f h l s
@[simp ↓] theorem ite_lupin (c : Prop) [Decidable c] (a b : State) :
    (if c then a else b).lupin = if c then a.lupin else b.lupin := by split <;> rfl
@[simp ↓] theorem foldl_harebell {α : Type} (f : State → α → State) (h : ∀ s x, (f s x).harebell = s.harebell) (l : List α)
    (s : State) : (l.foldl f s).harebell = s.harebell := foldl_keep (·.harebell) f h l s
theorem foldl_fst_harebell {α β : Type} (f : State × β → α → State × β) (l : List α) (s : State × β)
    (h : ∀ s x, (f s x).1.harebell = s.1.harebell) : (l.foldl f s).1.harebell = s.1.harebell := foldl_keep (fun x => x.1.harebell) f h l s
theorem foldl_snd_harebell {α β : Type} (f : β × State → α → β × State) (l : List α) (s : β × State)
    (h : ∀ s x, (f s x).2.harebell = s.2.harebell) : (l.foldl f s).2.harebell = s.2.harebell := foldl_keep (fun x => x.2.harebell) f h l s
@[simp ↓] theorem ite_harebell (c : Prop) [Decidable c] (a b : State) :
    (if c then a else b).harebell = if c then a.harebell else b.harebell := by split <;> rfl
@[simp ↓] theorem foldl_cornflower {α : Type} (f : State → α → State) (h : ∀ s x, (f s x).cornflower = s.cornflower) (l : List α)
    (s : State) : (l.foldl f s).cornflower = s.cornflower := foldl_keep (·.cornflower) f h l s
theorem foldl_fst_cornflower {α β : Type} (f : State × β → α → State × β) (l : List α) (s : State × β)
    (h : ∀ s x, (f s x).1.cornflower = s.1.cornflower) : (l.foldl f s).1.cornflower = s.1.cornflower := foldl_keep (fun x => x.1.cornflower) f h l s
theorem foldl_snd_cornflower {α β : Type} (f : β × State → α → β × State) (l : List α) (s : β × State)
    (h : ∀ s x, (f s x).2.cornflower = s.2.cornflower) : (l.foldl f s).2.cornflower = s.2.cornflower := foldl_keep (fun x => x.2.cornflower) f h l s
@[simp ↓] theorem ite_cornflower (c : Prop) [Decidable c] (a b : State) :
    (if c then a else b).cornflower = if c then a.cornflower else b.cornflower := by split <;> rfl
@[simp ↓] theorem foldl_poppy {α : Type} (f : State → α → State) (h : ∀ s x, (f s x).poppy = s.poppy) (l : List α)
    (s : State) : (l.foldl f s).poppy = s.poppy := foldl_keep (·.poppy) f h l s
theorem foldl_fst_poppy {α β : Type} (f : State × β → α → State × β) (l : List α) (s : State × β)
    (h : ∀ s x, (f s x).1.poppy = s.1.poppy) : (l.foldl f s).1.poppy = s.1.poppy := foldl_keep (fun x => x.1.poppy) f h l s
theorem foldl_snd_poppy {α β : Type} (f : β × State → α → β × State) (l : List α) (s : β × State)
    (h : ∀ s x, (f s x).2.poppy = s.2.poppy) : (l.foldl f s).2.poppy = s.2.poppy := foldl_keep (fun x => x.2.poppy) f h l s
@[simp ↓] theorem ite_poppy (c : Prop) [Decidable c] (a b : State) :
    (if c then a else b).poppy = if c then a.poppy else b.poppy := by split <;> rfl
@[simp ↓] theorem foldl_vetch {α : Type} (f : State → α → State) (h : ∀ s x, (f s x).vetch = s.vetch) (l : List α)
    (s : State) : (l.foldl f s).vetch = s.vetch := foldl_keep (·.vetch) f h l s
theorem foldl_fst_vetch {α β : Type} (f : State × β → α → State × β) (l : List α) (s : State × β)
    (h : ∀ s x, (f s x).1.vetch = s.1.vetch) : (l.foldl f s).1.vetch = s.1.vetch := foldl_keep (fun x => x.1.vetch) f h l s
theorem foldl_snd_vetch {α β : Type} (f : β × State → α → β × State) (l : List α) (s : β × State)
    (h : ∀ s x, (f s x).2.vetch = s.2.vetch) : (l.foldl f s).2.vetch = s.2.vetch := foldl_keep (fun x => x.2.vetch) f h l s
@[simp ↓] theorem ite_vetch (c : Prop) [Decidable c] (a b : State) :
    (if c then a else b).vetch = if c then a.vetch else b.vetch := by split <;> rfl
@[simp ↓] theorem foldl_commit {α : Type} (f : State → α → State) (h : ∀ s x, (f s x).commit = s.commit) (l : List α)
    (s : State) : (l.foldl f s).commit = s.commit := foldl_keep (·.commit) f h l s
theorem foldl_fst_commit {α β : Type} (f : State × β → α → State × β) (l : List α) (s : State × β)
    (h : ∀ s x, (f s x).1.commit = s.1.commit) : (l.foldl f s).1.commit = s.1.commit := foldl_keep (fun x => x.1.commit) f h l s
theorem foldl_snd_commit {α β : Type} (f : β × State → α → β × State) (l : List α) (s : β × State)
    (h : ∀ s x, (f s x).2.commit = s.2.commit) : (l.foldl f s).2.commit = s.2.commit := foldl_keep (fun x => x.2.commit) f h l s
@[simp ↓] theorem ite_commit (c : Prop) [Decidable c] (a b : State) :
    (if c then a else b).commit = if c then a.commit else b.commit := by split <;> rfl
@[simp ↓] theorem foldl_zheda {α : Type} (f : State → α → State) (h : ∀ s x, (f s x).zheda = s.zheda) (l : List α)
    (s : State) : (l.foldl f s).zheda = s.zheda := foldl_keep (·.zheda) f h l s
theorem foldl_fst_zheda {α β : Type} (f : State × β → α → State × β) (l : List α) (s : State × β)
    (h : ∀ s x, (f s x).1.zheda = s.1.zheda) : (l.foldl f s).1.zheda = s.1.zheda := foldl_keep (fun x => x.1.zheda) f h l s
theorem foldl_snd_zheda {α β : Type} (f : β × State → α → β × State) (l : List α) (s : β × State)
    (h : ∀ s x, (f s x).2.zheda = s.2.zheda) : (l.foldl f s).2.zheda = s.2.zheda := foldl_keep (fun x => x.2.zheda) f h l s
@[simp ↓] theorem ite_zheda (c : Prop) [Decidable c] (a b : State) :
    (if c then a else b).zheda = if c then a.zheda else b.zheda := by split <;> rfl
@[simp ↓] theorem foldl_teasel {α : Type} (f : State → α → State) (h : ∀ s x, (f s x).teasel = s.teasel) (l : List α)
    (s : State) : (l.foldl f s).teasel = s.teasel := foldl_keep (·.teasel) f h l s
theorem foldl_fst_teasel {α β : Type} (f : State × β → α → State × β) (l : List α) (s : State × β)
    (h : ∀ s x, (f s x).1.teasel = s.1.teasel) : (l.foldl f s).1.teasel = s.1.teasel := foldl_keep (fun x => x.1.teasel) f h l s
theorem foldl_snd_teasel {α β : Type} (f : β × State → α → β × State) (l : List α) (s : β × State)
    (h : ∀ s x, (f s x).2.teasel = s.2.teasel) : (l.foldl f s).2.teasel = s.2.teasel := foldl_keep (fun x => x.2.teasel) f h l s
@[simp ↓] theorem ite_teasel (c : Prop) [Decidable c] (a b : State) :
    (if c then a else b).teasel = if c then a.teasel else b.teasel := by split <;> rfl
@[simp ↓] theorem foldl_bindweed {α : Type} (f : State → α → State) (h : ∀ s x, (f s x).bindweed = s.bindweed) (l : List α)
    (s : State) : (l.foldl f s).bindweed = s.bindweed := foldl_keep (·.bindweed) f h l s
theorem foldl_fst_bindweed {α β : Type} (f : State × β → α → State × β) (l : List α) (s : State × β)
    (h : ∀ s x, (f s x).1.bindweed = s.1.bindweed) : (l.foldl f s).1.bindweed = s.1.bindweed := foldl_keep (fun x => x.1.bindweed) f h l s
theorem foldl_snd_bindweed {α β : Type} (f : β × State → α → β × State) (l : List α) (s : β × State)
    (h : ∀ s x, (f s x).2.bindweed = s.2.bindweed) : (l.foldl f s).2.bindweed = s.2.bindweed := foldl_keep (fun x => x.2.bindweed) f h l s
@[simp ↓] theorem ite_bindweed (c : Prop) [Decidable c] (a b : State) :
    (if c then a else b).bindweed = if c then a.bindweed else b.bindweed := by split <;> rfl
@[simp ↓] theorem foldl_cowslip {α : Type} (f : State → α → State) (h : ∀ s x, (f s x).cowslip = s.cowslip) (l : List α)
    (s : State) : (l.foldl f s).cowslip = s.cowslip := foldl_keep (·.cowslip) f h l s
theorem foldl_fst_cowslip {α β : Type} (f : State × β → α → State × β) (l : List α) (s : State × β)
    (h : ∀ s x, (f s x).1.cowslip = s.1.cowslip) : (l.foldl f s).1.cowslip = s.1.cowslip := foldl_keep (fun x => x.1.cowslip) f h l s
theorem foldl_snd_cowslip {α β : Type} (f : β × State → α → β × State) (l : List α) (s : β × State)
    (h : ∀ s x, (f s x).2.cowslip = s.2.cowslip) : (l.foldl f s).2.cowslip = s.2.cowslip := foldl_keep (fun x => x.2.cowslip) f h l s
@[simp ↓] theorem ite_cowslip (c : Prop) [Decidable c] (a b : State) :
    (if c then a else b).cowslip = if c then a.cowslip else b.cowslip := by split <;> rfl
@[simp ↓] theorem foldl_cmd {α : Type} (f : State → α → State) (h : ∀ s x, (f s x).cmd = s.cmd) (l : List α)
    (s : State) : (l.foldl f s).cmd = s.cmd := foldl_keep (·.cmd) f h l s
theorem foldl_fst_cmd {α β : Type} (f : State × β → α → State × β) (l : List α) (s : State × β)
    (h : ∀ s x, (f s x).1.cmd = s.1.cmd) : (l.foldl f s).1.cmd = s.1.cmd := foldl_keep (fun x => x.1.cmd) f h l s
theorem foldl_snd_cmd {α β : Type} (f : β × State → α → β × State) (l : List α) (s : β × State)
    (h : ∀ s x, (f s x).2.cmd = s.2.cmd) : (l.foldl f s).2.cmd = s.2.cmd := foldl_keep (fun x => x.2.cmd) f h l s
@[simp ↓] theorem ite_cmd (c : Prop) [Decidable c] (a b : State) :
    (if c then a else b).cmd = if c then a.cmd else b.cmd := by split <;> rfl
@[simp ↓] theorem foldl_safety {α : Type} (f : State → α → State) (h : ∀ s x, (f s x).safety = s.safety) (l : List α)
    (s : State) : (l.foldl f s).safety = s.safety := foldl_keep (·.safety) f h l s
theorem foldl_fst_safety {α β : Type} (f : State × β → α → State × β) (l : List α) (s : State × β)
    (h : ∀ s x, (f s x).1.safety = s.1.safety) : (l.foldl f s).1.safety = s.1.safety := foldl_keep (fun x => x.1.safety) f h l s
theorem foldl_snd_safety {α β : Type} (f : β × State → α → β × State) (l : List α) (s : β × State)
    (h : ∀ s x, (f s x).2.safety = s.2.safety) : (l.foldl f s).2.safety = s.2.safety := foldl_keep (fun x => x.2.safety) f h l s
@[simp ↓] theorem ite_safety (c : Prop) [Decidable c] (a b : State) :
    (if c then a else b).safety = if c then a.safety else b.safety := by split <;> rfl
@[simp ↓] theorem foldl_mem {α : Type} (f : State → α → State) (h : ∀ s x, (f s x).mem = s.mem) (l : List α)
    (s : State) : (l.foldl f s).mem = s.mem := foldl_keep (·.mem) f h l s
theorem foldl_fst_mem {α β : Type} (f : State × β → α → State × β) (l : List α) (s : State × β)
    (h : ∀ s x, (f s x).1.mem = s.1.mem) : (l.foldl f s).1.mem = s.1.mem := foldl_keep (fun x => x.1.mem) f h l s
theorem foldl_snd_mem {α β : Type} (f : β × State → α → β × State) (l : List α) (s : β × State)
    (h : ∀ s x, (f s x).2.mem = s.2.mem) : (l.foldl f s).2.mem = s.2.mem := foldl_keep (fun x => x.2.mem) f h l s
@[simp ↓] theorem ite_mem (c : Prop) [Decidable c] (a b : State) :
    (if c then a else b).mem = if c then a.mem else b.mem := by split <;> rfl
@[simp ↓] theorem foldl_clock {α : Type} (f : State → α → State) (h : ∀ s x, (f s x).clock = s.clock) (l : List α)
    (s : State) : (l.foldl f s).clock = s.clock := foldl_keep (·.clock) f h l s
theorem foldl_fst_clock {α β : Type} (f : State × β → α → State × β) (l : List α) (s : State × β)
    (h : ∀ s x, (f s x).1.clock = s.1.clock) : (l.foldl f s).1.clock = s.1.clock := foldl_keep (fun x => x.1.clock) f h l s
theorem foldl_snd_clock {α β : Type} (f : β × State → α → β × State) (l : List α) (s : β × State)
    (h : ∀ s x, (f s x).2.clock = s.2.clock) : (l.foldl f s).2.clock = s.2.clock := foldl_keep (fun x => x.2.clock) f h l s
@[simp ↓] theorem ite_clock (c : Prop) [Decidable c] (a b : State) :
    (if c then a else b).clock = if c then a.clock else b.clock := by split <;> rfl
@[simp ↓] theorem foldl_host {α : Type} (f : State → α → State) (h : ∀ s x, (f s x).host = s.host) (l : List α)
    (s : State) : (l.foldl f s).host = s.host := foldl_keep (·.host) f h l s
theorem foldl_fst_host {α β : Type} (f : State × β → α → State × β) (l : List α) (s : State × β)
    (h : ∀ s x, (f s x).1.host = s.1.host) : (l.foldl f s).1.host = s.1.host := foldl_keep (fun x => x.1.host) f h l s
theorem foldl_snd_host {α β : Type} (f : β × State → α → β × State) (l : List α) (s : β × State)
    (h : ∀ s x, (f s x).2.host = s.2.host) : (l.foldl f s).2.host = s.2.host := foldl_keep (fun x => x.2.host) f h l s
@[simp ↓] theorem ite_host (c : Prop) [Decidable c] (a b : State) :
    (if c then a else b).host = if c then a.host else b.host := by split <;> rfl
@[simp ↓] theorem foldl_sec {α : Type} (f : State → α → State) (h : ∀ s x, (f s x).sec = s.sec) (l : List α)
    (s : State) : (l.foldl f s).sec = s.sec := foldl_keep (·.sec) f h l s
theorem foldl_fst_sec {α β : Type} (f : State × β → α → State × β) (l : List α) (s : State × β)
    (h : ∀ s x, (f s x).1.sec = s.1.sec) : (l.foldl f s).1.sec = s.1.sec := foldl_keep (fun x => x.1.sec) f h l s
theorem foldl_snd_sec {α β : Type} (f : β × State → α → β × State) (l : List α) (s : β × State)
    (h : ∀ s x, (f s x).2.sec = s.2.sec) : (l.foldl f s).2.sec = s.2.sec := foldl_keep (fun x => x.2.sec) f h l s
@[simp ↓] theorem ite_sec (c : Prop) [Decidable c] (a b : State) :
    (if c then a else b).sec = if c then a.sec else b.sec := by split <;> rfl
@[simp ↓] theorem foldl_casc {α : Type} (f : State → α → State) (h : ∀ s x, (f s x).casc = s.casc) (l : List α)
    (s : State) : (l.foldl f s).casc = s.casc := foldl_keep (·.casc) f h l s
theorem foldl_fst_casc {α β : Type} (f : State × β → α → State × β) (l : List α) (s : State × β)
    (h : ∀ s x, (f s x).1.casc = s.1.casc) : (l.foldl f s).1.casc = s.1.casc := foldl_keep (fun x => x.1.casc) f h l s
theorem foldl_snd_casc {α β : Type} (f : β × State → α → β × State) (l : List α) (s : β × State)
    (h : ∀ s x, (f s x).2.casc = s.2.casc) : (l.foldl f s).2.casc = s.2.casc := foldl_keep (fun x => x.2.casc) f h l s
@[simp ↓] theorem ite_casc (c : Prop) [Decidable c] (a b : State) :
    (if c then a else b).casc = if c then a.casc else b.casc := by split <;> rfl
@[simp ↓] theorem foldl_now {α : Type} (f : State → α → State) (h : ∀ s x, (f s x).now = s.now) (l : List α)
    (s : State) : (l.foldl f s).now = s.now := foldl_keep (·.now) f h l s
theorem foldl_fst_now {α β : Type} (f : State × β → α → State × β) (l : List α) (s : State × β)
    (h : ∀ s x, (f s x).1.now = s.1.now) : (l.foldl f s).1.now = s.1.now := foldl_keep (fun x => x.1.now) f h l s
theorem foldl_snd_now {α β : Type} (f : β × State → α → β × State) (l : List α) (s : β × State)
    (h : ∀ s x, (f s x).2.now = s.2.now) : (l.foldl f s).2.now = s.2.now := foldl_keep (fun x => x.2.now) f h l s
@[simp ↓] theorem ite_now (c : Prop) [Decidable c] (a b : State) :
    (if c then a else b).now = if c then a.now else b.now := by split <;> rfl
@[simp ↓] theorem foldl_rdata {α : Type} (f : State → α → State) (h : ∀ s x, (f s x).rdata = s.rdata) (l : List α)
    (s : State) : (l.foldl f s).rdata = s.rdata := foldl_keep (·.rdata) f h l s
theorem foldl_fst_rdata {α β : Type} (f : State × β → α → State × β) (l : List α) (s : State × β)
    (h : ∀ s x, (f s x).1.rdata = s.1.rdata) : (l.foldl f s).1.rdata = s.1.rdata := foldl_keep (fun x => x.1.rdata) f h l s
theorem foldl_snd_rdata {α β : Type} (f : β × State → α → β × State) (l : List α) (s : β × State)
    (h : ∀ s x, (f s x).2.rdata = s.2.rdata) : (l.foldl f s).2.rdata = s.2.rdata := foldl_keep (fun x => x.2.rdata) f h l s
@[simp ↓] theorem ite_rdata (c : Prop) [Decidable c] (a b : State) :
    (if c then a else b).rdata = if c then a.rdata else b.rdata := by split <;> rfl
@[simp ↓] theorem foldl_freeIx {α : Type} (f : State → α → State) (h : ∀ s x, (f s x).freeIx = s.freeIx) (l : List α)
    (s : State) : (l.foldl f s).freeIx = s.freeIx := foldl_keep (·.freeIx) f h l s
theorem foldl_fst_freeIx {α β : Type} (f : State × β → α → State × β) (l : List α) (s : State × β)
    (h : ∀ s x, (f s x).1.freeIx = s.1.freeIx) : (l.foldl f s).1.freeIx = s.1.freeIx := foldl_keep (fun x => x.1.freeIx) f h l s
theorem foldl_snd_freeIx {α β : Type} (f : β × State → α → β × State) (l : List α) (s : β × State)
    (h : ∀ s x, (f s x).2.freeIx = s.2.freeIx) : (l.foldl f s).2.freeIx = s.2.freeIx := foldl_keep (fun x => x.2.freeIx) f h l s
@[simp ↓] theorem ite_freeIx (c : Prop) [Decidable c] (a b : State) :
    (if c then a else b).freeIx = if c then a.freeIx else b.freeIx := by split <;> rfl
@[simp ↓] theorem foldl_pending {α : Type} (f : State → α → State) (h : ∀ s x, (f s x).pending = s.pending) (l : List α)
    (s : State) : (l.foldl f s).pending = s.pending := foldl_keep (·.pending) f h l s
theorem foldl_fst_pending {α β : Type} (f : State × β → α → State × β) (l : List α) (s : State × β)
    (h : ∀ s x, (f s x).1.pending = s.1.pending) : (l.foldl f s).1.pending = s.1.pending := foldl_keep (fun x => x.1.pending) f h l s
theorem foldl_snd_pending {α β : Type} (f : β × State → α → β × State) (l : List α) (s : β × State)
    (h : ∀ s x, (f s x).2.pending = s.2.pending) : (l.foldl f s).2.pending = s.2.pending := foldl_keep (fun x => x.2.pending) f h l s
@[simp ↓] theorem ite_pending (c : Prop) [Decidable c] (a b : State) :
    (if c then a else b).pending = if c then a.pending else b.pending := by split <;> rfl
@[simp ↓] theorem foldl_sec_fuses {α : Type} (f : State → α → State) (h : ∀ s x, (f s x).sec.fuses = s.sec.fuses) (l : List α)
    (s : State) : (l.foldl f s).sec.fuses = s.sec.fuses := foldl_keep (·.sec.fuses) f h l s
theorem foldl_fst_sec_fuses {α β : Type} (f : State × β → α → State × β) (l : List α) (s : State × β)
    (h : ∀ s x, (f s x).1.sec.fuses = s.1.sec.fuses) : (l.foldl f s).1.sec.fuses = s.1.sec.fuses := foldl_keep (fun x => x.1.sec.fuses) f h l s
theorem foldl_snd_sec_fuses {α β : Type} (f : β × State → α → β × State) (l : List α) (s : β × State)
    (h : ∀ s x, (f s x).2.sec.fuses = s.2.sec.fuses) : (l.foldl f s).2.sec.fuses = s.2.sec.fuses := foldl_keep (fun x => x.2.sec.fuses) f h l s
@[simp ↓] theorem ite_sec_fuses (c : Prop) [Decidable c] (a b : State) :
    (if c then a else b).sec.fuses = if c then a.sec.fuses else b.sec.fuses := by split <;> rfl
@[simp ↓] theorem foldl_mem_ddr {α : Type} (f : State → α → State) (h : ∀ s x, (f s x).mem.ddr = s.mem.ddr) (l : List α)
    (s : State) : (l.foldl f s).mem.ddr = s.mem.ddr := foldl_keep (·.mem.ddr) f h l s
theorem foldl_fst_mem_ddr {α β : Type} (f : State × β → α → State × β) (l : List α) (s : State × β)
    (h : ∀ s x, (f s x).1.mem.ddr = s.1.mem.ddr) : (l.foldl f s).1.mem.ddr = s.1.mem.ddr := foldl_keep (fun x => x.1.mem.ddr) f h l s
theorem foldl_snd_mem_ddr {α β : Type} (f : β × State → α → β × State) (l : List α) (s : β × State)
    (h : ∀ s x, (f s x).2.mem.ddr = s.2.mem.ddr) : (l.foldl f s).2.mem.ddr = s.2.mem.ddr := foldl_keep (fun x => x.2.mem.ddr) f h l s
@[simp ↓] theorem ite_mem_ddr (c : Prop) [Decidable c] (a b : State) :
    (if c then a else b).mem.ddr = if c then a.mem.ddr else b.mem.ddr := by split <;> rfl
@[simp ↓] theorem foldl_mem_sram {α : Type} (f : State → α → State) (h : ∀ s x, (f s x).mem.sram = s.mem.sram) (l : List α)
    (s : State) : (l.foldl f s).mem.sram = s.mem.sram := foldl_keep (·.mem.sram) f h l s
theorem foldl_fst_mem_sram {α β : Type} (f : State × β → α → State × β) (l : List α) (s : State × β)
    (h : ∀ s x, (f s x).1.mem.sram = s.1.mem.sram) : (l.foldl f s).1.mem.sram = s.1.mem.sram := foldl_keep (fun x => x.1.mem.sram) f h l s
theorem foldl_snd_mem_sram {α β : Type} (f : β × State → α → β × State) (l : List α) (s : β × State)
    (h : ∀ s x, (f s x).2.mem.sram = s.2.mem.sram) : (l.foldl f s).2.mem.sram = s.2.mem.sram := foldl_keep (fun x => x.2.mem.sram) f h l s
@[simp ↓] theorem ite_mem_sram (c : Prop) [Decidable c] (a b : State) :
    (if c then a else b).mem.sram = if c then a.mem.sram else b.mem.sram := by split <;> rfl
theorem foldl_fst_proj {α β γ : Type} (p : State → γ) (f : State × β → α → State × β) (l : List α) (s : State × β)
    (h : ∀ s x, p (f s x).1 = p s.1) : p (l.foldl f s).1 = p s.1 := foldl_keep (fun x => p x.1) f h l s
theorem foldl_snd_proj {α β γ : Type} (p : State → γ) (f : β × State → α → β × State) (l : List α) (s : β × State)
    (h : ∀ s x, p (f s x).2 = p s.2) : p (l.foldl f s).2 = p s.2 := foldl_keep (fun x => p x.2) f h l s

@[simp ↓] theorem State.advance_keeps (s : State) (t : Nat) :
    (State.advance s t).ident = s.ident ∧ (State.advance s t).tick = s.tick ∧ (State.advance s t).world = s.world ∧ (State.advance s t).aster = s.aster ∧ (State.advance s t).lupin = s.lupin ∧ (State.advance s t).harebell = s.harebell ∧ (State.advance s t).cornflower = s.cornflower ∧ (State.advance s t).poppy = s.poppy ∧ (State.advance s t).vetch = s.vetch ∧ (State.advance s t).commit = s.commit ∧ (State.advance s t).zheda = s.zheda ∧ (State.advance s t).teasel = s.teasel ∧ (State.advance s t).bindweed = s.bindweed ∧ (State.advance s t).cowslip = s.cowslip ∧ (State.advance s t).cmd = s.cmd ∧ (State.advance s t).safety = s.safety ∧ (State.advance s t).mem = s.mem ∧ (State.advance s t).clock = s.clock ∧ (State.advance s t).host = s.host ∧ (State.advance s t).sec = s.sec ∧ (State.advance s t).casc = s.casc ∧ (State.advance s t).rdata = s.rdata ∧ (State.advance s t).freeIx = s.freeIx ∧ (State.advance s t).pending = s.pending := by
  simp [State.advance]

@[simp ↓] theorem State.fresh_keeps (s : State) :
    (State.fresh s).2.ident = s.ident ∧ (State.fresh s).2.tick = s.tick ∧ (State.fresh s).2.world = s.world ∧ (State.fresh s).2.aster = s.aster ∧ (State.fresh s).2.lupin = s.lupin ∧ (State.fresh s).2.harebell = s.harebell ∧ (State.fresh s).2.cornflower = s.cornflower ∧ (State.fresh s).2.poppy = s.poppy ∧ (State.fresh s).2.vetch = s.vetch ∧ (State.fresh s).2.commit = s.commit ∧ (State.fresh s).2.zheda = s.zheda ∧ (State.fresh s).2.teasel = s.teasel ∧ (State.fresh s).2.bindweed = s.bindweed ∧ (State.fresh s).2.cowslip = s.cowslip ∧ (State.fresh s).2.cmd = s.cmd ∧ (State.fresh s).2.safety = s.safety ∧ (State.fresh s).2.mem = s.mem ∧ (State.fresh s).2.clock = s.clock ∧ (State.fresh s).2.host = s.host ∧ (State.fresh s).2.sec = s.sec ∧ (State.fresh s).2.casc = s.casc ∧ (State.fresh s).2.now = s.now ∧ (State.fresh s).2.rdata = s.rdata ∧ (State.fresh s).2.pending = s.pending := by
  simp [State.fresh]

@[simp ↓] theorem State.random_keeps (s : State) (n : Nat) :
    (State.random s n).2.ident = s.ident ∧ (State.random s n).2.tick = s.tick ∧ (State.random s n).2.world = s.world ∧ (State.random s n).2.aster = s.aster ∧ (State.random s n).2.lupin = s.lupin ∧ (State.random s n).2.harebell = s.harebell ∧ (State.random s n).2.cornflower = s.cornflower ∧ (State.random s n).2.poppy = s.poppy ∧ (State.random s n).2.vetch = s.vetch ∧ (State.random s n).2.commit = s.commit ∧ (State.random s n).2.zheda = s.zheda ∧ (State.random s n).2.teasel = s.teasel ∧ (State.random s n).2.bindweed = s.bindweed ∧ (State.random s n).2.cowslip = s.cowslip ∧ (State.random s n).2.cmd = s.cmd ∧ (State.random s n).2.safety = s.safety ∧ (State.random s n).2.mem = s.mem ∧ (State.random s n).2.clock = s.clock ∧ (State.random s n).2.host = s.host ∧ (State.random s n).2.casc = s.casc ∧ (State.random s n).2.now = s.now ∧ (State.random s n).2.rdata = s.rdata ∧ (State.random s n).2.freeIx = s.freeIx ∧ (State.random s n).2.pending = s.pending ∧ (State.random s n).2.sec.fuses = s.sec.fuses := by
  simp [State.random]

@[simp ↓] theorem State.hostWrite_keeps (s : State) (a : Nat) (bs : List Byte) :
    (State.hostWrite s a bs).ident = s.ident ∧ (State.hostWrite s a bs).tick = s.tick ∧ (State.hostWrite s a bs).world = s.world ∧ (State.hostWrite s a bs).aster = s.aster ∧ (State.hostWrite s a bs).lupin = s.lupin ∧ (State.hostWrite s a bs).harebell = s.harebell ∧ (State.hostWrite s a bs).cornflower = s.cornflower ∧ (State.hostWrite s a bs).poppy = s.poppy ∧ (State.hostWrite s a bs).vetch = s.vetch ∧ (State.hostWrite s a bs).commit = s.commit ∧ (State.hostWrite s a bs).zheda = s.zheda ∧ (State.hostWrite s a bs).teasel = s.teasel ∧ (State.hostWrite s a bs).bindweed = s.bindweed ∧ (State.hostWrite s a bs).cowslip = s.cowslip ∧ (State.hostWrite s a bs).cmd = s.cmd ∧ (State.hostWrite s a bs).safety = s.safety ∧ (State.hostWrite s a bs).mem = s.mem ∧ (State.hostWrite s a bs).clock = s.clock ∧ (State.hostWrite s a bs).sec = s.sec ∧ (State.hostWrite s a bs).casc = s.casc ∧ (State.hostWrite s a bs).now = s.now ∧ (State.hostWrite s a bs).rdata = s.rdata ∧ (State.hostWrite s a bs).freeIx = s.freeIx ∧ (State.hostWrite s a bs).pending = s.pending := by
  simp [State.hostWrite]

@[simp ↓] theorem State.interrupt_keeps (s : State) (v cls : Nat) :
    (State.interrupt s v cls).ident = s.ident ∧ (State.interrupt s v cls).tick = s.tick ∧ (State.interrupt s v cls).world = s.world ∧ (State.interrupt s v cls).aster = s.aster ∧ (State.interrupt s v cls).lupin = s.lupin ∧ (State.interrupt s v cls).harebell = s.harebell ∧ (State.interrupt s v cls).cornflower = s.cornflower ∧ (State.interrupt s v cls).poppy = s.poppy ∧ (State.interrupt s v cls).vetch = s.vetch ∧ (State.interrupt s v cls).commit = s.commit ∧ (State.interrupt s v cls).zheda = s.zheda ∧ (State.interrupt s v cls).teasel = s.teasel ∧ (State.interrupt s v cls).bindweed = s.bindweed ∧ (State.interrupt s v cls).cowslip = s.cowslip ∧ (State.interrupt s v cls).cmd = s.cmd ∧ (State.interrupt s v cls).safety = s.safety ∧ (State.interrupt s v cls).mem = s.mem ∧ (State.interrupt s v cls).clock = s.clock ∧ (State.interrupt s v cls).sec = s.sec ∧ (State.interrupt s v cls).casc = s.casc ∧ (State.interrupt s v cls).now = s.now ∧ (State.interrupt s v cls).rdata = s.rdata ∧ (State.interrupt s v cls).freeIx = s.freeIx ∧ (State.interrupt s v cls).pending = s.pending := by
  simp [State.interrupt]

@[simp ↓] theorem State.setRing_keeps (s : State) (r : Nat) (g : Ring) :
    (State.setRing s r g).ident = s.ident ∧ (State.setRing s r g).tick = s.tick ∧ (State.setRing s r g).world = s.world ∧ (State.setRing s r g).aster = s.aster ∧ (State.setRing s r g).lupin = s.lupin ∧ (State.setRing s r g).harebell = s.harebell ∧ (State.setRing s r g).cornflower = s.cornflower ∧ (State.setRing s r g).poppy = s.poppy ∧ (State.setRing s r g).vetch = s.vetch ∧ (State.setRing s r g).commit = s.commit ∧ (State.setRing s r g).zheda = s.zheda ∧ (State.setRing s r g).teasel = s.teasel ∧ (State.setRing s r g).bindweed = s.bindweed ∧ (State.setRing s r g).cowslip = s.cowslip ∧ (State.setRing s r g).safety = s.safety ∧ (State.setRing s r g).mem = s.mem ∧ (State.setRing s r g).clock = s.clock ∧ (State.setRing s r g).host = s.host ∧ (State.setRing s r g).sec = s.sec ∧ (State.setRing s r g).casc = s.casc ∧ (State.setRing s r g).now = s.now ∧ (State.setRing s r g).rdata = s.rdata ∧ (State.setRing s r g).freeIx = s.freeIx ∧ (State.setRing s r g).pending = s.pending := by
  simp [State.setRing]

@[simp ↓] theorem State.updRing_keeps (s : State) (r : Nat) (f : Ring → Ring) :
    (State.updRing s r f).ident = s.ident ∧ (State.updRing s r f).tick = s.tick ∧ (State.updRing s r f).world = s.world ∧ (State.updRing s r f).aster = s.aster ∧ (State.updRing s r f).lupin = s.lupin ∧ (State.updRing s r f).harebell = s.harebell ∧ (State.updRing s r f).cornflower = s.cornflower ∧ (State.updRing s r f).poppy = s.poppy ∧ (State.updRing s r f).vetch = s.vetch ∧ (State.updRing s r f).commit = s.commit ∧ (State.updRing s r f).zheda = s.zheda ∧ (State.updRing s r f).teasel = s.teasel ∧ (State.updRing s r f).bindweed = s.bindweed ∧ (State.updRing s r f).cowslip = s.cowslip ∧ (State.updRing s r f).safety = s.safety ∧ (State.updRing s r f).mem = s.mem ∧ (State.updRing s r f).clock = s.clock ∧ (State.updRing s r f).host = s.host ∧ (State.updRing s r f).sec = s.sec ∧ (State.updRing s r f).casc = s.casc ∧ (State.updRing s r f).now = s.now ∧ (State.updRing s r f).rdata = s.rdata ∧ (State.updRing s r f).freeIx = s.freeIx ∧ (State.updRing s r f).pending = s.pending := by
  simp [State.updRing]

@[simp ↓] theorem State.writeCpl_keeps (s : State) (r : Nat) (c : Cpl) :
    (State.writeCpl s r c).ident = s.ident ∧ (State.writeCpl s r c).tick = s.tick ∧ (State.writeCpl s r c).world = s.world ∧ (State.writeCpl s r c).aster = s.aster ∧ (State.writeCpl s r c).lupin = s.lupin ∧ (State.writeCpl s r c).harebell = s.harebell ∧ (State.writeCpl s r c).cornflower = s.cornflower ∧ (State.writeCpl s r c).poppy = s.poppy ∧ (State.writeCpl s r c).vetch = s.vetch ∧ (State.writeCpl s r c).commit = s.commit ∧ (State.writeCpl s r c).zheda = s.zheda ∧ (State.writeCpl s r c).teasel = s.teasel ∧ (State.writeCpl s r c).bindweed = s.bindweed ∧ (State.writeCpl s r c).cowslip = s.cowslip ∧ (State.writeCpl s r c).safety = s.safety ∧ (State.writeCpl s r c).mem = s.mem ∧ (State.writeCpl s r c).clock = s.clock ∧ (State.writeCpl s r c).sec = s.sec ∧ (State.writeCpl s r c).casc = s.casc ∧ (State.writeCpl s r c).now = s.now ∧ (State.writeCpl s r c).rdata = s.rdata ∧ (State.writeCpl s r c).freeIx = s.freeIx ∧ (State.writeCpl s r c).pending = s.pending := by
  simp [State.writeCpl]

@[simp ↓] theorem State.postRing_keeps (s : State) (r : Nat) (c : Cpl) :
    (State.postRing s r c).ident = s.ident ∧ (State.postRing s r c).tick = s.tick ∧ (State.postRing s r c).world = s.world ∧ (State.postRing s r c).aster = s.aster ∧ (State.postRing s r c).lupin = s.lupin ∧ (State.postRing s r c).harebell = s.harebell ∧ (State.postRing s r c).cornflower = s.cornflower ∧ (State.postRing s r c).poppy = s.poppy ∧ (State.postRing s r c).vetch = s.vetch ∧ (State.postRing s r c).commit = s.commit ∧ (State.postRing s r c).zheda = s.zheda ∧ (State.postRing s r c).teasel = s.teasel ∧ (State.postRing s r c).bindweed = s.bindweed ∧ (State.postRing s r c).cowslip = s.cowslip ∧ (State.postRing s r c).safety = s.safety ∧ (State.postRing s r c).mem = s.mem ∧ (State.postRing s r c).clock = s.clock ∧ (State.postRing s r c).sec = s.sec ∧ (State.postRing s r c).casc = s.casc ∧ (State.postRing s r c).now = s.now ∧ (State.postRing s r c).rdata = s.rdata ∧ (State.postRing s r c).freeIx = s.freeIx ∧ (State.postRing s r c).pending = s.pending := by
  simp [State.postRing]

@[simp ↓] theorem State.setMbox_keeps (s : State) (m : Nat) (x : Mbox) :
    (State.setMbox s m x).ident = s.ident ∧ (State.setMbox s m x).tick = s.tick ∧ (State.setMbox s m x).world = s.world ∧ (State.setMbox s m x).aster = s.aster ∧ (State.setMbox s m x).lupin = s.lupin ∧ (State.setMbox s m x).harebell = s.harebell ∧ (State.setMbox s m x).cornflower = s.cornflower ∧ (State.setMbox s m x).poppy = s.poppy ∧ (State.setMbox s m x).vetch = s.vetch ∧ (State.setMbox s m x).commit = s.commit ∧ (State.setMbox s m x).zheda = s.zheda ∧ (State.setMbox s m x).teasel = s.teasel ∧ (State.setMbox s m x).bindweed = s.bindweed ∧ (State.setMbox s m x).cmd = s.cmd ∧ (State.setMbox s m x).safety = s.safety ∧ (State.setMbox s m x).mem = s.mem ∧ (State.setMbox s m x).clock = s.clock ∧ (State.setMbox s m x).host = s.host ∧ (State.setMbox s m x).sec = s.sec ∧ (State.setMbox s m x).casc = s.casc ∧ (State.setMbox s m x).now = s.now ∧ (State.setMbox s m x).rdata = s.rdata ∧ (State.setMbox s m x).freeIx = s.freeIx ∧ (State.setMbox s m x).pending = s.pending := by
  simp [State.setMbox]

@[simp ↓] theorem State.fillMbox_keeps (s : State) (m : Nat) (bs : List Byte) :
    (State.fillMbox s m bs).ident = s.ident ∧ (State.fillMbox s m bs).tick = s.tick ∧ (State.fillMbox s m bs).world = s.world ∧ (State.fillMbox s m bs).aster = s.aster ∧ (State.fillMbox s m bs).lupin = s.lupin ∧ (State.fillMbox s m bs).harebell = s.harebell ∧ (State.fillMbox s m bs).cornflower = s.cornflower ∧ (State.fillMbox s m bs).poppy = s.poppy ∧ (State.fillMbox s m bs).vetch = s.vetch ∧ (State.fillMbox s m bs).commit = s.commit ∧ (State.fillMbox s m bs).zheda = s.zheda ∧ (State.fillMbox s m bs).teasel = s.teasel ∧ (State.fillMbox s m bs).bindweed = s.bindweed ∧ (State.fillMbox s m bs).cmd = s.cmd ∧ (State.fillMbox s m bs).safety = s.safety ∧ (State.fillMbox s m bs).mem = s.mem ∧ (State.fillMbox s m bs).clock = s.clock ∧ (State.fillMbox s m bs).sec = s.sec ∧ (State.fillMbox s m bs).casc = s.casc ∧ (State.fillMbox s m bs).now = s.now ∧ (State.fillMbox s m bs).rdata = s.rdata ∧ (State.fillMbox s m bs).freeIx = s.freeIx ∧ (State.fillMbox s m bs).pending = s.pending := by
  simp [State.fillMbox]

@[simp ↓] theorem State.postMbox_keeps (s : State) (m : Nat) (c : Cpl) :
    (State.postMbox s m c).ident = s.ident ∧ (State.postMbox s m c).tick = s.tick ∧ (State.postMbox s m c).world = s.world ∧ (State.postMbox s m c).aster = s.aster ∧ (State.postMbox s m c).lupin = s.lupin ∧ (State.postMbox s m c).harebell = s.harebell ∧ (State.postMbox s m c).cornflower = s.cornflower ∧ (State.postMbox s m c).poppy = s.poppy ∧ (State.postMbox s m c).vetch = s.vetch ∧ (State.postMbox s m c).commit = s.commit ∧ (State.postMbox s m c).zheda = s.zheda ∧ (State.postMbox s m c).teasel = s.teasel ∧ (State.postMbox s m c).bindweed = s.bindweed ∧ (State.postMbox s m c).safety = s.safety ∧ (State.postMbox s m c).mem = s.mem ∧ (State.postMbox s m c).clock = s.clock ∧ (State.postMbox s m c).sec = s.sec ∧ (State.postMbox s m c).casc = s.casc ∧ (State.postMbox s m c).now = s.now ∧ (State.postMbox s m c).rdata = s.rdata ∧ (State.postMbox s m c).freeIx = s.freeIx ∧ (State.postMbox s m c).pending = s.pending := by
  simp [State.postMbox]

@[simp ↓] theorem State.postUsb_keeps (s : State) (c : Cpl) :
    (State.postUsb s c).ident = s.ident ∧ (State.postUsb s c).tick = s.tick ∧ (State.postUsb s c).world = s.world ∧ (State.postUsb s c).aster = s.aster ∧ (State.postUsb s c).lupin = s.lupin ∧ (State.postUsb s c).harebell = s.harebell ∧ (State.postUsb s c).cornflower = s.cornflower ∧ (State.postUsb s c).poppy = s.poppy ∧ (State.postUsb s c).vetch = s.vetch ∧ (State.postUsb s c).commit = s.commit ∧ (State.postUsb s c).zheda = s.zheda ∧ (State.postUsb s c).teasel = s.teasel ∧ (State.postUsb s c).bindweed = s.bindweed ∧ (State.postUsb s c).cowslip = s.cowslip ∧ (State.postUsb s c).cmd = s.cmd ∧ (State.postUsb s c).safety = s.safety ∧ (State.postUsb s c).mem = s.mem ∧ (State.postUsb s c).clock = s.clock ∧ (State.postUsb s c).sec = s.sec ∧ (State.postUsb s c).casc = s.casc ∧ (State.postUsb s c).now = s.now ∧ (State.postUsb s c).rdata = s.rdata ∧ (State.postUsb s c).freeIx = s.freeIx ∧ (State.postUsb s c).pending = s.pending := by
  simp [State.postUsb]

@[simp ↓] theorem State.post_keeps (s : State) (c : Cpl) :
    (State.post s c).ident = s.ident ∧ (State.post s c).tick = s.tick ∧ (State.post s c).world = s.world ∧ (State.post s c).aster = s.aster ∧ (State.post s c).lupin = s.lupin ∧ (State.post s c).harebell = s.harebell ∧ (State.post s c).cornflower = s.cornflower ∧ (State.post s c).poppy = s.poppy ∧ (State.post s c).vetch = s.vetch ∧ (State.post s c).commit = s.commit ∧ (State.post s c).zheda = s.zheda ∧ (State.post s c).teasel = s.teasel ∧ (State.post s c).bindweed = s.bindweed ∧ (State.post s c).safety = s.safety ∧ (State.post s c).mem = s.mem ∧ (State.post s c).clock = s.clock ∧ (State.post s c).sec = s.sec ∧ (State.post s c).casc = s.casc ∧ (State.post s c).now = s.now ∧ (State.post s c).rdata = s.rdata ∧ (State.post s c).freeIx = s.freeIx ∧ (State.post s c).pending = s.pending := by
  simp [State.post]

@[simp ↓] theorem State.closeOne_keeps (s : State) (r : Nat) :
    (State.closeOne s r).ident = s.ident ∧ (State.closeOne s r).tick = s.tick ∧ (State.closeOne s r).world = s.world ∧ (State.closeOne s r).aster = s.aster ∧ (State.closeOne s r).lupin = s.lupin ∧ (State.closeOne s r).harebell = s.harebell ∧ (State.closeOne s r).cornflower = s.cornflower ∧ (State.closeOne s r).poppy = s.poppy ∧ (State.closeOne s r).vetch = s.vetch ∧ (State.closeOne s r).commit = s.commit ∧ (State.closeOne s r).zheda = s.zheda ∧ (State.closeOne s r).teasel = s.teasel ∧ (State.closeOne s r).bindweed = s.bindweed ∧ (State.closeOne s r).cowslip = s.cowslip ∧ (State.closeOne s r).safety = s.safety ∧ (State.closeOne s r).mem = s.mem ∧ (State.closeOne s r).clock = s.clock ∧ (State.closeOne s r).host = s.host ∧ (State.closeOne s r).sec = s.sec ∧ (State.closeOne s r).casc = s.casc ∧ (State.closeOne s r).now = s.now ∧ (State.closeOne s r).rdata = s.rdata ∧ (State.closeOne s r).freeIx = s.freeIx ∧ (State.closeOne s r).pending = s.pending := by
  simp [State.closeOne]

@[simp ↓] theorem State.interim_keeps (s : State) (h : Hdr) (op : Nat) (st : Status) (data : List Byte) :
    (State.interim s h op st data).ident = s.ident ∧ (State.interim s h op st data).tick = s.tick ∧ (State.interim s h op st data).world = s.world ∧ (State.interim s h op st data).aster = s.aster ∧ (State.interim s h op st data).lupin = s.lupin ∧ (State.interim s h op st data).harebell = s.harebell ∧ (State.interim s h op st data).cornflower = s.cornflower ∧ (State.interim s h op st data).poppy = s.poppy ∧ (State.interim s h op st data).vetch = s.vetch ∧ (State.interim s h op st data).commit = s.commit ∧ (State.interim s h op st data).zheda = s.zheda ∧ (State.interim s h op st data).teasel = s.teasel ∧ (State.interim s h op st data).bindweed = s.bindweed ∧ (State.interim s h op st data).safety = s.safety ∧ (State.interim s h op st data).mem = s.mem ∧ (State.interim s h op st data).clock = s.clock ∧ (State.interim s h op st data).sec = s.sec ∧ (State.interim s h op st data).casc = s.casc ∧ (State.interim s h op st data).now = s.now ∧ (State.interim s h op st data).rdata = s.rdata ∧ (State.interim s h op st data).freeIx = s.freeIx ∧ (State.interim s h op st data).pending = s.pending := by
  simp [State.interim]

@[simp ↓] theorem State.final_keeps (s : State) (h : Hdr) (op : Nat) (st : Status) (data : List Byte) (mb : List Byte) :
    (State.final s h op st data mb).ident = s.ident ∧ (State.final s h op st data mb).tick = s.tick ∧ (State.final s h op st data mb).world = s.world ∧ (State.final s h op st data mb).aster = s.aster ∧ (State.final s h op st data mb).lupin = s.lupin ∧ (State.final s h op st data mb).harebell = s.harebell ∧ (State.final s h op st data mb).cornflower = s.cornflower ∧ (State.final s h op st data mb).poppy = s.poppy ∧ (State.final s h op st data mb).vetch = s.vetch ∧ (State.final s h op st data mb).commit = s.commit ∧ (State.final s h op st data mb).zheda = s.zheda ∧ (State.final s h op st data mb).teasel = s.teasel ∧ (State.final s h op st data mb).bindweed = s.bindweed ∧ (State.final s h op st data mb).safety = s.safety ∧ (State.final s h op st data mb).mem = s.mem ∧ (State.final s h op st data mb).clock = s.clock ∧ (State.final s h op st data mb).sec = s.sec ∧ (State.final s h op st data mb).casc = s.casc ∧ (State.final s h op st data mb).now = s.now ∧ (State.final s h op st data mb).rdata = s.rdata ∧ (State.final s h op st data mb).freeIx = s.freeIx ∧ (State.final s h op st data mb).pending = s.pending := by
  simp [State.final]

@[simp ↓] theorem State.finalReply_keeps (s : State) (h : Hdr) (op raddr : Nat) (reply : List Byte) (data : List Byte) :
    (State.finalReply s h op raddr reply data).ident = s.ident ∧ (State.finalReply s h op raddr reply data).tick = s.tick ∧ (State.finalReply s h op raddr reply data).world = s.world ∧ (State.finalReply s h op raddr reply data).aster = s.aster ∧ (State.finalReply s h op raddr reply data).lupin = s.lupin ∧ (State.finalReply s h op raddr reply data).harebell = s.harebell ∧ (State.finalReply s h op raddr reply data).cornflower = s.cornflower ∧ (State.finalReply s h op raddr reply data).poppy = s.poppy ∧ (State.finalReply s h op raddr reply data).vetch = s.vetch ∧ (State.finalReply s h op raddr reply data).commit = s.commit ∧ (State.finalReply s h op raddr reply data).zheda = s.zheda ∧ (State.finalReply s h op raddr reply data).teasel = s.teasel ∧ (State.finalReply s h op raddr reply data).bindweed = s.bindweed ∧ (State.finalReply s h op raddr reply data).safety = s.safety ∧ (State.finalReply s h op raddr reply data).mem = s.mem ∧ (State.finalReply s h op raddr reply data).clock = s.clock ∧ (State.finalReply s h op raddr reply data).sec = s.sec ∧ (State.finalReply s h op raddr reply data).casc = s.casc ∧ (State.finalReply s h op raddr reply data).now = s.now ∧ (State.finalReply s h op raddr reply data).rdata = s.rdata ∧ (State.finalReply s h op raddr reply data).freeIx = s.freeIx ∧ (State.finalReply s h op raddr reply data).pending = s.pending := by
  simp [State.finalReply]

@[simp ↓] theorem State.pinUpdate_keeps (s : State) :
    (State.pinUpdate s).ident = s.ident ∧ (State.pinUpdate s).tick = s.tick ∧ (State.pinUpdate s).world = s.world ∧ (State.pinUpdate s).aster = s.aster ∧ (State.pinUpdate s).lupin = s.lupin ∧ (State.pinUpdate s).harebell = s.harebell ∧ (State.pinUpdate s).cornflower = s.cornflower ∧ (State.pinUpdate s).poppy = s.poppy ∧ (State.pinUpdate s).vetch = s.vetch ∧ (State.pinUpdate s).commit = s.commit ∧ (State.pinUpdate s).zheda = s.zheda ∧ (State.pinUpdate s).teasel = s.teasel ∧ (State.pinUpdate s).bindweed = s.bindweed ∧ (State.pinUpdate s).cowslip = s.cowslip ∧ (State.pinUpdate s).cmd = s.cmd ∧ (State.pinUpdate s).safety = s.safety ∧ (State.pinUpdate s).mem = s.mem ∧ (State.pinUpdate s).host = s.host ∧ (State.pinUpdate s).sec = s.sec ∧ (State.pinUpdate s).casc = s.casc ∧ (State.pinUpdate s).now = s.now ∧ (State.pinUpdate s).rdata = s.rdata ∧ (State.pinUpdate s).freeIx = s.freeIx ∧ (State.pinUpdate s).pending = s.pending := by
  simp [State.pinUpdate]

@[simp ↓] theorem State.logEntry_keeps (s : State) (cls inst code sev : Nat) (inj : Bool) (detail : List Byte) :
    (State.logEntry s cls inst code sev inj detail).ident = s.ident ∧ (State.logEntry s cls inst code sev inj detail).tick = s.tick ∧ (State.logEntry s cls inst code sev inj detail).world = s.world ∧ (State.logEntry s cls inst code sev inj detail).aster = s.aster ∧ (State.logEntry s cls inst code sev inj detail).lupin = s.lupin ∧ (State.logEntry s cls inst code sev inj detail).harebell = s.harebell ∧ (State.logEntry s cls inst code sev inj detail).cornflower = s.cornflower ∧ (State.logEntry s cls inst code sev inj detail).poppy = s.poppy ∧ (State.logEntry s cls inst code sev inj detail).vetch = s.vetch ∧ (State.logEntry s cls inst code sev inj detail).commit = s.commit ∧ (State.logEntry s cls inst code sev inj detail).zheda = s.zheda ∧ (State.logEntry s cls inst code sev inj detail).teasel = s.teasel ∧ (State.logEntry s cls inst code sev inj detail).bindweed = s.bindweed ∧ (State.logEntry s cls inst code sev inj detail).cowslip = s.cowslip ∧ (State.logEntry s cls inst code sev inj detail).cmd = s.cmd ∧ (State.logEntry s cls inst code sev inj detail).mem = s.mem ∧ (State.logEntry s cls inst code sev inj detail).sec = s.sec ∧ (State.logEntry s cls inst code sev inj detail).casc = s.casc ∧ (State.logEntry s cls inst code sev inj detail).now = s.now ∧ (State.logEntry s cls inst code sev inj detail).rdata = s.rdata ∧ (State.logEntry s cls inst code sev inj detail).freeIx = s.freeIx ∧ (State.logEntry s cls inst code sev inj detail).pending = s.pending := by
  simp [State.logEntry]

@[simp ↓] theorem State.logFault_keeps (s : State) (cls inst code sev : Nat) (inj : Bool) :
    (State.logFault s cls inst code sev inj).ident = s.ident ∧ (State.logFault s cls inst code sev inj).tick = s.tick ∧ (State.logFault s cls inst code sev inj).world = s.world ∧ (State.logFault s cls inst code sev inj).aster = s.aster ∧ (State.logFault s cls inst code sev inj).lupin = s.lupin ∧ (State.logFault s cls inst code sev inj).harebell = s.harebell ∧ (State.logFault s cls inst code sev inj).cornflower = s.cornflower ∧ (State.logFault s cls inst code sev inj).poppy = s.poppy ∧ (State.logFault s cls inst code sev inj).vetch = s.vetch ∧ (State.logFault s cls inst code sev inj).commit = s.commit ∧ (State.logFault s cls inst code sev inj).zheda = s.zheda ∧ (State.logFault s cls inst code sev inj).teasel = s.teasel ∧ (State.logFault s cls inst code sev inj).bindweed = s.bindweed ∧ (State.logFault s cls inst code sev inj).cowslip = s.cowslip ∧ (State.logFault s cls inst code sev inj).cmd = s.cmd ∧ (State.logFault s cls inst code sev inj).mem = s.mem ∧ (State.logFault s cls inst code sev inj).sec = s.sec ∧ (State.logFault s cls inst code sev inj).casc = s.casc ∧ (State.logFault s cls inst code sev inj).now = s.now ∧ (State.logFault s cls inst code sev inj).rdata = s.rdata ∧ (State.logFault s cls inst code sev inj).pending = s.pending := by
  simp [State.logFault]

@[simp ↓] theorem State.refuse_keeps (s : State) (h : Hdr) (op : Nat) (st : Status) :
    (State.refuse s h op st).ident = s.ident ∧ (State.refuse s h op st).tick = s.tick ∧ (State.refuse s h op st).world = s.world ∧ (State.refuse s h op st).aster = s.aster ∧ (State.refuse s h op st).lupin = s.lupin ∧ (State.refuse s h op st).harebell = s.harebell ∧ (State.refuse s h op st).cornflower = s.cornflower ∧ (State.refuse s h op st).poppy = s.poppy ∧ (State.refuse s h op st).vetch = s.vetch ∧ (State.refuse s h op st).commit = s.commit ∧ (State.refuse s h op st).zheda = s.zheda ∧ (State.refuse s h op st).teasel = s.teasel ∧ (State.refuse s h op st).bindweed = s.bindweed ∧ (State.refuse s h op st).safety = s.safety ∧ (State.refuse s h op st).mem = s.mem ∧ (State.refuse s h op st).clock = s.clock ∧ (State.refuse s h op st).sec = s.sec ∧ (State.refuse s h op st).casc = s.casc ∧ (State.refuse s h op st).now = s.now ∧ (State.refuse s h op st).rdata = s.rdata ∧ (State.refuse s h op st).freeIx = s.freeIx ∧ (State.refuse s h op st).pending = s.pending := by
  simp [State.refuse]

theorem State.guarded_proj {α : Type} (p : State → α) (s : State) (who : Master) (addr : Nat) (write : Bool) (k : State → State)
    (hs : ∀ s f, p (State.onSafety s f) = p s) (hk : ∀ s, p (k s) = p s) : p (s.guarded who addr write k) = p s := by
  unfold State.guarded
  (repeat' split) <;> first | rfl | apply hs | apply hk

@[simp ↓] theorem State.deliver_keeps (s : State) (w : Nat) (x : Watch) (domOff : Bool) (v : Word) :
    (State.deliver s w x domOff v).ident = s.ident ∧ (State.deliver s w x domOff v).tick = s.tick ∧ (State.deliver s w x domOff v).world = s.world ∧ (State.deliver s w x domOff v).aster = s.aster ∧ (State.deliver s w x domOff v).lupin = s.lupin ∧ (State.deliver s w x domOff v).harebell = s.harebell ∧ (State.deliver s w x domOff v).cornflower = s.cornflower ∧ (State.deliver s w x domOff v).poppy = s.poppy ∧ (State.deliver s w x domOff v).vetch = s.vetch ∧ (State.deliver s w x domOff v).commit = s.commit ∧ (State.deliver s w x domOff v).zheda = s.zheda ∧ (State.deliver s w x domOff v).teasel = s.teasel ∧ (State.deliver s w x domOff v).cowslip = s.cowslip ∧ (State.deliver s w x domOff v).cmd = s.cmd ∧ (State.deliver s w x domOff v).safety = s.safety ∧ (State.deliver s w x domOff v).mem = s.mem ∧ (State.deliver s w x domOff v).clock = s.clock ∧ (State.deliver s w x domOff v).sec = s.sec ∧ (State.deliver s w x domOff v).casc = s.casc ∧ (State.deliver s w x domOff v).now = s.now ∧ (State.deliver s w x domOff v).rdata = s.rdata ∧ (State.deliver s w x domOff v).freeIx = s.freeIx ∧ (State.deliver s w x domOff v).pending = s.pending := by
  simp [State.deliver]

@[simp ↓] theorem State.fireWatch_keeps (s : State) (w : Nat) (domOff : Bool) (v : Word) :
    (State.fireWatch s w domOff v).ident = s.ident ∧ (State.fireWatch s w domOff v).tick = s.tick ∧ (State.fireWatch s w domOff v).world = s.world ∧ (State.fireWatch s w domOff v).aster = s.aster ∧ (State.fireWatch s w domOff v).lupin = s.lupin ∧ (State.fireWatch s w domOff v).harebell = s.harebell ∧ (State.fireWatch s w domOff v).cornflower = s.cornflower ∧ (State.fireWatch s w domOff v).poppy = s.poppy ∧ (State.fireWatch s w domOff v).vetch = s.vetch ∧ (State.fireWatch s w domOff v).commit = s.commit ∧ (State.fireWatch s w domOff v).zheda = s.zheda ∧ (State.fireWatch s w domOff v).teasel = s.teasel ∧ (State.fireWatch s w domOff v).cowslip = s.cowslip ∧ (State.fireWatch s w domOff v).cmd = s.cmd ∧ (State.fireWatch s w domOff v).safety = s.safety ∧ (State.fireWatch s w domOff v).mem = s.mem ∧ (State.fireWatch s w domOff v).clock = s.clock ∧ (State.fireWatch s w domOff v).sec = s.sec ∧ (State.fireWatch s w domOff v).casc = s.casc ∧ (State.fireWatch s w domOff v).now = s.now ∧ (State.fireWatch s w domOff v).rdata = s.rdata ∧ (State.fireWatch s w domOff v).freeIx = s.freeIx ∧ (State.fireWatch s w domOff v).pending = s.pending := by
  simp [State.fireWatch]

@[simp ↓] theorem State.consumeOne_keeps (s : State) (n : Nat) (e : Nat × Watch) :
    (State.consumeOne s n e).ident = s.ident ∧ (State.consumeOne s n e).tick = s.tick ∧ (State.consumeOne s n e).world = s.world ∧ (State.consumeOne s n e).aster = s.aster ∧ (State.consumeOne s n e).lupin = s.lupin ∧ (State.consumeOne s n e).harebell = s.harebell ∧ (State.consumeOne s n e).cornflower = s.cornflower ∧ (State.consumeOne s n e).poppy = s.poppy ∧ (State.consumeOne s n e).vetch = s.vetch ∧ (State.consumeOne s n e).commit = s.commit ∧ (State.consumeOne s n e).zheda = s.zheda ∧ (State.consumeOne s n e).teasel = s.teasel ∧ (State.consumeOne s n e).cowslip = s.cowslip ∧ (State.consumeOne s n e).cmd = s.cmd ∧ (State.consumeOne s n e).safety = s.safety ∧ (State.consumeOne s n e).mem = s.mem ∧ (State.consumeOne s n e).clock = s.clock ∧ (State.consumeOne s n e).sec = s.sec ∧ (State.consumeOne s n e).casc = s.casc ∧ (State.consumeOne s n e).now = s.now ∧ (State.consumeOne s n e).rdata = s.rdata ∧ (State.consumeOne s n e).freeIx = s.freeIx ∧ (State.consumeOne s n e).pending = s.pending := by
  simp [State.consumeOne]

@[simp ↓] theorem State.evalWatches_keeps (s : State) (n : Nat) :
    (State.evalWatches s n).ident = s.ident ∧ (State.evalWatches s n).tick = s.tick ∧ (State.evalWatches s n).world = s.world ∧ (State.evalWatches s n).aster = s.aster ∧ (State.evalWatches s n).lupin = s.lupin ∧ (State.evalWatches s n).harebell = s.harebell ∧ (State.evalWatches s n).cornflower = s.cornflower ∧ (State.evalWatches s n).poppy = s.poppy ∧ (State.evalWatches s n).vetch = s.vetch ∧ (State.evalWatches s n).commit = s.commit ∧ (State.evalWatches s n).zheda = s.zheda ∧ (State.evalWatches s n).teasel = s.teasel ∧ (State.evalWatches s n).cowslip = s.cowslip ∧ (State.evalWatches s n).cmd = s.cmd ∧ (State.evalWatches s n).safety = s.safety ∧ (State.evalWatches s n).mem = s.mem ∧ (State.evalWatches s n).clock = s.clock ∧ (State.evalWatches s n).sec = s.sec ∧ (State.evalWatches s n).casc = s.casc ∧ (State.evalWatches s n).now = s.now ∧ (State.evalWatches s n).rdata = s.rdata ∧ (State.evalWatches s n).freeIx = s.freeIx ∧ (State.evalWatches s n).pending = s.pending := by
  simp [State.evalWatches]

@[simp ↓] theorem State.counterChanged_keeps (s : State) (n : Nat) (b : BindweedSt) :
    (State.counterChanged s n b).ident = s.ident ∧ (State.counterChanged s n b).tick = s.tick ∧ (State.counterChanged s n b).world = s.world ∧ (State.counterChanged s n b).aster = s.aster ∧ (State.counterChanged s n b).lupin = s.lupin ∧ (State.counterChanged s n b).harebell = s.harebell ∧ (State.counterChanged s n b).cornflower = s.cornflower ∧ (State.counterChanged s n b).poppy = s.poppy ∧ (State.counterChanged s n b).vetch = s.vetch ∧ (State.counterChanged s n b).commit = s.commit ∧ (State.counterChanged s n b).zheda = s.zheda ∧ (State.counterChanged s n b).teasel = s.teasel ∧ (State.counterChanged s n b).cowslip = s.cowslip ∧ (State.counterChanged s n b).cmd = s.cmd ∧ (State.counterChanged s n b).safety = s.safety ∧ (State.counterChanged s n b).mem = s.mem ∧ (State.counterChanged s n b).clock = s.clock ∧ (State.counterChanged s n b).sec = s.sec ∧ (State.counterChanged s n b).casc = s.casc ∧ (State.counterChanged s n b).now = s.now ∧ (State.counterChanged s n b).rdata = s.rdata ∧ (State.counterChanged s n b).freeIx = s.freeIx ∧ (State.counterChanged s n b).pending = s.pending := by
  simp [State.counterChanged]

theorem State.counterOp_proj {α : Type} (p : State → α) (s : State) (o n : Nat) (who : Master) (write : Bool) (k : State → State)
    (hs : ∀ s f, p (State.onSafety s f) = p s) (hb : ∀ s f, p (State.onBindweed s f) = p s)
    (hr : ∀ s x, p (State.setRdata s x) = p s) (hk : ∀ s, p (k s) = p s) : p (s.counterOp o n who write k) = p s := by
  unfold State.counterOp
  refine State.guarded_proj p s who _ write _ hs fun s => ?_
  (repeat' split) <;> simp [*]

@[simp ↓] theorem State.addBlocked_keeps (s : State) (n : Nat) (x : Word) (who : Master) (p : Nat × Pair) :
    (State.addBlocked s n x who p).ident = s.ident ∧ (State.addBlocked s n x who p).tick = s.tick ∧ (State.addBlocked s n x who p).world = s.world ∧ (State.addBlocked s n x who p).aster = s.aster ∧ (State.addBlocked s n x who p).lupin = s.lupin ∧ (State.addBlocked s n x who p).harebell = s.harebell ∧ (State.addBlocked s n x who p).cornflower = s.cornflower ∧ (State.addBlocked s n x who p).poppy = s.poppy ∧ (State.addBlocked s n x who p).vetch = s.vetch ∧ (State.addBlocked s n x who p).commit = s.commit ∧ (State.addBlocked s n x who p).zheda = s.zheda ∧ (State.addBlocked s n x who p).teasel = s.teasel ∧ (State.addBlocked s n x who p).mem = s.mem ∧ (State.addBlocked s n x who p).sec = s.sec ∧ (State.addBlocked s n x who p).casc = s.casc ∧ (State.addBlocked s n x who p).now = s.now ∧ (State.addBlocked s n x who p).rdata = s.rdata ∧ (State.addBlocked s n x who p).pending = s.pending := by
  simp [State.addBlocked]

@[simp ↓] theorem State.counterAdd_keeps (s : State) (n : Nat) (x : Word) (who : Master) :
    (State.counterAdd s n x who).ident = s.ident ∧ (State.counterAdd s n x who).tick = s.tick ∧ (State.counterAdd s n x who).world = s.world ∧ (State.counterAdd s n x who).aster = s.aster ∧ (State.counterAdd s n x who).lupin = s.lupin ∧ (State.counterAdd s n x who).harebell = s.harebell ∧ (State.counterAdd s n x who).cornflower = s.cornflower ∧ (State.counterAdd s n x who).poppy = s.poppy ∧ (State.counterAdd s n x who).vetch = s.vetch ∧ (State.counterAdd s n x who).commit = s.commit ∧ (State.counterAdd s n x who).zheda = s.zheda ∧ (State.counterAdd s n x who).teasel = s.teasel ∧ (State.counterAdd s n x who).mem = s.mem ∧ (State.counterAdd s n x who).sec = s.sec ∧ (State.counterAdd s n x who).casc = s.casc ∧ (State.counterAdd s n x who).now = s.now ∧ (State.counterAdd s n x who).rdata = s.rdata ∧ (State.counterAdd s n x who).pending = s.pending := by
  unfold State.counterAdd
  (repeat' split) <;> simp

@[simp ↓] theorem counterValueEffect_keeps (n : Nat) (who : Master) (x : Word) (s : State) :
    (counterValueEffect n who x s).ident = s.ident ∧ (counterValueEffect n who x s).tick = s.tick ∧ (counterValueEffect n who x s).world = s.world ∧ (counterValueEffect n who x s).aster = s.aster ∧ (counterValueEffect n who x s).lupin = s.lupin ∧ (counterValueEffect n who x s).harebell = s.harebell ∧ (counterValueEffect n who x s).cornflower = s.cornflower ∧ (counterValueEffect n who x s).poppy = s.poppy ∧ (counterValueEffect n who x s).vetch = s.vetch ∧ (counterValueEffect n who x s).commit = s.commit ∧ (counterValueEffect n who x s).zheda = s.zheda ∧ (counterValueEffect n who x s).teasel = s.teasel ∧ (counterValueEffect n who x s).mem = s.mem ∧ (counterValueEffect n who x s).clock = s.clock ∧ (counterValueEffect n who x s).sec = s.sec ∧ (counterValueEffect n who x s).casc = s.casc ∧ (counterValueEffect n who x s).now = s.now ∧ (counterValueEffect n who x s).freeIx = s.freeIx ∧ (counterValueEffect n who x s).pending = s.pending := by
  unfold counterValueEffect
  refine ⟨?_, ?_, ?_, ?_, ?_, ?_, ?_, ?_, ?_, ?_, ?_, ?_, ?_, ?_, ?_, ?_, ?_, ?_, ?_⟩ <;> (repeat' (first | with_reducible rfl | (simp; done) | (with_reducible intro _) | (with_reducible apply State.guarded_proj) | (with_reducible apply State.counterOp_proj) | (with_reducible refine Eq.trans (foldl_proj _ _ _ _ ?_) ?_) | (with_reducible refine Eq.trans (foldl_fst_proj _ _ _ _ ?_) ?_) | (with_reducible refine Eq.trans (foldl_snd_proj _ _ _ _ ?_) ?_) | split | (simp only []; split) | (dsimp only; split)))

@[simp ↓] theorem counterSubEffect_keeps (n : Nat) (who : Master) (x : Word) (s : State) :
    (counterSubEffect n who x s).ident = s.ident ∧ (counterSubEffect n who x s).tick = s.tick ∧ (counterSubEffect n who x s).world = s.world ∧ (counterSubEffect n who x s).aster = s.aster ∧ (counterSubEffect n who x s).lupin = s.lupin ∧ (counterSubEffect n who x s).harebell = s.harebell ∧ (counterSubEffect n who x s).cornflower = s.cornflower ∧ (counterSubEffect n who x s).poppy = s.poppy ∧ (counterSubEffect n who x s).vetch = s.vetch ∧ (counterSubEffect n who x s).commit = s.commit ∧ (counterSubEffect n who x s).zheda = s.zheda ∧ (counterSubEffect n who x s).teasel = s.teasel ∧ (counterSubEffect n who x s).mem = s.mem ∧ (counterSubEffect n who x s).clock = s.clock ∧ (counterSubEffect n who x s).sec = s.sec ∧ (counterSubEffect n who x s).casc = s.casc ∧ (counterSubEffect n who x s).now = s.now ∧ (counterSubEffect n who x s).freeIx = s.freeIx ∧ (counterSubEffect n who x s).pending = s.pending := by
  unfold counterSubEffect
  refine ⟨?_, ?_, ?_, ?_, ?_, ?_, ?_, ?_, ?_, ?_, ?_, ?_, ?_, ?_, ?_, ?_, ?_, ?_, ?_⟩ <;> (repeat' (first | with_reducible rfl | (simp; done) | (with_reducible intro _) | (with_reducible apply State.guarded_proj) | (with_reducible apply State.counterOp_proj) | (with_reducible refine Eq.trans (foldl_proj _ _ _ _ ?_) ?_) | (with_reducible refine Eq.trans (foldl_fst_proj _ _ _ _ ?_) ?_) | (with_reducible refine Eq.trans (foldl_snd_proj _ _ _ _ ?_) ?_) | split | (simp only []; split) | (dsimp only; split)))

@[simp ↓] theorem counterFetchIncEffect_keeps (n : Nat) (who : Master) (s : State) :
    (counterFetchIncEffect n who s).ident = s.ident ∧ (counterFetchIncEffect n who s).tick = s.tick ∧ (counterFetchIncEffect n who s).world = s.world ∧ (counterFetchIncEffect n who s).aster = s.aster ∧ (counterFetchIncEffect n who s).lupin = s.lupin ∧ (counterFetchIncEffect n who s).harebell = s.harebell ∧ (counterFetchIncEffect n who s).cornflower = s.cornflower ∧ (counterFetchIncEffect n who s).poppy = s.poppy ∧ (counterFetchIncEffect n who s).vetch = s.vetch ∧ (counterFetchIncEffect n who s).commit = s.commit ∧ (counterFetchIncEffect n who s).zheda = s.zheda ∧ (counterFetchIncEffect n who s).teasel = s.teasel ∧ (counterFetchIncEffect n who s).mem = s.mem ∧ (counterFetchIncEffect n who s).sec = s.sec ∧ (counterFetchIncEffect n who s).casc = s.casc ∧ (counterFetchIncEffect n who s).now = s.now ∧ (counterFetchIncEffect n who s).pending = s.pending := by
  unfold counterFetchIncEffect
  refine ⟨?_, ?_, ?_, ?_, ?_, ?_, ?_, ?_, ?_, ?_, ?_, ?_, ?_, ?_, ?_, ?_, ?_⟩ <;> (repeat' (first | with_reducible rfl | (simp; done) | (with_reducible intro _) | (with_reducible apply State.guarded_proj) | (with_reducible apply State.counterOp_proj) | (with_reducible refine Eq.trans (foldl_proj _ _ _ _ ?_) ?_) | (with_reducible refine Eq.trans (foldl_fst_proj _ _ _ _ ?_) ?_) | (with_reducible refine Eq.trans (foldl_snd_proj _ _ _ _ ?_) ?_) | split | (simp only []; split) | (dsimp only; split)))

@[simp ↓] theorem counterAttrEffect_keeps (n : Nat) (who : Master) (x : Word) (s : State) :
    (counterAttrEffect n who x s).ident = s.ident ∧ (counterAttrEffect n who x s).tick = s.tick ∧ (counterAttrEffect n who x s).world = s.world ∧ (counterAttrEffect n who x s).aster = s.aster ∧ (counterAttrEffect n who x s).lupin = s.lupin ∧ (counterAttrEffect n who x s).harebell = s.harebell ∧ (counterAttrEffect n who x s).cornflower = s.cornflower ∧ (counterAttrEffect n who x s).poppy = s.poppy ∧ (counterAttrEffect n who x s).vetch = s.vetch ∧ (counterAttrEffect n who x s).commit = s.commit ∧ (counterAttrEffect n who x s).zheda = s.zheda ∧ (counterAttrEffect n who x s).teasel = s.teasel ∧ (counterAttrEffect n who x s).mem = s.mem ∧ (counterAttrEffect n who x s).clock = s.clock ∧ (counterAttrEffect n who x s).sec = s.sec ∧ (counterAttrEffect n who x s).casc = s.casc ∧ (counterAttrEffect n who x s).now = s.now ∧ (counterAttrEffect n who x s).freeIx = s.freeIx ∧ (counterAttrEffect n who x s).pending = s.pending := by
  unfold counterAttrEffect
  refine ⟨?_, ?_, ?_, ?_, ?_, ?_, ?_, ?_, ?_, ?_, ?_, ?_, ?_, ?_, ?_, ?_, ?_, ?_, ?_⟩ <;> (repeat' (first | with_reducible rfl | (simp; done) | (with_reducible intro _) | (with_reducible apply State.guarded_proj) | (with_reducible apply State.counterOp_proj) | (with_reducible refine Eq.trans (foldl_proj _ _ _ _ ?_) ?_) | (with_reducible refine Eq.trans (foldl_fst_proj _ _ _ _ ?_) ?_) | (with_reducible refine Eq.trans (foldl_snd_proj _ _ _ _ ?_) ?_) | split | (simp only []; split) | (dsimp only; split)))

@[simp ↓] theorem coreStallTimeoutEffect_keeps (u ix : Nat) (s : State) :
    (coreStallTimeoutEffect u ix s).ident = s.ident ∧ (coreStallTimeoutEffect u ix s).tick = s.tick ∧ (coreStallTimeoutEffect u ix s).world = s.world ∧ (coreStallTimeoutEffect u ix s).aster = s.aster ∧ (coreStallTimeoutEffect u ix s).lupin = s.lupin ∧ (coreStallTimeoutEffect u ix s).harebell = s.harebell ∧ (coreStallTimeoutEffect u ix s).cornflower = s.cornflower ∧ (coreStallTimeoutEffect u ix s).poppy = s.poppy ∧ (coreStallTimeoutEffect u ix s).vetch = s.vetch ∧ (coreStallTimeoutEffect u ix s).commit = s.commit ∧ (coreStallTimeoutEffect u ix s).zheda = s.zheda ∧ (coreStallTimeoutEffect u ix s).teasel = s.teasel ∧ (coreStallTimeoutEffect u ix s).safety = s.safety ∧ (coreStallTimeoutEffect u ix s).mem = s.mem ∧ (coreStallTimeoutEffect u ix s).clock = s.clock ∧ (coreStallTimeoutEffect u ix s).sec = s.sec ∧ (coreStallTimeoutEffect u ix s).casc = s.casc ∧ (coreStallTimeoutEffect u ix s).now = s.now ∧ (coreStallTimeoutEffect u ix s).rdata = s.rdata ∧ (coreStallTimeoutEffect u ix s).freeIx = s.freeIx ∧ (coreStallTimeoutEffect u ix s).pending = s.pending := by
  unfold coreStallTimeoutEffect
  simp only []
  (repeat' split) <;> simp

@[simp ↓] theorem State.evalNew_keeps (s : State) (w : Nat) :
    (State.evalNew s w).ident = s.ident ∧ (State.evalNew s w).tick = s.tick ∧ (State.evalNew s w).world = s.world ∧ (State.evalNew s w).aster = s.aster ∧ (State.evalNew s w).lupin = s.lupin ∧ (State.evalNew s w).harebell = s.harebell ∧ (State.evalNew s w).cornflower = s.cornflower ∧ (State.evalNew s w).poppy = s.poppy ∧ (State.evalNew s w).vetch = s.vetch ∧ (State.evalNew s w).commit = s.commit ∧ (State.evalNew s w).zheda = s.zheda ∧ (State.evalNew s w).teasel = s.teasel ∧ (State.evalNew s w).cowslip = s.cowslip ∧ (State.evalNew s w).cmd = s.cmd ∧ (State.evalNew s w).safety = s.safety ∧ (State.evalNew s w).mem = s.mem ∧ (State.evalNew s w).clock = s.clock ∧ (State.evalNew s w).sec = s.sec ∧ (State.evalNew s w).casc = s.casc ∧ (State.evalNew s w).now = s.now ∧ (State.evalNew s w).rdata = s.rdata ∧ (State.evalNew s w).freeIx = s.freeIx ∧ (State.evalNew s w).pending = s.pending := by
  simp [State.evalNew]

@[simp ↓] theorem watchCfg_keeps (w : Nat) (who : Master) (cfg : Word) (s : State) :
    (watchCfg w who cfg s).ident = s.ident ∧ (watchCfg w who cfg s).tick = s.tick ∧ (watchCfg w who cfg s).world = s.world ∧ (watchCfg w who cfg s).aster = s.aster ∧ (watchCfg w who cfg s).lupin = s.lupin ∧ (watchCfg w who cfg s).harebell = s.harebell ∧ (watchCfg w who cfg s).cornflower = s.cornflower ∧ (watchCfg w who cfg s).poppy = s.poppy ∧ (watchCfg w who cfg s).vetch = s.vetch ∧ (watchCfg w who cfg s).commit = s.commit ∧ (watchCfg w who cfg s).zheda = s.zheda ∧ (watchCfg w who cfg s).teasel = s.teasel ∧ (watchCfg w who cfg s).cowslip = s.cowslip ∧ (watchCfg w who cfg s).cmd = s.cmd ∧ (watchCfg w who cfg s).safety = s.safety ∧ (watchCfg w who cfg s).mem = s.mem ∧ (watchCfg w who cfg s).clock = s.clock ∧ (watchCfg w who cfg s).sec = s.sec ∧ (watchCfg w who cfg s).casc = s.casc ∧ (watchCfg w who cfg s).now = s.now ∧ (watchCfg w who cfg s).rdata = s.rdata ∧ (watchCfg w who cfg s).freeIx = s.freeIx ∧ (watchCfg w who cfg s).pending = s.pending := by
  simp [watchCfg]

@[simp ↓] theorem State.unitOff_keeps (s : State) (u : Nat) :
    (State.unitOff s u).ident = s.ident ∧ (State.unitOff s u).tick = s.tick ∧ (State.unitOff s u).world = s.world ∧ (State.unitOff s u).aster = s.aster ∧ (State.unitOff s u).lupin = s.lupin ∧ (State.unitOff s u).harebell = s.harebell ∧ (State.unitOff s u).cornflower = s.cornflower ∧ (State.unitOff s u).poppy = s.poppy ∧ (State.unitOff s u).vetch = s.vetch ∧ (State.unitOff s u).commit = s.commit ∧ (State.unitOff s u).zheda = s.zheda ∧ (State.unitOff s u).teasel = s.teasel ∧ (State.unitOff s u).cowslip = s.cowslip ∧ (State.unitOff s u).cmd = s.cmd ∧ (State.unitOff s u).safety = s.safety ∧ (State.unitOff s u).mem = s.mem ∧ (State.unitOff s u).clock = s.clock ∧ (State.unitOff s u).sec = s.sec ∧ (State.unitOff s u).casc = s.casc ∧ (State.unitOff s u).now = s.now ∧ (State.unitOff s u).rdata = s.rdata ∧ (State.unitOff s u).freeIx = s.freeIx ∧ (State.unitOff s u).pending = s.pending := by
  simp [State.unitOff]

@[simp ↓] theorem State.mboxRefuse_keeps (s : State) (m cause : Nat) :
    (State.mboxRefuse s m cause).ident = s.ident ∧ (State.mboxRefuse s m cause).tick = s.tick ∧ (State.mboxRefuse s m cause).world = s.world ∧ (State.mboxRefuse s m cause).aster = s.aster ∧ (State.mboxRefuse s m cause).lupin = s.lupin ∧ (State.mboxRefuse s m cause).harebell = s.harebell ∧ (State.mboxRefuse s m cause).cornflower = s.cornflower ∧ (State.mboxRefuse s m cause).poppy = s.poppy ∧ (State.mboxRefuse s m cause).vetch = s.vetch ∧ (State.mboxRefuse s m cause).commit = s.commit ∧ (State.mboxRefuse s m cause).zheda = s.zheda ∧ (State.mboxRefuse s m cause).teasel = s.teasel ∧ (State.mboxRefuse s m cause).bindweed = s.bindweed ∧ (State.mboxRefuse s m cause).cmd = s.cmd ∧ (State.mboxRefuse s m cause).safety = s.safety ∧ (State.mboxRefuse s m cause).mem = s.mem ∧ (State.mboxRefuse s m cause).clock = s.clock ∧ (State.mboxRefuse s m cause).host = s.host ∧ (State.mboxRefuse s m cause).sec = s.sec ∧ (State.mboxRefuse s m cause).casc = s.casc ∧ (State.mboxRefuse s m cause).now = s.now ∧ (State.mboxRefuse s m cause).rdata = s.rdata ∧ (State.mboxRefuse s m cause).freeIx = s.freeIx ∧ (State.mboxRefuse s m cause).pending = s.pending := by
  simp [State.mboxRefuse]

@[simp ↓] theorem mailboxStageEffect_keeps (m : Nat) (who : Master) (w : Nat) (v : Word) (s : State) :
    (mailboxStageEffect m who w v s).ident = s.ident ∧ (mailboxStageEffect m who w v s).tick = s.tick ∧ (mailboxStageEffect m who w v s).world = s.world ∧ (mailboxStageEffect m who w v s).aster = s.aster ∧ (mailboxStageEffect m who w v s).lupin = s.lupin ∧ (mailboxStageEffect m who w v s).harebell = s.harebell ∧ (mailboxStageEffect m who w v s).cornflower = s.cornflower ∧ (mailboxStageEffect m who w v s).poppy = s.poppy ∧ (mailboxStageEffect m who w v s).vetch = s.vetch ∧ (mailboxStageEffect m who w v s).commit = s.commit ∧ (mailboxStageEffect m who w v s).zheda = s.zheda ∧ (mailboxStageEffect m who w v s).teasel = s.teasel ∧ (mailboxStageEffect m who w v s).bindweed = s.bindweed ∧ (mailboxStageEffect m who w v s).cmd = s.cmd ∧ (mailboxStageEffect m who w v s).mem = s.mem ∧ (mailboxStageEffect m who w v s).clock = s.clock ∧ (mailboxStageEffect m who w v s).host = s.host ∧ (mailboxStageEffect m who w v s).sec = s.sec ∧ (mailboxStageEffect m who w v s).casc = s.casc ∧ (mailboxStageEffect m who w v s).now = s.now ∧ (mailboxStageEffect m who w v s).rdata = s.rdata ∧ (mailboxStageEffect m who w v s).freeIx = s.freeIx ∧ (mailboxStageEffect m who w v s).pending = s.pending := by
  unfold mailboxStageEffect
  refine ⟨?_, ?_, ?_, ?_, ?_, ?_, ?_, ?_, ?_, ?_, ?_, ?_, ?_, ?_, ?_, ?_, ?_, ?_, ?_, ?_, ?_, ?_, ?_⟩ <;> (repeat' (first | with_reducible rfl | (simp; done) | (with_reducible intro _) | (with_reducible apply State.guarded_proj) | (with_reducible apply State.counterOp_proj) | (with_reducible refine Eq.trans (foldl_proj _ _ _ _ ?_) ?_) | (with_reducible refine Eq.trans (foldl_fst_proj _ _ _ _ ?_) ?_) | (with_reducible refine Eq.trans (foldl_snd_proj _ _ _ _ ?_) ?_) | split | (simp only []; split) | (dsimp only; split)))

@[simp ↓] theorem mailboxCommitEffect_keeps (m : Nat) (who : Master) (w : MbWrite) (s : State) :
    (mailboxCommitEffect m who w s).ident = s.ident ∧ (mailboxCommitEffect m who w s).tick = s.tick ∧ (mailboxCommitEffect m who w s).world = s.world ∧ (mailboxCommitEffect m who w s).aster = s.aster ∧ (mailboxCommitEffect m who w s).lupin = s.lupin ∧ (mailboxCommitEffect m who w s).harebell = s.harebell ∧ (mailboxCommitEffect m who w s).cornflower = s.cornflower ∧ (mailboxCommitEffect m who w s).poppy = s.poppy ∧ (mailboxCommitEffect m who w s).vetch = s.vetch ∧ (mailboxCommitEffect m who w s).commit = s.commit ∧ (mailboxCommitEffect m who w s).zheda = s.zheda ∧ (mailboxCommitEffect m who w s).teasel = s.teasel ∧ (mailboxCommitEffect m who w s).bindweed = s.bindweed ∧ (mailboxCommitEffect m who w s).cmd = s.cmd ∧ (mailboxCommitEffect m who w s).mem = s.mem ∧ (mailboxCommitEffect m who w s).clock = s.clock ∧ (mailboxCommitEffect m who w s).sec = s.sec ∧ (mailboxCommitEffect m who w s).casc = s.casc ∧ (mailboxCommitEffect m who w s).now = s.now ∧ (mailboxCommitEffect m who w s).rdata = s.rdata ∧ (mailboxCommitEffect m who w s).freeIx = s.freeIx ∧ (mailboxCommitEffect m who w s).pending = s.pending := by
  unfold mailboxCommitEffect
  refine ⟨?_, ?_, ?_, ?_, ?_, ?_, ?_, ?_, ?_, ?_, ?_, ?_, ?_, ?_, ?_, ?_, ?_, ?_, ?_, ?_, ?_, ?_⟩ <;> (repeat' (first | with_reducible rfl | (simp; done) | (with_reducible intro _) | (with_reducible apply State.guarded_proj) | (with_reducible apply State.counterOp_proj) | (with_reducible refine Eq.trans (foldl_proj _ _ _ _ ?_) ?_) | (with_reducible refine Eq.trans (foldl_fst_proj _ _ _ _ ?_) ?_) | (with_reducible refine Eq.trans (foldl_snd_proj _ _ _ _ ?_) ?_) | split | (simp only []; split) | (dsimp only; split)))

@[simp ↓] theorem State.emptyMbox_keeps (s : State) (m : Nat) :
    (State.emptyMbox s m).ident = s.ident ∧ (State.emptyMbox s m).tick = s.tick ∧ (State.emptyMbox s m).world = s.world ∧ (State.emptyMbox s m).aster = s.aster ∧ (State.emptyMbox s m).lupin = s.lupin ∧ (State.emptyMbox s m).harebell = s.harebell ∧ (State.emptyMbox s m).cornflower = s.cornflower ∧ (State.emptyMbox s m).poppy = s.poppy ∧ (State.emptyMbox s m).vetch = s.vetch ∧ (State.emptyMbox s m).commit = s.commit ∧ (State.emptyMbox s m).zheda = s.zheda ∧ (State.emptyMbox s m).teasel = s.teasel ∧ (State.emptyMbox s m).bindweed = s.bindweed ∧ (State.emptyMbox s m).cmd = s.cmd ∧ (State.emptyMbox s m).safety = s.safety ∧ (State.emptyMbox s m).mem = s.mem ∧ (State.emptyMbox s m).clock = s.clock ∧ (State.emptyMbox s m).sec = s.sec ∧ (State.emptyMbox s m).casc = s.casc ∧ (State.emptyMbox s m).now = s.now ∧ (State.emptyMbox s m).rdata = s.rdata ∧ (State.emptyMbox s m).freeIx = s.freeIx ∧ (State.emptyMbox s m).pending = s.pending := by
  simp [State.emptyMbox]

@[simp ↓] theorem mailboxCtrlEffect_keeps (m : Nat) (who : Master) (val : Word) (s : State) :
    (mailboxCtrlEffect m who val s).ident = s.ident ∧ (mailboxCtrlEffect m who val s).tick = s.tick ∧ (mailboxCtrlEffect m who val s).world = s.world ∧ (mailboxCtrlEffect m who val s).aster = s.aster ∧ (mailboxCtrlEffect m who val s).lupin = s.lupin ∧ (mailboxCtrlEffect m who val s).harebell = s.harebell ∧ (mailboxCtrlEffect m who val s).cornflower = s.cornflower ∧ (mailboxCtrlEffect m who val s).poppy = s.poppy ∧ (mailboxCtrlEffect m who val s).vetch = s.vetch ∧ (mailboxCtrlEffect m who val s).commit = s.commit ∧ (mailboxCtrlEffect m who val s).zheda = s.zheda ∧ (mailboxCtrlEffect m who val s).teasel = s.teasel ∧ (mailboxCtrlEffect m who val s).bindweed = s.bindweed ∧ (mailboxCtrlEffect m who val s).cmd = s.cmd ∧ (mailboxCtrlEffect m who val s).mem = s.mem ∧ (mailboxCtrlEffect m who val s).clock = s.clock ∧ (mailboxCtrlEffect m who val s).sec = s.sec ∧ (mailboxCtrlEffect m who val s).casc = s.casc ∧ (mailboxCtrlEffect m who val s).now = s.now ∧ (mailboxCtrlEffect m who val s).rdata = s.rdata ∧ (mailboxCtrlEffect m who val s).freeIx = s.freeIx ∧ (mailboxCtrlEffect m who val s).pending = s.pending := by
  unfold mailboxCtrlEffect
  refine ⟨?_, ?_, ?_, ?_, ?_, ?_, ?_, ?_, ?_, ?_, ?_, ?_, ?_, ?_, ?_, ?_, ?_, ?_, ?_, ?_, ?_, ?_⟩ <;> (repeat' (first | with_reducible rfl | (simp; done) | (with_reducible intro _) | (with_reducible apply State.guarded_proj) | (with_reducible apply State.counterOp_proj) | (with_reducible refine Eq.trans (foldl_proj _ _ _ _ ?_) ?_) | (with_reducible refine Eq.trans (foldl_fst_proj _ _ _ _ ?_) ?_) | (with_reducible refine Eq.trans (foldl_snd_proj _ _ _ _ ?_) ?_) | split | (simp only []; split) | (dsimp only; split)))

@[simp ↓] theorem State.ringBell_keeps (s : State) (d : Nat) (v : Word) :
    (State.ringBell s d v).ident = s.ident ∧ (State.ringBell s d v).tick = s.tick ∧ (State.ringBell s d v).world = s.world ∧ (State.ringBell s d v).aster = s.aster ∧ (State.ringBell s d v).lupin = s.lupin ∧ (State.ringBell s d v).harebell = s.harebell ∧ (State.ringBell s d v).cornflower = s.cornflower ∧ (State.ringBell s d v).poppy = s.poppy ∧ (State.ringBell s d v).vetch = s.vetch ∧ (State.ringBell s d v).commit = s.commit ∧ (State.ringBell s d v).zheda = s.zheda ∧ (State.ringBell s d v).teasel = s.teasel ∧ (State.ringBell s d v).bindweed = s.bindweed ∧ (State.ringBell s d v).cmd = s.cmd ∧ (State.ringBell s d v).safety = s.safety ∧ (State.ringBell s d v).mem = s.mem ∧ (State.ringBell s d v).clock = s.clock ∧ (State.ringBell s d v).host = s.host ∧ (State.ringBell s d v).sec = s.sec ∧ (State.ringBell s d v).casc = s.casc ∧ (State.ringBell s d v).now = s.now ∧ (State.ringBell s d v).rdata = s.rdata ∧ (State.ringBell s d v).freeIx = s.freeIx ∧ (State.ringBell s d v).pending = s.pending := by
  simp [State.ringBell]

@[simp ↓] theorem State.serveBell_keeps (s : State) (d : Nat) :
    (State.serveBell s d).ident = s.ident ∧ (State.serveBell s d).tick = s.tick ∧ (State.serveBell s d).world = s.world ∧ (State.serveBell s d).aster = s.aster ∧ (State.serveBell s d).lupin = s.lupin ∧ (State.serveBell s d).harebell = s.harebell ∧ (State.serveBell s d).cornflower = s.cornflower ∧ (State.serveBell s d).poppy = s.poppy ∧ (State.serveBell s d).vetch = s.vetch ∧ (State.serveBell s d).commit = s.commit ∧ (State.serveBell s d).zheda = s.zheda ∧ (State.serveBell s d).teasel = s.teasel ∧ (State.serveBell s d).bindweed = s.bindweed ∧ (State.serveBell s d).cmd = s.cmd ∧ (State.serveBell s d).safety = s.safety ∧ (State.serveBell s d).mem = s.mem ∧ (State.serveBell s d).clock = s.clock ∧ (State.serveBell s d).host = s.host ∧ (State.serveBell s d).sec = s.sec ∧ (State.serveBell s d).casc = s.casc ∧ (State.serveBell s d).now = s.now ∧ (State.serveBell s d).rdata = s.rdata ∧ (State.serveBell s d).freeIx = s.freeIx ∧ (State.serveBell s d).pending = s.pending := by
  simp [State.serveBell]

@[simp ↓] theorem State.bellRefuse_keeps (s : State) (d : Nat) :
    (State.bellRefuse s d).ident = s.ident ∧ (State.bellRefuse s d).tick = s.tick ∧ (State.bellRefuse s d).world = s.world ∧ (State.bellRefuse s d).aster = s.aster ∧ (State.bellRefuse s d).lupin = s.lupin ∧ (State.bellRefuse s d).harebell = s.harebell ∧ (State.bellRefuse s d).cornflower = s.cornflower ∧ (State.bellRefuse s d).poppy = s.poppy ∧ (State.bellRefuse s d).vetch = s.vetch ∧ (State.bellRefuse s d).commit = s.commit ∧ (State.bellRefuse s d).zheda = s.zheda ∧ (State.bellRefuse s d).teasel = s.teasel ∧ (State.bellRefuse s d).bindweed = s.bindweed ∧ (State.bellRefuse s d).cmd = s.cmd ∧ (State.bellRefuse s d).safety = s.safety ∧ (State.bellRefuse s d).mem = s.mem ∧ (State.bellRefuse s d).clock = s.clock ∧ (State.bellRefuse s d).host = s.host ∧ (State.bellRefuse s d).sec = s.sec ∧ (State.bellRefuse s d).casc = s.casc ∧ (State.bellRefuse s d).now = s.now ∧ (State.bellRefuse s d).rdata = s.rdata ∧ (State.bellRefuse s d).freeIx = s.freeIx ∧ (State.bellRefuse s d).pending = s.pending := by
  simp [State.bellRefuse]

@[simp ↓] theorem doorbellEffect_keeps (d : Nat) (who : Master) (v : Word) (s : State) :
    (doorbellEffect d who v s).ident = s.ident ∧ (doorbellEffect d who v s).tick = s.tick ∧ (doorbellEffect d who v s).world = s.world ∧ (doorbellEffect d who v s).aster = s.aster ∧ (doorbellEffect d who v s).lupin = s.lupin ∧ (doorbellEffect d who v s).harebell = s.harebell ∧ (doorbellEffect d who v s).cornflower = s.cornflower ∧ (doorbellEffect d who v s).poppy = s.poppy ∧ (doorbellEffect d who v s).vetch = s.vetch ∧ (doorbellEffect d who v s).commit = s.commit ∧ (doorbellEffect d who v s).zheda = s.zheda ∧ (doorbellEffect d who v s).teasel = s.teasel ∧ (doorbellEffect d who v s).bindweed = s.bindweed ∧ (doorbellEffect d who v s).cmd = s.cmd ∧ (doorbellEffect d who v s).mem = s.mem ∧ (doorbellEffect d who v s).clock = s.clock ∧ (doorbellEffect d who v s).host = s.host ∧ (doorbellEffect d who v s).sec = s.sec ∧ (doorbellEffect d who v s).casc = s.casc ∧ (doorbellEffect d who v s).now = s.now ∧ (doorbellEffect d who v s).rdata = s.rdata ∧ (doorbellEffect d who v s).freeIx = s.freeIx ∧ (doorbellEffect d who v s).pending = s.pending := by
  unfold doorbellEffect
  refine ⟨?_, ?_, ?_, ?_, ?_, ?_, ?_, ?_, ?_, ?_, ?_, ?_, ?_, ?_, ?_, ?_, ?_, ?_, ?_, ?_, ?_, ?_, ?_⟩ <;> (repeat' (first | with_reducible rfl | (simp; done) | (with_reducible intro _) | (with_reducible apply State.guarded_proj) | (with_reducible apply State.counterOp_proj) | (with_reducible refine Eq.trans (foldl_proj _ _ _ _ ?_) ?_) | (with_reducible refine Eq.trans (foldl_fst_proj _ _ _ _ ?_) ?_) | (with_reducible refine Eq.trans (foldl_snd_proj _ _ _ _ ?_) ?_) | split | (simp only []; split) | (dsimp only; split)))

@[simp ↓] theorem doorbellServiceEffect_keeps (d : Nat) (who : Master) (s : State) :
    (doorbellServiceEffect d who s).ident = s.ident ∧ (doorbellServiceEffect d who s).tick = s.tick ∧ (doorbellServiceEffect d who s).world = s.world ∧ (doorbellServiceEffect d who s).aster = s.aster ∧ (doorbellServiceEffect d who s).lupin = s.lupin ∧ (doorbellServiceEffect d who s).harebell = s.harebell ∧ (doorbellServiceEffect d who s).cornflower = s.cornflower ∧ (doorbellServiceEffect d who s).poppy = s.poppy ∧ (doorbellServiceEffect d who s).vetch = s.vetch ∧ (doorbellServiceEffect d who s).commit = s.commit ∧ (doorbellServiceEffect d who s).zheda = s.zheda ∧ (doorbellServiceEffect d who s).teasel = s.teasel ∧ (doorbellServiceEffect d who s).bindweed = s.bindweed ∧ (doorbellServiceEffect d who s).cmd = s.cmd ∧ (doorbellServiceEffect d who s).mem = s.mem ∧ (doorbellServiceEffect d who s).clock = s.clock ∧ (doorbellServiceEffect d who s).host = s.host ∧ (doorbellServiceEffect d who s).sec = s.sec ∧ (doorbellServiceEffect d who s).casc = s.casc ∧ (doorbellServiceEffect d who s).now = s.now ∧ (doorbellServiceEffect d who s).freeIx = s.freeIx ∧ (doorbellServiceEffect d who s).pending = s.pending := by
  unfold doorbellServiceEffect
  refine ⟨?_, ?_, ?_, ?_, ?_, ?_, ?_, ?_, ?_, ?_, ?_, ?_, ?_, ?_, ?_, ?_, ?_, ?_, ?_, ?_, ?_, ?_⟩ <;> (repeat' (first | with_reducible rfl | (simp; done) | (with_reducible intro _) | (with_reducible apply State.guarded_proj) | (with_reducible apply State.counterOp_proj) | (with_reducible refine Eq.trans (foldl_proj _ _ _ _ ?_) ?_) | (with_reducible refine Eq.trans (foldl_fst_proj _ _ _ _ ?_) ?_) | (with_reducible refine Eq.trans (foldl_snd_proj _ _ _ _ ?_) ?_) | split | (simp only []; split) | (dsimp only; split)))

@[simp ↓] theorem State.violate_keeps (s : State) (m : Nat) (cls : BitVec 4) (addr : Dword) (write secure : Bool) (len : BitVec 7) (inj : Bool) :
    (State.violate s m cls addr write secure len inj).ident = s.ident ∧ (State.violate s m cls addr write secure len inj).tick = s.tick ∧ (State.violate s m cls addr write secure len inj).world = s.world ∧ (State.violate s m cls addr write secure len inj).aster = s.aster ∧ (State.violate s m cls addr write secure len inj).lupin = s.lupin ∧ (State.violate s m cls addr write secure len inj).harebell = s.harebell ∧ (State.violate s m cls addr write secure len inj).cornflower = s.cornflower ∧ (State.violate s m cls addr write secure len inj).poppy = s.poppy ∧ (State.violate s m cls addr write secure len inj).vetch = s.vetch ∧ (State.violate s m cls addr write secure len inj).zheda = s.zheda ∧ (State.violate s m cls addr write secure len inj).teasel = s.teasel ∧ (State.violate s m cls addr write secure len inj).bindweed = s.bindweed ∧ (State.violate s m cls addr write secure len inj).cowslip = s.cowslip ∧ (State.violate s m cls addr write secure len inj).cmd = s.cmd ∧ (State.violate s m cls addr write secure len inj).mem = s.mem ∧ (State.violate s m cls addr write secure len inj).sec = s.sec ∧ (State.violate s m cls addr write secure len inj).casc = s.casc ∧ (State.violate s m cls addr write secure len inj).now = s.now ∧ (State.violate s m cls addr write secure len inj).rdata = s.rdata ∧ (State.violate s m cls addr write secure len inj).pending = s.pending := by
  simp [State.violate]

@[simp ↓] theorem State.releaseMaster_keeps (s : State) (m : Nat) :
    (State.releaseMaster s m).ident = s.ident ∧ (State.releaseMaster s m).tick = s.tick ∧ (State.releaseMaster s m).world = s.world ∧ (State.releaseMaster s m).aster = s.aster ∧ (State.releaseMaster s m).lupin = s.lupin ∧ (State.releaseMaster s m).harebell = s.harebell ∧ (State.releaseMaster s m).cornflower = s.cornflower ∧ (State.releaseMaster s m).poppy = s.poppy ∧ (State.releaseMaster s m).vetch = s.vetch ∧ (State.releaseMaster s m).zheda = s.zheda ∧ (State.releaseMaster s m).teasel = s.teasel ∧ (State.releaseMaster s m).bindweed = s.bindweed ∧ (State.releaseMaster s m).cowslip = s.cowslip ∧ (State.releaseMaster s m).cmd = s.cmd ∧ (State.releaseMaster s m).mem = s.mem ∧ (State.releaseMaster s m).clock = s.clock ∧ (State.releaseMaster s m).host = s.host ∧ (State.releaseMaster s m).sec = s.sec ∧ (State.releaseMaster s m).casc = s.casc ∧ (State.releaseMaster s m).now = s.now ∧ (State.releaseMaster s m).rdata = s.rdata ∧ (State.releaseMaster s m).freeIx = s.freeIx ∧ (State.releaseMaster s m).pending = s.pending := by
  simp [State.releaseMaster]

@[simp ↓] theorem thiUnfreezeEffect_keeps (val : Word) (s : State) :
    (thiUnfreezeEffect val s).ident = s.ident ∧ (thiUnfreezeEffect val s).tick = s.tick ∧ (thiUnfreezeEffect val s).world = s.world ∧ (thiUnfreezeEffect val s).aster = s.aster ∧ (thiUnfreezeEffect val s).lupin = s.lupin ∧ (thiUnfreezeEffect val s).harebell = s.harebell ∧ (thiUnfreezeEffect val s).cornflower = s.cornflower ∧ (thiUnfreezeEffect val s).poppy = s.poppy ∧ (thiUnfreezeEffect val s).vetch = s.vetch ∧ (thiUnfreezeEffect val s).zheda = s.zheda ∧ (thiUnfreezeEffect val s).teasel = s.teasel ∧ (thiUnfreezeEffect val s).bindweed = s.bindweed ∧ (thiUnfreezeEffect val s).cowslip = s.cowslip ∧ (thiUnfreezeEffect val s).cmd = s.cmd ∧ (thiUnfreezeEffect val s).mem = s.mem ∧ (thiUnfreezeEffect val s).clock = s.clock ∧ (thiUnfreezeEffect val s).host = s.host ∧ (thiUnfreezeEffect val s).sec = s.sec ∧ (thiUnfreezeEffect val s).casc = s.casc ∧ (thiUnfreezeEffect val s).now = s.now ∧ (thiUnfreezeEffect val s).rdata = s.rdata ∧ (thiUnfreezeEffect val s).freeIx = s.freeIx ∧ (thiUnfreezeEffect val s).pending = s.pending := by
  simp [thiUnfreezeEffect]

@[simp ↓] theorem State.completerAbort_keeps (s : State) :
    (State.completerAbort s).ident = s.ident ∧ (State.completerAbort s).tick = s.tick ∧ (State.completerAbort s).world = s.world ∧ (State.completerAbort s).aster = s.aster ∧ (State.completerAbort s).lupin = s.lupin ∧ (State.completerAbort s).harebell = s.harebell ∧ (State.completerAbort s).cornflower = s.cornflower ∧ (State.completerAbort s).poppy = s.poppy ∧ (State.completerAbort s).vetch = s.vetch ∧ (State.completerAbort s).commit = s.commit ∧ (State.completerAbort s).zheda = s.zheda ∧ (State.completerAbort s).teasel = s.teasel ∧ (State.completerAbort s).bindweed = s.bindweed ∧ (State.completerAbort s).cowslip = s.cowslip ∧ (State.completerAbort s).cmd = s.cmd ∧ (State.completerAbort s).safety = s.safety ∧ (State.completerAbort s).mem = s.mem ∧ (State.completerAbort s).clock = s.clock ∧ (State.completerAbort s).sec = s.sec ∧ (State.completerAbort s).casc = s.casc ∧ (State.completerAbort s).now = s.now ∧ (State.completerAbort s).rdata = s.rdata ∧ (State.completerAbort s).freeIx = s.freeIx ∧ (State.completerAbort s).pending = s.pending := by
  simp [State.completerAbort]

@[simp ↓] theorem State.unsupported_keeps (s : State) :
    (State.unsupported s).ident = s.ident ∧ (State.unsupported s).tick = s.tick ∧ (State.unsupported s).world = s.world ∧ (State.unsupported s).aster = s.aster ∧ (State.unsupported s).lupin = s.lupin ∧ (State.unsupported s).harebell = s.harebell ∧ (State.unsupported s).cornflower = s.cornflower ∧ (State.unsupported s).poppy = s.poppy ∧ (State.unsupported s).vetch = s.vetch ∧ (State.unsupported s).commit = s.commit ∧ (State.unsupported s).zheda = s.zheda ∧ (State.unsupported s).teasel = s.teasel ∧ (State.unsupported s).bindweed = s.bindweed ∧ (State.unsupported s).cowslip = s.cowslip ∧ (State.unsupported s).cmd = s.cmd ∧ (State.unsupported s).safety = s.safety ∧ (State.unsupported s).mem = s.mem ∧ (State.unsupported s).clock = s.clock ∧ (State.unsupported s).sec = s.sec ∧ (State.unsupported s).casc = s.casc ∧ (State.unsupported s).now = s.now ∧ (State.unsupported s).rdata = s.rdata ∧ (State.unsupported s).freeIx = s.freeIx ∧ (State.unsupported s).pending = s.pending := by
  simp [State.unsupported]

@[simp ↓] theorem State.abortAccess_keeps (s : State) (write : Bool) :
    (State.abortAccess s write).ident = s.ident ∧ (State.abortAccess s write).tick = s.tick ∧ (State.abortAccess s write).world = s.world ∧ (State.abortAccess s write).aster = s.aster ∧ (State.abortAccess s write).lupin = s.lupin ∧ (State.abortAccess s write).harebell = s.harebell ∧ (State.abortAccess s write).cornflower = s.cornflower ∧ (State.abortAccess s write).poppy = s.poppy ∧ (State.abortAccess s write).vetch = s.vetch ∧ (State.abortAccess s write).commit = s.commit ∧ (State.abortAccess s write).zheda = s.zheda ∧ (State.abortAccess s write).teasel = s.teasel ∧ (State.abortAccess s write).bindweed = s.bindweed ∧ (State.abortAccess s write).cowslip = s.cowslip ∧ (State.abortAccess s write).cmd = s.cmd ∧ (State.abortAccess s write).safety = s.safety ∧ (State.abortAccess s write).mem = s.mem ∧ (State.abortAccess s write).clock = s.clock ∧ (State.abortAccess s write).sec = s.sec ∧ (State.abortAccess s write).casc = s.casc ∧ (State.abortAccess s write).now = s.now ∧ (State.abortAccess s write).freeIx = s.freeIx ∧ (State.abortAccess s write).pending = s.pending := by
  simp [State.abortAccess]

@[simp ↓] theorem State.ddrCorrected_keeps (s : State) (a : Nat) :
    (State.ddrCorrected s a).ident = s.ident ∧ (State.ddrCorrected s a).tick = s.tick ∧ (State.ddrCorrected s a).world = s.world ∧ (State.ddrCorrected s a).aster = s.aster ∧ (State.ddrCorrected s a).lupin = s.lupin ∧ (State.ddrCorrected s a).harebell = s.harebell ∧ (State.ddrCorrected s a).cornflower = s.cornflower ∧ (State.ddrCorrected s a).poppy = s.poppy ∧ (State.ddrCorrected s a).vetch = s.vetch ∧ (State.ddrCorrected s a).commit = s.commit ∧ (State.ddrCorrected s a).zheda = s.zheda ∧ (State.ddrCorrected s a).teasel = s.teasel ∧ (State.ddrCorrected s a).bindweed = s.bindweed ∧ (State.ddrCorrected s a).cowslip = s.cowslip ∧ (State.ddrCorrected s a).cmd = s.cmd ∧ (State.ddrCorrected s a).safety = s.safety ∧ (State.ddrCorrected s a).clock = s.clock ∧ (State.ddrCorrected s a).host = s.host ∧ (State.ddrCorrected s a).sec = s.sec ∧ (State.ddrCorrected s a).casc = s.casc ∧ (State.ddrCorrected s a).now = s.now ∧ (State.ddrCorrected s a).rdata = s.rdata ∧ (State.ddrCorrected s a).freeIx = s.freeIx ∧ (State.ddrCorrected s a).pending = s.pending ∧ (State.ddrCorrected s a).mem.ddr = s.mem.ddr ∧ (State.ddrCorrected s a).mem.sram = s.mem.sram := by
  simp [State.ddrCorrected]

@[simp ↓] theorem State.listRow_keeps (s : State) (a : Nat) :
    (State.listRow s a).ident = s.ident ∧ (State.listRow s a).tick = s.tick ∧ (State.listRow s a).world = s.world ∧ (State.listRow s a).aster = s.aster ∧ (State.listRow s a).lupin = s.lupin ∧ (State.listRow s a).harebell = s.harebell ∧ (State.listRow s a).cornflower = s.cornflower ∧ (State.listRow s a).poppy = s.poppy ∧ (State.listRow s a).vetch = s.vetch ∧ (State.listRow s a).commit = s.commit ∧ (State.listRow s a).zheda = s.zheda ∧ (State.listRow s a).teasel = s.teasel ∧ (State.listRow s a).bindweed = s.bindweed ∧ (State.listRow s a).cowslip = s.cowslip ∧ (State.listRow s a).cmd = s.cmd ∧ (State.listRow s a).safety = s.safety ∧ (State.listRow s a).mem = s.mem ∧ (State.listRow s a).clock = s.clock ∧ (State.listRow s a).host = s.host ∧ (State.listRow s a).casc = s.casc ∧ (State.listRow s a).now = s.now ∧ (State.listRow s a).rdata = s.rdata ∧ (State.listRow s a).freeIx = s.freeIx ∧ (State.listRow s a).pending = s.pending ∧ (State.listRow s a).sec.fuses = s.sec.fuses := by
  simp [State.listRow]

@[simp ↓] theorem State.ddrUncorrectable_keeps (s : State) (a : Nat) :
    (State.ddrUncorrectable s a).ident = s.ident ∧ (State.ddrUncorrectable s a).tick = s.tick ∧ (State.ddrUncorrectable s a).world = s.world ∧ (State.ddrUncorrectable s a).aster = s.aster ∧ (State.ddrUncorrectable s a).lupin = s.lupin ∧ (State.ddrUncorrectable s a).harebell = s.harebell ∧ (State.ddrUncorrectable s a).cornflower = s.cornflower ∧ (State.ddrUncorrectable s a).poppy = s.poppy ∧ (State.ddrUncorrectable s a).vetch = s.vetch ∧ (State.ddrUncorrectable s a).commit = s.commit ∧ (State.ddrUncorrectable s a).zheda = s.zheda ∧ (State.ddrUncorrectable s a).teasel = s.teasel ∧ (State.ddrUncorrectable s a).bindweed = s.bindweed ∧ (State.ddrUncorrectable s a).cowslip = s.cowslip ∧ (State.ddrUncorrectable s a).cmd = s.cmd ∧ (State.ddrUncorrectable s a).casc = s.casc ∧ (State.ddrUncorrectable s a).now = s.now ∧ (State.ddrUncorrectable s a).rdata = s.rdata ∧ (State.ddrUncorrectable s a).pending = s.pending ∧ (State.ddrUncorrectable s a).sec.fuses = s.sec.fuses ∧ (State.ddrUncorrectable s a).mem.ddr = s.mem.ddr ∧ (State.ddrUncorrectable s a).mem.sram = s.mem.sram := by
  simp [State.ddrUncorrectable]

@[simp ↓] theorem State.granule_keeps (s : State) (a : Nat) (e : GranErr) :
    (State.granule s a e).ident = s.ident ∧ (State.granule s a e).tick = s.tick ∧ (State.granule s a e).world = s.world ∧ (State.granule s a e).aster = s.aster ∧ (State.granule s a e).lupin = s.lupin ∧ (State.granule s a e).harebell = s.harebell ∧ (State.granule s a e).cornflower = s.cornflower ∧ (State.granule s a e).poppy = s.poppy ∧ (State.granule s a e).vetch = s.vetch ∧ (State.granule s a e).commit = s.commit ∧ (State.granule s a e).zheda = s.zheda ∧ (State.granule s a e).teasel = s.teasel ∧ (State.granule s a e).bindweed = s.bindweed ∧ (State.granule s a e).cowslip = s.cowslip ∧ (State.granule s a e).cmd = s.cmd ∧ (State.granule s a e).casc = s.casc ∧ (State.granule s a e).now = s.now ∧ (State.granule s a e).rdata = s.rdata ∧ (State.granule s a e).pending = s.pending ∧ (State.granule s a e).sec.fuses = s.sec.fuses ∧ (State.granule s a e).mem.ddr = s.mem.ddr ∧ (State.granule s a e).mem.sram = s.mem.sram := by
  unfold State.granule
  (repeat' split) <;> simp

@[simp ↓] theorem State.sramCorrected_keeps (s : State) (n : Nat) :
    (State.sramCorrected s n).ident = s.ident ∧ (State.sramCorrected s n).tick = s.tick ∧ (State.sramCorrected s n).world = s.world ∧ (State.sramCorrected s n).aster = s.aster ∧ (State.sramCorrected s n).lupin = s.lupin ∧ (State.sramCorrected s n).harebell = s.harebell ∧ (State.sramCorrected s n).cornflower = s.cornflower ∧ (State.sramCorrected s n).poppy = s.poppy ∧ (State.sramCorrected s n).vetch = s.vetch ∧ (State.sramCorrected s n).commit = s.commit ∧ (State.sramCorrected s n).zheda = s.zheda ∧ (State.sramCorrected s n).teasel = s.teasel ∧ (State.sramCorrected s n).bindweed = s.bindweed ∧ (State.sramCorrected s n).cowslip = s.cowslip ∧ (State.sramCorrected s n).cmd = s.cmd ∧ (State.sramCorrected s n).safety = s.safety ∧ (State.sramCorrected s n).clock = s.clock ∧ (State.sramCorrected s n).host = s.host ∧ (State.sramCorrected s n).sec = s.sec ∧ (State.sramCorrected s n).casc = s.casc ∧ (State.sramCorrected s n).now = s.now ∧ (State.sramCorrected s n).rdata = s.rdata ∧ (State.sramCorrected s n).freeIx = s.freeIx ∧ (State.sramCorrected s n).pending = s.pending ∧ (State.sramCorrected s n).mem.ddr = s.mem.ddr ∧ (State.sramCorrected s n).mem.sram = s.mem.sram := by
  unfold State.sramCorrected
  (repeat' split) <;> simp

@[simp ↓] theorem State.sramUncorrectable_keeps (s : State) (a : Nat) :
    (State.sramUncorrectable s a).ident = s.ident ∧ (State.sramUncorrectable s a).tick = s.tick ∧ (State.sramUncorrectable s a).world = s.world ∧ (State.sramUncorrectable s a).aster = s.aster ∧ (State.sramUncorrectable s a).lupin = s.lupin ∧ (State.sramUncorrectable s a).harebell = s.harebell ∧ (State.sramUncorrectable s a).cornflower = s.cornflower ∧ (State.sramUncorrectable s a).poppy = s.poppy ∧ (State.sramUncorrectable s a).vetch = s.vetch ∧ (State.sramUncorrectable s a).commit = s.commit ∧ (State.sramUncorrectable s a).zheda = s.zheda ∧ (State.sramUncorrectable s a).teasel = s.teasel ∧ (State.sramUncorrectable s a).bindweed = s.bindweed ∧ (State.sramUncorrectable s a).cowslip = s.cowslip ∧ (State.sramUncorrectable s a).cmd = s.cmd ∧ (State.sramUncorrectable s a).sec = s.sec ∧ (State.sramUncorrectable s a).casc = s.casc ∧ (State.sramUncorrectable s a).now = s.now ∧ (State.sramUncorrectable s a).rdata = s.rdata ∧ (State.sramUncorrectable s a).pending = s.pending ∧ (State.sramUncorrectable s a).mem.ddr = s.mem.ddr ∧ (State.sramUncorrectable s a).mem.sram = s.mem.sram := by
  simp [State.sramUncorrectable]

@[simp ↓] theorem State.nonrepro_keeps (s : State) :
    (State.nonrepro s).ident = s.ident ∧ (State.nonrepro s).tick = s.tick ∧ (State.nonrepro s).world = s.world ∧ (State.nonrepro s).aster = s.aster ∧ (State.nonrepro s).lupin = s.lupin ∧ (State.nonrepro s).harebell = s.harebell ∧ (State.nonrepro s).cornflower = s.cornflower ∧ (State.nonrepro s).poppy = s.poppy ∧ (State.nonrepro s).vetch = s.vetch ∧ (State.nonrepro s).commit = s.commit ∧ (State.nonrepro s).teasel = s.teasel ∧ (State.nonrepro s).bindweed = s.bindweed ∧ (State.nonrepro s).cowslip = s.cowslip ∧ (State.nonrepro s).cmd = s.cmd ∧ (State.nonrepro s).safety = s.safety ∧ (State.nonrepro s).mem = s.mem ∧ (State.nonrepro s).clock = s.clock ∧ (State.nonrepro s).host = s.host ∧ (State.nonrepro s).sec = s.sec ∧ (State.nonrepro s).casc = s.casc ∧ (State.nonrepro s).now = s.now ∧ (State.nonrepro s).rdata = s.rdata ∧ (State.nonrepro s).freeIx = s.freeIx ∧ (State.nonrepro s).pending = s.pending := by
  simp [State.nonrepro]

@[simp ↓] theorem State.conflict_keeps (s : State) (c : Conflict) :
    (State.conflict s c).ident = s.ident ∧ (State.conflict s c).tick = s.tick ∧ (State.conflict s c).world = s.world ∧ (State.conflict s c).aster = s.aster ∧ (State.conflict s c).lupin = s.lupin ∧ (State.conflict s c).harebell = s.harebell ∧ (State.conflict s c).cornflower = s.cornflower ∧ (State.conflict s c).poppy = s.poppy ∧ (State.conflict s c).vetch = s.vetch ∧ (State.conflict s c).commit = s.commit ∧ (State.conflict s c).teasel = s.teasel ∧ (State.conflict s c).bindweed = s.bindweed ∧ (State.conflict s c).cowslip = s.cowslip ∧ (State.conflict s c).cmd = s.cmd ∧ (State.conflict s c).safety = s.safety ∧ (State.conflict s c).clock = s.clock ∧ (State.conflict s c).host = s.host ∧ (State.conflict s c).sec = s.sec ∧ (State.conflict s c).casc = s.casc ∧ (State.conflict s c).now = s.now ∧ (State.conflict s c).rdata = s.rdata ∧ (State.conflict s c).freeIx = s.freeIx ∧ (State.conflict s c).pending = s.pending ∧ (State.conflict s c).mem.ddr = s.mem.ddr ∧ (State.conflict s c).mem.sram = s.mem.sram := by
  simp [State.conflict]

@[simp ↓] theorem State.lateItem_keeps (s : State) :
    (State.lateItem s).ident = s.ident ∧ (State.lateItem s).tick = s.tick ∧ (State.lateItem s).world = s.world ∧ (State.lateItem s).aster = s.aster ∧ (State.lateItem s).lupin = s.lupin ∧ (State.lateItem s).harebell = s.harebell ∧ (State.lateItem s).cornflower = s.cornflower ∧ (State.lateItem s).poppy = s.poppy ∧ (State.lateItem s).vetch = s.vetch ∧ (State.lateItem s).commit = s.commit ∧ (State.lateItem s).bindweed = s.bindweed ∧ (State.lateItem s).cowslip = s.cowslip ∧ (State.lateItem s).cmd = s.cmd ∧ (State.lateItem s).safety = s.safety ∧ (State.lateItem s).mem = s.mem ∧ (State.lateItem s).clock = s.clock ∧ (State.lateItem s).host = s.host ∧ (State.lateItem s).sec = s.sec ∧ (State.lateItem s).casc = s.casc ∧ (State.lateItem s).now = s.now ∧ (State.lateItem s).rdata = s.rdata ∧ (State.lateItem s).freeIx = s.freeIx ∧ (State.lateItem s).pending = s.pending := by
  simp [State.lateItem]

@[simp ↓] theorem State.itemFault_keeps (s : State) (m : ItemFault) :
    (State.itemFault s m).ident = s.ident ∧ (State.itemFault s m).tick = s.tick ∧ (State.itemFault s m).world = s.world ∧ (State.itemFault s m).aster = s.aster ∧ (State.itemFault s m).lupin = s.lupin ∧ (State.itemFault s m).harebell = s.harebell ∧ (State.itemFault s m).cornflower = s.cornflower ∧ (State.itemFault s m).poppy = s.poppy ∧ (State.itemFault s m).vetch = s.vetch ∧ (State.itemFault s m).commit = s.commit ∧ (State.itemFault s m).bindweed = s.bindweed ∧ (State.itemFault s m).cowslip = s.cowslip ∧ (State.itemFault s m).cmd = s.cmd ∧ (State.itemFault s m).sec = s.sec ∧ (State.itemFault s m).casc = s.casc ∧ (State.itemFault s m).now = s.now ∧ (State.itemFault s m).rdata = s.rdata ∧ (State.itemFault s m).pending = s.pending ∧ (State.itemFault s m).mem.ddr = s.mem.ddr ∧ (State.itemFault s m).mem.sram = s.mem.sram := by
  unfold State.itemFault
  (repeat' split) <;> simp

@[simp ↓] theorem bar2Effect_keeps (off len : Nat) (data : Option (List Byte)) (err : GranErr) (s : State) :
    (bar2Effect off len data err s).ident = s.ident ∧ (bar2Effect off len data err s).tick = s.tick ∧ (bar2Effect off len data err s).world = s.world ∧ (bar2Effect off len data err s).aster = s.aster ∧ (bar2Effect off len data err s).lupin = s.lupin ∧ (bar2Effect off len data err s).harebell = s.harebell ∧ (bar2Effect off len data err s).cornflower = s.cornflower ∧ (bar2Effect off len data err s).poppy = s.poppy ∧ (bar2Effect off len data err s).vetch = s.vetch ∧ (bar2Effect off len data err s).zheda = s.zheda ∧ (bar2Effect off len data err s).teasel = s.teasel ∧ (bar2Effect off len data err s).bindweed = s.bindweed ∧ (bar2Effect off len data err s).cowslip = s.cowslip ∧ (bar2Effect off len data err s).cmd = s.cmd ∧ (bar2Effect off len data err s).casc = s.casc ∧ (bar2Effect off len data err s).now = s.now ∧ (bar2Effect off len data err s).pending = s.pending ∧ (bar2Effect off len data err s).sec.fuses = s.sec.fuses ∧ (bar2Effect off len data err s).mem.sram = s.mem.sram := by
  unfold bar2Effect
  simp only []
  (repeat' split) <;> simp

@[simp ↓] theorem scrubGranuleEffect_keeps (err : GranErr) (s : State) :
    (scrubGranuleEffect err s).ident = s.ident ∧ (scrubGranuleEffect err s).tick = s.tick ∧ (scrubGranuleEffect err s).world = s.world ∧ (scrubGranuleEffect err s).aster = s.aster ∧ (scrubGranuleEffect err s).lupin = s.lupin ∧ (scrubGranuleEffect err s).harebell = s.harebell ∧ (scrubGranuleEffect err s).cornflower = s.cornflower ∧ (scrubGranuleEffect err s).poppy = s.poppy ∧ (scrubGranuleEffect err s).vetch = s.vetch ∧ (scrubGranuleEffect err s).commit = s.commit ∧ (scrubGranuleEffect err s).zheda = s.zheda ∧ (scrubGranuleEffect err s).teasel = s.teasel ∧ (scrubGranuleEffect err s).bindweed = s.bindweed ∧ (scrubGranuleEffect err s).cowslip = s.cowslip ∧ (scrubGranuleEffect err s).cmd = s.cmd ∧ (scrubGranuleEffect err s).casc = s.casc ∧ (scrubGranuleEffect err s).now = s.now ∧ (scrubGranuleEffect err s).rdata = s.rdata ∧ (scrubGranuleEffect err s).pending = s.pending ∧ (scrubGranuleEffect err s).sec.fuses = s.sec.fuses ∧ (scrubGranuleEffect err s).mem.ddr = s.mem.ddr ∧ (scrubGranuleEffect err s).mem.sram = s.mem.sram := by
  unfold scrubGranuleEffect
  simp only []
  (repeat' split) <;> simp

@[simp ↓] theorem State.startWipe_keeps (s : State) :
    (State.startWipe s).ident = s.ident ∧ (State.startWipe s).tick = s.tick ∧ (State.startWipe s).world = s.world ∧ (State.startWipe s).aster = s.aster ∧ (State.startWipe s).lupin = s.lupin ∧ (State.startWipe s).harebell = s.harebell ∧ (State.startWipe s).cornflower = s.cornflower ∧ (State.startWipe s).poppy = s.poppy ∧ (State.startWipe s).vetch = s.vetch ∧ (State.startWipe s).commit = s.commit ∧ (State.startWipe s).zheda = s.zheda ∧ (State.startWipe s).teasel = s.teasel ∧ (State.startWipe s).bindweed = s.bindweed ∧ (State.startWipe s).cowslip = s.cowslip ∧ (State.startWipe s).cmd = s.cmd ∧ (State.startWipe s).safety = s.safety ∧ (State.startWipe s).clock = s.clock ∧ (State.startWipe s).host = s.host ∧ (State.startWipe s).sec = s.sec ∧ (State.startWipe s).casc = s.casc ∧ (State.startWipe s).now = s.now ∧ (State.startWipe s).rdata = s.rdata ∧ (State.startWipe s).freeIx = s.freeIx ∧ (State.startWipe s).pending = s.pending ∧ (State.startWipe s).mem.ddr = s.mem.ddr ∧ (State.startWipe s).mem.sram = s.mem.sram := by
  simp [State.startWipe]

@[simp ↓] theorem secureWipeDoneEffect_keeps (ok : Bool) (s : State) :
    (secureWipeDoneEffect ok s).ident = s.ident ∧ (secureWipeDoneEffect ok s).tick = s.tick ∧ (secureWipeDoneEffect ok s).world = s.world ∧ (secureWipeDoneEffect ok s).aster = s.aster ∧ (secureWipeDoneEffect ok s).lupin = s.lupin ∧ (secureWipeDoneEffect ok s).harebell = s.harebell ∧ (secureWipeDoneEffect ok s).cornflower = s.cornflower ∧ (secureWipeDoneEffect ok s).poppy = s.poppy ∧ (secureWipeDoneEffect ok s).vetch = s.vetch ∧ (secureWipeDoneEffect ok s).commit = s.commit ∧ (secureWipeDoneEffect ok s).zheda = s.zheda ∧ (secureWipeDoneEffect ok s).teasel = s.teasel ∧ (secureWipeDoneEffect ok s).bindweed = s.bindweed ∧ (secureWipeDoneEffect ok s).cowslip = s.cowslip ∧ (secureWipeDoneEffect ok s).cmd = s.cmd ∧ (secureWipeDoneEffect ok s).sec = s.sec ∧ (secureWipeDoneEffect ok s).casc = s.casc ∧ (secureWipeDoneEffect ok s).now = s.now ∧ (secureWipeDoneEffect ok s).rdata = s.rdata ∧ (secureWipeDoneEffect ok s).pending = s.pending ∧ (secureWipeDoneEffect ok s).mem.ddr = s.mem.ddr := by
  unfold secureWipeDoneEffect
  (repeat' split) <;> simp

theorem State.packet_proj {α : Type} (p : State → α) (s : State) (h : Hdr) (op : Nat) (c : Checks) (run : State → State)
    (hu : ∀ s r f, p (State.updRing s r f) = p s) (hr : ∀ s h op st, p (State.refuse s h op st) = p s)
    (hk : ∀ s, p (run s) = p s) : p (s.packet h op c run) = p s := by
  unfold State.packet
  dsimp only
  repeat' split
  all_goals first | rfl | rw [hr, hu] | rw [hk, hu]

@[simp ↓] theorem State.setCtx_keeps (s : State) (c : Nat) (x : Ctx) :
    (State.setCtx s c x).ident = s.ident ∧ (State.setCtx s c x).tick = s.tick ∧ (State.setCtx s c x).world = s.world ∧ (State.setCtx s c x).aster = s.aster ∧ (State.setCtx s c x).lupin = s.lupin ∧ (State.setCtx s c x).harebell = s.harebell ∧ (State.setCtx s c x).cornflower = s.cornflower ∧ (State.setCtx s c x).poppy = s.poppy ∧ (State.setCtx s c x).vetch = s.vetch ∧ (State.setCtx s c x).commit = s.commit ∧ (State.setCtx s c x).zheda = s.zheda ∧ (State.setCtx s c x).bindweed = s.bindweed ∧ (State.setCtx s c x).cowslip = s.cowslip ∧ (State.setCtx s c x).cmd = s.cmd ∧ (State.setCtx s c x).safety = s.safety ∧ (State.setCtx s c x).mem = s.mem ∧ (State.setCtx s c x).clock = s.clock ∧ (State.setCtx s c x).host = s.host ∧ (State.setCtx s c x).sec = s.sec ∧ (State.setCtx s c x).casc = s.casc ∧ (State.setCtx s c x).now = s.now ∧ (State.setCtx s c x).rdata = s.rdata ∧ (State.setCtx s c x).freeIx = s.freeIx ∧ (State.setCtx s c x).pending = s.pending := by
  simp [State.setCtx]

@[simp ↓] theorem State.devWrite_keeps (s : State) (a : Nat) (bs : List Byte) :
    (State.devWrite s a bs).ident = s.ident ∧ (State.devWrite s a bs).tick = s.tick ∧ (State.devWrite s a bs).world = s.world ∧ (State.devWrite s a bs).aster = s.aster ∧ (State.devWrite s a bs).lupin = s.lupin ∧ (State.devWrite s a bs).harebell = s.harebell ∧ (State.devWrite s a bs).cornflower = s.cornflower ∧ (State.devWrite s a bs).poppy = s.poppy ∧ (State.devWrite s a bs).vetch = s.vetch ∧ (State.devWrite s a bs).commit = s.commit ∧ (State.devWrite s a bs).zheda = s.zheda ∧ (State.devWrite s a bs).teasel = s.teasel ∧ (State.devWrite s a bs).bindweed = s.bindweed ∧ (State.devWrite s a bs).cowslip = s.cowslip ∧ (State.devWrite s a bs).cmd = s.cmd ∧ (State.devWrite s a bs).safety = s.safety ∧ (State.devWrite s a bs).clock = s.clock ∧ (State.devWrite s a bs).host = s.host ∧ (State.devWrite s a bs).sec = s.sec ∧ (State.devWrite s a bs).casc = s.casc ∧ (State.devWrite s a bs).now = s.now ∧ (State.devWrite s a bs).rdata = s.rdata ∧ (State.devWrite s a bs).freeIx = s.freeIx ∧ (State.devWrite s a bs).pending = s.pending := by
  unfold State.devWrite
  (repeat' split) <;> simp

@[simp ↓] theorem State.itemWrite_keeps (s : State) (a : Nat) (bs : List Byte) :
    (State.itemWrite s a bs).ident = s.ident ∧ (State.itemWrite s a bs).tick = s.tick ∧ (State.itemWrite s a bs).world = s.world ∧ (State.itemWrite s a bs).aster = s.aster ∧ (State.itemWrite s a bs).lupin = s.lupin ∧ (State.itemWrite s a bs).harebell = s.harebell ∧ (State.itemWrite s a bs).cornflower = s.cornflower ∧ (State.itemWrite s a bs).poppy = s.poppy ∧ (State.itemWrite s a bs).vetch = s.vetch ∧ (State.itemWrite s a bs).commit = s.commit ∧ (State.itemWrite s a bs).zheda = s.zheda ∧ (State.itemWrite s a bs).teasel = s.teasel ∧ (State.itemWrite s a bs).bindweed = s.bindweed ∧ (State.itemWrite s a bs).cowslip = s.cowslip ∧ (State.itemWrite s a bs).cmd = s.cmd ∧ (State.itemWrite s a bs).safety = s.safety ∧ (State.itemWrite s a bs).clock = s.clock ∧ (State.itemWrite s a bs).sec = s.sec ∧ (State.itemWrite s a bs).casc = s.casc ∧ (State.itemWrite s a bs).now = s.now ∧ (State.itemWrite s a bs).rdata = s.rdata ∧ (State.itemWrite s a bs).freeIx = s.freeIx ∧ (State.itemWrite s a bs).pending = s.pending := by
  simp [State.itemWrite]

@[simp ↓] theorem State.updLupSlot_keeps (s : State) (n : Nat) (f : LupSlot → LupSlot) :
    (State.updLupSlot s n f).ident = s.ident ∧ (State.updLupSlot s n f).tick = s.tick ∧ (State.updLupSlot s n f).world = s.world ∧ (State.updLupSlot s n f).aster = s.aster ∧ (State.updLupSlot s n f).harebell = s.harebell ∧ (State.updLupSlot s n f).cornflower = s.cornflower ∧ (State.updLupSlot s n f).poppy = s.poppy ∧ (State.updLupSlot s n f).vetch = s.vetch ∧ (State.updLupSlot s n f).commit = s.commit ∧ (State.updLupSlot s n f).zheda = s.zheda ∧ (State.updLupSlot s n f).teasel = s.teasel ∧ (State.updLupSlot s n f).bindweed = s.bindweed ∧ (State.updLupSlot s n f).cowslip = s.cowslip ∧ (State.updLupSlot s n f).cmd = s.cmd ∧ (State.updLupSlot s n f).safety = s.safety ∧ (State.updLupSlot s n f).mem = s.mem ∧ (State.updLupSlot s n f).clock = s.clock ∧ (State.updLupSlot s n f).host = s.host ∧ (State.updLupSlot s n f).sec = s.sec ∧ (State.updLupSlot s n f).casc = s.casc ∧ (State.updLupSlot s n f).now = s.now ∧ (State.updLupSlot s n f).rdata = s.rdata ∧ (State.updLupSlot s n f).freeIx = s.freeIx ∧ (State.updLupSlot s n f).pending = s.pending := by
  simp [State.updLupSlot]

@[simp ↓] theorem State.updHolSlot_keeps (s : State) (n : Nat) (f : HolSlot → HolSlot) :
    (State.updHolSlot s n f).ident = s.ident ∧ (State.updHolSlot s n f).tick = s.tick ∧ (State.updHolSlot s n f).world = s.world ∧ (State.updHolSlot s n f).aster = s.aster ∧ (State.updHolSlot s n f).lupin = s.lupin ∧ (State.updHolSlot s n f).harebell = s.harebell ∧ (State.updHolSlot s n f).cornflower = s.cornflower ∧ (State.updHolSlot s n f).poppy = s.poppy ∧ (State.updHolSlot s n f).vetch = s.vetch ∧ (State.updHolSlot s n f).zheda = s.zheda ∧ (State.updHolSlot s n f).teasel = s.teasel ∧ (State.updHolSlot s n f).bindweed = s.bindweed ∧ (State.updHolSlot s n f).cowslip = s.cowslip ∧ (State.updHolSlot s n f).cmd = s.cmd ∧ (State.updHolSlot s n f).safety = s.safety ∧ (State.updHolSlot s n f).mem = s.mem ∧ (State.updHolSlot s n f).clock = s.clock ∧ (State.updHolSlot s n f).host = s.host ∧ (State.updHolSlot s n f).sec = s.sec ∧ (State.updHolSlot s n f).casc = s.casc ∧ (State.updHolSlot s n f).now = s.now ∧ (State.updHolSlot s n f).rdata = s.rdata ∧ (State.updHolSlot s n f).freeIx = s.freeIx ∧ (State.updHolSlot s n f).pending = s.pending := by
  simp [State.updHolSlot]

@[simp ↓] theorem State.updVetSlot_keeps (s : State) (n : Nat) (f : VetSlot → VetSlot) :
    (State.updVetSlot s n f).ident = s.ident ∧ (State.updVetSlot s n f).tick = s.tick ∧ (State.updVetSlot s n f).world = s.world ∧ (State.updVetSlot s n f).aster = s.aster ∧ (State.updVetSlot s n f).lupin = s.lupin ∧ (State.updVetSlot s n f).harebell = s.harebell ∧ (State.updVetSlot s n f).cornflower = s.cornflower ∧ (State.updVetSlot s n f).poppy = s.poppy ∧ (State.updVetSlot s n f).commit = s.commit ∧ (State.updVetSlot s n f).zheda = s.zheda ∧ (State.updVetSlot s n f).teasel = s.teasel ∧ (State.updVetSlot s n f).bindweed = s.bindweed ∧ (State.updVetSlot s n f).cowslip = s.cowslip ∧ (State.updVetSlot s n f).cmd = s.cmd ∧ (State.updVetSlot s n f).safety = s.safety ∧ (State.updVetSlot s n f).mem = s.mem ∧ (State.updVetSlot s n f).clock = s.clock ∧ (State.updVetSlot s n f).host = s.host ∧ (State.updVetSlot s n f).sec = s.sec ∧ (State.updVetSlot s n f).casc = s.casc ∧ (State.updVetSlot s n f).now = s.now ∧ (State.updVetSlot s n f).rdata = s.rdata ∧ (State.updVetSlot s n f).freeIx = s.freeIx ∧ (State.updVetSlot s n f).pending = s.pending := by
  simp [State.updVetSlot]

@[simp ↓] theorem State.updPopSlot_keeps (s : State) (n : Nat) (f : PopSlot → PopSlot) :
    (State.updPopSlot s n f).ident = s.ident ∧ (State.updPopSlot s n f).tick = s.tick ∧ (State.updPopSlot s n f).world = s.world ∧ (State.updPopSlot s n f).aster = s.aster ∧ (State.updPopSlot s n f).lupin = s.lupin ∧ (State.updPopSlot s n f).harebell = s.harebell ∧ (State.updPopSlot s n f).cornflower = s.cornflower ∧ (State.updPopSlot s n f).vetch = s.vetch ∧ (State.updPopSlot s n f).commit = s.commit ∧ (State.updPopSlot s n f).zheda = s.zheda ∧ (State.updPopSlot s n f).teasel = s.teasel ∧ (State.updPopSlot s n f).bindweed = s.bindweed ∧ (State.updPopSlot s n f).cowslip = s.cowslip ∧ (State.updPopSlot s n f).cmd = s.cmd ∧ (State.updPopSlot s n f).safety = s.safety ∧ (State.updPopSlot s n f).mem = s.mem ∧ (State.updPopSlot s n f).clock = s.clock ∧ (State.updPopSlot s n f).host = s.host ∧ (State.updPopSlot s n f).sec = s.sec ∧ (State.updPopSlot s n f).casc = s.casc ∧ (State.updPopSlot s n f).now = s.now ∧ (State.updPopSlot s n f).rdata = s.rdata ∧ (State.updPopSlot s n f).freeIx = s.freeIx ∧ (State.updPopSlot s n f).pending = s.pending := by
  simp [State.updPopSlot]

@[simp ↓] theorem State.updCflSlot_keeps (s : State) (n : Nat) (f : CflSlot → CflSlot) :
    (State.updCflSlot s n f).ident = s.ident ∧ (State.updCflSlot s n f).tick = s.tick ∧ (State.updCflSlot s n f).world = s.world ∧ (State.updCflSlot s n f).aster = s.aster ∧ (State.updCflSlot s n f).lupin = s.lupin ∧ (State.updCflSlot s n f).harebell = s.harebell ∧ (State.updCflSlot s n f).poppy = s.poppy ∧ (State.updCflSlot s n f).vetch = s.vetch ∧ (State.updCflSlot s n f).commit = s.commit ∧ (State.updCflSlot s n f).zheda = s.zheda ∧ (State.updCflSlot s n f).teasel = s.teasel ∧ (State.updCflSlot s n f).bindweed = s.bindweed ∧ (State.updCflSlot s n f).cowslip = s.cowslip ∧ (State.updCflSlot s n f).cmd = s.cmd ∧ (State.updCflSlot s n f).safety = s.safety ∧ (State.updCflSlot s n f).mem = s.mem ∧ (State.updCflSlot s n f).clock = s.clock ∧ (State.updCflSlot s n f).host = s.host ∧ (State.updCflSlot s n f).sec = s.sec ∧ (State.updCflSlot s n f).casc = s.casc ∧ (State.updCflSlot s n f).now = s.now ∧ (State.updCflSlot s n f).rdata = s.rdata ∧ (State.updCflSlot s n f).freeIx = s.freeIx ∧ (State.updCflSlot s n f).pending = s.pending := by
  simp [State.updCflSlot]

@[simp ↓] theorem State.updStore_keeps (s : State) (t : Nat) (f : FieldStore → FieldStore) :
    (State.updStore s t f).ident = s.ident ∧ (State.updStore s t f).tick = s.tick ∧ (State.updStore s t f).aster = s.aster ∧ (State.updStore s t f).lupin = s.lupin ∧ (State.updStore s t f).harebell = s.harebell ∧ (State.updStore s t f).cornflower = s.cornflower ∧ (State.updStore s t f).poppy = s.poppy ∧ (State.updStore s t f).vetch = s.vetch ∧ (State.updStore s t f).commit = s.commit ∧ (State.updStore s t f).zheda = s.zheda ∧ (State.updStore s t f).teasel = s.teasel ∧ (State.updStore s t f).bindweed = s.bindweed ∧ (State.updStore s t f).cowslip = s.cowslip ∧ (State.updStore s t f).cmd = s.cmd ∧ (State.updStore s t f).safety = s.safety ∧ (State.updStore s t f).mem = s.mem ∧ (State.updStore s t f).clock = s.clock ∧ (State.updStore s t f).host = s.host ∧ (State.updStore s t f).sec = s.sec ∧ (State.updStore s t f).casc = s.casc ∧ (State.updStore s t f).now = s.now ∧ (State.updStore s t f).rdata = s.rdata ∧ (State.updStore s t f).freeIx = s.freeIx ∧ (State.updStore s t f).pending = s.pending := by
  simp [State.updStore]

@[simp ↓] theorem State.updTile_keeps (s : State) (t : Nat) (f : TileSt → TileSt) :
    (State.updTile s t f).ident = s.ident ∧ (State.updTile s t f).tick = s.tick ∧ (State.updTile s t f).world = s.world ∧ (State.updTile s t f).aster = s.aster ∧ (State.updTile s t f).lupin = s.lupin ∧ (State.updTile s t f).harebell = s.harebell ∧ (State.updTile s t f).cornflower = s.cornflower ∧ (State.updTile s t f).poppy = s.poppy ∧ (State.updTile s t f).vetch = s.vetch ∧ (State.updTile s t f).commit = s.commit ∧ (State.updTile s t f).zheda = s.zheda ∧ (State.updTile s t f).teasel = s.teasel ∧ (State.updTile s t f).bindweed = s.bindweed ∧ (State.updTile s t f).cowslip = s.cowslip ∧ (State.updTile s t f).cmd = s.cmd ∧ (State.updTile s t f).mem = s.mem ∧ (State.updTile s t f).clock = s.clock ∧ (State.updTile s t f).host = s.host ∧ (State.updTile s t f).sec = s.sec ∧ (State.updTile s t f).casc = s.casc ∧ (State.updTile s t f).now = s.now ∧ (State.updTile s t f).rdata = s.rdata ∧ (State.updTile s t f).freeIx = s.freeIx ∧ (State.updTile s t f).pending = s.pending := by
  simp [State.updTile]

@[simp ↓] theorem State.updHbTile_keeps (s : State) (t : Nat) (f : HbTile → HbTile) :
    (State.updHbTile s t f).ident = s.ident ∧ (State.updHbTile s t f).tick = s.tick ∧ (State.updHbTile s t f).world = s.world ∧ (State.updHbTile s t f).aster = s.aster ∧ (State.updHbTile s t f).lupin = s.lupin ∧ (State.updHbTile s t f).cornflower = s.cornflower ∧ (State.updHbTile s t f).poppy = s.poppy ∧ (State.updHbTile s t f).vetch = s.vetch ∧ (State.updHbTile s t f).commit = s.commit ∧ (State.updHbTile s t f).zheda = s.zheda ∧ (State.updHbTile s t f).teasel = s.teasel ∧ (State.updHbTile s t f).bindweed = s.bindweed ∧ (State.updHbTile s t f).cowslip = s.cowslip ∧ (State.updHbTile s t f).cmd = s.cmd ∧ (State.updHbTile s t f).safety = s.safety ∧ (State.updHbTile s t f).mem = s.mem ∧ (State.updHbTile s t f).clock = s.clock ∧ (State.updHbTile s t f).host = s.host ∧ (State.updHbTile s t f).sec = s.sec ∧ (State.updHbTile s t f).casc = s.casc ∧ (State.updHbTile s t f).now = s.now ∧ (State.updHbTile s t f).rdata = s.rdata ∧ (State.updHbTile s t f).freeIx = s.freeIx ∧ (State.updHbTile s t f).pending = s.pending := by
  simp [State.updHbTile]

@[simp ↓] theorem State.updProg_keeps (s : State) (f : TickProgress → TickProgress) :
    (State.updProg s f).ident = s.ident ∧ (State.updProg s f).world = s.world ∧ (State.updProg s f).aster = s.aster ∧ (State.updProg s f).lupin = s.lupin ∧ (State.updProg s f).harebell = s.harebell ∧ (State.updProg s f).cornflower = s.cornflower ∧ (State.updProg s f).poppy = s.poppy ∧ (State.updProg s f).vetch = s.vetch ∧ (State.updProg s f).commit = s.commit ∧ (State.updProg s f).zheda = s.zheda ∧ (State.updProg s f).teasel = s.teasel ∧ (State.updProg s f).bindweed = s.bindweed ∧ (State.updProg s f).cowslip = s.cowslip ∧ (State.updProg s f).cmd = s.cmd ∧ (State.updProg s f).safety = s.safety ∧ (State.updProg s f).mem = s.mem ∧ (State.updProg s f).clock = s.clock ∧ (State.updProg s f).host = s.host ∧ (State.updProg s f).sec = s.sec ∧ (State.updProg s f).casc = s.casc ∧ (State.updProg s f).now = s.now ∧ (State.updProg s f).rdata = s.rdata ∧ (State.updProg s f).freeIx = s.freeIx ∧ (State.updProg s f).pending = s.pending := by
  simp [State.updProg]

@[simp ↓] theorem State.updTrace_keeps (s : State) (f : TickTrace → TickTrace) :
    (State.updTrace s f).ident = s.ident ∧ (State.updTrace s f).tick = s.tick ∧ (State.updTrace s f).world = s.world ∧ (State.updTrace s f).aster = s.aster ∧ (State.updTrace s f).lupin = s.lupin ∧ (State.updTrace s f).harebell = s.harebell ∧ (State.updTrace s f).cornflower = s.cornflower ∧ (State.updTrace s f).poppy = s.poppy ∧ (State.updTrace s f).vetch = s.vetch ∧ (State.updTrace s f).commit = s.commit ∧ (State.updTrace s f).teasel = s.teasel ∧ (State.updTrace s f).bindweed = s.bindweed ∧ (State.updTrace s f).cowslip = s.cowslip ∧ (State.updTrace s f).cmd = s.cmd ∧ (State.updTrace s f).safety = s.safety ∧ (State.updTrace s f).mem = s.mem ∧ (State.updTrace s f).clock = s.clock ∧ (State.updTrace s f).host = s.host ∧ (State.updTrace s f).sec = s.sec ∧ (State.updTrace s f).casc = s.casc ∧ (State.updTrace s f).now = s.now ∧ (State.updTrace s f).rdata = s.rdata ∧ (State.updTrace s f).freeIx = s.freeIx ∧ (State.updTrace s f).pending = s.pending := by
  simp [State.updTrace]

@[simp ↓] theorem State.castAll_keeps (s : State) (type : Nat) (m : CasMsg) :
    (State.castAll s type m).ident = s.ident ∧ (State.castAll s type m).tick = s.tick ∧ (State.castAll s type m).world = s.world ∧ (State.castAll s type m).aster = s.aster ∧ (State.castAll s type m).lupin = s.lupin ∧ (State.castAll s type m).harebell = s.harebell ∧ (State.castAll s type m).cornflower = s.cornflower ∧ (State.castAll s type m).poppy = s.poppy ∧ (State.castAll s type m).vetch = s.vetch ∧ (State.castAll s type m).commit = s.commit ∧ (State.castAll s type m).zheda = s.zheda ∧ (State.castAll s type m).teasel = s.teasel ∧ (State.castAll s type m).bindweed = s.bindweed ∧ (State.castAll s type m).cowslip = s.cowslip ∧ (State.castAll s type m).cmd = s.cmd ∧ (State.castAll s type m).safety = s.safety ∧ (State.castAll s type m).mem = s.mem ∧ (State.castAll s type m).clock = s.clock ∧ (State.castAll s type m).host = s.host ∧ (State.castAll s type m).sec = s.sec ∧ (State.castAll s type m).now = s.now ∧ (State.castAll s type m).rdata = s.rdata ∧ (State.castAll s type m).freeIx = s.freeIx ∧ (State.castAll s type m).pending = s.pending := by
  simp [State.castAll]

@[simp ↓] theorem State.castMaster_keeps (s : State) (type : Nat) (m : CasMsg) :
    (State.castMaster s type m).ident = s.ident ∧ (State.castMaster s type m).tick = s.tick ∧ (State.castMaster s type m).world = s.world ∧ (State.castMaster s type m).aster = s.aster ∧ (State.castMaster s type m).lupin = s.lupin ∧ (State.castMaster s type m).harebell = s.harebell ∧ (State.castMaster s type m).cornflower = s.cornflower ∧ (State.castMaster s type m).poppy = s.poppy ∧ (State.castMaster s type m).vetch = s.vetch ∧ (State.castMaster s type m).commit = s.commit ∧ (State.castMaster s type m).zheda = s.zheda ∧ (State.castMaster s type m).teasel = s.teasel ∧ (State.castMaster s type m).bindweed = s.bindweed ∧ (State.castMaster s type m).cowslip = s.cowslip ∧ (State.castMaster s type m).cmd = s.cmd ∧ (State.castMaster s type m).safety = s.safety ∧ (State.castMaster s type m).mem = s.mem ∧ (State.castMaster s type m).clock = s.clock ∧ (State.castMaster s type m).host = s.host ∧ (State.castMaster s type m).sec = s.sec ∧ (State.castMaster s type m).now = s.now ∧ (State.castMaster s type m).rdata = s.rdata ∧ (State.castMaster s type m).freeIx = s.freeIx ∧ (State.castMaster s type m).pending = s.pending := by
  simp [State.castMaster]

@[simp ↓] theorem State.reportDigests_keeps (s : State) :
    (State.reportDigests s).ident = s.ident ∧ (State.reportDigests s).tick = s.tick ∧ (State.reportDigests s).world = s.world ∧ (State.reportDigests s).aster = s.aster ∧ (State.reportDigests s).lupin = s.lupin ∧ (State.reportDigests s).harebell = s.harebell ∧ (State.reportDigests s).cornflower = s.cornflower ∧ (State.reportDigests s).poppy = s.poppy ∧ (State.reportDigests s).vetch = s.vetch ∧ (State.reportDigests s).commit = s.commit ∧ (State.reportDigests s).zheda = s.zheda ∧ (State.reportDigests s).teasel = s.teasel ∧ (State.reportDigests s).bindweed = s.bindweed ∧ (State.reportDigests s).cowslip = s.cowslip ∧ (State.reportDigests s).cmd = s.cmd ∧ (State.reportDigests s).safety = s.safety ∧ (State.reportDigests s).mem = s.mem ∧ (State.reportDigests s).clock = s.clock ∧ (State.reportDigests s).host = s.host ∧ (State.reportDigests s).sec = s.sec ∧ (State.reportDigests s).now = s.now ∧ (State.reportDigests s).rdata = s.rdata ∧ (State.reportDigests s).freeIx = s.freeIx ∧ (State.reportDigests s).pending = s.pending := by
  simp [State.reportDigests]

@[simp ↓] theorem State.castField_keeps (s : State) (f : BuiltField) :
    (State.castField s f).ident = s.ident ∧ (State.castField s f).tick = s.tick ∧ (State.castField s f).world = s.world ∧ (State.castField s f).aster = s.aster ∧ (State.castField s f).lupin = s.lupin ∧ (State.castField s f).harebell = s.harebell ∧ (State.castField s f).cornflower = s.cornflower ∧ (State.castField s f).poppy = s.poppy ∧ (State.castField s f).vetch = s.vetch ∧ (State.castField s f).commit = s.commit ∧ (State.castField s f).zheda = s.zheda ∧ (State.castField s f).teasel = s.teasel ∧ (State.castField s f).bindweed = s.bindweed ∧ (State.castField s f).cowslip = s.cowslip ∧ (State.castField s f).cmd = s.cmd ∧ (State.castField s f).safety = s.safety ∧ (State.castField s f).mem = s.mem ∧ (State.castField s f).clock = s.clock ∧ (State.castField s f).host = s.host ∧ (State.castField s f).sec = s.sec ∧ (State.castField s f).now = s.now ∧ (State.castField s f).rdata = s.rdata ∧ (State.castField s f).freeIx = s.freeIx ∧ (State.castField s f).pending = s.pending := by
  simp [State.castField]

end Sys2Proof.Machine
end

