-- ==== Sys2Proof/Laws/FrameItems.lean ====
section
/-! SUPPORT. What each foreground and background item leaves unchanged. -/

set_option linter.unusedSimpArgs false
set_option linter.unusedVariables false

namespace Sys2Proof.Machine

@[simp ↓] theorem State.fgFault_keeps (s : State) (m : ItemFault) :
    (State.fgFault s m).ident = s.ident ∧ (State.fgFault s m).tick = s.tick ∧ (State.fgFault s m).world = s.world ∧ (State.fgFault s m).aster = s.aster ∧ (State.fgFault s m).lupin = s.lupin ∧ (State.fgFault s m).harebell = s.harebell ∧ (State.fgFault s m).cornflower = s.cornflower ∧ (State.fgFault s m).poppy = s.poppy ∧ (State.fgFault s m).vetch = s.vetch ∧ (State.fgFault s m).commit = s.commit ∧ (State.fgFault s m).bindweed = s.bindweed ∧ (State.fgFault s m).cowslip = s.cowslip ∧ (State.fgFault s m).cmd = s.cmd ∧ (State.fgFault s m).sec = s.sec ∧ (State.fgFault s m).casc = s.casc ∧ (State.fgFault s m).now = s.now ∧ (State.fgFault s m).rdata = s.rdata ∧ (State.fgFault s m).pending = s.pending ∧ (State.fgFault s m).mem.ddr = s.mem.ddr ∧ (State.fgFault s m).mem.sram = s.mem.sram := by
  simp [State.fgFault]

theorem State.item_proj {α : Type} (p : State → α) (s : State) (run : State → State) (hk : ∀ s, p (run s) = p s) :
    p (s.item run) = p s := by
  unfold State.item
  split
  · exact hk s
  · rfl

@[simp ↓] theorem occupancyPredictorEffect_keeps (m : ItemFault) (s : State) :
    (occupancyPredictorEffect m s).ident = s.ident ∧ (occupancyPredictorEffect m s).tick = s.tick ∧ (occupancyPredictorEffect m s).lupin = s.lupin ∧ (occupancyPredictorEffect m s).harebell = s.harebell ∧ (occupancyPredictorEffect m s).cornflower = s.cornflower ∧ (occupancyPredictorEffect m s).poppy = s.poppy ∧ (occupancyPredictorEffect m s).vetch = s.vetch ∧ (occupancyPredictorEffect m s).commit = s.commit ∧ (occupancyPredictorEffect m s).bindweed = s.bindweed ∧ (occupancyPredictorEffect m s).cowslip = s.cowslip ∧ (occupancyPredictorEffect m s).cmd = s.cmd ∧ (occupancyPredictorEffect m s).sec = s.sec ∧ (occupancyPredictorEffect m s).casc = s.casc ∧ (occupancyPredictorEffect m s).now = s.now ∧ (occupancyPredictorEffect m s).rdata = s.rdata ∧ (occupancyPredictorEffect m s).pending = s.pending ∧ (occupancyPredictorEffect m s).mem.ddr = s.mem.ddr ∧ (occupancyPredictorEffect m s).mem.sram = s.mem.sram := by
  unfold occupancyPredictorEffect State.item
  dsimp only
  (repeat' split) <;> simp

@[simp ↓] theorem cornflowerTransformEffect_keeps (s : State) :
    (cornflowerTransformEffect s).ident = s.ident ∧ (cornflowerTransformEffect s).tick = s.tick ∧ (cornflowerTransformEffect s).aster = s.aster ∧ (cornflowerTransformEffect s).lupin = s.lupin ∧ (cornflowerTransformEffect s).harebell = s.harebell ∧ (cornflowerTransformEffect s).poppy = s.poppy ∧ (cornflowerTransformEffect s).vetch = s.vetch ∧ (cornflowerTransformEffect s).commit = s.commit ∧ (cornflowerTransformEffect s).zheda = s.zheda ∧ (cornflowerTransformEffect s).teasel = s.teasel ∧ (cornflowerTransformEffect s).bindweed = s.bindweed ∧ (cornflowerTransformEffect s).cowslip = s.cowslip ∧ (cornflowerTransformEffect s).cmd = s.cmd ∧ (cornflowerTransformEffect s).safety = s.safety ∧ (cornflowerTransformEffect s).mem = s.mem ∧ (cornflowerTransformEffect s).clock = s.clock ∧ (cornflowerTransformEffect s).host = s.host ∧ (cornflowerTransformEffect s).sec = s.sec ∧ (cornflowerTransformEffect s).casc = s.casc ∧ (cornflowerTransformEffect s).now = s.now ∧ (cornflowerTransformEffect s).rdata = s.rdata ∧ (cornflowerTransformEffect s).freeIx = s.freeIx ∧ (cornflowerTransformEffect s).pending = s.pending := by
  unfold cornflowerTransformEffect State.item
  dsimp only
  (repeat' split) <;> simp

@[simp ↓] theorem State.slotRings_keeps (s : State) (b : Bundle) (coarse : List Nat) (n : Nat) (f : FgSlot) :
    (State.slotRings s b coarse n f).ident = s.ident ∧ (State.slotRings s b coarse n f).tick = s.tick ∧ (State.slotRings s b coarse n f).world = s.world ∧ (State.slotRings s b coarse n f).aster = s.aster ∧ (State.slotRings s b coarse n f).lupin = s.lupin ∧ (State.slotRings s b coarse n f).harebell = s.harebell ∧ (State.slotRings s b coarse n f).vetch = s.vetch ∧ (State.slotRings s b coarse n f).commit = s.commit ∧ (State.slotRings s b coarse n f).zheda = s.zheda ∧ (State.slotRings s b coarse n f).teasel = s.teasel ∧ (State.slotRings s b coarse n f).bindweed = s.bindweed ∧ (State.slotRings s b coarse n f).cowslip = s.cowslip ∧ (State.slotRings s b coarse n f).cmd = s.cmd ∧ (State.slotRings s b coarse n f).safety = s.safety ∧ (State.slotRings s b coarse n f).mem = s.mem ∧ (State.slotRings s b coarse n f).clock = s.clock ∧ (State.slotRings s b coarse n f).host = s.host ∧ (State.slotRings s b coarse n f).sec = s.sec ∧ (State.slotRings s b coarse n f).casc = s.casc ∧ (State.slotRings s b coarse n f).now = s.now ∧ (State.slotRings s b coarse n f).rdata = s.rdata ∧ (State.slotRings s b coarse n f).freeIx = s.freeIx ∧ (State.slotRings s b coarse n f).pending = s.pending := by
  unfold State.slotRings
  (repeat' split) <;> simp

@[simp ↓] theorem wavefrontRingsEffect_keeps (s : State) :
    (wavefrontRingsEffect s).ident = s.ident ∧ (wavefrontRingsEffect s).tick = s.tick ∧ (wavefrontRingsEffect s).world = s.world ∧ (wavefrontRingsEffect s).aster = s.aster ∧ (wavefrontRingsEffect s).lupin = s.lupin ∧ (wavefrontRingsEffect s).harebell = s.harebell ∧ (wavefrontRingsEffect s).vetch = s.vetch ∧ (wavefrontRingsEffect s).commit = s.commit ∧ (wavefrontRingsEffect s).zheda = s.zheda ∧ (wavefrontRingsEffect s).teasel = s.teasel ∧ (wavefrontRingsEffect s).bindweed = s.bindweed ∧ (wavefrontRingsEffect s).cowslip = s.cowslip ∧ (wavefrontRingsEffect s).cmd = s.cmd ∧ (wavefrontRingsEffect s).safety = s.safety ∧ (wavefrontRingsEffect s).mem = s.mem ∧ (wavefrontRingsEffect s).clock = s.clock ∧ (wavefrontRingsEffect s).host = s.host ∧ (wavefrontRingsEffect s).sec = s.sec ∧ (wavefrontRingsEffect s).casc = s.casc ∧ (wavefrontRingsEffect s).now = s.now ∧ (wavefrontRingsEffect s).rdata = s.rdata ∧ (wavefrontRingsEffect s).freeIx = s.freeIx ∧ (wavefrontRingsEffect s).pending = s.pending := by
  unfold wavefrontRingsEffect State.item
  dsimp only
  (repeat' split) <;> simp

@[simp ↓] theorem fieldAssemblyEffect_keeps (s : State) :
    (fieldAssemblyEffect s).ident = s.ident ∧ (fieldAssemblyEffect s).aster = s.aster ∧ (fieldAssemblyEffect s).lupin = s.lupin ∧ (fieldAssemblyEffect s).harebell = s.harebell ∧ (fieldAssemblyEffect s).cornflower = s.cornflower ∧ (fieldAssemblyEffect s).poppy = s.poppy ∧ (fieldAssemblyEffect s).vetch = s.vetch ∧ (fieldAssemblyEffect s).commit = s.commit ∧ (fieldAssemblyEffect s).teasel = s.teasel ∧ (fieldAssemblyEffect s).bindweed = s.bindweed ∧ (fieldAssemblyEffect s).cowslip = s.cowslip ∧ (fieldAssemblyEffect s).cmd = s.cmd ∧ (fieldAssemblyEffect s).safety = s.safety ∧ (fieldAssemblyEffect s).mem = s.mem ∧ (fieldAssemblyEffect s).clock = s.clock ∧ (fieldAssemblyEffect s).host = s.host ∧ (fieldAssemblyEffect s).sec = s.sec ∧ (fieldAssemblyEffect s).now = s.now ∧ (fieldAssemblyEffect s).rdata = s.rdata ∧ (fieldAssemblyEffect s).freeIx = s.freeIx ∧ (fieldAssemblyEffect s).pending = s.pending := by
  unfold fieldAssemblyEffect State.item
  dsimp only
  (repeat' split) <;> simp

@[simp ↓] theorem State.startBcast_keeps (s : State) :
    (State.startBcast s).ident = s.ident ∧ (State.startBcast s).aster = s.aster ∧ (State.startBcast s).lupin = s.lupin ∧ (State.startBcast s).harebell = s.harebell ∧ (State.startBcast s).cornflower = s.cornflower ∧ (State.startBcast s).poppy = s.poppy ∧ (State.startBcast s).vetch = s.vetch ∧ (State.startBcast s).commit = s.commit ∧ (State.startBcast s).zheda = s.zheda ∧ (State.startBcast s).teasel = s.teasel ∧ (State.startBcast s).bindweed = s.bindweed ∧ (State.startBcast s).cowslip = s.cowslip ∧ (State.startBcast s).cmd = s.cmd ∧ (State.startBcast s).safety = s.safety ∧ (State.startBcast s).mem = s.mem ∧ (State.startBcast s).clock = s.clock ∧ (State.startBcast s).host = s.host ∧ (State.startBcast s).sec = s.sec ∧ (State.startBcast s).casc = s.casc ∧ (State.startBcast s).now = s.now ∧ (State.startBcast s).rdata = s.rdata ∧ (State.startBcast s).freeIx = s.freeIx ∧ (State.startBcast s).pending = s.pending := by
  simp [State.startBcast]

@[simp ↓] theorem State.tileFails_keeps (s : State) (t code : Nat) (inj : Bool) :
    (State.tileFails s t code inj).ident = s.ident ∧ (State.tileFails s t code inj).tick = s.tick ∧ (State.tileFails s t code inj).world = s.world ∧ (State.tileFails s t code inj).aster = s.aster ∧ (State.tileFails s t code inj).lupin = s.lupin ∧ (State.tileFails s t code inj).harebell = s.harebell ∧ (State.tileFails s t code inj).cornflower = s.cornflower ∧ (State.tileFails s t code inj).poppy = s.poppy ∧ (State.tileFails s t code inj).vetch = s.vetch ∧ (State.tileFails s t code inj).commit = s.commit ∧ (State.tileFails s t code inj).zheda = s.zheda ∧ (State.tileFails s t code inj).teasel = s.teasel ∧ (State.tileFails s t code inj).bindweed = s.bindweed ∧ (State.tileFails s t code inj).cowslip = s.cowslip ∧ (State.tileFails s t code inj).cmd = s.cmd ∧ (State.tileFails s t code inj).mem = s.mem ∧ (State.tileFails s t code inj).sec = s.sec ∧ (State.tileFails s t code inj).casc = s.casc ∧ (State.tileFails s t code inj).now = s.now ∧ (State.tileFails s t code inj).rdata = s.rdata ∧ (State.tileFails s t code inj).pending = s.pending := by
  simp [State.tileFails]

@[simp ↓] theorem State.bcastTile_keeps (s : State) (f : BuiltField) (t : Nat) (bad : List Nat) :
    (State.bcastTile s f t bad).ident = s.ident ∧ (State.bcastTile s f t bad).tick = s.tick ∧ (State.bcastTile s f t bad).aster = s.aster ∧ (State.bcastTile s f t bad).lupin = s.lupin ∧ (State.bcastTile s f t bad).harebell = s.harebell ∧ (State.bcastTile s f t bad).cornflower = s.cornflower ∧ (State.bcastTile s f t bad).poppy = s.poppy ∧ (State.bcastTile s f t bad).vetch = s.vetch ∧ (State.bcastTile s f t bad).commit = s.commit ∧ (State.bcastTile s f t bad).zheda = s.zheda ∧ (State.bcastTile s f t bad).teasel = s.teasel ∧ (State.bcastTile s f t bad).bindweed = s.bindweed ∧ (State.bcastTile s f t bad).cowslip = s.cowslip ∧ (State.bcastTile s f t bad).cmd = s.cmd ∧ (State.bcastTile s f t bad).mem = s.mem ∧ (State.bcastTile s f t bad).sec = s.sec ∧ (State.bcastTile s f t bad).casc = s.casc ∧ (State.bcastTile s f t bad).now = s.now ∧ (State.bcastTile s f t bad).rdata = s.rdata ∧ (State.bcastTile s f t bad).pending = s.pending := by
  simp [State.bcastTile]

@[simp ↓] theorem fieldBroadcastEffect_keeps (bad : List (Nat × Nat)) (s : State) :
    (fieldBroadcastEffect bad s).ident = s.ident ∧ (fieldBroadcastEffect bad s).aster = s.aster ∧ (fieldBroadcastEffect bad s).lupin = s.lupin ∧ (fieldBroadcastEffect bad s).harebell = s.harebell ∧ (fieldBroadcastEffect bad s).cornflower = s.cornflower ∧ (fieldBroadcastEffect bad s).poppy = s.poppy ∧ (fieldBroadcastEffect bad s).vetch = s.vetch ∧ (fieldBroadcastEffect bad s).commit = s.commit ∧ (fieldBroadcastEffect bad s).teasel = s.teasel ∧ (fieldBroadcastEffect bad s).bindweed = s.bindweed ∧ (fieldBroadcastEffect bad s).cowslip = s.cowslip ∧ (fieldBroadcastEffect bad s).cmd = s.cmd ∧ (fieldBroadcastEffect bad s).mem = s.mem ∧ (fieldBroadcastEffect bad s).sec = s.sec ∧ (fieldBroadcastEffect bad s).casc = s.casc ∧ (fieldBroadcastEffect bad s).now = s.now ∧ (fieldBroadcastEffect bad s).rdata = s.rdata ∧ (fieldBroadcastEffect bad s).pending = s.pending := by
  unfold fieldBroadcastEffect State.item
  dsimp only
  (repeat' split) <;> simp

@[simp ↓] theorem State.reachAc_keeps (s : State) (ac : Nat) :
    (State.reachAc s ac).ident = s.ident ∧ (State.reachAc s ac).aster = s.aster ∧ (State.reachAc s ac).lupin = s.lupin ∧ (State.reachAc s ac).harebell = s.harebell ∧ (State.reachAc s ac).cornflower = s.cornflower ∧ (State.reachAc s ac).poppy = s.poppy ∧ (State.reachAc s ac).vetch = s.vetch ∧ (State.reachAc s ac).commit = s.commit ∧ (State.reachAc s ac).zheda = s.zheda ∧ (State.reachAc s ac).teasel = s.teasel ∧ (State.reachAc s ac).bindweed = s.bindweed ∧ (State.reachAc s ac).cowslip = s.cowslip ∧ (State.reachAc s ac).cmd = s.cmd ∧ (State.reachAc s ac).safety = s.safety ∧ (State.reachAc s ac).mem = s.mem ∧ (State.reachAc s ac).clock = s.clock ∧ (State.reachAc s ac).host = s.host ∧ (State.reachAc s ac).sec = s.sec ∧ (State.reachAc s ac).casc = s.casc ∧ (State.reachAc s ac).now = s.now ∧ (State.reachAc s ac).rdata = s.rdata ∧ (State.reachAc s ac).freeIx = s.freeIx ∧ (State.reachAc s ac).pending = s.pending := by
  simp [State.reachAc]

@[simp ↓] theorem State.wear_keeps (s : State) (cls inst : Nat) (f : LedgerEntry → LedgerEntry) :
    (State.wear s cls inst f).ident = s.ident ∧ (State.wear s cls inst f).tick = s.tick ∧ (State.wear s cls inst f).world = s.world ∧ (State.wear s cls inst f).aster = s.aster ∧ (State.wear s cls inst f).lupin = s.lupin ∧ (State.wear s cls inst f).harebell = s.harebell ∧ (State.wear s cls inst f).cornflower = s.cornflower ∧ (State.wear s cls inst f).poppy = s.poppy ∧ (State.wear s cls inst f).vetch = s.vetch ∧ (State.wear s cls inst f).commit = s.commit ∧ (State.wear s cls inst f).zheda = s.zheda ∧ (State.wear s cls inst f).teasel = s.teasel ∧ (State.wear s cls inst f).bindweed = s.bindweed ∧ (State.wear s cls inst f).cowslip = s.cowslip ∧ (State.wear s cls inst f).cmd = s.cmd ∧ (State.wear s cls inst f).mem = s.mem ∧ (State.wear s cls inst f).clock = s.clock ∧ (State.wear s cls inst f).host = s.host ∧ (State.wear s cls inst f).sec = s.sec ∧ (State.wear s cls inst f).casc = s.casc ∧ (State.wear s cls inst f).now = s.now ∧ (State.wear s cls inst f).rdata = s.rdata ∧ (State.wear s cls inst f).freeIx = s.freeIx ∧ (State.wear s cls inst f).pending = s.pending := by
  simp [State.wear]

@[simp ↓] theorem State.tileCorrected_keeps (s : State) (t n : Nat) :
    (State.tileCorrected s t n).ident = s.ident ∧ (State.tileCorrected s t n).tick = s.tick ∧ (State.tileCorrected s t n).world = s.world ∧ (State.tileCorrected s t n).aster = s.aster ∧ (State.tileCorrected s t n).lupin = s.lupin ∧ (State.tileCorrected s t n).cornflower = s.cornflower ∧ (State.tileCorrected s t n).poppy = s.poppy ∧ (State.tileCorrected s t n).vetch = s.vetch ∧ (State.tileCorrected s t n).commit = s.commit ∧ (State.tileCorrected s t n).zheda = s.zheda ∧ (State.tileCorrected s t n).teasel = s.teasel ∧ (State.tileCorrected s t n).bindweed = s.bindweed ∧ (State.tileCorrected s t n).cowslip = s.cowslip ∧ (State.tileCorrected s t n).cmd = s.cmd ∧ (State.tileCorrected s t n).mem = s.mem ∧ (State.tileCorrected s t n).sec = s.sec ∧ (State.tileCorrected s t n).casc = s.casc ∧ (State.tileCorrected s t n).now = s.now ∧ (State.tileCorrected s t n).rdata = s.rdata ∧ (State.tileCorrected s t n).pending = s.pending := by
  unfold State.tileCorrected
  simp only []
  (repeat' split) <;> simp

@[simp ↓] theorem State.tileUncorrectable_keeps (s : State) (t n : Nat) :
    (State.tileUncorrectable s t n).ident = s.ident ∧ (State.tileUncorrectable s t n).tick = s.tick ∧ (State.tileUncorrectable s t n).world = s.world ∧ (State.tileUncorrectable s t n).aster = s.aster ∧ (State.tileUncorrectable s t n).lupin = s.lupin ∧ (State.tileUncorrectable s t n).cornflower = s.cornflower ∧ (State.tileUncorrectable s t n).poppy = s.poppy ∧ (State.tileUncorrectable s t n).vetch = s.vetch ∧ (State.tileUncorrectable s t n).commit = s.commit ∧ (State.tileUncorrectable s t n).zheda = s.zheda ∧ (State.tileUncorrectable s t n).teasel = s.teasel ∧ (State.tileUncorrectable s t n).bindweed = s.bindweed ∧ (State.tileUncorrectable s t n).cowslip = s.cowslip ∧ (State.tileUncorrectable s t n).cmd = s.cmd ∧ (State.tileUncorrectable s t n).mem = s.mem ∧ (State.tileUncorrectable s t n).sec = s.sec ∧ (State.tileUncorrectable s t n).casc = s.casc ∧ (State.tileUncorrectable s t n).now = s.now ∧ (State.tileUncorrectable s t n).rdata = s.rdata ∧ (State.tileUncorrectable s t n).pending = s.pending := by
  simp [State.tileUncorrectable]

@[simp ↓] theorem State.peekEnd_keeps (s : State) (t : Nat) :
    (State.peekEnd s t).ident = s.ident ∧ (State.peekEnd s t).tick = s.tick ∧ (State.peekEnd s t).aster = s.aster ∧ (State.peekEnd s t).lupin = s.lupin ∧ (State.peekEnd s t).cornflower = s.cornflower ∧ (State.peekEnd s t).poppy = s.poppy ∧ (State.peekEnd s t).vetch = s.vetch ∧ (State.peekEnd s t).commit = s.commit ∧ (State.peekEnd s t).zheda = s.zheda ∧ (State.peekEnd s t).teasel = s.teasel ∧ (State.peekEnd s t).bindweed = s.bindweed ∧ (State.peekEnd s t).cowslip = s.cowslip ∧ (State.peekEnd s t).cmd = s.cmd ∧ (State.peekEnd s t).mem = s.mem ∧ (State.peekEnd s t).sec = s.sec ∧ (State.peekEnd s t).casc = s.casc ∧ (State.peekEnd s t).now = s.now ∧ (State.peekEnd s t).rdata = s.rdata ∧ (State.peekEnd s t).pending = s.pending := by
  simp [State.peekEnd]

@[simp ↓] theorem fsPeekStartEffect_keeps (t : Nat) (val : Word) (s : State) :
    (fsPeekStartEffect t val s).ident = s.ident ∧ (fsPeekStartEffect t val s).tick = s.tick ∧ (fsPeekStartEffect t val s).aster = s.aster ∧ (fsPeekStartEffect t val s).lupin = s.lupin ∧ (fsPeekStartEffect t val s).cornflower = s.cornflower ∧ (fsPeekStartEffect t val s).poppy = s.poppy ∧ (fsPeekStartEffect t val s).vetch = s.vetch ∧ (fsPeekStartEffect t val s).commit = s.commit ∧ (fsPeekStartEffect t val s).zheda = s.zheda ∧ (fsPeekStartEffect t val s).teasel = s.teasel ∧ (fsPeekStartEffect t val s).bindweed = s.bindweed ∧ (fsPeekStartEffect t val s).cowslip = s.cowslip ∧ (fsPeekStartEffect t val s).cmd = s.cmd ∧ (fsPeekStartEffect t val s).mem = s.mem ∧ (fsPeekStartEffect t val s).sec = s.sec ∧ (fsPeekStartEffect t val s).casc = s.casc ∧ (fsPeekStartEffect t val s).now = s.now ∧ (fsPeekStartEffect t val s).rdata = s.rdata ∧ (fsPeekStartEffect t val s).pending = s.pending := by
  simp [fsPeekStartEffect]

@[simp ↓] theorem peekCompleteEffect_keeps (t : Nat) (s : State) :
    (peekCompleteEffect t s).ident = s.ident ∧ (peekCompleteEffect t s).tick = s.tick ∧ (peekCompleteEffect t s).aster = s.aster ∧ (peekCompleteEffect t s).lupin = s.lupin ∧ (peekCompleteEffect t s).cornflower = s.cornflower ∧ (peekCompleteEffect t s).poppy = s.poppy ∧ (peekCompleteEffect t s).vetch = s.vetch ∧ (peekCompleteEffect t s).commit = s.commit ∧ (peekCompleteEffect t s).zheda = s.zheda ∧ (peekCompleteEffect t s).teasel = s.teasel ∧ (peekCompleteEffect t s).bindweed = s.bindweed ∧ (peekCompleteEffect t s).cowslip = s.cowslip ∧ (peekCompleteEffect t s).cmd = s.cmd ∧ (peekCompleteEffect t s).mem = s.mem ∧ (peekCompleteEffect t s).sec = s.sec ∧ (peekCompleteEffect t s).casc = s.casc ∧ (peekCompleteEffect t s).now = s.now ∧ (peekCompleteEffect t s).rdata = s.rdata ∧ (peekCompleteEffect t s).pending = s.pending := by
  simp [peekCompleteEffect]

@[simp ↓] theorem State.atEdgeHeld_keeps (s : State) (h : Hdr) (op : Nat) (c : EdgeCmd) (payload : List Byte) :
    (State.atEdgeHeld s h op c payload).ident = s.ident ∧ (State.atEdgeHeld s h op c payload).tick = s.tick ∧ (State.atEdgeHeld s h op c payload).world = s.world ∧ (State.atEdgeHeld s h op c payload).aster = s.aster ∧ (State.atEdgeHeld s h op c payload).lupin = s.lupin ∧ (State.atEdgeHeld s h op c payload).harebell = s.harebell ∧ (State.atEdgeHeld s h op c payload).cornflower = s.cornflower ∧ (State.atEdgeHeld s h op c payload).poppy = s.poppy ∧ (State.atEdgeHeld s h op c payload).vetch = s.vetch ∧ (State.atEdgeHeld s h op c payload).commit = s.commit ∧ (State.atEdgeHeld s h op c payload).zheda = s.zheda ∧ (State.atEdgeHeld s h op c payload).bindweed = s.bindweed ∧ (State.atEdgeHeld s h op c payload).safety = s.safety ∧ (State.atEdgeHeld s h op c payload).mem = s.mem ∧ (State.atEdgeHeld s h op c payload).clock = s.clock ∧ (State.atEdgeHeld s h op c payload).sec = s.sec ∧ (State.atEdgeHeld s h op c payload).casc = s.casc ∧ (State.atEdgeHeld s h op c payload).now = s.now ∧ (State.atEdgeHeld s h op c payload).rdata = s.rdata ∧ (State.atEdgeHeld s h op c payload).freeIx = s.freeIx ∧ (State.atEdgeHeld s h op c payload).pending = s.pending := by
  simp [State.atEdgeHeld]

@[simp ↓] theorem State.atEdgeTick_keeps (s : State) (h : Hdr) (op : Nat) (c : EdgeCmd) (payload : List Byte) :
    (State.atEdgeTick s h op c payload).ident = s.ident ∧ (State.atEdgeTick s h op c payload).tick = s.tick ∧ (State.atEdgeTick s h op c payload).world = s.world ∧ (State.atEdgeTick s h op c payload).aster = s.aster ∧ (State.atEdgeTick s h op c payload).lupin = s.lupin ∧ (State.atEdgeTick s h op c payload).harebell = s.harebell ∧ (State.atEdgeTick s h op c payload).cornflower = s.cornflower ∧ (State.atEdgeTick s h op c payload).poppy = s.poppy ∧ (State.atEdgeTick s h op c payload).vetch = s.vetch ∧ (State.atEdgeTick s h op c payload).commit = s.commit ∧ (State.atEdgeTick s h op c payload).zheda = s.zheda ∧ (State.atEdgeTick s h op c payload).bindweed = s.bindweed ∧ (State.atEdgeTick s h op c payload).safety = s.safety ∧ (State.atEdgeTick s h op c payload).mem = s.mem ∧ (State.atEdgeTick s h op c payload).clock = s.clock ∧ (State.atEdgeTick s h op c payload).sec = s.sec ∧ (State.atEdgeTick s h op c payload).casc = s.casc ∧ (State.atEdgeTick s h op c payload).now = s.now ∧ (State.atEdgeTick s h op c payload).rdata = s.rdata ∧ (State.atEdgeTick s h op c payload).freeIx = s.freeIx ∧ (State.atEdgeTick s h op c payload).pending = s.pending := by
  simp [State.atEdgeTick]

@[simp ↓] theorem ctxAllocEffect_keeps (h : Hdr) (any model : Byte) (s : State) :
    (ctxAllocEffect h any model s).ident = s.ident ∧ (ctxAllocEffect h any model s).tick = s.tick ∧ (ctxAllocEffect h any model s).world = s.world ∧ (ctxAllocEffect h any model s).aster = s.aster ∧ (ctxAllocEffect h any model s).lupin = s.lupin ∧ (ctxAllocEffect h any model s).harebell = s.harebell ∧ (ctxAllocEffect h any model s).cornflower = s.cornflower ∧ (ctxAllocEffect h any model s).poppy = s.poppy ∧ (ctxAllocEffect h any model s).vetch = s.vetch ∧ (ctxAllocEffect h any model s).commit = s.commit ∧ (ctxAllocEffect h any model s).zheda = s.zheda ∧ (ctxAllocEffect h any model s).bindweed = s.bindweed ∧ (ctxAllocEffect h any model s).safety = s.safety ∧ (ctxAllocEffect h any model s).mem = s.mem ∧ (ctxAllocEffect h any model s).clock = s.clock ∧ (ctxAllocEffect h any model s).sec = s.sec ∧ (ctxAllocEffect h any model s).casc = s.casc ∧ (ctxAllocEffect h any model s).now = s.now ∧ (ctxAllocEffect h any model s).rdata = s.rdata ∧ (ctxAllocEffect h any model s).freeIx = s.freeIx ∧ (ctxAllocEffect h any model s).pending = s.pending := by
  unfold ctxAllocEffect
  refine ⟨?_, ?_, ?_, ?_, ?_, ?_, ?_, ?_, ?_, ?_, ?_, ?_, ?_, ?_, ?_, ?_, ?_, ?_, ?_, ?_, ?_⟩ <;> (repeat' (first | with_reducible rfl | (simp; done) | (with_reducible intro _) | (with_reducible apply State.item_proj) | (with_reducible apply State.guarded_proj) | (with_reducible apply State.counterOp_proj) | (with_reducible apply State.packet_proj) | (with_reducible refine Eq.trans (foldl_proj _ _ _ _ ?_) ?_) | (with_reducible refine Eq.trans (foldl_fst_proj _ _ _ _ ?_) ?_) | (with_reducible refine Eq.trans (foldl_snd_proj _ _ _ _ ?_) ?_) | split | (simp only []; split) | (dsimp only; split)))

@[simp ↓] theorem ctxFreeEffect_keeps (h : Hdr) (s : State) :
    (ctxFreeEffect h s).ident = s.ident ∧ (ctxFreeEffect h s).tick = s.tick ∧ (ctxFreeEffect h s).world = s.world ∧ (ctxFreeEffect h s).aster = s.aster ∧ (ctxFreeEffect h s).lupin = s.lupin ∧ (ctxFreeEffect h s).harebell = s.harebell ∧ (ctxFreeEffect h s).cornflower = s.cornflower ∧ (ctxFreeEffect h s).poppy = s.poppy ∧ (ctxFreeEffect h s).vetch = s.vetch ∧ (ctxFreeEffect h s).commit = s.commit ∧ (ctxFreeEffect h s).zheda = s.zheda ∧ (ctxFreeEffect h s).bindweed = s.bindweed ∧ (ctxFreeEffect h s).safety = s.safety ∧ (ctxFreeEffect h s).mem = s.mem ∧ (ctxFreeEffect h s).clock = s.clock ∧ (ctxFreeEffect h s).sec = s.sec ∧ (ctxFreeEffect h s).casc = s.casc ∧ (ctxFreeEffect h s).now = s.now ∧ (ctxFreeEffect h s).rdata = s.rdata ∧ (ctxFreeEffect h s).freeIx = s.freeIx ∧ (ctxFreeEffect h s).pending = s.pending := by
  unfold ctxFreeEffect
  refine ⟨?_, ?_, ?_, ?_, ?_, ?_, ?_, ?_, ?_, ?_, ?_, ?_, ?_, ?_, ?_, ?_, ?_, ?_, ?_, ?_, ?_⟩ <;> (repeat' (first | with_reducible rfl | (simp; done) | (with_reducible intro _) | (with_reducible apply State.item_proj) | (with_reducible apply State.guarded_proj) | (with_reducible apply State.counterOp_proj) | (with_reducible apply State.packet_proj) | (with_reducible refine Eq.trans (foldl_proj _ _ _ _ ?_) ?_) | (with_reducible refine Eq.trans (foldl_fst_proj _ _ _ _ ?_) ?_) | (with_reducible refine Eq.trans (foldl_snd_proj _ _ _ _ ?_) ?_) | split | (simp only []; split) | (dsimp only; split)))

@[simp ↓] theorem ctxActivateEffect_keeps (h : Hdr) (s : State) :
    (ctxActivateEffect h s).ident = s.ident ∧ (ctxActivateEffect h s).tick = s.tick ∧ (ctxActivateEffect h s).world = s.world ∧ (ctxActivateEffect h s).aster = s.aster ∧ (ctxActivateEffect h s).lupin = s.lupin ∧ (ctxActivateEffect h s).harebell = s.harebell ∧ (ctxActivateEffect h s).cornflower = s.cornflower ∧ (ctxActivateEffect h s).poppy = s.poppy ∧ (ctxActivateEffect h s).vetch = s.vetch ∧ (ctxActivateEffect h s).commit = s.commit ∧ (ctxActivateEffect h s).zheda = s.zheda ∧ (ctxActivateEffect h s).bindweed = s.bindweed ∧ (ctxActivateEffect h s).safety = s.safety ∧ (ctxActivateEffect h s).mem = s.mem ∧ (ctxActivateEffect h s).clock = s.clock ∧ (ctxActivateEffect h s).sec = s.sec ∧ (ctxActivateEffect h s).casc = s.casc ∧ (ctxActivateEffect h s).now = s.now ∧ (ctxActivateEffect h s).rdata = s.rdata ∧ (ctxActivateEffect h s).freeIx = s.freeIx ∧ (ctxActivateEffect h s).pending = s.pending := by
  unfold ctxActivateEffect
  refine ⟨?_, ?_, ?_, ?_, ?_, ?_, ?_, ?_, ?_, ?_, ?_, ?_, ?_, ?_, ?_, ?_, ?_, ?_, ?_, ?_, ?_⟩ <;> (repeat' (first | with_reducible rfl | (simp; done) | (with_reducible intro _) | (with_reducible apply State.item_proj) | (with_reducible apply State.guarded_proj) | (with_reducible apply State.counterOp_proj) | (with_reducible apply State.packet_proj) | (with_reducible refine Eq.trans (foldl_proj _ _ _ _ ?_) ?_) | (with_reducible refine Eq.trans (foldl_fst_proj _ _ _ _ ?_) ?_) | (with_reducible refine Eq.trans (foldl_snd_proj _ _ _ _ ?_) ?_) | split | (simp only []; split) | (dsimp only; split)))

@[simp ↓] theorem ctxDeactivateEffect_keeps (h : Hdr) (s : State) :
    (ctxDeactivateEffect h s).ident = s.ident ∧ (ctxDeactivateEffect h s).tick = s.tick ∧ (ctxDeactivateEffect h s).world = s.world ∧ (ctxDeactivateEffect h s).aster = s.aster ∧ (ctxDeactivateEffect h s).lupin = s.lupin ∧ (ctxDeactivateEffect h s).harebell = s.harebell ∧ (ctxDeactivateEffect h s).cornflower = s.cornflower ∧ (ctxDeactivateEffect h s).poppy = s.poppy ∧ (ctxDeactivateEffect h s).vetch = s.vetch ∧ (ctxDeactivateEffect h s).commit = s.commit ∧ (ctxDeactivateEffect h s).zheda = s.zheda ∧ (ctxDeactivateEffect h s).bindweed = s.bindweed ∧ (ctxDeactivateEffect h s).safety = s.safety ∧ (ctxDeactivateEffect h s).mem = s.mem ∧ (ctxDeactivateEffect h s).clock = s.clock ∧ (ctxDeactivateEffect h s).sec = s.sec ∧ (ctxDeactivateEffect h s).casc = s.casc ∧ (ctxDeactivateEffect h s).now = s.now ∧ (ctxDeactivateEffect h s).rdata = s.rdata ∧ (ctxDeactivateEffect h s).freeIx = s.freeIx ∧ (ctxDeactivateEffect h s).pending = s.pending := by
  unfold ctxDeactivateEffect
  refine ⟨?_, ?_, ?_, ?_, ?_, ?_, ?_, ?_, ?_, ?_, ?_, ?_, ?_, ?_, ?_, ?_, ?_, ?_, ?_, ?_, ?_⟩ <;> (repeat' (first | with_reducible rfl | (simp; done) | (with_reducible intro _) | (with_reducible apply State.item_proj) | (with_reducible apply State.guarded_proj) | (with_reducible apply State.counterOp_proj) | (with_reducible apply State.packet_proj) | (with_reducible refine Eq.trans (foldl_proj _ _ _ _ ?_) ?_) | (with_reducible refine Eq.trans (foldl_fst_proj _ _ _ _ ?_) ?_) | (with_reducible refine Eq.trans (foldl_snd_proj _ _ _ _ ?_) ?_) | split | (simp only []; split) | (dsimp only; split)))

@[simp ↓] theorem ctxWriteEffect_keeps (h : Hdr) (off : Nat) (bs : List Byte) (s : State) :
    (ctxWriteEffect h off bs s).ident = s.ident ∧ (ctxWriteEffect h off bs s).tick = s.tick ∧ (ctxWriteEffect h off bs s).world = s.world ∧ (ctxWriteEffect h off bs s).aster = s.aster ∧ (ctxWriteEffect h off bs s).lupin = s.lupin ∧ (ctxWriteEffect h off bs s).harebell = s.harebell ∧ (ctxWriteEffect h off bs s).cornflower = s.cornflower ∧ (ctxWriteEffect h off bs s).poppy = s.poppy ∧ (ctxWriteEffect h off bs s).vetch = s.vetch ∧ (ctxWriteEffect h off bs s).commit = s.commit ∧ (ctxWriteEffect h off bs s).zheda = s.zheda ∧ (ctxWriteEffect h off bs s).bindweed = s.bindweed ∧ (ctxWriteEffect h off bs s).safety = s.safety ∧ (ctxWriteEffect h off bs s).mem = s.mem ∧ (ctxWriteEffect h off bs s).clock = s.clock ∧ (ctxWriteEffect h off bs s).sec = s.sec ∧ (ctxWriteEffect h off bs s).casc = s.casc ∧ (ctxWriteEffect h off bs s).now = s.now ∧ (ctxWriteEffect h off bs s).rdata = s.rdata ∧ (ctxWriteEffect h off bs s).freeIx = s.freeIx ∧ (ctxWriteEffect h off bs s).pending = s.pending := by
  unfold ctxWriteEffect
  refine ⟨?_, ?_, ?_, ?_, ?_, ?_, ?_, ?_, ?_, ?_, ?_, ?_, ?_, ?_, ?_, ?_, ?_, ?_, ?_, ?_, ?_⟩ <;> (repeat' (first | with_reducible rfl | (simp; done) | (with_reducible intro _) | (with_reducible apply State.item_proj) | (with_reducible apply State.guarded_proj) | (with_reducible apply State.counterOp_proj) | (with_reducible apply State.packet_proj) | (with_reducible refine Eq.trans (foldl_proj _ _ _ _ ?_) ?_) | (with_reducible refine Eq.trans (foldl_fst_proj _ _ _ _ ?_) ?_) | (with_reducible refine Eq.trans (foldl_snd_proj _ _ _ _ ?_) ?_) | split | (simp only []; split) | (dsimp only; split)))

@[simp ↓] theorem ctxReadEffect_keeps (h : Hdr) (copy off len raddr : Nat) (s : State) :
    (ctxReadEffect h copy off len raddr s).ident = s.ident ∧ (ctxReadEffect h copy off len raddr s).tick = s.tick ∧ (ctxReadEffect h copy off len raddr s).world = s.world ∧ (ctxReadEffect h copy off len raddr s).aster = s.aster ∧ (ctxReadEffect h copy off len raddr s).lupin = s.lupin ∧ (ctxReadEffect h copy off len raddr s).harebell = s.harebell ∧ (ctxReadEffect h copy off len raddr s).cornflower = s.cornflower ∧ (ctxReadEffect h copy off len raddr s).poppy = s.poppy ∧ (ctxReadEffect h copy off len raddr s).vetch = s.vetch ∧ (ctxReadEffect h copy off len raddr s).commit = s.commit ∧ (ctxReadEffect h copy off len raddr s).zheda = s.zheda ∧ (ctxReadEffect h copy off len raddr s).teasel = s.teasel ∧ (ctxReadEffect h copy off len raddr s).bindweed = s.bindweed ∧ (ctxReadEffect h copy off len raddr s).safety = s.safety ∧ (ctxReadEffect h copy off len raddr s).mem = s.mem ∧ (ctxReadEffect h copy off len raddr s).clock = s.clock ∧ (ctxReadEffect h copy off len raddr s).sec = s.sec ∧ (ctxReadEffect h copy off len raddr s).casc = s.casc ∧ (ctxReadEffect h copy off len raddr s).now = s.now ∧ (ctxReadEffect h copy off len raddr s).rdata = s.rdata ∧ (ctxReadEffect h copy off len raddr s).freeIx = s.freeIx ∧ (ctxReadEffect h copy off len raddr s).pending = s.pending := by
  unfold ctxReadEffect
  refine ⟨?_, ?_, ?_, ?_, ?_, ?_, ?_, ?_, ?_, ?_, ?_, ?_, ?_, ?_, ?_, ?_, ?_, ?_, ?_, ?_, ?_, ?_⟩ <;> (repeat' (first | with_reducible rfl | (simp; done) | (with_reducible intro _) | (with_reducible apply State.item_proj) | (with_reducible apply State.guarded_proj) | (with_reducible apply State.counterOp_proj) | (with_reducible apply State.packet_proj) | (with_reducible refine Eq.trans (foldl_proj _ _ _ _ ?_) ?_) | (with_reducible refine Eq.trans (foldl_fst_proj _ _ _ _ ?_) ?_) | (with_reducible refine Eq.trans (foldl_snd_proj _ _ _ _ ?_) ?_) | split | (simp only []; split) | (dsimp only; split)))

@[simp ↓] theorem ctxSeedSetEffect_keeps (h : Hdr) (seed : Word) (s : State) :
    (ctxSeedSetEffect h seed s).ident = s.ident ∧ (ctxSeedSetEffect h seed s).tick = s.tick ∧ (ctxSeedSetEffect h seed s).world = s.world ∧ (ctxSeedSetEffect h seed s).aster = s.aster ∧ (ctxSeedSetEffect h seed s).lupin = s.lupin ∧ (ctxSeedSetEffect h seed s).harebell = s.harebell ∧ (ctxSeedSetEffect h seed s).cornflower = s.cornflower ∧ (ctxSeedSetEffect h seed s).poppy = s.poppy ∧ (ctxSeedSetEffect h seed s).vetch = s.vetch ∧ (ctxSeedSetEffect h seed s).commit = s.commit ∧ (ctxSeedSetEffect h seed s).zheda = s.zheda ∧ (ctxSeedSetEffect h seed s).bindweed = s.bindweed ∧ (ctxSeedSetEffect h seed s).safety = s.safety ∧ (ctxSeedSetEffect h seed s).mem = s.mem ∧ (ctxSeedSetEffect h seed s).clock = s.clock ∧ (ctxSeedSetEffect h seed s).sec = s.sec ∧ (ctxSeedSetEffect h seed s).casc = s.casc ∧ (ctxSeedSetEffect h seed s).now = s.now ∧ (ctxSeedSetEffect h seed s).rdata = s.rdata ∧ (ctxSeedSetEffect h seed s).freeIx = s.freeIx ∧ (ctxSeedSetEffect h seed s).pending = s.pending := by
  unfold ctxSeedSetEffect
  refine ⟨?_, ?_, ?_, ?_, ?_, ?_, ?_, ?_, ?_, ?_, ?_, ?_, ?_, ?_, ?_, ?_, ?_, ?_, ?_, ?_, ?_⟩ <;> (repeat' (first | with_reducible rfl | (simp; done) | (with_reducible intro _) | (with_reducible apply State.item_proj) | (with_reducible apply State.guarded_proj) | (with_reducible apply State.counterOp_proj) | (with_reducible apply State.packet_proj) | (with_reducible refine Eq.trans (foldl_proj _ _ _ _ ?_) ?_) | (with_reducible refine Eq.trans (foldl_fst_proj _ _ _ _ ?_) ?_) | (with_reducible refine Eq.trans (foldl_snd_proj _ _ _ _ ?_) ?_) | split | (simp only []; split) | (dsimp only; split)))

@[simp ↓] theorem ctxGoalSetEffect_keeps (h : Hdr) (boxes : List Box) (s : State) :
    (ctxGoalSetEffect h boxes s).ident = s.ident ∧ (ctxGoalSetEffect h boxes s).tick = s.tick ∧ (ctxGoalSetEffect h boxes s).world = s.world ∧ (ctxGoalSetEffect h boxes s).aster = s.aster ∧ (ctxGoalSetEffect h boxes s).lupin = s.lupin ∧ (ctxGoalSetEffect h boxes s).harebell = s.harebell ∧ (ctxGoalSetEffect h boxes s).cornflower = s.cornflower ∧ (ctxGoalSetEffect h boxes s).poppy = s.poppy ∧ (ctxGoalSetEffect h boxes s).vetch = s.vetch ∧ (ctxGoalSetEffect h boxes s).commit = s.commit ∧ (ctxGoalSetEffect h boxes s).zheda = s.zheda ∧ (ctxGoalSetEffect h boxes s).bindweed = s.bindweed ∧ (ctxGoalSetEffect h boxes s).safety = s.safety ∧ (ctxGoalSetEffect h boxes s).mem = s.mem ∧ (ctxGoalSetEffect h boxes s).clock = s.clock ∧ (ctxGoalSetEffect h boxes s).sec = s.sec ∧ (ctxGoalSetEffect h boxes s).casc = s.casc ∧ (ctxGoalSetEffect h boxes s).now = s.now ∧ (ctxGoalSetEffect h boxes s).rdata = s.rdata ∧ (ctxGoalSetEffect h boxes s).freeIx = s.freeIx ∧ (ctxGoalSetEffect h boxes s).pending = s.pending := by
  unfold ctxGoalSetEffect
  refine ⟨?_, ?_, ?_, ?_, ?_, ?_, ?_, ?_, ?_, ?_, ?_, ?_, ?_, ?_, ?_, ?_, ?_, ?_, ?_, ?_, ?_⟩ <;> (repeat' (first | with_reducible rfl | (simp; done) | (with_reducible intro _) | (with_reducible apply State.item_proj) | (with_reducible apply State.guarded_proj) | (with_reducible apply State.counterOp_proj) | (with_reducible apply State.packet_proj) | (with_reducible refine Eq.trans (foldl_proj _ _ _ _ ?_) ?_) | (with_reducible refine Eq.trans (foldl_fst_proj _ _ _ _ ?_) ?_) | (with_reducible refine Eq.trans (foldl_snd_proj _ _ _ _ ?_) ?_) | split | (simp only []; split) | (dsimp only; split)))

@[simp ↓] theorem ctxTreeResetEffect_keeps (h : Hdr) (s : State) :
    (ctxTreeResetEffect h s).ident = s.ident ∧ (ctxTreeResetEffect h s).tick = s.tick ∧ (ctxTreeResetEffect h s).world = s.world ∧ (ctxTreeResetEffect h s).aster = s.aster ∧ (ctxTreeResetEffect h s).lupin = s.lupin ∧ (ctxTreeResetEffect h s).harebell = s.harebell ∧ (ctxTreeResetEffect h s).cornflower = s.cornflower ∧ (ctxTreeResetEffect h s).poppy = s.poppy ∧ (ctxTreeResetEffect h s).vetch = s.vetch ∧ (ctxTreeResetEffect h s).commit = s.commit ∧ (ctxTreeResetEffect h s).zheda = s.zheda ∧ (ctxTreeResetEffect h s).bindweed = s.bindweed ∧ (ctxTreeResetEffect h s).safety = s.safety ∧ (ctxTreeResetEffect h s).mem = s.mem ∧ (ctxTreeResetEffect h s).clock = s.clock ∧ (ctxTreeResetEffect h s).sec = s.sec ∧ (ctxTreeResetEffect h s).casc = s.casc ∧ (ctxTreeResetEffect h s).now = s.now ∧ (ctxTreeResetEffect h s).rdata = s.rdata ∧ (ctxTreeResetEffect h s).freeIx = s.freeIx ∧ (ctxTreeResetEffect h s).pending = s.pending := by
  unfold ctxTreeResetEffect
  refine ⟨?_, ?_, ?_, ?_, ?_, ?_, ?_, ?_, ?_, ?_, ?_, ?_, ?_, ?_, ?_, ?_, ?_, ?_, ?_, ?_, ?_⟩ <;> (repeat' (first | with_reducible rfl | (simp; done) | (with_reducible intro _) | (with_reducible apply State.item_proj) | (with_reducible apply State.guarded_proj) | (with_reducible apply State.counterOp_proj) | (with_reducible apply State.packet_proj) | (with_reducible refine Eq.trans (foldl_proj _ _ _ _ ?_) ?_) | (with_reducible refine Eq.trans (foldl_fst_proj _ _ _ _ ?_) ?_) | (with_reducible refine Eq.trans (foldl_snd_proj _ _ _ _ ?_) ?_) | split | (simp only []; split) | (dsimp only; split)))

@[simp ↓] theorem State.updLup_keeps (s : State) (c : Nat) (f : LupCtx → LupCtx) :
    (State.updLup s c f).ident = s.ident ∧ (State.updLup s c f).tick = s.tick ∧ (State.updLup s c f).world = s.world ∧ (State.updLup s c f).aster = s.aster ∧ (State.updLup s c f).harebell = s.harebell ∧ (State.updLup s c f).cornflower = s.cornflower ∧ (State.updLup s c f).poppy = s.poppy ∧ (State.updLup s c f).vetch = s.vetch ∧ (State.updLup s c f).commit = s.commit ∧ (State.updLup s c f).zheda = s.zheda ∧ (State.updLup s c f).teasel = s.teasel ∧ (State.updLup s c f).bindweed = s.bindweed ∧ (State.updLup s c f).cowslip = s.cowslip ∧ (State.updLup s c f).cmd = s.cmd ∧ (State.updLup s c f).safety = s.safety ∧ (State.updLup s c f).mem = s.mem ∧ (State.updLup s c f).clock = s.clock ∧ (State.updLup s c f).host = s.host ∧ (State.updLup s c f).sec = s.sec ∧ (State.updLup s c f).casc = s.casc ∧ (State.updLup s c f).now = s.now ∧ (State.updLup s c f).rdata = s.rdata ∧ (State.updLup s c f).freeIx = s.freeIx ∧ (State.updLup s c f).pending = s.pending := by
  simp [State.updLup]

@[simp ↓] theorem State.leaveSlot_keeps (s : State) (c n : Nat) :
    (State.leaveSlot s c n).ident = s.ident ∧ (State.leaveSlot s c n).tick = s.tick ∧ (State.leaveSlot s c n).world = s.world ∧ (State.leaveSlot s c n).aster = s.aster ∧ (State.leaveSlot s c n).harebell = s.harebell ∧ (State.leaveSlot s c n).poppy = s.poppy ∧ (State.leaveSlot s c n).zheda = s.zheda ∧ (State.leaveSlot s c n).teasel = s.teasel ∧ (State.leaveSlot s c n).bindweed = s.bindweed ∧ (State.leaveSlot s c n).cowslip = s.cowslip ∧ (State.leaveSlot s c n).cmd = s.cmd ∧ (State.leaveSlot s c n).safety = s.safety ∧ (State.leaveSlot s c n).mem = s.mem ∧ (State.leaveSlot s c n).clock = s.clock ∧ (State.leaveSlot s c n).host = s.host ∧ (State.leaveSlot s c n).sec = s.sec ∧ (State.leaveSlot s c n).casc = s.casc ∧ (State.leaveSlot s c n).now = s.now ∧ (State.leaveSlot s c n).rdata = s.rdata ∧ (State.leaveSlot s c n).freeIx = s.freeIx ∧ (State.leaveSlot s c n).pending = s.pending := by
  simp [State.leaveSlot]

@[simp ↓] theorem State.enterSlot_keeps (s : State) (c n : Nat) :
    (State.enterSlot s c n).ident = s.ident ∧ (State.enterSlot s c n).tick = s.tick ∧ (State.enterSlot s c n).world = s.world ∧ (State.enterSlot s c n).aster = s.aster ∧ (State.enterSlot s c n).lupin = s.lupin ∧ (State.enterSlot s c n).harebell = s.harebell ∧ (State.enterSlot s c n).poppy = s.poppy ∧ (State.enterSlot s c n).vetch = s.vetch ∧ (State.enterSlot s c n).commit = s.commit ∧ (State.enterSlot s c n).zheda = s.zheda ∧ (State.enterSlot s c n).teasel = s.teasel ∧ (State.enterSlot s c n).bindweed = s.bindweed ∧ (State.enterSlot s c n).cowslip = s.cowslip ∧ (State.enterSlot s c n).cmd = s.cmd ∧ (State.enterSlot s c n).safety = s.safety ∧ (State.enterSlot s c n).mem = s.mem ∧ (State.enterSlot s c n).clock = s.clock ∧ (State.enterSlot s c n).host = s.host ∧ (State.enterSlot s c n).sec = s.sec ∧ (State.enterSlot s c n).casc = s.casc ∧ (State.enterSlot s c n).now = s.now ∧ (State.enterSlot s c n).rdata = s.rdata ∧ (State.enterSlot s c n).freeIx = s.freeIx ∧ (State.enterSlot s c n).pending = s.pending := by
  simp [State.enterSlot]

@[simp ↓] theorem State.goalChange_keeps (s : State) (c : Nat) (old : List Box) :
    (State.goalChange s c old).ident = s.ident ∧ (State.goalChange s c old).tick = s.tick ∧ (State.goalChange s c old).world = s.world ∧ (State.goalChange s c old).aster = s.aster ∧ (State.goalChange s c old).lupin = s.lupin ∧ (State.goalChange s c old).harebell = s.harebell ∧ (State.goalChange s c old).poppy = s.poppy ∧ (State.goalChange s c old).vetch = s.vetch ∧ (State.goalChange s c old).commit = s.commit ∧ (State.goalChange s c old).zheda = s.zheda ∧ (State.goalChange s c old).teasel = s.teasel ∧ (State.goalChange s c old).bindweed = s.bindweed ∧ (State.goalChange s c old).cowslip = s.cowslip ∧ (State.goalChange s c old).cmd = s.cmd ∧ (State.goalChange s c old).safety = s.safety ∧ (State.goalChange s c old).mem = s.mem ∧ (State.goalChange s c old).clock = s.clock ∧ (State.goalChange s c old).host = s.host ∧ (State.goalChange s c old).sec = s.sec ∧ (State.goalChange s c old).casc = s.casc ∧ (State.goalChange s c old).now = s.now ∧ (State.goalChange s c old).rdata = s.rdata ∧ (State.goalChange s c old).freeIx = s.freeIx ∧ (State.goalChange s c old).pending = s.pending := by
  simp [State.goalChange]

@[simp ↓] theorem State.applyAlloc_keeps (s : State) (h : Hdr) (any : Bool) (model : Nat) :
    (State.applyAlloc s h any model).ident = s.ident ∧ (State.applyAlloc s h any model).tick = s.tick ∧ (State.applyAlloc s h any model).world = s.world ∧ (State.applyAlloc s h any model).aster = s.aster ∧ (State.applyAlloc s h any model).lupin = s.lupin ∧ (State.applyAlloc s h any model).harebell = s.harebell ∧ (State.applyAlloc s h any model).cornflower = s.cornflower ∧ (State.applyAlloc s h any model).poppy = s.poppy ∧ (State.applyAlloc s h any model).vetch = s.vetch ∧ (State.applyAlloc s h any model).commit = s.commit ∧ (State.applyAlloc s h any model).zheda = s.zheda ∧ (State.applyAlloc s h any model).bindweed = s.bindweed ∧ (State.applyAlloc s h any model).safety = s.safety ∧ (State.applyAlloc s h any model).mem = s.mem ∧ (State.applyAlloc s h any model).clock = s.clock ∧ (State.applyAlloc s h any model).sec = s.sec ∧ (State.applyAlloc s h any model).casc = s.casc ∧ (State.applyAlloc s h any model).now = s.now ∧ (State.applyAlloc s h any model).rdata = s.rdata ∧ (State.applyAlloc s h any model).freeIx = s.freeIx ∧ (State.applyAlloc s h any model).pending = s.pending := by
  unfold State.applyAlloc
  simp only []
  (repeat' split) <;> simp

@[simp ↓] theorem State.applyFree_keeps (s : State) (h : Hdr) :
    (State.applyFree s h).ident = s.ident ∧ (State.applyFree s h).tick = s.tick ∧ (State.applyFree s h).world = s.world ∧ (State.applyFree s h).aster = s.aster ∧ (State.applyFree s h).lupin = s.lupin ∧ (State.applyFree s h).harebell = s.harebell ∧ (State.applyFree s h).cornflower = s.cornflower ∧ (State.applyFree s h).poppy = s.poppy ∧ (State.applyFree s h).vetch = s.vetch ∧ (State.applyFree s h).commit = s.commit ∧ (State.applyFree s h).zheda = s.zheda ∧ (State.applyFree s h).bindweed = s.bindweed ∧ (State.applyFree s h).safety = s.safety ∧ (State.applyFree s h).mem = s.mem ∧ (State.applyFree s h).clock = s.clock ∧ (State.applyFree s h).sec = s.sec ∧ (State.applyFree s h).casc = s.casc ∧ (State.applyFree s h).now = s.now ∧ (State.applyFree s h).rdata = s.rdata ∧ (State.applyFree s h).freeIx = s.freeIx ∧ (State.applyFree s h).pending = s.pending := by
  unfold State.applyFree
  (repeat' split) <;> simp

@[simp ↓] theorem State.applyActivate_keeps (s : State) (h : Hdr) :
    (State.applyActivate s h).ident = s.ident ∧ (State.applyActivate s h).tick = s.tick ∧ (State.applyActivate s h).world = s.world ∧ (State.applyActivate s h).aster = s.aster ∧ (State.applyActivate s h).lupin = s.lupin ∧ (State.applyActivate s h).harebell = s.harebell ∧ (State.applyActivate s h).poppy = s.poppy ∧ (State.applyActivate s h).vetch = s.vetch ∧ (State.applyActivate s h).commit = s.commit ∧ (State.applyActivate s h).zheda = s.zheda ∧ (State.applyActivate s h).bindweed = s.bindweed ∧ (State.applyActivate s h).safety = s.safety ∧ (State.applyActivate s h).mem = s.mem ∧ (State.applyActivate s h).clock = s.clock ∧ (State.applyActivate s h).sec = s.sec ∧ (State.applyActivate s h).casc = s.casc ∧ (State.applyActivate s h).now = s.now ∧ (State.applyActivate s h).rdata = s.rdata ∧ (State.applyActivate s h).freeIx = s.freeIx ∧ (State.applyActivate s h).pending = s.pending := by
  unfold State.applyActivate
  simp only []
  (repeat' split) <;> simp

@[simp ↓] theorem State.releaseCtx_keeps (s : State) (c : Nat) :
    (State.releaseCtx s c).ident = s.ident ∧ (State.releaseCtx s c).tick = s.tick ∧ (State.releaseCtx s c).world = s.world ∧ (State.releaseCtx s c).aster = s.aster ∧ (State.releaseCtx s c).harebell = s.harebell ∧ (State.releaseCtx s c).poppy = s.poppy ∧ (State.releaseCtx s c).zheda = s.zheda ∧ (State.releaseCtx s c).bindweed = s.bindweed ∧ (State.releaseCtx s c).cowslip = s.cowslip ∧ (State.releaseCtx s c).cmd = s.cmd ∧ (State.releaseCtx s c).safety = s.safety ∧ (State.releaseCtx s c).mem = s.mem ∧ (State.releaseCtx s c).clock = s.clock ∧ (State.releaseCtx s c).host = s.host ∧ (State.releaseCtx s c).sec = s.sec ∧ (State.releaseCtx s c).casc = s.casc ∧ (State.releaseCtx s c).now = s.now ∧ (State.releaseCtx s c).rdata = s.rdata ∧ (State.releaseCtx s c).freeIx = s.freeIx ∧ (State.releaseCtx s c).pending = s.pending := by
  unfold State.releaseCtx
  simp only []
  (repeat' split) <;> simp

@[simp ↓] theorem State.applyDeactivate_keeps (s : State) (h : Hdr) :
    (State.applyDeactivate s h).ident = s.ident ∧ (State.applyDeactivate s h).tick = s.tick ∧ (State.applyDeactivate s h).world = s.world ∧ (State.applyDeactivate s h).aster = s.aster ∧ (State.applyDeactivate s h).harebell = s.harebell ∧ (State.applyDeactivate s h).poppy = s.poppy ∧ (State.applyDeactivate s h).zheda = s.zheda ∧ (State.applyDeactivate s h).bindweed = s.bindweed ∧ (State.applyDeactivate s h).safety = s.safety ∧ (State.applyDeactivate s h).mem = s.mem ∧ (State.applyDeactivate s h).clock = s.clock ∧ (State.applyDeactivate s h).sec = s.sec ∧ (State.applyDeactivate s h).casc = s.casc ∧ (State.applyDeactivate s h).now = s.now ∧ (State.applyDeactivate s h).rdata = s.rdata ∧ (State.applyDeactivate s h).freeIx = s.freeIx ∧ (State.applyDeactivate s h).pending = s.pending := by
  unfold State.applyDeactivate
  simp only []
  (repeat' split) <;> simp

@[simp ↓] theorem State.applyWrite_keeps (s : State) (c : Nat) :
    (State.applyWrite s c).ident = s.ident ∧ (State.applyWrite s c).tick = s.tick ∧ (State.applyWrite s c).world = s.world ∧ (State.applyWrite s c).aster = s.aster ∧ (State.applyWrite s c).lupin = s.lupin ∧ (State.applyWrite s c).harebell = s.harebell ∧ (State.applyWrite s c).poppy = s.poppy ∧ (State.applyWrite s c).vetch = s.vetch ∧ (State.applyWrite s c).commit = s.commit ∧ (State.applyWrite s c).zheda = s.zheda ∧ (State.applyWrite s c).bindweed = s.bindweed ∧ (State.applyWrite s c).cowslip = s.cowslip ∧ (State.applyWrite s c).cmd = s.cmd ∧ (State.applyWrite s c).safety = s.safety ∧ (State.applyWrite s c).mem = s.mem ∧ (State.applyWrite s c).clock = s.clock ∧ (State.applyWrite s c).host = s.host ∧ (State.applyWrite s c).sec = s.sec ∧ (State.applyWrite s c).casc = s.casc ∧ (State.applyWrite s c).now = s.now ∧ (State.applyWrite s c).rdata = s.rdata ∧ (State.applyWrite s c).freeIx = s.freeIx ∧ (State.applyWrite s c).pending = s.pending := by
  simp [State.applyWrite]

@[simp ↓] theorem State.applyGoals_keeps (s : State) (c : Nat) (bs : List Box) :
    (State.applyGoals s c bs).ident = s.ident ∧ (State.applyGoals s c bs).tick = s.tick ∧ (State.applyGoals s c bs).world = s.world ∧ (State.applyGoals s c bs).aster = s.aster ∧ (State.applyGoals s c bs).lupin = s.lupin ∧ (State.applyGoals s c bs).harebell = s.harebell ∧ (State.applyGoals s c bs).poppy = s.poppy ∧ (State.applyGoals s c bs).vetch = s.vetch ∧ (State.applyGoals s c bs).commit = s.commit ∧ (State.applyGoals s c bs).zheda = s.zheda ∧ (State.applyGoals s c bs).bindweed = s.bindweed ∧ (State.applyGoals s c bs).cowslip = s.cowslip ∧ (State.applyGoals s c bs).cmd = s.cmd ∧ (State.applyGoals s c bs).safety = s.safety ∧ (State.applyGoals s c bs).mem = s.mem ∧ (State.applyGoals s c bs).clock = s.clock ∧ (State.applyGoals s c bs).host = s.host ∧ (State.applyGoals s c bs).sec = s.sec ∧ (State.applyGoals s c bs).casc = s.casc ∧ (State.applyGoals s c bs).now = s.now ∧ (State.applyGoals s c bs).rdata = s.rdata ∧ (State.applyGoals s c bs).freeIx = s.freeIx ∧ (State.applyGoals s c bs).pending = s.pending := by
  simp [State.applyGoals]

@[simp ↓] theorem State.applyCtxCmd_keeps (s : State) (w : WaitingCmd) :
    (State.applyCtxCmd s w).ident = s.ident ∧ (State.applyCtxCmd s w).tick = s.tick ∧ (State.applyCtxCmd s w).world = s.world ∧ (State.applyCtxCmd s w).aster = s.aster ∧ (State.applyCtxCmd s w).harebell = s.harebell ∧ (State.applyCtxCmd s w).poppy = s.poppy ∧ (State.applyCtxCmd s w).zheda = s.zheda ∧ (State.applyCtxCmd s w).bindweed = s.bindweed ∧ (State.applyCtxCmd s w).safety = s.safety ∧ (State.applyCtxCmd s w).mem = s.mem ∧ (State.applyCtxCmd s w).clock = s.clock ∧ (State.applyCtxCmd s w).sec = s.sec ∧ (State.applyCtxCmd s w).casc = s.casc ∧ (State.applyCtxCmd s w).now = s.now ∧ (State.applyCtxCmd s w).rdata = s.rdata ∧ (State.applyCtxCmd s w).freeIx = s.freeIx ∧ (State.applyCtxCmd s w).pending = s.pending := by
  unfold State.applyCtxCmd
  (repeat' split) <;> simp

@[simp ↓] theorem State.applyCtxCmds_keeps (s : State) :
    (State.applyCtxCmds s).ident = s.ident ∧ (State.applyCtxCmds s).tick = s.tick ∧ (State.applyCtxCmds s).world = s.world ∧ (State.applyCtxCmds s).aster = s.aster ∧ (State.applyCtxCmds s).harebell = s.harebell ∧ (State.applyCtxCmds s).poppy = s.poppy ∧ (State.applyCtxCmds s).zheda = s.zheda ∧ (State.applyCtxCmds s).bindweed = s.bindweed ∧ (State.applyCtxCmds s).safety = s.safety ∧ (State.applyCtxCmds s).mem = s.mem ∧ (State.applyCtxCmds s).clock = s.clock ∧ (State.applyCtxCmds s).sec = s.sec ∧ (State.applyCtxCmds s).casc = s.casc ∧ (State.applyCtxCmds s).now = s.now ∧ (State.applyCtxCmds s).rdata = s.rdata ∧ (State.applyCtxCmds s).freeIx = s.freeIx ∧ (State.applyCtxCmds s).pending = s.pending := by
  simp [State.applyCtxCmds]

@[simp ↓] theorem State.memberSlots_keeps (s : State) (fg : Tbl FgSlot) :
    (State.memberSlots s fg).ident = s.ident ∧ (State.memberSlots s fg).tick = s.tick ∧ (State.memberSlots s fg).world = s.world ∧ (State.memberSlots s fg).aster = s.aster ∧ (State.memberSlots s fg).harebell = s.harebell ∧ (State.memberSlots s fg).poppy = s.poppy ∧ (State.memberSlots s fg).zheda = s.zheda ∧ (State.memberSlots s fg).teasel = s.teasel ∧ (State.memberSlots s fg).bindweed = s.bindweed ∧ (State.memberSlots s fg).cowslip = s.cowslip ∧ (State.memberSlots s fg).cmd = s.cmd ∧ (State.memberSlots s fg).safety = s.safety ∧ (State.memberSlots s fg).mem = s.mem ∧ (State.memberSlots s fg).clock = s.clock ∧ (State.memberSlots s fg).host = s.host ∧ (State.memberSlots s fg).sec = s.sec ∧ (State.memberSlots s fg).casc = s.casc ∧ (State.memberSlots s fg).now = s.now ∧ (State.memberSlots s fg).rdata = s.rdata ∧ (State.memberSlots s fg).freeIx = s.freeIx ∧ (State.memberSlots s fg).pending = s.pending := by
  unfold State.memberSlots
  refine ⟨?_, ?_, ?_, ?_, ?_, ?_, ?_, ?_, ?_, ?_, ?_, ?_, ?_, ?_, ?_, ?_, ?_, ?_, ?_, ?_, ?_⟩ <;> (repeat' (first | with_reducible rfl | (simp; done) | (with_reducible intro _) | (with_reducible apply State.item_proj) | (with_reducible apply State.guarded_proj) | (with_reducible apply State.counterOp_proj) | (with_reducible apply State.packet_proj) | (with_reducible refine Eq.trans (foldl_proj _ _ _ _ ?_) ?_) | (with_reducible refine Eq.trans (foldl_fst_proj _ _ _ _ ?_) ?_) | (with_reducible refine Eq.trans (foldl_snd_proj _ _ _ _ ?_) ?_) | split | (simp only []; split) | (dsimp only; split)))

@[simp ↓] theorem State.takeAdopted_keeps (s : State) (e : JEntry) :
    (State.takeAdopted s e).ident = s.ident ∧ (State.takeAdopted s e).tick = s.tick ∧ (State.takeAdopted s e).world = s.world ∧ (State.takeAdopted s e).aster = s.aster ∧ (State.takeAdopted s e).harebell = s.harebell ∧ (State.takeAdopted s e).poppy = s.poppy ∧ (State.takeAdopted s e).vetch = s.vetch ∧ (State.takeAdopted s e).commit = s.commit ∧ (State.takeAdopted s e).zheda = s.zheda ∧ (State.takeAdopted s e).teasel = s.teasel ∧ (State.takeAdopted s e).bindweed = s.bindweed ∧ (State.takeAdopted s e).cowslip = s.cowslip ∧ (State.takeAdopted s e).cmd = s.cmd ∧ (State.takeAdopted s e).safety = s.safety ∧ (State.takeAdopted s e).mem = s.mem ∧ (State.takeAdopted s e).clock = s.clock ∧ (State.takeAdopted s e).host = s.host ∧ (State.takeAdopted s e).sec = s.sec ∧ (State.takeAdopted s e).casc = s.casc ∧ (State.takeAdopted s e).now = s.now ∧ (State.takeAdopted s e).rdata = s.rdata ∧ (State.takeAdopted s e).freeIx = s.freeIx ∧ (State.takeAdopted s e).pending = s.pending := by
  unfold State.takeAdopted
  (repeat' split) <;> simp

@[simp ↓] theorem State.takeInputs_keeps (s : State) :
    (State.takeInputs s).ident = s.ident ∧ (State.takeInputs s).aster = s.aster ∧ (State.takeInputs s).harebell = s.harebell ∧ (State.takeInputs s).poppy = s.poppy ∧ (State.takeInputs s).zheda = s.zheda ∧ (State.takeInputs s).bindweed = s.bindweed ∧ (State.takeInputs s).cowslip = s.cowslip ∧ (State.takeInputs s).cmd = s.cmd ∧ (State.takeInputs s).safety = s.safety ∧ (State.takeInputs s).mem = s.mem ∧ (State.takeInputs s).clock = s.clock ∧ (State.takeInputs s).host = s.host ∧ (State.takeInputs s).sec = s.sec ∧ (State.takeInputs s).now = s.now ∧ (State.takeInputs s).rdata = s.rdata ∧ (State.takeInputs s).freeIx = s.freeIx ∧ (State.takeInputs s).pending = s.pending := by
  unfold State.takeInputs
  (repeat' split) <;> simp

@[simp ↓] theorem State.takeDecision_keeps (s : State) :
    (State.takeDecision s).ident = s.ident ∧ (State.takeDecision s).tick = s.tick ∧ (State.takeDecision s).world = s.world ∧ (State.takeDecision s).aster = s.aster ∧ (State.takeDecision s).lupin = s.lupin ∧ (State.takeDecision s).harebell = s.harebell ∧ (State.takeDecision s).cornflower = s.cornflower ∧ (State.takeDecision s).poppy = s.poppy ∧ (State.takeDecision s).vetch = s.vetch ∧ (State.takeDecision s).commit = s.commit ∧ (State.takeDecision s).zheda = s.zheda ∧ (State.takeDecision s).teasel = s.teasel ∧ (State.takeDecision s).bindweed = s.bindweed ∧ (State.takeDecision s).cowslip = s.cowslip ∧ (State.takeDecision s).cmd = s.cmd ∧ (State.takeDecision s).safety = s.safety ∧ (State.takeDecision s).mem = s.mem ∧ (State.takeDecision s).clock = s.clock ∧ (State.takeDecision s).host = s.host ∧ (State.takeDecision s).sec = s.sec ∧ (State.takeDecision s).now = s.now ∧ (State.takeDecision s).rdata = s.rdata ∧ (State.takeDecision s).freeIx = s.freeIx ∧ (State.takeDecision s).pending = s.pending := by
  unfold State.takeDecision
  (repeat' split) <;> simp

@[simp ↓] theorem State.takeHandoff_keeps (s : State) :
    (State.takeHandoff s).ident = s.ident ∧ (State.takeHandoff s).tick = s.tick ∧ (State.takeHandoff s).world = s.world ∧ (State.takeHandoff s).aster = s.aster ∧ (State.takeHandoff s).harebell = s.harebell ∧ (State.takeHandoff s).cornflower = s.cornflower ∧ (State.takeHandoff s).poppy = s.poppy ∧ (State.takeHandoff s).commit = s.commit ∧ (State.takeHandoff s).zheda = s.zheda ∧ (State.takeHandoff s).teasel = s.teasel ∧ (State.takeHandoff s).bindweed = s.bindweed ∧ (State.takeHandoff s).cowslip = s.cowslip ∧ (State.takeHandoff s).cmd = s.cmd ∧ (State.takeHandoff s).safety = s.safety ∧ (State.takeHandoff s).mem = s.mem ∧ (State.takeHandoff s).clock = s.clock ∧ (State.takeHandoff s).host = s.host ∧ (State.takeHandoff s).sec = s.sec ∧ (State.takeHandoff s).now = s.now ∧ (State.takeHandoff s).rdata = s.rdata ∧ (State.takeHandoff s).freeIx = s.freeIx ∧ (State.takeHandoff s).pending = s.pending := by
  unfold State.takeHandoff
  refine ⟨?_, ?_, ?_, ?_, ?_, ?_, ?_, ?_, ?_, ?_, ?_, ?_, ?_, ?_, ?_, ?_, ?_, ?_, ?_, ?_, ?_, ?_⟩ <;> (repeat' (first | with_reducible rfl | (simp; done) | (with_reducible intro _) | (with_reducible apply State.item_proj) | (with_reducible apply State.guarded_proj) | (with_reducible apply State.counterOp_proj) | (with_reducible apply State.packet_proj) | (with_reducible refine Eq.trans (foldl_proj _ _ _ _ ?_) ?_) | (with_reducible refine Eq.trans (foldl_fst_proj _ _ _ _ ?_) ?_) | (with_reducible refine Eq.trans (foldl_snd_proj _ _ _ _ ?_) ?_) | split | (simp only []; split) | (dsimp only; split)))

@[simp ↓] theorem State.loadMix_keeps (s : State) (f : FgSlot) :
    (State.loadMix s f).ident = s.ident ∧ (State.loadMix s f).tick = s.tick ∧ (State.loadMix s f).world = s.world ∧ (State.loadMix s f).aster = s.aster ∧ (State.loadMix s f).harebell = s.harebell ∧ (State.loadMix s f).cornflower = s.cornflower ∧ (State.loadMix s f).poppy = s.poppy ∧ (State.loadMix s f).vetch = s.vetch ∧ (State.loadMix s f).commit = s.commit ∧ (State.loadMix s f).zheda = s.zheda ∧ (State.loadMix s f).teasel = s.teasel ∧ (State.loadMix s f).bindweed = s.bindweed ∧ (State.loadMix s f).cowslip = s.cowslip ∧ (State.loadMix s f).cmd = s.cmd ∧ (State.loadMix s f).safety = s.safety ∧ (State.loadMix s f).mem = s.mem ∧ (State.loadMix s f).clock = s.clock ∧ (State.loadMix s f).host = s.host ∧ (State.loadMix s f).sec = s.sec ∧ (State.loadMix s f).casc = s.casc ∧ (State.loadMix s f).now = s.now ∧ (State.loadMix s f).rdata = s.rdata ∧ (State.loadMix s f).freeIx = s.freeIx ∧ (State.loadMix s f).pending = s.pending := by
  unfold State.loadMix
  (repeat' split) <;> simp

@[simp ↓] theorem State.loadTree_keeps (s : State) (n : Nat) (f : FgSlot) :
    (State.loadTree s n f).ident = s.ident ∧ (State.loadTree s n f).tick = s.tick ∧ (State.loadTree s n f).world = s.world ∧ (State.loadTree s n f).aster = s.aster ∧ (State.loadTree s n f).harebell = s.harebell ∧ (State.loadTree s n f).cornflower = s.cornflower ∧ (State.loadTree s n f).poppy = s.poppy ∧ (State.loadTree s n f).vetch = s.vetch ∧ (State.loadTree s n f).commit = s.commit ∧ (State.loadTree s n f).zheda = s.zheda ∧ (State.loadTree s n f).teasel = s.teasel ∧ (State.loadTree s n f).bindweed = s.bindweed ∧ (State.loadTree s n f).cowslip = s.cowslip ∧ (State.loadTree s n f).cmd = s.cmd ∧ (State.loadTree s n f).safety = s.safety ∧ (State.loadTree s n f).mem = s.mem ∧ (State.loadTree s n f).clock = s.clock ∧ (State.loadTree s n f).host = s.host ∧ (State.loadTree s n f).sec = s.sec ∧ (State.loadTree s n f).casc = s.casc ∧ (State.loadTree s n f).now = s.now ∧ (State.loadTree s n f).rdata = s.rdata ∧ (State.loadTree s n f).freeIx = s.freeIx ∧ (State.loadTree s n f).pending = s.pending := by
  unfold State.loadTree
  simp only []
  (repeat' split) <;> simp

@[simp ↓] theorem State.dropPending_keeps (s : State) :
    (State.dropPending s).ident = s.ident ∧ (State.dropPending s).tick = s.tick ∧ (State.dropPending s).world = s.world ∧ (State.dropPending s).aster = s.aster ∧ (State.dropPending s).harebell = s.harebell ∧ (State.dropPending s).cornflower = s.cornflower ∧ (State.dropPending s).poppy = s.poppy ∧ (State.dropPending s).vetch = s.vetch ∧ (State.dropPending s).commit = s.commit ∧ (State.dropPending s).zheda = s.zheda ∧ (State.dropPending s).teasel = s.teasel ∧ (State.dropPending s).bindweed = s.bindweed ∧ (State.dropPending s).cowslip = s.cowslip ∧ (State.dropPending s).cmd = s.cmd ∧ (State.dropPending s).safety = s.safety ∧ (State.dropPending s).mem = s.mem ∧ (State.dropPending s).clock = s.clock ∧ (State.dropPending s).host = s.host ∧ (State.dropPending s).sec = s.sec ∧ (State.dropPending s).casc = s.casc ∧ (State.dropPending s).now = s.now ∧ (State.dropPending s).rdata = s.rdata ∧ (State.dropPending s).freeIx = s.freeIx ∧ (State.dropPending s).pending = s.pending := by
  simp [State.dropPending]

@[simp ↓] theorem State.loadSlot_keeps (s : State) (n : Nat) (f : FgSlot) :
    (State.loadSlot s n f).ident = s.ident ∧ (State.loadSlot s n f).tick = s.tick ∧ (State.loadSlot s n f).world = s.world ∧ (State.loadSlot s n f).aster = s.aster ∧ (State.loadSlot s n f).harebell = s.harebell ∧ (State.loadSlot s n f).cornflower = s.cornflower ∧ (State.loadSlot s n f).vetch = s.vetch ∧ (State.loadSlot s n f).commit = s.commit ∧ (State.loadSlot s n f).zheda = s.zheda ∧ (State.loadSlot s n f).teasel = s.teasel ∧ (State.loadSlot s n f).bindweed = s.bindweed ∧ (State.loadSlot s n f).cowslip = s.cowslip ∧ (State.loadSlot s n f).cmd = s.cmd ∧ (State.loadSlot s n f).safety = s.safety ∧ (State.loadSlot s n f).mem = s.mem ∧ (State.loadSlot s n f).clock = s.clock ∧ (State.loadSlot s n f).host = s.host ∧ (State.loadSlot s n f).sec = s.sec ∧ (State.loadSlot s n f).casc = s.casc ∧ (State.loadSlot s n f).now = s.now ∧ (State.loadSlot s n f).rdata = s.rdata ∧ (State.loadSlot s n f).freeIx = s.freeIx ∧ (State.loadSlot s n f).pending = s.pending := by
  simp [State.loadSlot]

@[simp ↓] theorem contextLoadEffect_keeps (m : ItemFault) (s : State) :
    (contextLoadEffect m s).ident = s.ident ∧ (contextLoadEffect m s).aster = s.aster ∧ (contextLoadEffect m s).harebell = s.harebell ∧ (contextLoadEffect m s).bindweed = s.bindweed ∧ (contextLoadEffect m s).cowslip = s.cowslip ∧ (contextLoadEffect m s).cmd = s.cmd ∧ (contextLoadEffect m s).sec = s.sec ∧ (contextLoadEffect m s).now = s.now ∧ (contextLoadEffect m s).rdata = s.rdata ∧ (contextLoadEffect m s).pending = s.pending ∧ (contextLoadEffect m s).mem.ddr = s.mem.ddr ∧ (contextLoadEffect m s).mem.sram = s.mem.sram := by
  unfold contextLoadEffect State.item
  (repeat' split) <;> simp

@[simp ↓] theorem State.tileCounts_keeps (s : State) (live : List Evald) (gold : List GoldRun) (t : Nat) :
    (State.tileCounts s live gold t).ident = s.ident ∧ (State.tileCounts s live gold t).tick = s.tick ∧ (State.tileCounts s live gold t).aster = s.aster ∧ (State.tileCounts s live gold t).lupin = s.lupin ∧ (State.tileCounts s live gold t).cornflower = s.cornflower ∧ (State.tileCounts s live gold t).poppy = s.poppy ∧ (State.tileCounts s live gold t).vetch = s.vetch ∧ (State.tileCounts s live gold t).commit = s.commit ∧ (State.tileCounts s live gold t).zheda = s.zheda ∧ (State.tileCounts s live gold t).teasel = s.teasel ∧ (State.tileCounts s live gold t).bindweed = s.bindweed ∧ (State.tileCounts s live gold t).cowslip = s.cowslip ∧ (State.tileCounts s live gold t).cmd = s.cmd ∧ (State.tileCounts s live gold t).mem = s.mem ∧ (State.tileCounts s live gold t).sec = s.sec ∧ (State.tileCounts s live gold t).casc = s.casc ∧ (State.tileCounts s live gold t).now = s.now ∧ (State.tileCounts s live gold t).rdata = s.rdata ∧ (State.tileCounts s live gold t).pending = s.pending := by
  simp [State.tileCounts]

@[simp ↓] theorem State.roadmapBits_keeps (s : State) (live : List Evald) (n : Nat) (f : FgSlot) :
    (State.roadmapBits s live n f).ident = s.ident ∧ (State.roadmapBits s live n f).tick = s.tick ∧ (State.roadmapBits s live n f).world = s.world ∧ (State.roadmapBits s live n f).aster = s.aster ∧ (State.roadmapBits s live n f).harebell = s.harebell ∧ (State.roadmapBits s live n f).cornflower = s.cornflower ∧ (State.roadmapBits s live n f).poppy = s.poppy ∧ (State.roadmapBits s live n f).vetch = s.vetch ∧ (State.roadmapBits s live n f).commit = s.commit ∧ (State.roadmapBits s live n f).zheda = s.zheda ∧ (State.roadmapBits s live n f).teasel = s.teasel ∧ (State.roadmapBits s live n f).bindweed = s.bindweed ∧ (State.roadmapBits s live n f).cowslip = s.cowslip ∧ (State.roadmapBits s live n f).cmd = s.cmd ∧ (State.roadmapBits s live n f).safety = s.safety ∧ (State.roadmapBits s live n f).mem = s.mem ∧ (State.roadmapBits s live n f).clock = s.clock ∧ (State.roadmapBits s live n f).host = s.host ∧ (State.roadmapBits s live n f).sec = s.sec ∧ (State.roadmapBits s live n f).casc = s.casc ∧ (State.roadmapBits s live n f).now = s.now ∧ (State.roadmapBits s live n f).rdata = s.rdata ∧ (State.roadmapBits s live n f).freeIx = s.freeIx ∧ (State.roadmapBits s live n f).pending = s.pending := by
  simp [State.roadmapBits]

@[simp ↓] theorem State.fallbacks_keeps (s : State) (live : List Evald) (n : Nat) :
    (State.fallbacks s live n).ident = s.ident ∧ (State.fallbacks s live n).tick = s.tick ∧ (State.fallbacks s live n).world = s.world ∧ (State.fallbacks s live n).aster = s.aster ∧ (State.fallbacks s live n).harebell = s.harebell ∧ (State.fallbacks s live n).cornflower = s.cornflower ∧ (State.fallbacks s live n).poppy = s.poppy ∧ (State.fallbacks s live n).vetch = s.vetch ∧ (State.fallbacks s live n).commit = s.commit ∧ (State.fallbacks s live n).zheda = s.zheda ∧ (State.fallbacks s live n).teasel = s.teasel ∧ (State.fallbacks s live n).bindweed = s.bindweed ∧ (State.fallbacks s live n).cowslip = s.cowslip ∧ (State.fallbacks s live n).cmd = s.cmd ∧ (State.fallbacks s live n).safety = s.safety ∧ (State.fallbacks s live n).mem = s.mem ∧ (State.fallbacks s live n).clock = s.clock ∧ (State.fallbacks s live n).host = s.host ∧ (State.fallbacks s live n).sec = s.sec ∧ (State.fallbacks s live n).casc = s.casc ∧ (State.fallbacks s live n).now = s.now ∧ (State.fallbacks s live n).rdata = s.rdata ∧ (State.fallbacks s live n).freeIx = s.freeIx ∧ (State.fallbacks s live n).pending = s.pending := by
  simp [State.fallbacks]

@[simp ↓] theorem State.campion_keeps (s : State) (all : List GoldenRes) (g : GoldSetup) (r : GoldRun) :
    (State.campion s all g r).ident = s.ident ∧ (State.campion s all g r).tick = s.tick ∧ (State.campion s all g r).world = s.world ∧ (State.campion s all g r).aster = s.aster ∧ (State.campion s all g r).lupin = s.lupin ∧ (State.campion s all g r).harebell = s.harebell ∧ (State.campion s all g r).cornflower = s.cornflower ∧ (State.campion s all g r).poppy = s.poppy ∧ (State.campion s all g r).vetch = s.vetch ∧ (State.campion s all g r).commit = s.commit ∧ (State.campion s all g r).teasel = s.teasel ∧ (State.campion s all g r).bindweed = s.bindweed ∧ (State.campion s all g r).cowslip = s.cowslip ∧ (State.campion s all g r).cmd = s.cmd ∧ (State.campion s all g r).mem = s.mem ∧ (State.campion s all g r).sec = s.sec ∧ (State.campion s all g r).casc = s.casc ∧ (State.campion s all g r).now = s.now ∧ (State.campion s all g r).rdata = s.rdata ∧ (State.campion s all g r).pending = s.pending := by
  unfold State.campion
  (repeat' split) <;> simp

@[simp ↓] theorem State.flipStores_keeps (s : State) (flips : List (Nat × FsFlip)) :
    (State.flipStores s flips).ident = s.ident ∧ (State.flipStores s flips).tick = s.tick ∧ (State.flipStores s flips).aster = s.aster ∧ (State.flipStores s flips).lupin = s.lupin ∧ (State.flipStores s flips).harebell = s.harebell ∧ (State.flipStores s flips).cornflower = s.cornflower ∧ (State.flipStores s flips).poppy = s.poppy ∧ (State.flipStores s flips).vetch = s.vetch ∧ (State.flipStores s flips).commit = s.commit ∧ (State.flipStores s flips).zheda = s.zheda ∧ (State.flipStores s flips).teasel = s.teasel ∧ (State.flipStores s flips).bindweed = s.bindweed ∧ (State.flipStores s flips).cowslip = s.cowslip ∧ (State.flipStores s flips).cmd = s.cmd ∧ (State.flipStores s flips).safety = s.safety ∧ (State.flipStores s flips).mem = s.mem ∧ (State.flipStores s flips).clock = s.clock ∧ (State.flipStores s flips).host = s.host ∧ (State.flipStores s flips).sec = s.sec ∧ (State.flipStores s flips).casc = s.casc ∧ (State.flipStores s flips).now = s.now ∧ (State.flipStores s flips).rdata = s.rdata ∧ (State.flipStores s flips).freeIx = s.freeIx ∧ (State.flipStores s flips).pending = s.pending := by
  simp [State.flipStores]

@[simp ↓] theorem collisionPhaseEffect_keeps (m : ItemFault) (flips : List (Nat × FsFlip)) (s : State) :
    (collisionPhaseEffect m flips s).ident = s.ident ∧ (collisionPhaseEffect m flips s).tick = s.tick ∧ (collisionPhaseEffect m flips s).aster = s.aster ∧ (collisionPhaseEffect m flips s).cornflower = s.cornflower ∧ (collisionPhaseEffect m flips s).poppy = s.poppy ∧ (collisionPhaseEffect m flips s).vetch = s.vetch ∧ (collisionPhaseEffect m flips s).commit = s.commit ∧ (collisionPhaseEffect m flips s).bindweed = s.bindweed ∧ (collisionPhaseEffect m flips s).cowslip = s.cowslip ∧ (collisionPhaseEffect m flips s).cmd = s.cmd ∧ (collisionPhaseEffect m flips s).sec = s.sec ∧ (collisionPhaseEffect m flips s).casc = s.casc ∧ (collisionPhaseEffect m flips s).now = s.now ∧ (collisionPhaseEffect m flips s).rdata = s.rdata ∧ (collisionPhaseEffect m flips s).pending = s.pending ∧ (collisionPhaseEffect m flips s).mem.ddr = s.mem.ddr ∧ (collisionPhaseEffect m flips s).mem.sram = s.mem.sram := by
  unfold collisionPhaseEffect State.item
  dsimp only
  (repeat' split) <;> simp

@[simp ↓] theorem rosterTagRejectEffect_keeps (t : Nat) (gen : Half) (s : State) :
    (rosterTagRejectEffect t gen s).ident = s.ident ∧ (rosterTagRejectEffect t gen s).tick = s.tick ∧ (rosterTagRejectEffect t gen s).world = s.world ∧ (rosterTagRejectEffect t gen s).aster = s.aster ∧ (rosterTagRejectEffect t gen s).lupin = s.lupin ∧ (rosterTagRejectEffect t gen s).harebell = s.harebell ∧ (rosterTagRejectEffect t gen s).cornflower = s.cornflower ∧ (rosterTagRejectEffect t gen s).poppy = s.poppy ∧ (rosterTagRejectEffect t gen s).vetch = s.vetch ∧ (rosterTagRejectEffect t gen s).commit = s.commit ∧ (rosterTagRejectEffect t gen s).zheda = s.zheda ∧ (rosterTagRejectEffect t gen s).teasel = s.teasel ∧ (rosterTagRejectEffect t gen s).bindweed = s.bindweed ∧ (rosterTagRejectEffect t gen s).cowslip = s.cowslip ∧ (rosterTagRejectEffect t gen s).cmd = s.cmd ∧ (rosterTagRejectEffect t gen s).mem = s.mem ∧ (rosterTagRejectEffect t gen s).sec = s.sec ∧ (rosterTagRejectEffect t gen s).casc = s.casc ∧ (rosterTagRejectEffect t gen s).now = s.now ∧ (rosterTagRejectEffect t gen s).rdata = s.rdata ∧ (rosterTagRejectEffect t gen s).pending = s.pending := by
  simp [rosterTagRejectEffect]

@[simp ↓] theorem State.updFlow_keeps (s : State) (f : Nat) (g : Flow → Flow) :
    (State.updFlow s f g).ident = s.ident ∧ (State.updFlow s f g).tick = s.tick ∧ (State.updFlow s f g).world = s.world ∧ (State.updFlow s f g).aster = s.aster ∧ (State.updFlow s f g).lupin = s.lupin ∧ (State.updFlow s f g).harebell = s.harebell ∧ (State.updFlow s f g).cornflower = s.cornflower ∧ (State.updFlow s f g).poppy = s.poppy ∧ (State.updFlow s f g).vetch = s.vetch ∧ (State.updFlow s f g).commit = s.commit ∧ (State.updFlow s f g).zheda = s.zheda ∧ (State.updFlow s f g).bindweed = s.bindweed ∧ (State.updFlow s f g).cowslip = s.cowslip ∧ (State.updFlow s f g).cmd = s.cmd ∧ (State.updFlow s f g).safety = s.safety ∧ (State.updFlow s f g).mem = s.mem ∧ (State.updFlow s f g).clock = s.clock ∧ (State.updFlow s f g).host = s.host ∧ (State.updFlow s f g).sec = s.sec ∧ (State.updFlow s f g).casc = s.casc ∧ (State.updFlow s f g).now = s.now ∧ (State.updFlow s f g).rdata = s.rdata ∧ (State.updFlow s f g).freeIx = s.freeIx ∧ (State.updFlow s f g).pending = s.pending := by
  simp [State.updFlow]

@[simp ↓] theorem State.updPool_keeps (s : State) (n : Nat) (g : PoolEntry → PoolEntry) :
    (State.updPool s n g).ident = s.ident ∧ (State.updPool s n g).tick = s.tick ∧ (State.updPool s n g).world = s.world ∧ (State.updPool s n g).aster = s.aster ∧ (State.updPool s n g).lupin = s.lupin ∧ (State.updPool s n g).harebell = s.harebell ∧ (State.updPool s n g).cornflower = s.cornflower ∧ (State.updPool s n g).poppy = s.poppy ∧ (State.updPool s n g).vetch = s.vetch ∧ (State.updPool s n g).commit = s.commit ∧ (State.updPool s n g).zheda = s.zheda ∧ (State.updPool s n g).bindweed = s.bindweed ∧ (State.updPool s n g).cowslip = s.cowslip ∧ (State.updPool s n g).cmd = s.cmd ∧ (State.updPool s n g).safety = s.safety ∧ (State.updPool s n g).mem = s.mem ∧ (State.updPool s n g).clock = s.clock ∧ (State.updPool s n g).host = s.host ∧ (State.updPool s n g).sec = s.sec ∧ (State.updPool s n g).casc = s.casc ∧ (State.updPool s n g).now = s.now ∧ (State.updPool s n g).rdata = s.rdata ∧ (State.updPool s n g).freeIx = s.freeIx ∧ (State.updPool s n g).pending = s.pending := by
  simp [State.updPool]

@[simp ↓] theorem State.refreshFlow_keeps (s : State) (f : Nat) :
    (State.refreshFlow s f).ident = s.ident ∧ (State.refreshFlow s f).tick = s.tick ∧ (State.refreshFlow s f).world = s.world ∧ (State.refreshFlow s f).aster = s.aster ∧ (State.refreshFlow s f).lupin = s.lupin ∧ (State.refreshFlow s f).harebell = s.harebell ∧ (State.refreshFlow s f).cornflower = s.cornflower ∧ (State.refreshFlow s f).poppy = s.poppy ∧ (State.refreshFlow s f).vetch = s.vetch ∧ (State.refreshFlow s f).commit = s.commit ∧ (State.refreshFlow s f).zheda = s.zheda ∧ (State.refreshFlow s f).bindweed = s.bindweed ∧ (State.refreshFlow s f).cowslip = s.cowslip ∧ (State.refreshFlow s f).cmd = s.cmd ∧ (State.refreshFlow s f).safety = s.safety ∧ (State.refreshFlow s f).mem = s.mem ∧ (State.refreshFlow s f).clock = s.clock ∧ (State.refreshFlow s f).host = s.host ∧ (State.refreshFlow s f).sec = s.sec ∧ (State.refreshFlow s f).casc = s.casc ∧ (State.refreshFlow s f).now = s.now ∧ (State.refreshFlow s f).rdata = s.rdata ∧ (State.refreshFlow s f).freeIx = s.freeIx ∧ (State.refreshFlow s f).pending = s.pending := by
  simp [State.refreshFlow]

@[simp ↓] theorem State.closeFlow_keeps (s : State) (f : Nat) :
    (State.closeFlow s f).ident = s.ident ∧ (State.closeFlow s f).tick = s.tick ∧ (State.closeFlow s f).world = s.world ∧ (State.closeFlow s f).aster = s.aster ∧ (State.closeFlow s f).lupin = s.lupin ∧ (State.closeFlow s f).harebell = s.harebell ∧ (State.closeFlow s f).cornflower = s.cornflower ∧ (State.closeFlow s f).poppy = s.poppy ∧ (State.closeFlow s f).vetch = s.vetch ∧ (State.closeFlow s f).commit = s.commit ∧ (State.closeFlow s f).zheda = s.zheda ∧ (State.closeFlow s f).bindweed = s.bindweed ∧ (State.closeFlow s f).safety = s.safety ∧ (State.closeFlow s f).mem = s.mem ∧ (State.closeFlow s f).clock = s.clock ∧ (State.closeFlow s f).sec = s.sec ∧ (State.closeFlow s f).casc = s.casc ∧ (State.closeFlow s f).now = s.now ∧ (State.closeFlow s f).rdata = s.rdata ∧ (State.closeFlow s f).freeIx = s.freeIx ∧ (State.closeFlow s f).pending = s.pending := by
  unfold State.closeFlow
  simp only []
  (repeat' split) <;> simp

@[simp ↓] theorem State.freeItem_keeps (s : State) (n : Nat) :
    (State.freeItem s n).ident = s.ident ∧ (State.freeItem s n).tick = s.tick ∧ (State.freeItem s n).world = s.world ∧ (State.freeItem s n).aster = s.aster ∧ (State.freeItem s n).lupin = s.lupin ∧ (State.freeItem s n).harebell = s.harebell ∧ (State.freeItem s n).cornflower = s.cornflower ∧ (State.freeItem s n).poppy = s.poppy ∧ (State.freeItem s n).vetch = s.vetch ∧ (State.freeItem s n).commit = s.commit ∧ (State.freeItem s n).zheda = s.zheda ∧ (State.freeItem s n).bindweed = s.bindweed ∧ (State.freeItem s n).safety = s.safety ∧ (State.freeItem s n).mem = s.mem ∧ (State.freeItem s n).clock = s.clock ∧ (State.freeItem s n).sec = s.sec ∧ (State.freeItem s n).casc = s.casc ∧ (State.freeItem s n).now = s.now ∧ (State.freeItem s n).rdata = s.rdata ∧ (State.freeItem s n).freeIx = s.freeIx ∧ (State.freeItem s n).pending = s.pending := by
  unfold State.freeItem
  (repeat' split) <;> simp

@[simp ↓] theorem State.unplaceItem_keeps (s : State) (n : Nat) (e : PoolEntry) :
    (State.unplaceItem s n e).ident = s.ident ∧ (State.unplaceItem s n e).tick = s.tick ∧ (State.unplaceItem s n e).world = s.world ∧ (State.unplaceItem s n e).aster = s.aster ∧ (State.unplaceItem s n e).lupin = s.lupin ∧ (State.unplaceItem s n e).harebell = s.harebell ∧ (State.unplaceItem s n e).cornflower = s.cornflower ∧ (State.unplaceItem s n e).poppy = s.poppy ∧ (State.unplaceItem s n e).vetch = s.vetch ∧ (State.unplaceItem s n e).commit = s.commit ∧ (State.unplaceItem s n e).zheda = s.zheda ∧ (State.unplaceItem s n e).bindweed = s.bindweed ∧ (State.unplaceItem s n e).cowslip = s.cowslip ∧ (State.unplaceItem s n e).cmd = s.cmd ∧ (State.unplaceItem s n e).safety = s.safety ∧ (State.unplaceItem s n e).mem = s.mem ∧ (State.unplaceItem s n e).clock = s.clock ∧ (State.unplaceItem s n e).host = s.host ∧ (State.unplaceItem s n e).sec = s.sec ∧ (State.unplaceItem s n e).casc = s.casc ∧ (State.unplaceItem s n e).now = s.now ∧ (State.unplaceItem s n e).rdata = s.rdata ∧ (State.unplaceItem s n e).freeIx = s.freeIx ∧ (State.unplaceItem s n e).pending = s.pending := by
  simp [State.unplaceItem]

@[simp ↓] theorem State.endItem_keeps (s : State) (n : Nat) (st : Status) (out : List Byte) :
    (State.endItem s n st out).ident = s.ident ∧ (State.endItem s n st out).tick = s.tick ∧ (State.endItem s n st out).world = s.world ∧ (State.endItem s n st out).aster = s.aster ∧ (State.endItem s n st out).lupin = s.lupin ∧ (State.endItem s n st out).harebell = s.harebell ∧ (State.endItem s n st out).cornflower = s.cornflower ∧ (State.endItem s n st out).poppy = s.poppy ∧ (State.endItem s n st out).vetch = s.vetch ∧ (State.endItem s n st out).commit = s.commit ∧ (State.endItem s n st out).zheda = s.zheda ∧ (State.endItem s n st out).bindweed = s.bindweed ∧ (State.endItem s n st out).safety = s.safety ∧ (State.endItem s n st out).clock = s.clock ∧ (State.endItem s n st out).sec = s.sec ∧ (State.endItem s n st out).casc = s.casc ∧ (State.endItem s n st out).now = s.now ∧ (State.endItem s n st out).rdata = s.rdata ∧ (State.endItem s n st out).freeIx = s.freeIx ∧ (State.endItem s n st out).pending = s.pending := by
  unfold State.endItem
  (repeat' split) <;> simp

@[simp ↓] theorem State.putItem_keeps (s : State) (f : Nat) (b : List Byte) :
    (State.putItem s f b).ident = s.ident ∧ (State.putItem s f b).tick = s.tick ∧ (State.putItem s f b).world = s.world ∧ (State.putItem s f b).aster = s.aster ∧ (State.putItem s f b).lupin = s.lupin ∧ (State.putItem s f b).harebell = s.harebell ∧ (State.putItem s f b).cornflower = s.cornflower ∧ (State.putItem s f b).poppy = s.poppy ∧ (State.putItem s f b).vetch = s.vetch ∧ (State.putItem s f b).commit = s.commit ∧ (State.putItem s f b).zheda = s.zheda ∧ (State.putItem s f b).bindweed = s.bindweed ∧ (State.putItem s f b).cowslip = s.cowslip ∧ (State.putItem s f b).cmd = s.cmd ∧ (State.putItem s f b).safety = s.safety ∧ (State.putItem s f b).mem = s.mem ∧ (State.putItem s f b).clock = s.clock ∧ (State.putItem s f b).host = s.host ∧ (State.putItem s f b).sec = s.sec ∧ (State.putItem s f b).casc = s.casc ∧ (State.putItem s f b).now = s.now ∧ (State.putItem s f b).rdata = s.rdata ∧ (State.putItem s f b).freeIx = s.freeIx ∧ (State.putItem s f b).pending = s.pending := by
  simp [State.putItem]

@[simp ↓] theorem State.pushFull_keeps (s : State) (h : Hdr) (delay : Bool) :
    (State.pushFull s h delay).ident = s.ident ∧ (State.pushFull s h delay).tick = s.tick ∧ (State.pushFull s h delay).world = s.world ∧ (State.pushFull s h delay).aster = s.aster ∧ (State.pushFull s h delay).lupin = s.lupin ∧ (State.pushFull s h delay).harebell = s.harebell ∧ (State.pushFull s h delay).cornflower = s.cornflower ∧ (State.pushFull s h delay).poppy = s.poppy ∧ (State.pushFull s h delay).vetch = s.vetch ∧ (State.pushFull s h delay).commit = s.commit ∧ (State.pushFull s h delay).zheda = s.zheda ∧ (State.pushFull s h delay).bindweed = s.bindweed ∧ (State.pushFull s h delay).safety = s.safety ∧ (State.pushFull s h delay).mem = s.mem ∧ (State.pushFull s h delay).clock = s.clock ∧ (State.pushFull s h delay).sec = s.sec ∧ (State.pushFull s h delay).casc = s.casc ∧ (State.pushFull s h delay).now = s.now ∧ (State.pushFull s h delay).rdata = s.rdata ∧ (State.pushFull s h delay).freeIx = s.freeIx ∧ (State.pushFull s h delay).pending = s.pending := by
  simp [State.pushFull]

@[simp ↓] theorem State.takePush_keeps (s : State) (h : Hdr) (f : Nat) (items : List (List Byte)) :
    (State.takePush s h f items).ident = s.ident ∧ (State.takePush s h f items).tick = s.tick ∧ (State.takePush s h f items).world = s.world ∧ (State.takePush s h f items).aster = s.aster ∧ (State.takePush s h f items).lupin = s.lupin ∧ (State.takePush s h f items).harebell = s.harebell ∧ (State.takePush s h f items).cornflower = s.cornflower ∧ (State.takePush s h f items).poppy = s.poppy ∧ (State.takePush s h f items).vetch = s.vetch ∧ (State.takePush s h f items).commit = s.commit ∧ (State.takePush s h f items).zheda = s.zheda ∧ (State.takePush s h f items).bindweed = s.bindweed ∧ (State.takePush s h f items).safety = s.safety ∧ (State.takePush s h f items).mem = s.mem ∧ (State.takePush s h f items).clock = s.clock ∧ (State.takePush s h f items).sec = s.sec ∧ (State.takePush s h f items).casc = s.casc ∧ (State.takePush s h f items).now = s.now ∧ (State.takePush s h f items).rdata = s.rdata ∧ (State.takePush s h f items).freeIx = s.freeIx ∧ (State.takePush s h f items).pending = s.pending := by
  simp [State.takePush]

@[simp ↓] theorem State.retryHeld_keeps (s : State) :
    (State.retryHeld s).ident = s.ident ∧ (State.retryHeld s).tick = s.tick ∧ (State.retryHeld s).world = s.world ∧ (State.retryHeld s).aster = s.aster ∧ (State.retryHeld s).lupin = s.lupin ∧ (State.retryHeld s).harebell = s.harebell ∧ (State.retryHeld s).cornflower = s.cornflower ∧ (State.retryHeld s).poppy = s.poppy ∧ (State.retryHeld s).vetch = s.vetch ∧ (State.retryHeld s).commit = s.commit ∧ (State.retryHeld s).zheda = s.zheda ∧ (State.retryHeld s).bindweed = s.bindweed ∧ (State.retryHeld s).safety = s.safety ∧ (State.retryHeld s).mem = s.mem ∧ (State.retryHeld s).clock = s.clock ∧ (State.retryHeld s).sec = s.sec ∧ (State.retryHeld s).casc = s.casc ∧ (State.retryHeld s).now = s.now ∧ (State.retryHeld s).rdata = s.rdata ∧ (State.retryHeld s).freeIx = s.freeIx ∧ (State.retryHeld s).pending = s.pending := by
  unfold State.retryHeld
  refine ⟨?_, ?_, ?_, ?_, ?_, ?_, ?_, ?_, ?_, ?_, ?_, ?_, ?_, ?_, ?_, ?_, ?_, ?_, ?_, ?_, ?_⟩ <;> (repeat' (first | with_reducible rfl | (simp; done) | (with_reducible intro _) | (with_reducible apply State.item_proj) | (with_reducible apply State.guarded_proj) | (with_reducible apply State.counterOp_proj) | (with_reducible apply State.packet_proj) | (with_reducible refine Eq.trans (foldl_proj _ _ _ _ ?_) ?_) | (with_reducible refine Eq.trans (foldl_fst_proj _ _ _ _ ?_) ?_) | (with_reducible refine Eq.trans (foldl_snd_proj _ _ _ _ ?_) ?_) | split | (simp only []; split) | (dsimp only; split)))

@[simp ↓] theorem State.completeItem_keeps (s : State) (n : Nat) (st : Status) (out : List Byte) :
    (State.completeItem s n st out).ident = s.ident ∧ (State.completeItem s n st out).tick = s.tick ∧ (State.completeItem s n st out).world = s.world ∧ (State.completeItem s n st out).aster = s.aster ∧ (State.completeItem s n st out).lupin = s.lupin ∧ (State.completeItem s n st out).harebell = s.harebell ∧ (State.completeItem s n st out).cornflower = s.cornflower ∧ (State.completeItem s n st out).poppy = s.poppy ∧ (State.completeItem s n st out).vetch = s.vetch ∧ (State.completeItem s n st out).commit = s.commit ∧ (State.completeItem s n st out).zheda = s.zheda ∧ (State.completeItem s n st out).bindweed = s.bindweed ∧ (State.completeItem s n st out).safety = s.safety ∧ (State.completeItem s n st out).clock = s.clock ∧ (State.completeItem s n st out).sec = s.sec ∧ (State.completeItem s n st out).casc = s.casc ∧ (State.completeItem s n st out).now = s.now ∧ (State.completeItem s n st out).rdata = s.rdata ∧ (State.completeItem s n st out).freeIx = s.freeIx ∧ (State.completeItem s n st out).pending = s.pending := by
  simp [State.completeItem]

@[simp ↓] theorem State.openFlow_keeps (s : State) (f : Nat) (atomic refuse : Bool) (level cq dlExp qlimit : Nat) :
    (State.openFlow s f atomic refuse level cq dlExp qlimit).ident = s.ident ∧ (State.openFlow s f atomic refuse level cq dlExp qlimit).tick = s.tick ∧ (State.openFlow s f atomic refuse level cq dlExp qlimit).world = s.world ∧ (State.openFlow s f atomic refuse level cq dlExp qlimit).aster = s.aster ∧ (State.openFlow s f atomic refuse level cq dlExp qlimit).lupin = s.lupin ∧ (State.openFlow s f atomic refuse level cq dlExp qlimit).harebell = s.harebell ∧ (State.openFlow s f atomic refuse level cq dlExp qlimit).cornflower = s.cornflower ∧ (State.openFlow s f atomic refuse level cq dlExp qlimit).poppy = s.poppy ∧ (State.openFlow s f atomic refuse level cq dlExp qlimit).vetch = s.vetch ∧ (State.openFlow s f atomic refuse level cq dlExp qlimit).commit = s.commit ∧ (State.openFlow s f atomic refuse level cq dlExp qlimit).zheda = s.zheda ∧ (State.openFlow s f atomic refuse level cq dlExp qlimit).bindweed = s.bindweed ∧ (State.openFlow s f atomic refuse level cq dlExp qlimit).cowslip = s.cowslip ∧ (State.openFlow s f atomic refuse level cq dlExp qlimit).cmd = s.cmd ∧ (State.openFlow s f atomic refuse level cq dlExp qlimit).safety = s.safety ∧ (State.openFlow s f atomic refuse level cq dlExp qlimit).mem = s.mem ∧ (State.openFlow s f atomic refuse level cq dlExp qlimit).clock = s.clock ∧ (State.openFlow s f atomic refuse level cq dlExp qlimit).host = s.host ∧ (State.openFlow s f atomic refuse level cq dlExp qlimit).sec = s.sec ∧ (State.openFlow s f atomic refuse level cq dlExp qlimit).casc = s.casc ∧ (State.openFlow s f atomic refuse level cq dlExp qlimit).now = s.now ∧ (State.openFlow s f atomic refuse level cq dlExp qlimit).rdata = s.rdata ∧ (State.openFlow s f atomic refuse level cq dlExp qlimit).freeIx = s.freeIx ∧ (State.openFlow s f atomic refuse level cq dlExp qlimit).pending = s.pending := by
  simp [State.openFlow]

@[simp ↓] theorem flowOpenEffect_keeps (h : Hdr) (f atomic policy level cq dlExp qlimit : Nat) (s : State) :
    (flowOpenEffect h f atomic policy level cq dlExp qlimit s).ident = s.ident ∧ (flowOpenEffect h f atomic policy level cq dlExp qlimit s).tick = s.tick ∧ (flowOpenEffect h f atomic policy level cq dlExp qlimit s).world = s.world ∧ (flowOpenEffect h f atomic policy level cq dlExp qlimit s).aster = s.aster ∧ (flowOpenEffect h f atomic policy level cq dlExp qlimit s).lupin = s.lupin ∧ (flowOpenEffect h f atomic policy level cq dlExp qlimit s).harebell = s.harebell ∧ (flowOpenEffect h f atomic policy level cq dlExp qlimit s).cornflower = s.cornflower ∧ (flowOpenEffect h f atomic policy level cq dlExp qlimit s).poppy = s.poppy ∧ (flowOpenEffect h f atomic policy level cq dlExp qlimit s).vetch = s.vetch ∧ (flowOpenEffect h f atomic policy level cq dlExp qlimit s).commit = s.commit ∧ (flowOpenEffect h f atomic policy level cq dlExp qlimit s).zheda = s.zheda ∧ (flowOpenEffect h f atomic policy level cq dlExp qlimit s).bindweed = s.bindweed ∧ (flowOpenEffect h f atomic policy level cq dlExp qlimit s).safety = s.safety ∧ (flowOpenEffect h f atomic policy level cq dlExp qlimit s).mem = s.mem ∧ (flowOpenEffect h f atomic policy level cq dlExp qlimit s).clock = s.clock ∧ (flowOpenEffect h f atomic policy level cq dlExp qlimit s).sec = s.sec ∧ (flowOpenEffect h f atomic policy level cq dlExp qlimit s).casc = s.casc ∧ (flowOpenEffect h f atomic policy level cq dlExp qlimit s).now = s.now ∧ (flowOpenEffect h f atomic policy level cq dlExp qlimit s).rdata = s.rdata ∧ (flowOpenEffect h f atomic policy level cq dlExp qlimit s).freeIx = s.freeIx ∧ (flowOpenEffect h f atomic policy level cq dlExp qlimit s).pending = s.pending := by
  unfold flowOpenEffect
  refine ⟨?_, ?_, ?_, ?_, ?_, ?_, ?_, ?_, ?_, ?_, ?_, ?_, ?_, ?_, ?_, ?_, ?_, ?_, ?_, ?_, ?_⟩ <;> (repeat' (first | with_reducible rfl | (simp; done) | (with_reducible intro _) | (with_reducible apply State.item_proj) | (with_reducible apply State.guarded_proj) | (with_reducible apply State.counterOp_proj) | (with_reducible apply State.packet_proj) | (with_reducible refine Eq.trans (foldl_proj _ _ _ _ ?_) ?_) | (with_reducible refine Eq.trans (foldl_fst_proj _ _ _ _ ?_) ?_) | (with_reducible refine Eq.trans (foldl_snd_proj _ _ _ _ ?_) ?_) | split | (simp only []; split) | (dsimp only; split)))

@[simp ↓] theorem flowPushEffect_keeps (h : Hdr) (f : Nat) (items : List (List Byte)) (s : State) :
    (flowPushEffect h f items s).ident = s.ident ∧ (flowPushEffect h f items s).tick = s.tick ∧ (flowPushEffect h f items s).world = s.world ∧ (flowPushEffect h f items s).aster = s.aster ∧ (flowPushEffect h f items s).lupin = s.lupin ∧ (flowPushEffect h f items s).harebell = s.harebell ∧ (flowPushEffect h f items s).cornflower = s.cornflower ∧ (flowPushEffect h f items s).vetch = s.vetch ∧ (flowPushEffect h f items s).commit = s.commit ∧ (flowPushEffect h f items s).zheda = s.zheda ∧ (flowPushEffect h f items s).bindweed = s.bindweed ∧ (flowPushEffect h f items s).safety = s.safety ∧ (flowPushEffect h f items s).mem = s.mem ∧ (flowPushEffect h f items s).clock = s.clock ∧ (flowPushEffect h f items s).sec = s.sec ∧ (flowPushEffect h f items s).casc = s.casc ∧ (flowPushEffect h f items s).now = s.now ∧ (flowPushEffect h f items s).rdata = s.rdata ∧ (flowPushEffect h f items s).freeIx = s.freeIx ∧ (flowPushEffect h f items s).pending = s.pending := by
  unfold flowPushEffect
  refine ⟨?_, ?_, ?_, ?_, ?_, ?_, ?_, ?_, ?_, ?_, ?_, ?_, ?_, ?_, ?_, ?_, ?_, ?_, ?_, ?_⟩ <;> (repeat' (first | with_reducible rfl | (simp; done) | (with_reducible intro _) | (with_reducible apply State.item_proj) | (with_reducible apply State.guarded_proj) | (with_reducible apply State.counterOp_proj) | (with_reducible apply State.packet_proj) | (with_reducible refine Eq.trans (foldl_proj _ _ _ _ ?_) ?_) | (with_reducible refine Eq.trans (foldl_fst_proj _ _ _ _ ?_) ?_) | (with_reducible refine Eq.trans (foldl_snd_proj _ _ _ _ ?_) ?_) | split | (simp only []; split) | (dsimp only; split)))

@[simp ↓] theorem State.cancelHeld_keeps (s : State) (f : Nat) :
    (State.cancelHeld s f).ident = s.ident ∧ (State.cancelHeld s f).tick = s.tick ∧ (State.cancelHeld s f).world = s.world ∧ (State.cancelHeld s f).aster = s.aster ∧ (State.cancelHeld s f).lupin = s.lupin ∧ (State.cancelHeld s f).harebell = s.harebell ∧ (State.cancelHeld s f).cornflower = s.cornflower ∧ (State.cancelHeld s f).poppy = s.poppy ∧ (State.cancelHeld s f).vetch = s.vetch ∧ (State.cancelHeld s f).commit = s.commit ∧ (State.cancelHeld s f).zheda = s.zheda ∧ (State.cancelHeld s f).bindweed = s.bindweed ∧ (State.cancelHeld s f).safety = s.safety ∧ (State.cancelHeld s f).mem = s.mem ∧ (State.cancelHeld s f).clock = s.clock ∧ (State.cancelHeld s f).sec = s.sec ∧ (State.cancelHeld s f).casc = s.casc ∧ (State.cancelHeld s f).now = s.now ∧ (State.cancelHeld s f).rdata = s.rdata ∧ (State.cancelHeld s f).freeIx = s.freeIx ∧ (State.cancelHeld s f).pending = s.pending := by
  simp [State.cancelHeld]

@[simp ↓] theorem flowCloseEffect_keeps (h : Hdr) (f : Nat) (s : State) :
    (flowCloseEffect h f s).ident = s.ident ∧ (flowCloseEffect h f s).tick = s.tick ∧ (flowCloseEffect h f s).world = s.world ∧ (flowCloseEffect h f s).aster = s.aster ∧ (flowCloseEffect h f s).lupin = s.lupin ∧ (flowCloseEffect h f s).harebell = s.harebell ∧ (flowCloseEffect h f s).cornflower = s.cornflower ∧ (flowCloseEffect h f s).poppy = s.poppy ∧ (flowCloseEffect h f s).vetch = s.vetch ∧ (flowCloseEffect h f s).commit = s.commit ∧ (flowCloseEffect h f s).zheda = s.zheda ∧ (flowCloseEffect h f s).bindweed = s.bindweed ∧ (flowCloseEffect h f s).safety = s.safety ∧ (flowCloseEffect h f s).mem = s.mem ∧ (flowCloseEffect h f s).clock = s.clock ∧ (flowCloseEffect h f s).sec = s.sec ∧ (flowCloseEffect h f s).casc = s.casc ∧ (flowCloseEffect h f s).now = s.now ∧ (flowCloseEffect h f s).rdata = s.rdata ∧ (flowCloseEffect h f s).freeIx = s.freeIx ∧ (flowCloseEffect h f s).pending = s.pending := by
  unfold flowCloseEffect
  refine ⟨?_, ?_, ?_, ?_, ?_, ?_, ?_, ?_, ?_, ?_, ?_, ?_, ?_, ?_, ?_, ?_, ?_, ?_, ?_, ?_, ?_⟩ <;> (repeat' (first | with_reducible rfl | (simp; done) | (with_reducible intro _) | (with_reducible apply State.item_proj) | (with_reducible apply State.guarded_proj) | (with_reducible apply State.counterOp_proj) | (with_reducible apply State.packet_proj) | (with_reducible refine Eq.trans (foldl_proj _ _ _ _ ?_) ?_) | (with_reducible refine Eq.trans (foldl_fst_proj _ _ _ _ ?_) ?_) | (with_reducible refine Eq.trans (foldl_snd_proj _ _ _ _ ?_) ?_) | split | (simp only []; split) | (dsimp only; split)))

@[simp ↓] theorem State.flushHeldItem_keeps (s : State) (f : Nat) (b : List Byte) :
    (State.flushHeldItem s f b).ident = s.ident ∧ (State.flushHeldItem s f b).tick = s.tick ∧ (State.flushHeldItem s f b).world = s.world ∧ (State.flushHeldItem s f b).aster = s.aster ∧ (State.flushHeldItem s f b).lupin = s.lupin ∧ (State.flushHeldItem s f b).harebell = s.harebell ∧ (State.flushHeldItem s f b).cornflower = s.cornflower ∧ (State.flushHeldItem s f b).poppy = s.poppy ∧ (State.flushHeldItem s f b).vetch = s.vetch ∧ (State.flushHeldItem s f b).commit = s.commit ∧ (State.flushHeldItem s f b).zheda = s.zheda ∧ (State.flushHeldItem s f b).bindweed = s.bindweed ∧ (State.flushHeldItem s f b).safety = s.safety ∧ (State.flushHeldItem s f b).mem = s.mem ∧ (State.flushHeldItem s f b).clock = s.clock ∧ (State.flushHeldItem s f b).sec = s.sec ∧ (State.flushHeldItem s f b).casc = s.casc ∧ (State.flushHeldItem s f b).now = s.now ∧ (State.flushHeldItem s f b).rdata = s.rdata ∧ (State.flushHeldItem s f b).freeIx = s.freeIx ∧ (State.flushHeldItem s f b).pending = s.pending := by
  simp [State.flushHeldItem]

@[simp ↓] theorem flowFlushEffect_keeps (h : Hdr) (f : Nat) (s : State) :
    (flowFlushEffect h f s).ident = s.ident ∧ (flowFlushEffect h f s).tick = s.tick ∧ (flowFlushEffect h f s).world = s.world ∧ (flowFlushEffect h f s).aster = s.aster ∧ (flowFlushEffect h f s).lupin = s.lupin ∧ (flowFlushEffect h f s).harebell = s.harebell ∧ (flowFlushEffect h f s).cornflower = s.cornflower ∧ (flowFlushEffect h f s).poppy = s.poppy ∧ (flowFlushEffect h f s).vetch = s.vetch ∧ (flowFlushEffect h f s).commit = s.commit ∧ (flowFlushEffect h f s).zheda = s.zheda ∧ (flowFlushEffect h f s).bindweed = s.bindweed ∧ (flowFlushEffect h f s).safety = s.safety ∧ (flowFlushEffect h f s).clock = s.clock ∧ (flowFlushEffect h f s).sec = s.sec ∧ (flowFlushEffect h f s).casc = s.casc ∧ (flowFlushEffect h f s).now = s.now ∧ (flowFlushEffect h f s).rdata = s.rdata ∧ (flowFlushEffect h f s).freeIx = s.freeIx ∧ (flowFlushEffect h f s).pending = s.pending := by
  unfold flowFlushEffect
  refine ⟨?_, ?_, ?_, ?_, ?_, ?_, ?_, ?_, ?_, ?_, ?_, ?_, ?_, ?_, ?_, ?_, ?_, ?_, ?_, ?_⟩ <;> (repeat' (first | with_reducible rfl | (simp; done) | (with_reducible intro _) | (with_reducible apply State.item_proj) | (with_reducible apply State.guarded_proj) | (with_reducible apply State.counterOp_proj) | (with_reducible apply State.packet_proj) | (with_reducible refine Eq.trans (foldl_proj _ _ _ _ ?_) ?_) | (with_reducible refine Eq.trans (foldl_fst_proj _ _ _ _ ?_) ?_) | (with_reducible refine Eq.trans (foldl_snd_proj _ _ _ _ ?_) ?_) | split | (simp only []; split) | (dsimp only; split)))

@[simp ↓] theorem flowReadEffect_keeps (h : Hdr) (f : Nat) (s : State) :
    (flowReadEffect h f s).ident = s.ident ∧ (flowReadEffect h f s).tick = s.tick ∧ (flowReadEffect h f s).world = s.world ∧ (flowReadEffect h f s).aster = s.aster ∧ (flowReadEffect h f s).lupin = s.lupin ∧ (flowReadEffect h f s).harebell = s.harebell ∧ (flowReadEffect h f s).cornflower = s.cornflower ∧ (flowReadEffect h f s).poppy = s.poppy ∧ (flowReadEffect h f s).vetch = s.vetch ∧ (flowReadEffect h f s).commit = s.commit ∧ (flowReadEffect h f s).zheda = s.zheda ∧ (flowReadEffect h f s).teasel = s.teasel ∧ (flowReadEffect h f s).bindweed = s.bindweed ∧ (flowReadEffect h f s).safety = s.safety ∧ (flowReadEffect h f s).mem = s.mem ∧ (flowReadEffect h f s).clock = s.clock ∧ (flowReadEffect h f s).sec = s.sec ∧ (flowReadEffect h f s).casc = s.casc ∧ (flowReadEffect h f s).now = s.now ∧ (flowReadEffect h f s).rdata = s.rdata ∧ (flowReadEffect h f s).freeIx = s.freeIx ∧ (flowReadEffect h f s).pending = s.pending := by
  unfold flowReadEffect
  refine ⟨?_, ?_, ?_, ?_, ?_, ?_, ?_, ?_, ?_, ?_, ?_, ?_, ?_, ?_, ?_, ?_, ?_, ?_, ?_, ?_, ?_, ?_⟩ <;> (repeat' (first | with_reducible rfl | (simp; done) | (with_reducible intro _) | (with_reducible apply State.item_proj) | (with_reducible apply State.guarded_proj) | (with_reducible apply State.counterOp_proj) | (with_reducible apply State.packet_proj) | (with_reducible refine Eq.trans (foldl_proj _ _ _ _ ?_) ?_) | (with_reducible refine Eq.trans (foldl_fst_proj _ _ _ _ ?_) ?_) | (with_reducible refine Eq.trans (foldl_snd_proj _ _ _ _ ?_) ?_) | split | (simp only []; split) | (dsimp only; split)))

@[simp ↓] theorem timerSetEffect_keeps (h : Hdr) (due dest arg : Nat) (s : State) :
    (timerSetEffect h due dest arg s).ident = s.ident ∧ (timerSetEffect h due dest arg s).tick = s.tick ∧ (timerSetEffect h due dest arg s).world = s.world ∧ (timerSetEffect h due dest arg s).aster = s.aster ∧ (timerSetEffect h due dest arg s).lupin = s.lupin ∧ (timerSetEffect h due dest arg s).harebell = s.harebell ∧ (timerSetEffect h due dest arg s).cornflower = s.cornflower ∧ (timerSetEffect h due dest arg s).poppy = s.poppy ∧ (timerSetEffect h due dest arg s).vetch = s.vetch ∧ (timerSetEffect h due dest arg s).commit = s.commit ∧ (timerSetEffect h due dest arg s).zheda = s.zheda ∧ (timerSetEffect h due dest arg s).bindweed = s.bindweed ∧ (timerSetEffect h due dest arg s).safety = s.safety ∧ (timerSetEffect h due dest arg s).mem = s.mem ∧ (timerSetEffect h due dest arg s).clock = s.clock ∧ (timerSetEffect h due dest arg s).sec = s.sec ∧ (timerSetEffect h due dest arg s).casc = s.casc ∧ (timerSetEffect h due dest arg s).now = s.now ∧ (timerSetEffect h due dest arg s).rdata = s.rdata ∧ (timerSetEffect h due dest arg s).freeIx = s.freeIx ∧ (timerSetEffect h due dest arg s).pending = s.pending := by
  unfold timerSetEffect
  refine ⟨?_, ?_, ?_, ?_, ?_, ?_, ?_, ?_, ?_, ?_, ?_, ?_, ?_, ?_, ?_, ?_, ?_, ?_, ?_, ?_, ?_⟩ <;> (repeat' (first | with_reducible rfl | (simp; done) | (with_reducible intro _) | (with_reducible apply State.item_proj) | (with_reducible apply State.guarded_proj) | (with_reducible apply State.counterOp_proj) | (with_reducible apply State.packet_proj) | (with_reducible refine Eq.trans (foldl_proj _ _ _ _ ?_) ?_) | (with_reducible refine Eq.trans (foldl_fst_proj _ _ _ _ ?_) ?_) | (with_reducible refine Eq.trans (foldl_snd_proj _ _ _ _ ?_) ?_) | split | (simp only []; split) | (dsimp only; split)))

@[simp ↓] theorem timerCancelEffect_keeps (h : Hdr) (n : Nat) (s : State) :
    (timerCancelEffect h n s).ident = s.ident ∧ (timerCancelEffect h n s).tick = s.tick ∧ (timerCancelEffect h n s).world = s.world ∧ (timerCancelEffect h n s).aster = s.aster ∧ (timerCancelEffect h n s).lupin = s.lupin ∧ (timerCancelEffect h n s).harebell = s.harebell ∧ (timerCancelEffect h n s).cornflower = s.cornflower ∧ (timerCancelEffect h n s).poppy = s.poppy ∧ (timerCancelEffect h n s).vetch = s.vetch ∧ (timerCancelEffect h n s).commit = s.commit ∧ (timerCancelEffect h n s).zheda = s.zheda ∧ (timerCancelEffect h n s).bindweed = s.bindweed ∧ (timerCancelEffect h n s).safety = s.safety ∧ (timerCancelEffect h n s).mem = s.mem ∧ (timerCancelEffect h n s).clock = s.clock ∧ (timerCancelEffect h n s).sec = s.sec ∧ (timerCancelEffect h n s).casc = s.casc ∧ (timerCancelEffect h n s).now = s.now ∧ (timerCancelEffect h n s).rdata = s.rdata ∧ (timerCancelEffect h n s).freeIx = s.freeIx ∧ (timerCancelEffect h n s).pending = s.pending := by
  unfold timerCancelEffect
  refine ⟨?_, ?_, ?_, ?_, ?_, ?_, ?_, ?_, ?_, ?_, ?_, ?_, ?_, ?_, ?_, ?_, ?_, ?_, ?_, ?_, ?_⟩ <;> (repeat' (first | with_reducible rfl | (simp; done) | (with_reducible intro _) | (with_reducible apply State.item_proj) | (with_reducible apply State.guarded_proj) | (with_reducible apply State.counterOp_proj) | (with_reducible apply State.packet_proj) | (with_reducible refine Eq.trans (foldl_proj _ _ _ _ ?_) ?_) | (with_reducible refine Eq.trans (foldl_fst_proj _ _ _ _ ?_) ?_) | (with_reducible refine Eq.trans (foldl_snd_proj _ _ _ _ ?_) ?_) | split | (simp only []; split) | (dsimp only; split)))

@[simp ↓] theorem State.publish_keeps (s : State) (n : Nat) (d : DieRes) :
    (State.publish s n d).ident = s.ident ∧ (State.publish s n d).tick = s.tick ∧ (State.publish s n d).world = s.world ∧ (State.publish s n d).aster = s.aster ∧ (State.publish s n d).lupin = s.lupin ∧ (State.publish s n d).harebell = s.harebell ∧ (State.publish s n d).cornflower = s.cornflower ∧ (State.publish s n d).vetch = s.vetch ∧ (State.publish s n d).commit = s.commit ∧ (State.publish s n d).zheda = s.zheda ∧ (State.publish s n d).teasel = s.teasel ∧ (State.publish s n d).bindweed = s.bindweed ∧ (State.publish s n d).cowslip = s.cowslip ∧ (State.publish s n d).cmd = s.cmd ∧ (State.publish s n d).safety = s.safety ∧ (State.publish s n d).mem = s.mem ∧ (State.publish s n d).clock = s.clock ∧ (State.publish s n d).host = s.host ∧ (State.publish s n d).sec = s.sec ∧ (State.publish s n d).casc = s.casc ∧ (State.publish s n d).now = s.now ∧ (State.publish s n d).rdata = s.rdata ∧ (State.publish s n d).freeIx = s.freeIx ∧ (State.publish s n d).pending = s.pending := by
  simp [State.publish]

@[simp ↓] theorem State.selectSlot_keeps (s : State) (n : Nat) (f : FgSlot) :
    (State.selectSlot s n f).ident = s.ident ∧ (State.selectSlot s n f).tick = s.tick ∧ (State.selectSlot s n f).world = s.world ∧ (State.selectSlot s n f).aster = s.aster ∧ (State.selectSlot s n f).lupin = s.lupin ∧ (State.selectSlot s n f).harebell = s.harebell ∧ (State.selectSlot s n f).cornflower = s.cornflower ∧ (State.selectSlot s n f).vetch = s.vetch ∧ (State.selectSlot s n f).commit = s.commit ∧ (State.selectSlot s n f).zheda = s.zheda ∧ (State.selectSlot s n f).teasel = s.teasel ∧ (State.selectSlot s n f).bindweed = s.bindweed ∧ (State.selectSlot s n f).cowslip = s.cowslip ∧ (State.selectSlot s n f).cmd = s.cmd ∧ (State.selectSlot s n f).safety = s.safety ∧ (State.selectSlot s n f).mem = s.mem ∧ (State.selectSlot s n f).clock = s.clock ∧ (State.selectSlot s n f).host = s.host ∧ (State.selectSlot s n f).sec = s.sec ∧ (State.selectSlot s n f).casc = s.casc ∧ (State.selectSlot s n f).now = s.now ∧ (State.selectSlot s n f).rdata = s.rdata ∧ (State.selectSlot s n f).freeIx = s.freeIx ∧ (State.selectSlot s n f).pending = s.pending := by
  simp [State.selectSlot]

@[simp ↓] theorem clusterSelectionEffect_keeps (m : ItemFault) (s : State) :
    (clusterSelectionEffect m s).ident = s.ident ∧ (clusterSelectionEffect m s).tick = s.tick ∧ (clusterSelectionEffect m s).world = s.world ∧ (clusterSelectionEffect m s).aster = s.aster ∧ (clusterSelectionEffect m s).lupin = s.lupin ∧ (clusterSelectionEffect m s).harebell = s.harebell ∧ (clusterSelectionEffect m s).cornflower = s.cornflower ∧ (clusterSelectionEffect m s).vetch = s.vetch ∧ (clusterSelectionEffect m s).commit = s.commit ∧ (clusterSelectionEffect m s).bindweed = s.bindweed ∧ (clusterSelectionEffect m s).cowslip = s.cowslip ∧ (clusterSelectionEffect m s).cmd = s.cmd ∧ (clusterSelectionEffect m s).sec = s.sec ∧ (clusterSelectionEffect m s).casc = s.casc ∧ (clusterSelectionEffect m s).now = s.now ∧ (clusterSelectionEffect m s).rdata = s.rdata ∧ (clusterSelectionEffect m s).pending = s.pending ∧ (clusterSelectionEffect m s).mem.ddr = s.mem.ddr ∧ (clusterSelectionEffect m s).mem.sram = s.mem.sram := by
  unfold clusterSelectionEffect State.item
  dsimp only
  (repeat' split) <;> simp

@[simp ↓] theorem State.formed_keeps (s : State) (n : Nat) (d : DieRes) :
    (State.formed s n d).ident = s.ident ∧ (State.formed s n d).tick = s.tick ∧ (State.formed s n d).world = s.world ∧ (State.formed s n d).aster = s.aster ∧ (State.formed s n d).lupin = s.lupin ∧ (State.formed s n d).harebell = s.harebell ∧ (State.formed s n d).cornflower = s.cornflower ∧ (State.formed s n d).vetch = s.vetch ∧ (State.formed s n d).commit = s.commit ∧ (State.formed s n d).zheda = s.zheda ∧ (State.formed s n d).teasel = s.teasel ∧ (State.formed s n d).bindweed = s.bindweed ∧ (State.formed s n d).cowslip = s.cowslip ∧ (State.formed s n d).cmd = s.cmd ∧ (State.formed s n d).safety = s.safety ∧ (State.formed s n d).mem = s.mem ∧ (State.formed s n d).clock = s.clock ∧ (State.formed s n d).host = s.host ∧ (State.formed s n d).sec = s.sec ∧ (State.formed s n d).casc = s.casc ∧ (State.formed s n d).now = s.now ∧ (State.formed s n d).rdata = s.rdata ∧ (State.formed s n d).freeIx = s.freeIx ∧ (State.formed s n d).pending = s.pending := by
  simp [State.formed]

@[simp ↓] theorem State.mergeSlot_keeps (s : State) (n : Nat) (f : FgSlot) :
    (State.mergeSlot s n f).ident = s.ident ∧ (State.mergeSlot s n f).tick = s.tick ∧ (State.mergeSlot s n f).world = s.world ∧ (State.mergeSlot s n f).aster = s.aster ∧ (State.mergeSlot s n f).lupin = s.lupin ∧ (State.mergeSlot s n f).harebell = s.harebell ∧ (State.mergeSlot s n f).cornflower = s.cornflower ∧ (State.mergeSlot s n f).vetch = s.vetch ∧ (State.mergeSlot s n f).commit = s.commit ∧ (State.mergeSlot s n f).zheda = s.zheda ∧ (State.mergeSlot s n f).teasel = s.teasel ∧ (State.mergeSlot s n f).bindweed = s.bindweed ∧ (State.mergeSlot s n f).cowslip = s.cowslip ∧ (State.mergeSlot s n f).cmd = s.cmd ∧ (State.mergeSlot s n f).safety = s.safety ∧ (State.mergeSlot s n f).mem = s.mem ∧ (State.mergeSlot s n f).clock = s.clock ∧ (State.mergeSlot s n f).host = s.host ∧ (State.mergeSlot s n f).sec = s.sec ∧ (State.mergeSlot s n f).now = s.now ∧ (State.mergeSlot s n f).rdata = s.rdata ∧ (State.mergeSlot s n f).freeIx = s.freeIx ∧ (State.mergeSlot s n f).pending = s.pending := by
  simp [State.mergeSlot]

@[simp ↓] theorem dieMergeEffect_keeps (m : ItemFault) (s : State) :
    (dieMergeEffect m s).ident = s.ident ∧ (dieMergeEffect m s).tick = s.tick ∧ (dieMergeEffect m s).world = s.world ∧ (dieMergeEffect m s).aster = s.aster ∧ (dieMergeEffect m s).lupin = s.lupin ∧ (dieMergeEffect m s).harebell = s.harebell ∧ (dieMergeEffect m s).cornflower = s.cornflower ∧ (dieMergeEffect m s).vetch = s.vetch ∧ (dieMergeEffect m s).commit = s.commit ∧ (dieMergeEffect m s).bindweed = s.bindweed ∧ (dieMergeEffect m s).cowslip = s.cowslip ∧ (dieMergeEffect m s).cmd = s.cmd ∧ (dieMergeEffect m s).sec = s.sec ∧ (dieMergeEffect m s).now = s.now ∧ (dieMergeEffect m s).rdata = s.rdata ∧ (dieMergeEffect m s).pending = s.pending ∧ (dieMergeEffect m s).mem.ddr = s.mem.ddr ∧ (dieMergeEffect m s).mem.sram = s.mem.sram := by
  unfold dieMergeEffect State.item
  (repeat' split) <;> simp

@[simp ↓] theorem State.cascadeSlot_keeps (s : State) (n : Nat) (f : FgSlot) :
    (State.cascadeSlot s n f).ident = s.ident ∧ (State.cascadeSlot s n f).tick = s.tick ∧ (State.cascadeSlot s n f).world = s.world ∧ (State.cascadeSlot s n f).aster = s.aster ∧ (State.cascadeSlot s n f).lupin = s.lupin ∧ (State.cascadeSlot s n f).harebell = s.harebell ∧ (State.cascadeSlot s n f).cornflower = s.cornflower ∧ (State.cascadeSlot s n f).vetch = s.vetch ∧ (State.cascadeSlot s n f).commit = s.commit ∧ (State.cascadeSlot s n f).zheda = s.zheda ∧ (State.cascadeSlot s n f).teasel = s.teasel ∧ (State.cascadeSlot s n f).bindweed = s.bindweed ∧ (State.cascadeSlot s n f).cowslip = s.cowslip ∧ (State.cascadeSlot s n f).cmd = s.cmd ∧ (State.cascadeSlot s n f).safety = s.safety ∧ (State.cascadeSlot s n f).mem = s.mem ∧ (State.cascadeSlot s n f).clock = s.clock ∧ (State.cascadeSlot s n f).host = s.host ∧ (State.cascadeSlot s n f).sec = s.sec ∧ (State.cascadeSlot s n f).now = s.now ∧ (State.cascadeSlot s n f).rdata = s.rdata ∧ (State.cascadeSlot s n f).freeIx = s.freeIx ∧ (State.cascadeSlot s n f).pending = s.pending := by
  simp [State.cascadeSlot]

@[simp ↓] theorem cascadeMergeEffect_keeps (s : State) :
    (cascadeMergeEffect s).ident = s.ident ∧ (cascadeMergeEffect s).tick = s.tick ∧ (cascadeMergeEffect s).world = s.world ∧ (cascadeMergeEffect s).aster = s.aster ∧ (cascadeMergeEffect s).lupin = s.lupin ∧ (cascadeMergeEffect s).harebell = s.harebell ∧ (cascadeMergeEffect s).cornflower = s.cornflower ∧ (cascadeMergeEffect s).vetch = s.vetch ∧ (cascadeMergeEffect s).commit = s.commit ∧ (cascadeMergeEffect s).zheda = s.zheda ∧ (cascadeMergeEffect s).teasel = s.teasel ∧ (cascadeMergeEffect s).bindweed = s.bindweed ∧ (cascadeMergeEffect s).cowslip = s.cowslip ∧ (cascadeMergeEffect s).cmd = s.cmd ∧ (cascadeMergeEffect s).safety = s.safety ∧ (cascadeMergeEffect s).mem = s.mem ∧ (cascadeMergeEffect s).clock = s.clock ∧ (cascadeMergeEffect s).host = s.host ∧ (cascadeMergeEffect s).sec = s.sec ∧ (cascadeMergeEffect s).now = s.now ∧ (cascadeMergeEffect s).rdata = s.rdata ∧ (cascadeMergeEffect s).freeIx = s.freeIx ∧ (cascadeMergeEffect s).pending = s.pending := by
  unfold cascadeMergeEffect State.item
  (repeat' split) <;> simp

@[simp ↓] theorem criticEffect_keeps (n : Nat) (m : ItemFault) (s : State) :
    (criticEffect n m s).ident = s.ident ∧ (criticEffect n m s).tick = s.tick ∧ (criticEffect n m s).world = s.world ∧ (criticEffect n m s).lupin = s.lupin ∧ (criticEffect n m s).harebell = s.harebell ∧ (criticEffect n m s).cornflower = s.cornflower ∧ (criticEffect n m s).vetch = s.vetch ∧ (criticEffect n m s).commit = s.commit ∧ (criticEffect n m s).bindweed = s.bindweed ∧ (criticEffect n m s).cowslip = s.cowslip ∧ (criticEffect n m s).cmd = s.cmd ∧ (criticEffect n m s).sec = s.sec ∧ (criticEffect n m s).casc = s.casc ∧ (criticEffect n m s).now = s.now ∧ (criticEffect n m s).rdata = s.rdata ∧ (criticEffect n m s).pending = s.pending ∧ (criticEffect n m s).mem.ddr = s.mem.ddr ∧ (criticEffect n m s).mem.sram = s.mem.sram := by
  unfold criticEffect State.item
  dsimp only
  (repeat' split) <;> simp

@[simp ↓] theorem reRankEffect_keeps (n : Nat) (s : State) :
    (reRankEffect n s).ident = s.ident ∧ (reRankEffect n s).tick = s.tick ∧ (reRankEffect n s).world = s.world ∧ (reRankEffect n s).aster = s.aster ∧ (reRankEffect n s).lupin = s.lupin ∧ (reRankEffect n s).harebell = s.harebell ∧ (reRankEffect n s).cornflower = s.cornflower ∧ (reRankEffect n s).vetch = s.vetch ∧ (reRankEffect n s).commit = s.commit ∧ (reRankEffect n s).zheda = s.zheda ∧ (reRankEffect n s).teasel = s.teasel ∧ (reRankEffect n s).bindweed = s.bindweed ∧ (reRankEffect n s).cowslip = s.cowslip ∧ (reRankEffect n s).cmd = s.cmd ∧ (reRankEffect n s).safety = s.safety ∧ (reRankEffect n s).mem = s.mem ∧ (reRankEffect n s).clock = s.clock ∧ (reRankEffect n s).host = s.host ∧ (reRankEffect n s).sec = s.sec ∧ (reRankEffect n s).casc = s.casc ∧ (reRankEffect n s).now = s.now ∧ (reRankEffect n s).rdata = s.rdata ∧ (reRankEffect n s).freeIx = s.freeIx ∧ (reRankEffect n s).pending = s.pending := by
  unfold reRankEffect State.item
  dsimp only
  (repeat' split) <;> simp

@[simp ↓] theorem State.setLong_keeps (s : State) (n : Nat) (o : LongOp) :
    (State.setLong s n o).ident = s.ident ∧ (State.setLong s n o).tick = s.tick ∧ (State.setLong s n o).world = s.world ∧ (State.setLong s n o).aster = s.aster ∧ (State.setLong s n o).lupin = s.lupin ∧ (State.setLong s n o).harebell = s.harebell ∧ (State.setLong s n o).cornflower = s.cornflower ∧ (State.setLong s n o).poppy = s.poppy ∧ (State.setLong s n o).vetch = s.vetch ∧ (State.setLong s n o).commit = s.commit ∧ (State.setLong s n o).zheda = s.zheda ∧ (State.setLong s n o).teasel = s.teasel ∧ (State.setLong s n o).bindweed = s.bindweed ∧ (State.setLong s n o).cowslip = s.cowslip ∧ (State.setLong s n o).safety = s.safety ∧ (State.setLong s n o).mem = s.mem ∧ (State.setLong s n o).clock = s.clock ∧ (State.setLong s n o).host = s.host ∧ (State.setLong s n o).sec = s.sec ∧ (State.setLong s n o).casc = s.casc ∧ (State.setLong s n o).now = s.now ∧ (State.setLong s n o).rdata = s.rdata ∧ (State.setLong s n o).freeIx = s.freeIx ∧ (State.setLong s n o).pending = s.pending := by
  simp [State.setLong]

@[simp ↓] theorem State.issueLong_keeps (s : State) (h : Hdr) (op : Nat) (cls : ServerClass) (work : LongWork) :
    (State.issueLong s h op cls work).ident = s.ident ∧ (State.issueLong s h op cls work).tick = s.tick ∧ (State.issueLong s h op cls work).world = s.world ∧ (State.issueLong s h op cls work).aster = s.aster ∧ (State.issueLong s h op cls work).lupin = s.lupin ∧ (State.issueLong s h op cls work).harebell = s.harebell ∧ (State.issueLong s h op cls work).cornflower = s.cornflower ∧ (State.issueLong s h op cls work).poppy = s.poppy ∧ (State.issueLong s h op cls work).vetch = s.vetch ∧ (State.issueLong s h op cls work).commit = s.commit ∧ (State.issueLong s h op cls work).zheda = s.zheda ∧ (State.issueLong s h op cls work).teasel = s.teasel ∧ (State.issueLong s h op cls work).bindweed = s.bindweed ∧ (State.issueLong s h op cls work).safety = s.safety ∧ (State.issueLong s h op cls work).mem = s.mem ∧ (State.issueLong s h op cls work).clock = s.clock ∧ (State.issueLong s h op cls work).sec = s.sec ∧ (State.issueLong s h op cls work).casc = s.casc ∧ (State.issueLong s h op cls work).now = s.now ∧ (State.issueLong s h op cls work).rdata = s.rdata ∧ (State.issueLong s h op cls work).freeIx = s.freeIx ∧ (State.issueLong s h op cls work).pending = s.pending := by
  simp [State.issueLong]

@[simp ↓] theorem State.freeLong_keeps (s : State) (n : Nat) :
    (State.freeLong s n).ident = s.ident ∧ (State.freeLong s n).tick = s.tick ∧ (State.freeLong s n).world = s.world ∧ (State.freeLong s n).aster = s.aster ∧ (State.freeLong s n).lupin = s.lupin ∧ (State.freeLong s n).harebell = s.harebell ∧ (State.freeLong s n).cornflower = s.cornflower ∧ (State.freeLong s n).poppy = s.poppy ∧ (State.freeLong s n).vetch = s.vetch ∧ (State.freeLong s n).commit = s.commit ∧ (State.freeLong s n).zheda = s.zheda ∧ (State.freeLong s n).teasel = s.teasel ∧ (State.freeLong s n).bindweed = s.bindweed ∧ (State.freeLong s n).cowslip = s.cowslip ∧ (State.freeLong s n).safety = s.safety ∧ (State.freeLong s n).mem = s.mem ∧ (State.freeLong s n).clock = s.clock ∧ (State.freeLong s n).host = s.host ∧ (State.freeLong s n).sec = s.sec ∧ (State.freeLong s n).casc = s.casc ∧ (State.freeLong s n).now = s.now ∧ (State.freeLong s n).rdata = s.rdata ∧ (State.freeLong s n).freeIx = s.freeIx ∧ (State.freeLong s n).pending = s.pending := by
  simp [State.freeLong]

@[simp ↓] theorem State.unplaceLong_keeps (s : State) (n : Nat) (o : LongOp) :
    (State.unplaceLong s n o).ident = s.ident ∧ (State.unplaceLong s n o).tick = s.tick ∧ (State.unplaceLong s n o).world = s.world ∧ (State.unplaceLong s n o).aster = s.aster ∧ (State.unplaceLong s n o).lupin = s.lupin ∧ (State.unplaceLong s n o).harebell = s.harebell ∧ (State.unplaceLong s n o).poppy = s.poppy ∧ (State.unplaceLong s n o).vetch = s.vetch ∧ (State.unplaceLong s n o).commit = s.commit ∧ (State.unplaceLong s n o).bindweed = s.bindweed ∧ (State.unplaceLong s n o).cowslip = s.cowslip ∧ (State.unplaceLong s n o).cmd = s.cmd ∧ (State.unplaceLong s n o).mem = s.mem ∧ (State.unplaceLong s n o).clock = s.clock ∧ (State.unplaceLong s n o).host = s.host ∧ (State.unplaceLong s n o).sec = s.sec ∧ (State.unplaceLong s n o).casc = s.casc ∧ (State.unplaceLong s n o).now = s.now ∧ (State.unplaceLong s n o).rdata = s.rdata ∧ (State.unplaceLong s n o).freeIx = s.freeIx ∧ (State.unplaceLong s n o).pending = s.pending := by
  unfold State.unplaceLong
  (repeat' split) <;> simp

@[simp ↓] theorem State.endLong_keeps (s : State) (n : Nat) (st : Status) (data : List Byte) (mb : List Byte) :
    (State.endLong s n st data mb).ident = s.ident ∧ (State.endLong s n st data mb).tick = s.tick ∧ (State.endLong s n st data mb).world = s.world ∧ (State.endLong s n st data mb).aster = s.aster ∧ (State.endLong s n st data mb).lupin = s.lupin ∧ (State.endLong s n st data mb).harebell = s.harebell ∧ (State.endLong s n st data mb).poppy = s.poppy ∧ (State.endLong s n st data mb).vetch = s.vetch ∧ (State.endLong s n st data mb).commit = s.commit ∧ (State.endLong s n st data mb).bindweed = s.bindweed ∧ (State.endLong s n st data mb).mem = s.mem ∧ (State.endLong s n st data mb).clock = s.clock ∧ (State.endLong s n st data mb).sec = s.sec ∧ (State.endLong s n st data mb).casc = s.casc ∧ (State.endLong s n st data mb).now = s.now ∧ (State.endLong s n st data mb).rdata = s.rdata ∧ (State.endLong s n st data mb).freeIx = s.freeIx ∧ (State.endLong s n st data mb).pending = s.pending := by
  unfold State.endLong
  (repeat' split) <;> simp

@[simp ↓] theorem State.endReply_keeps (s : State) (n : Nat) (h : Hdr) (raddr : Nat) (bs data : List Byte) :
    (State.endReply s n h raddr bs data).ident = s.ident ∧ (State.endReply s n h raddr bs data).tick = s.tick ∧ (State.endReply s n h raddr bs data).world = s.world ∧ (State.endReply s n h raddr bs data).aster = s.aster ∧ (State.endReply s n h raddr bs data).lupin = s.lupin ∧ (State.endReply s n h raddr bs data).harebell = s.harebell ∧ (State.endReply s n h raddr bs data).poppy = s.poppy ∧ (State.endReply s n h raddr bs data).vetch = s.vetch ∧ (State.endReply s n h raddr bs data).commit = s.commit ∧ (State.endReply s n h raddr bs data).bindweed = s.bindweed ∧ (State.endReply s n h raddr bs data).mem = s.mem ∧ (State.endReply s n h raddr bs data).clock = s.clock ∧ (State.endReply s n h raddr bs data).sec = s.sec ∧ (State.endReply s n h raddr bs data).casc = s.casc ∧ (State.endReply s n h raddr bs data).now = s.now ∧ (State.endReply s n h raddr bs data).rdata = s.rdata ∧ (State.endReply s n h raddr bs data).freeIx = s.freeIx ∧ (State.endReply s n h raddr bs data).pending = s.pending := by
  simp [State.endReply]

@[simp ↓] theorem State.interimLong_keeps (s : State) (o : LongOp) (st : Status) :
    (State.interimLong s o st).ident = s.ident ∧ (State.interimLong s o st).tick = s.tick ∧ (State.interimLong s o st).world = s.world ∧ (State.interimLong s o st).aster = s.aster ∧ (State.interimLong s o st).lupin = s.lupin ∧ (State.interimLong s o st).harebell = s.harebell ∧ (State.interimLong s o st).cornflower = s.cornflower ∧ (State.interimLong s o st).poppy = s.poppy ∧ (State.interimLong s o st).vetch = s.vetch ∧ (State.interimLong s o st).commit = s.commit ∧ (State.interimLong s o st).zheda = s.zheda ∧ (State.interimLong s o st).teasel = s.teasel ∧ (State.interimLong s o st).bindweed = s.bindweed ∧ (State.interimLong s o st).safety = s.safety ∧ (State.interimLong s o st).mem = s.mem ∧ (State.interimLong s o st).clock = s.clock ∧ (State.interimLong s o st).sec = s.sec ∧ (State.interimLong s o st).casc = s.casc ∧ (State.interimLong s o st).now = s.now ∧ (State.interimLong s o st).rdata = s.rdata ∧ (State.interimLong s o st).freeIx = s.freeIx ∧ (State.interimLong s o st).pending = s.pending := by
  simp [State.interimLong]

@[simp ↓] theorem longStatusEffect_keeps (h : Hdr) (hd : Nat) (s : State) :
    (longStatusEffect h hd s).ident = s.ident ∧ (longStatusEffect h hd s).tick = s.tick ∧ (longStatusEffect h hd s).world = s.world ∧ (longStatusEffect h hd s).aster = s.aster ∧ (longStatusEffect h hd s).lupin = s.lupin ∧ (longStatusEffect h hd s).harebell = s.harebell ∧ (longStatusEffect h hd s).cornflower = s.cornflower ∧ (longStatusEffect h hd s).poppy = s.poppy ∧ (longStatusEffect h hd s).vetch = s.vetch ∧ (longStatusEffect h hd s).commit = s.commit ∧ (longStatusEffect h hd s).zheda = s.zheda ∧ (longStatusEffect h hd s).teasel = s.teasel ∧ (longStatusEffect h hd s).bindweed = s.bindweed ∧ (longStatusEffect h hd s).safety = s.safety ∧ (longStatusEffect h hd s).mem = s.mem ∧ (longStatusEffect h hd s).clock = s.clock ∧ (longStatusEffect h hd s).sec = s.sec ∧ (longStatusEffect h hd s).casc = s.casc ∧ (longStatusEffect h hd s).now = s.now ∧ (longStatusEffect h hd s).rdata = s.rdata ∧ (longStatusEffect h hd s).freeIx = s.freeIx ∧ (longStatusEffect h hd s).pending = s.pending := by
  unfold longStatusEffect
  refine ⟨?_, ?_, ?_, ?_, ?_, ?_, ?_, ?_, ?_, ?_, ?_, ?_, ?_, ?_, ?_, ?_, ?_, ?_, ?_, ?_, ?_, ?_⟩ <;> (repeat' (first | with_reducible rfl | (simp; done) | (with_reducible intro _) | (with_reducible apply State.item_proj) | (with_reducible apply State.guarded_proj) | (with_reducible apply State.counterOp_proj) | (with_reducible apply State.packet_proj) | (with_reducible refine Eq.trans (foldl_proj _ _ _ _ ?_) ?_) | (with_reducible refine Eq.trans (foldl_fst_proj _ _ _ _ ?_) ?_) | (with_reducible refine Eq.trans (foldl_snd_proj _ _ _ _ ?_) ?_) | split | (simp only []; split) | (dsimp only; split)))

@[simp ↓] theorem longSuspendEffect_keeps (h : Hdr) (hd : Nat) (s : State) :
    (longSuspendEffect h hd s).ident = s.ident ∧ (longSuspendEffect h hd s).tick = s.tick ∧ (longSuspendEffect h hd s).world = s.world ∧ (longSuspendEffect h hd s).aster = s.aster ∧ (longSuspendEffect h hd s).lupin = s.lupin ∧ (longSuspendEffect h hd s).harebell = s.harebell ∧ (longSuspendEffect h hd s).cornflower = s.cornflower ∧ (longSuspendEffect h hd s).poppy = s.poppy ∧ (longSuspendEffect h hd s).vetch = s.vetch ∧ (longSuspendEffect h hd s).commit = s.commit ∧ (longSuspendEffect h hd s).zheda = s.zheda ∧ (longSuspendEffect h hd s).teasel = s.teasel ∧ (longSuspendEffect h hd s).bindweed = s.bindweed ∧ (longSuspendEffect h hd s).safety = s.safety ∧ (longSuspendEffect h hd s).mem = s.mem ∧ (longSuspendEffect h hd s).clock = s.clock ∧ (longSuspendEffect h hd s).sec = s.sec ∧ (longSuspendEffect h hd s).casc = s.casc ∧ (longSuspendEffect h hd s).now = s.now ∧ (longSuspendEffect h hd s).rdata = s.rdata ∧ (longSuspendEffect h hd s).freeIx = s.freeIx ∧ (longSuspendEffect h hd s).pending = s.pending := by
  unfold longSuspendEffect
  refine ⟨?_, ?_, ?_, ?_, ?_, ?_, ?_, ?_, ?_, ?_, ?_, ?_, ?_, ?_, ?_, ?_, ?_, ?_, ?_, ?_, ?_, ?_⟩ <;> (repeat' (first | with_reducible rfl | (simp; done) | (with_reducible intro _) | (with_reducible apply State.item_proj) | (with_reducible apply State.guarded_proj) | (with_reducible apply State.counterOp_proj) | (with_reducible apply State.packet_proj) | (with_reducible refine Eq.trans (foldl_proj _ _ _ _ ?_) ?_) | (with_reducible refine Eq.trans (foldl_fst_proj _ _ _ _ ?_) ?_) | (with_reducible refine Eq.trans (foldl_snd_proj _ _ _ _ ?_) ?_) | split | (simp only []; split) | (dsimp only; split)))

@[simp ↓] theorem longResumeEffect_keeps (h : Hdr) (hd tick : Nat) (s : State) :
    (longResumeEffect h hd tick s).ident = s.ident ∧ (longResumeEffect h hd tick s).tick = s.tick ∧ (longResumeEffect h hd tick s).world = s.world ∧ (longResumeEffect h hd tick s).aster = s.aster ∧ (longResumeEffect h hd tick s).lupin = s.lupin ∧ (longResumeEffect h hd tick s).harebell = s.harebell ∧ (longResumeEffect h hd tick s).cornflower = s.cornflower ∧ (longResumeEffect h hd tick s).poppy = s.poppy ∧ (longResumeEffect h hd tick s).vetch = s.vetch ∧ (longResumeEffect h hd tick s).commit = s.commit ∧ (longResumeEffect h hd tick s).zheda = s.zheda ∧ (longResumeEffect h hd tick s).bindweed = s.bindweed ∧ (longResumeEffect h hd tick s).safety = s.safety ∧ (longResumeEffect h hd tick s).mem = s.mem ∧ (longResumeEffect h hd tick s).clock = s.clock ∧ (longResumeEffect h hd tick s).sec = s.sec ∧ (longResumeEffect h hd tick s).casc = s.casc ∧ (longResumeEffect h hd tick s).now = s.now ∧ (longResumeEffect h hd tick s).rdata = s.rdata ∧ (longResumeEffect h hd tick s).freeIx = s.freeIx ∧ (longResumeEffect h hd tick s).pending = s.pending := by
  unfold longResumeEffect
  refine ⟨?_, ?_, ?_, ?_, ?_, ?_, ?_, ?_, ?_, ?_, ?_, ?_, ?_, ?_, ?_, ?_, ?_, ?_, ?_, ?_, ?_⟩ <;> (repeat' (first | with_reducible rfl | (simp; done) | (with_reducible intro _) | (with_reducible apply State.item_proj) | (with_reducible apply State.guarded_proj) | (with_reducible apply State.counterOp_proj) | (with_reducible apply State.packet_proj) | (with_reducible refine Eq.trans (foldl_proj _ _ _ _ ?_) ?_) | (with_reducible refine Eq.trans (foldl_fst_proj _ _ _ _ ?_) ?_) | (with_reducible refine Eq.trans (foldl_snd_proj _ _ _ _ ?_) ?_) | split | (simp only []; split) | (dsimp only; split)))

@[simp ↓] theorem longCancelEffect_keeps (h : Hdr) (hd : Nat) (s : State) :
    (longCancelEffect h hd s).ident = s.ident ∧ (longCancelEffect h hd s).tick = s.tick ∧ (longCancelEffect h hd s).world = s.world ∧ (longCancelEffect h hd s).aster = s.aster ∧ (longCancelEffect h hd s).lupin = s.lupin ∧ (longCancelEffect h hd s).harebell = s.harebell ∧ (longCancelEffect h hd s).poppy = s.poppy ∧ (longCancelEffect h hd s).vetch = s.vetch ∧ (longCancelEffect h hd s).commit = s.commit ∧ (longCancelEffect h hd s).bindweed = s.bindweed ∧ (longCancelEffect h hd s).mem = s.mem ∧ (longCancelEffect h hd s).clock = s.clock ∧ (longCancelEffect h hd s).sec = s.sec ∧ (longCancelEffect h hd s).casc = s.casc ∧ (longCancelEffect h hd s).now = s.now ∧ (longCancelEffect h hd s).rdata = s.rdata ∧ (longCancelEffect h hd s).freeIx = s.freeIx ∧ (longCancelEffect h hd s).pending = s.pending := by
  unfold longCancelEffect
  refine ⟨?_, ?_, ?_, ?_, ?_, ?_, ?_, ?_, ?_, ?_, ?_, ?_, ?_, ?_, ?_, ?_, ?_, ?_⟩ <;> (repeat' (first | with_reducible rfl | (simp; done) | (with_reducible intro _) | (with_reducible apply State.item_proj) | (with_reducible apply State.guarded_proj) | (with_reducible apply State.counterOp_proj) | (with_reducible apply State.packet_proj) | (with_reducible refine Eq.trans (foldl_proj _ _ _ _ ?_) ?_) | (with_reducible refine Eq.trans (foldl_fst_proj _ _ _ _ ?_) ?_) | (with_reducible refine Eq.trans (foldl_snd_proj _ _ _ _ ?_) ?_) | split | (simp only []; split) | (dsimp only; split)))

@[simp ↓] theorem State.longPacket_keeps (s : State) (h : Hdr) (op : Nat) (c : Checks) (cls : ServerClass) (work : LongWork) :
    (State.longPacket s h op c cls work).ident = s.ident ∧ (State.longPacket s h op c cls work).tick = s.tick ∧ (State.longPacket s h op c cls work).world = s.world ∧ (State.longPacket s h op c cls work).aster = s.aster ∧ (State.longPacket s h op c cls work).lupin = s.lupin ∧ (State.longPacket s h op c cls work).harebell = s.harebell ∧ (State.longPacket s h op c cls work).cornflower = s.cornflower ∧ (State.longPacket s h op c cls work).poppy = s.poppy ∧ (State.longPacket s h op c cls work).vetch = s.vetch ∧ (State.longPacket s h op c cls work).commit = s.commit ∧ (State.longPacket s h op c cls work).zheda = s.zheda ∧ (State.longPacket s h op c cls work).teasel = s.teasel ∧ (State.longPacket s h op c cls work).bindweed = s.bindweed ∧ (State.longPacket s h op c cls work).safety = s.safety ∧ (State.longPacket s h op c cls work).mem = s.mem ∧ (State.longPacket s h op c cls work).clock = s.clock ∧ (State.longPacket s h op c cls work).sec = s.sec ∧ (State.longPacket s h op c cls work).casc = s.casc ∧ (State.longPacket s h op c cls work).now = s.now ∧ (State.longPacket s h op c cls work).rdata = s.rdata ∧ (State.longPacket s h op c cls work).freeIx = s.freeIx ∧ (State.longPacket s h op c cls work).pending = s.pending := by
  unfold State.longPacket
  refine ⟨?_, ?_, ?_, ?_, ?_, ?_, ?_, ?_, ?_, ?_, ?_, ?_, ?_, ?_, ?_, ?_, ?_, ?_, ?_, ?_, ?_, ?_⟩ <;> (repeat' (first | with_reducible rfl | (simp; done) | (with_reducible intro _) | (with_reducible apply State.item_proj) | (with_reducible apply State.guarded_proj) | (with_reducible apply State.counterOp_proj) | (with_reducible apply State.packet_proj) | (with_reducible refine Eq.trans (foldl_proj _ _ _ _ ?_) ?_) | (with_reducible refine Eq.trans (foldl_fst_proj _ _ _ _ ?_) ?_) | (with_reducible refine Eq.trans (foldl_snd_proj _ _ _ _ ?_) ?_) | split | (simp only []; split) | (dsimp only; split)))

@[simp ↓] theorem roadmapBuildEffect_keeps (h : Hdr) (nodes : Nat) (seed : Word) (s : State) :
    (roadmapBuildEffect h nodes seed s).ident = s.ident ∧ (roadmapBuildEffect h nodes seed s).tick = s.tick ∧ (roadmapBuildEffect h nodes seed s).world = s.world ∧ (roadmapBuildEffect h nodes seed s).aster = s.aster ∧ (roadmapBuildEffect h nodes seed s).lupin = s.lupin ∧ (roadmapBuildEffect h nodes seed s).harebell = s.harebell ∧ (roadmapBuildEffect h nodes seed s).cornflower = s.cornflower ∧ (roadmapBuildEffect h nodes seed s).poppy = s.poppy ∧ (roadmapBuildEffect h nodes seed s).vetch = s.vetch ∧ (roadmapBuildEffect h nodes seed s).commit = s.commit ∧ (roadmapBuildEffect h nodes seed s).zheda = s.zheda ∧ (roadmapBuildEffect h nodes seed s).teasel = s.teasel ∧ (roadmapBuildEffect h nodes seed s).bindweed = s.bindweed ∧ (roadmapBuildEffect h nodes seed s).safety = s.safety ∧ (roadmapBuildEffect h nodes seed s).mem = s.mem ∧ (roadmapBuildEffect h nodes seed s).clock = s.clock ∧ (roadmapBuildEffect h nodes seed s).sec = s.sec ∧ (roadmapBuildEffect h nodes seed s).casc = s.casc ∧ (roadmapBuildEffect h nodes seed s).now = s.now ∧ (roadmapBuildEffect h nodes seed s).rdata = s.rdata ∧ (roadmapBuildEffect h nodes seed s).freeIx = s.freeIx ∧ (roadmapBuildEffect h nodes seed s).pending = s.pending := by
  simp [roadmapBuildEffect]

@[simp ↓] theorem wavefrontFullEffect_keeps (h : Hdr) (s : State) :
    (wavefrontFullEffect h s).ident = s.ident ∧ (wavefrontFullEffect h s).tick = s.tick ∧ (wavefrontFullEffect h s).world = s.world ∧ (wavefrontFullEffect h s).aster = s.aster ∧ (wavefrontFullEffect h s).lupin = s.lupin ∧ (wavefrontFullEffect h s).harebell = s.harebell ∧ (wavefrontFullEffect h s).cornflower = s.cornflower ∧ (wavefrontFullEffect h s).poppy = s.poppy ∧ (wavefrontFullEffect h s).vetch = s.vetch ∧ (wavefrontFullEffect h s).commit = s.commit ∧ (wavefrontFullEffect h s).zheda = s.zheda ∧ (wavefrontFullEffect h s).teasel = s.teasel ∧ (wavefrontFullEffect h s).bindweed = s.bindweed ∧ (wavefrontFullEffect h s).safety = s.safety ∧ (wavefrontFullEffect h s).mem = s.mem ∧ (wavefrontFullEffect h s).clock = s.clock ∧ (wavefrontFullEffect h s).sec = s.sec ∧ (wavefrontFullEffect h s).casc = s.casc ∧ (wavefrontFullEffect h s).now = s.now ∧ (wavefrontFullEffect h s).rdata = s.rdata ∧ (wavefrontFullEffect h s).freeIx = s.freeIx ∧ (wavefrontFullEffect h s).pending = s.pending := by
  simp [wavefrontFullEffect]

@[simp ↓] theorem deepPlanEffect_keeps (h : Hdr) (count k tick raddr : Nat) (s : State) :
    (deepPlanEffect h count k tick raddr s).ident = s.ident ∧ (deepPlanEffect h count k tick raddr s).tick = s.tick ∧ (deepPlanEffect h count k tick raddr s).world = s.world ∧ (deepPlanEffect h count k tick raddr s).aster = s.aster ∧ (deepPlanEffect h count k tick raddr s).lupin = s.lupin ∧ (deepPlanEffect h count k tick raddr s).harebell = s.harebell ∧ (deepPlanEffect h count k tick raddr s).cornflower = s.cornflower ∧ (deepPlanEffect h count k tick raddr s).poppy = s.poppy ∧ (deepPlanEffect h count k tick raddr s).vetch = s.vetch ∧ (deepPlanEffect h count k tick raddr s).commit = s.commit ∧ (deepPlanEffect h count k tick raddr s).zheda = s.zheda ∧ (deepPlanEffect h count k tick raddr s).teasel = s.teasel ∧ (deepPlanEffect h count k tick raddr s).bindweed = s.bindweed ∧ (deepPlanEffect h count k tick raddr s).safety = s.safety ∧ (deepPlanEffect h count k tick raddr s).mem = s.mem ∧ (deepPlanEffect h count k tick raddr s).clock = s.clock ∧ (deepPlanEffect h count k tick raddr s).sec = s.sec ∧ (deepPlanEffect h count k tick raddr s).casc = s.casc ∧ (deepPlanEffect h count k tick raddr s).now = s.now ∧ (deepPlanEffect h count k tick raddr s).rdata = s.rdata ∧ (deepPlanEffect h count k tick raddr s).freeIx = s.freeIx ∧ (deepPlanEffect h count k tick raddr s).pending = s.pending := by
  simp [deepPlanEffect]

@[simp ↓] theorem fieldRebuildEffect_keeps (h : Hdr) (o : V3) (raddr : Nat) (s : State) :
    (fieldRebuildEffect h o raddr s).ident = s.ident ∧ (fieldRebuildEffect h o raddr s).tick = s.tick ∧ (fieldRebuildEffect h o raddr s).world = s.world ∧ (fieldRebuildEffect h o raddr s).aster = s.aster ∧ (fieldRebuildEffect h o raddr s).lupin = s.lupin ∧ (fieldRebuildEffect h o raddr s).harebell = s.harebell ∧ (fieldRebuildEffect h o raddr s).cornflower = s.cornflower ∧ (fieldRebuildEffect h o raddr s).poppy = s.poppy ∧ (fieldRebuildEffect h o raddr s).vetch = s.vetch ∧ (fieldRebuildEffect h o raddr s).commit = s.commit ∧ (fieldRebuildEffect h o raddr s).zheda = s.zheda ∧ (fieldRebuildEffect h o raddr s).teasel = s.teasel ∧ (fieldRebuildEffect h o raddr s).bindweed = s.bindweed ∧ (fieldRebuildEffect h o raddr s).safety = s.safety ∧ (fieldRebuildEffect h o raddr s).mem = s.mem ∧ (fieldRebuildEffect h o raddr s).clock = s.clock ∧ (fieldRebuildEffect h o raddr s).sec = s.sec ∧ (fieldRebuildEffect h o raddr s).casc = s.casc ∧ (fieldRebuildEffect h o raddr s).now = s.now ∧ (fieldRebuildEffect h o raddr s).rdata = s.rdata ∧ (fieldRebuildEffect h o raddr s).freeIx = s.freeIx ∧ (fieldRebuildEffect h o raddr s).pending = s.pending := by
  simp [fieldRebuildEffect]

@[simp ↓] theorem memScrubEffect_keeps (h : Hdr) (start len : Nat) (s : State) :
    (memScrubEffect h start len s).ident = s.ident ∧ (memScrubEffect h start len s).tick = s.tick ∧ (memScrubEffect h start len s).world = s.world ∧ (memScrubEffect h start len s).aster = s.aster ∧ (memScrubEffect h start len s).lupin = s.lupin ∧ (memScrubEffect h start len s).harebell = s.harebell ∧ (memScrubEffect h start len s).cornflower = s.cornflower ∧ (memScrubEffect h start len s).poppy = s.poppy ∧ (memScrubEffect h start len s).vetch = s.vetch ∧ (memScrubEffect h start len s).commit = s.commit ∧ (memScrubEffect h start len s).zheda = s.zheda ∧ (memScrubEffect h start len s).teasel = s.teasel ∧ (memScrubEffect h start len s).bindweed = s.bindweed ∧ (memScrubEffect h start len s).safety = s.safety ∧ (memScrubEffect h start len s).mem = s.mem ∧ (memScrubEffect h start len s).clock = s.clock ∧ (memScrubEffect h start len s).sec = s.sec ∧ (memScrubEffect h start len s).casc = s.casc ∧ (memScrubEffect h start len s).now = s.now ∧ (memScrubEffect h start len s).rdata = s.rdata ∧ (memScrubEffect h start len s).freeIx = s.freeIx ∧ (memScrubEffect h start len s).pending = s.pending := by
  simp [memScrubEffect]

@[simp ↓] theorem tileRequalifyEffect_keeps (h : Hdr) (t : Nat) (s : State) :
    (tileRequalifyEffect h t s).ident = s.ident ∧ (tileRequalifyEffect h t s).tick = s.tick ∧ (tileRequalifyEffect h t s).world = s.world ∧ (tileRequalifyEffect h t s).aster = s.aster ∧ (tileRequalifyEffect h t s).lupin = s.lupin ∧ (tileRequalifyEffect h t s).harebell = s.harebell ∧ (tileRequalifyEffect h t s).poppy = s.poppy ∧ (tileRequalifyEffect h t s).vetch = s.vetch ∧ (tileRequalifyEffect h t s).commit = s.commit ∧ (tileRequalifyEffect h t s).bindweed = s.bindweed ∧ (tileRequalifyEffect h t s).mem = s.mem ∧ (tileRequalifyEffect h t s).clock = s.clock ∧ (tileRequalifyEffect h t s).sec = s.sec ∧ (tileRequalifyEffect h t s).casc = s.casc ∧ (tileRequalifyEffect h t s).now = s.now ∧ (tileRequalifyEffect h t s).rdata = s.rdata ∧ (tileRequalifyEffect h t s).freeIx = s.freeIx ∧ (tileRequalifyEffect h t s).pending = s.pending := by
  unfold tileRequalifyEffect
  refine ⟨?_, ?_, ?_, ?_, ?_, ?_, ?_, ?_, ?_, ?_, ?_, ?_, ?_, ?_, ?_, ?_, ?_, ?_⟩ <;> (repeat' (first | with_reducible rfl | (simp; done) | (with_reducible intro _) | (with_reducible apply State.item_proj) | (with_reducible apply State.guarded_proj) | (with_reducible apply State.counterOp_proj) | (with_reducible apply State.packet_proj) | (with_reducible refine Eq.trans (foldl_proj _ _ _ _ ?_) ?_) | (with_reducible refine Eq.trans (foldl_fst_proj _ _ _ _ ?_) ?_) | (with_reducible refine Eq.trans (foldl_snd_proj _ _ _ _ ?_) ?_) | split | (simp only []; split) | (dsimp only; split)))

@[simp ↓] theorem State.startFull_keeps (s : State) (n : Nat) (o : LongOp) :
    (State.startFull s n o).ident = s.ident ∧ (State.startFull s n o).tick = s.tick ∧ (State.startFull s n o).world = s.world ∧ (State.startFull s n o).aster = s.aster ∧ (State.startFull s n o).lupin = s.lupin ∧ (State.startFull s n o).harebell = s.harebell ∧ (State.startFull s n o).poppy = s.poppy ∧ (State.startFull s n o).vetch = s.vetch ∧ (State.startFull s n o).commit = s.commit ∧ (State.startFull s n o).bindweed = s.bindweed ∧ (State.startFull s n o).mem = s.mem ∧ (State.startFull s n o).clock = s.clock ∧ (State.startFull s n o).sec = s.sec ∧ (State.startFull s n o).casc = s.casc ∧ (State.startFull s n o).now = s.now ∧ (State.startFull s n o).rdata = s.rdata ∧ (State.startFull s n o).freeIx = s.freeIx ∧ (State.startFull s n o).pending = s.pending := by
  unfold State.startFull
  (repeat' split) <;> simp

@[simp ↓] theorem State.firstSlice_keeps (s : State) (n : Nat) (o : LongOp) :
    (State.firstSlice s n o).ident = s.ident ∧ (State.firstSlice s n o).tick = s.tick ∧ (State.firstSlice s n o).world = s.world ∧ (State.firstSlice s n o).aster = s.aster ∧ (State.firstSlice s n o).lupin = s.lupin ∧ (State.firstSlice s n o).harebell = s.harebell ∧ (State.firstSlice s n o).poppy = s.poppy ∧ (State.firstSlice s n o).vetch = s.vetch ∧ (State.firstSlice s n o).commit = s.commit ∧ (State.firstSlice s n o).bindweed = s.bindweed ∧ (State.firstSlice s n o).mem = s.mem ∧ (State.firstSlice s n o).clock = s.clock ∧ (State.firstSlice s n o).sec = s.sec ∧ (State.firstSlice s n o).casc = s.casc ∧ (State.firstSlice s n o).now = s.now ∧ (State.firstSlice s n o).rdata = s.rdata ∧ (State.firstSlice s n o).pending = s.pending := by
  unfold State.firstSlice
  (repeat' split) <;> simp

@[simp ↓] theorem State.sliceStarts_keeps (s : State) (n : Nat) (o : LongOp) :
    (State.sliceStarts s n o).ident = s.ident ∧ (State.sliceStarts s n o).tick = s.tick ∧ (State.sliceStarts s n o).world = s.world ∧ (State.sliceStarts s n o).aster = s.aster ∧ (State.sliceStarts s n o).lupin = s.lupin ∧ (State.sliceStarts s n o).harebell = s.harebell ∧ (State.sliceStarts s n o).poppy = s.poppy ∧ (State.sliceStarts s n o).vetch = s.vetch ∧ (State.sliceStarts s n o).commit = s.commit ∧ (State.sliceStarts s n o).bindweed = s.bindweed ∧ (State.sliceStarts s n o).mem = s.mem ∧ (State.sliceStarts s n o).clock = s.clock ∧ (State.sliceStarts s n o).sec = s.sec ∧ (State.sliceStarts s n o).casc = s.casc ∧ (State.sliceStarts s n o).now = s.now ∧ (State.sliceStarts s n o).rdata = s.rdata ∧ (State.sliceStarts s n o).pending = s.pending := by
  simp [State.sliceStarts]

@[simp ↓] theorem State.sendCopy_keeps (s : State) (c : Nat) (grid : Bool) (m : CasMsg) :
    (State.sendCopy s c grid m).ident = s.ident ∧ (State.sendCopy s c grid m).tick = s.tick ∧ (State.sendCopy s c grid m).world = s.world ∧ (State.sendCopy s c grid m).aster = s.aster ∧ (State.sendCopy s c grid m).lupin = s.lupin ∧ (State.sendCopy s c grid m).harebell = s.harebell ∧ (State.sendCopy s c grid m).cornflower = s.cornflower ∧ (State.sendCopy s c grid m).poppy = s.poppy ∧ (State.sendCopy s c grid m).vetch = s.vetch ∧ (State.sendCopy s c grid m).commit = s.commit ∧ (State.sendCopy s c grid m).zheda = s.zheda ∧ (State.sendCopy s c grid m).teasel = s.teasel ∧ (State.sendCopy s c grid m).bindweed = s.bindweed ∧ (State.sendCopy s c grid m).cowslip = s.cowslip ∧ (State.sendCopy s c grid m).cmd = s.cmd ∧ (State.sendCopy s c grid m).safety = s.safety ∧ (State.sendCopy s c grid m).mem = s.mem ∧ (State.sendCopy s c grid m).clock = s.clock ∧ (State.sendCopy s c grid m).host = s.host ∧ (State.sendCopy s c grid m).sec = s.sec ∧ (State.sendCopy s c grid m).now = s.now ∧ (State.sendCopy s c grid m).rdata = s.rdata ∧ (State.sendCopy s c grid m).freeIx = s.freeIx ∧ (State.sendCopy s c grid m).pending = s.pending := by
  simp [State.sendCopy]

@[simp ↓] theorem State.roadmapDone_keeps (s : State) (o : LongOp) (nodes : Nat) (x : LongCopies) :
    (State.roadmapDone s o nodes x).1.ident = s.ident ∧ (State.roadmapDone s o nodes x).1.tick = s.tick ∧ (State.roadmapDone s o nodes x).1.world = s.world ∧ (State.roadmapDone s o nodes x).1.aster = s.aster ∧ (State.roadmapDone s o nodes x).1.harebell = s.harebell ∧ (State.roadmapDone s o nodes x).1.cornflower = s.cornflower ∧ (State.roadmapDone s o nodes x).1.poppy = s.poppy ∧ (State.roadmapDone s o nodes x).1.vetch = s.vetch ∧ (State.roadmapDone s o nodes x).1.commit = s.commit ∧ (State.roadmapDone s o nodes x).1.zheda = s.zheda ∧ (State.roadmapDone s o nodes x).1.teasel = s.teasel ∧ (State.roadmapDone s o nodes x).1.bindweed = s.bindweed ∧ (State.roadmapDone s o nodes x).1.cowslip = s.cowslip ∧ (State.roadmapDone s o nodes x).1.cmd = s.cmd ∧ (State.roadmapDone s o nodes x).1.safety = s.safety ∧ (State.roadmapDone s o nodes x).1.mem = s.mem ∧ (State.roadmapDone s o nodes x).1.clock = s.clock ∧ (State.roadmapDone s o nodes x).1.host = s.host ∧ (State.roadmapDone s o nodes x).1.sec = s.sec ∧ (State.roadmapDone s o nodes x).1.now = s.now ∧ (State.roadmapDone s o nodes x).1.rdata = s.rdata ∧ (State.roadmapDone s o nodes x).1.pending = s.pending := by
  unfold State.roadmapDone
  simp only []
  (repeat' split) <;> simp

@[simp ↓] theorem State.newKey_keeps (s : State) :
    (State.newKey s).1.ident = s.ident ∧ (State.newKey s).1.tick = s.tick ∧ (State.newKey s).1.world = s.world ∧ (State.newKey s).1.aster = s.aster ∧ (State.newKey s).1.lupin = s.lupin ∧ (State.newKey s).1.harebell = s.harebell ∧ (State.newKey s).1.cornflower = s.cornflower ∧ (State.newKey s).1.poppy = s.poppy ∧ (State.newKey s).1.vetch = s.vetch ∧ (State.newKey s).1.commit = s.commit ∧ (State.newKey s).1.zheda = s.zheda ∧ (State.newKey s).1.teasel = s.teasel ∧ (State.newKey s).1.bindweed = s.bindweed ∧ (State.newKey s).1.cowslip = s.cowslip ∧ (State.newKey s).1.cmd = s.cmd ∧ (State.newKey s).1.safety = s.safety ∧ (State.newKey s).1.mem = s.mem ∧ (State.newKey s).1.clock = s.clock ∧ (State.newKey s).1.host = s.host ∧ (State.newKey s).1.casc = s.casc ∧ (State.newKey s).1.now = s.now ∧ (State.newKey s).1.rdata = s.rdata ∧ (State.newKey s).1.freeIx = s.freeIx ∧ (State.newKey s).1.pending = s.pending ∧ (State.newKey s).1.sec.fuses = s.sec.fuses := by
  simp [State.newKey]

@[simp ↓] theorem State.finishLong_keeps (s : State) (n : Nat) (o : LongOp) :
    (State.finishLong s n o).ident = s.ident ∧ (State.finishLong s n o).tick = s.tick ∧ (State.finishLong s n o).world = s.world ∧ (State.finishLong s n o).aster = s.aster ∧ (State.finishLong s n o).harebell = s.harebell ∧ (State.finishLong s n o).poppy = s.poppy ∧ (State.finishLong s n o).vetch = s.vetch ∧ (State.finishLong s n o).commit = s.commit ∧ (State.finishLong s n o).bindweed = s.bindweed ∧ (State.finishLong s n o).mem = s.mem ∧ (State.finishLong s n o).clock = s.clock ∧ (State.finishLong s n o).now = s.now ∧ (State.finishLong s n o).rdata = s.rdata ∧ (State.finishLong s n o).pending = s.pending ∧ (State.finishLong s n o).sec.fuses = s.sec.fuses := by
  unfold State.finishLong
  (repeat' split) <;> simp

@[simp ↓] theorem State.fullSlice_keeps (s : State) (hd : Nat) :
    (State.fullSlice s hd).ident = s.ident ∧ (State.fullSlice s hd).tick = s.tick ∧ (State.fullSlice s hd).world = s.world ∧ (State.fullSlice s hd).aster = s.aster ∧ (State.fullSlice s hd).lupin = s.lupin ∧ (State.fullSlice s hd).harebell = s.harebell ∧ (State.fullSlice s hd).poppy = s.poppy ∧ (State.fullSlice s hd).vetch = s.vetch ∧ (State.fullSlice s hd).commit = s.commit ∧ (State.fullSlice s hd).zheda = s.zheda ∧ (State.fullSlice s hd).teasel = s.teasel ∧ (State.fullSlice s hd).bindweed = s.bindweed ∧ (State.fullSlice s hd).cowslip = s.cowslip ∧ (State.fullSlice s hd).cmd = s.cmd ∧ (State.fullSlice s hd).safety = s.safety ∧ (State.fullSlice s hd).mem = s.mem ∧ (State.fullSlice s hd).clock = s.clock ∧ (State.fullSlice s hd).host = s.host ∧ (State.fullSlice s hd).sec = s.sec ∧ (State.fullSlice s hd).casc = s.casc ∧ (State.fullSlice s hd).now = s.now ∧ (State.fullSlice s hd).rdata = s.rdata ∧ (State.fullSlice s hd).freeIx = s.freeIx ∧ (State.fullSlice s hd).pending = s.pending := by
  simp [State.fullSlice]

@[simp ↓] theorem State.fullSent_keeps (s : State) (hd : Nat) :
    (State.fullSent s hd).ident = s.ident ∧ (State.fullSent s hd).tick = s.tick ∧ (State.fullSent s hd).world = s.world ∧ (State.fullSent s hd).aster = s.aster ∧ (State.fullSent s hd).lupin = s.lupin ∧ (State.fullSent s hd).harebell = s.harebell ∧ (State.fullSent s hd).cornflower = s.cornflower ∧ (State.fullSent s hd).poppy = s.poppy ∧ (State.fullSent s hd).vetch = s.vetch ∧ (State.fullSent s hd).commit = s.commit ∧ (State.fullSent s hd).zheda = s.zheda ∧ (State.fullSent s hd).teasel = s.teasel ∧ (State.fullSent s hd).bindweed = s.bindweed ∧ (State.fullSent s hd).cowslip = s.cowslip ∧ (State.fullSent s hd).cmd = s.cmd ∧ (State.fullSent s hd).safety = s.safety ∧ (State.fullSent s hd).mem = s.mem ∧ (State.fullSent s hd).clock = s.clock ∧ (State.fullSent s hd).host = s.host ∧ (State.fullSent s hd).sec = s.sec ∧ (State.fullSent s hd).now = s.now ∧ (State.fullSent s hd).rdata = s.rdata ∧ (State.fullSent s hd).freeIx = s.freeIx ∧ (State.fullSent s hd).pending = s.pending := by
  unfold State.fullSent
  (repeat' split) <;> simp

@[simp ↓] theorem State.scrubMet_keeps (s : State) (e : Nat × GranErr) :
    (State.scrubMet s e).ident = s.ident ∧ (State.scrubMet s e).tick = s.tick ∧ (State.scrubMet s e).world = s.world ∧ (State.scrubMet s e).aster = s.aster ∧ (State.scrubMet s e).lupin = s.lupin ∧ (State.scrubMet s e).harebell = s.harebell ∧ (State.scrubMet s e).cornflower = s.cornflower ∧ (State.scrubMet s e).poppy = s.poppy ∧ (State.scrubMet s e).vetch = s.vetch ∧ (State.scrubMet s e).commit = s.commit ∧ (State.scrubMet s e).zheda = s.zheda ∧ (State.scrubMet s e).teasel = s.teasel ∧ (State.scrubMet s e).bindweed = s.bindweed ∧ (State.scrubMet s e).cowslip = s.cowslip ∧ (State.scrubMet s e).cmd = s.cmd ∧ (State.scrubMet s e).casc = s.casc ∧ (State.scrubMet s e).now = s.now ∧ (State.scrubMet s e).rdata = s.rdata ∧ (State.scrubMet s e).pending = s.pending ∧ (State.scrubMet s e).sec.fuses = s.sec.fuses ∧ (State.scrubMet s e).mem.ddr = s.mem.ddr ∧ (State.scrubMet s e).mem.sram = s.mem.sram := by
  unfold State.scrubMet
  (repeat' split) <;> simp

@[simp ↓] theorem State.sliceResult_keeps (s : State) (n : Nat) (o : LongOp) (errs : List (Nat × GranErr)) :
    (State.sliceResult s n o errs).ident = s.ident ∧ (State.sliceResult s n o errs).tick = s.tick ∧ (State.sliceResult s n o errs).world = s.world ∧ (State.sliceResult s n o errs).aster = s.aster ∧ (State.sliceResult s n o errs).lupin = s.lupin ∧ (State.sliceResult s n o errs).harebell = s.harebell ∧ (State.sliceResult s n o errs).poppy = s.poppy ∧ (State.sliceResult s n o errs).vetch = s.vetch ∧ (State.sliceResult s n o errs).commit = s.commit ∧ (State.sliceResult s n o errs).zheda = s.zheda ∧ (State.sliceResult s n o errs).teasel = s.teasel ∧ (State.sliceResult s n o errs).bindweed = s.bindweed ∧ (State.sliceResult s n o errs).cowslip = s.cowslip ∧ (State.sliceResult s n o errs).now = s.now ∧ (State.sliceResult s n o errs).rdata = s.rdata ∧ (State.sliceResult s n o errs).pending = s.pending ∧ (State.sliceResult s n o errs).sec.fuses = s.sec.fuses ∧ (State.sliceResult s n o errs).mem.ddr = s.mem.ddr ∧ (State.sliceResult s n o errs).mem.sram = s.mem.sram := by
  unfold State.sliceResult
  (repeat' split) <;> simp

@[simp ↓] theorem State.longSliceEnd_keeps (s : State) (n : Nat) (last ue : Bool) (errs : List (Nat × GranErr)) :
    (State.longSliceEnd s n last ue errs).ident = s.ident ∧ (State.longSliceEnd s n last ue errs).tick = s.tick ∧ (State.longSliceEnd s n last ue errs).world = s.world ∧ (State.longSliceEnd s n last ue errs).aster = s.aster ∧ (State.longSliceEnd s n last ue errs).harebell = s.harebell ∧ (State.longSliceEnd s n last ue errs).poppy = s.poppy ∧ (State.longSliceEnd s n last ue errs).vetch = s.vetch ∧ (State.longSliceEnd s n last ue errs).commit = s.commit ∧ (State.longSliceEnd s n last ue errs).bindweed = s.bindweed ∧ (State.longSliceEnd s n last ue errs).now = s.now ∧ (State.longSliceEnd s n last ue errs).rdata = s.rdata ∧ (State.longSliceEnd s n last ue errs).pending = s.pending ∧ (State.longSliceEnd s n last ue errs).sec.fuses = s.sec.fuses ∧ (State.longSliceEnd s n last ue errs).mem.ddr = s.mem.ddr ∧ (State.longSliceEnd s n last ue errs).mem.sram = s.mem.sram := by
  unfold State.longSliceEnd
  simp only []
  (repeat' split) <;> simp

@[simp ↓] theorem State.startItem_keeps (s : State) (c : ServerClass) (server ac len n : Nat) (e : PoolEntry) :
    (State.startItem s c server ac len n e).ident = s.ident ∧ (State.startItem s c server ac len n e).tick = s.tick ∧ (State.startItem s c server ac len n e).aster = s.aster ∧ (State.startItem s c server ac len n e).lupin = s.lupin ∧ (State.startItem s c server ac len n e).cornflower = s.cornflower ∧ (State.startItem s c server ac len n e).poppy = s.poppy ∧ (State.startItem s c server ac len n e).vetch = s.vetch ∧ (State.startItem s c server ac len n e).commit = s.commit ∧ (State.startItem s c server ac len n e).zheda = s.zheda ∧ (State.startItem s c server ac len n e).bindweed = s.bindweed ∧ (State.startItem s c server ac len n e).cowslip = s.cowslip ∧ (State.startItem s c server ac len n e).cmd = s.cmd ∧ (State.startItem s c server ac len n e).mem = s.mem ∧ (State.startItem s c server ac len n e).sec = s.sec ∧ (State.startItem s c server ac len n e).casc = s.casc ∧ (State.startItem s c server ac len n e).now = s.now ∧ (State.startItem s c server ac len n e).rdata = s.rdata ∧ (State.startItem s c server ac len n e).pending = s.pending := by
  unfold State.startItem
  simp only []
  (repeat' split) <;> simp

@[simp ↓] theorem State.dispatch_keeps (n : Nat) (c : ServerClass) (a b d : Nat) (s : State) :
    (State.dispatch n c a b d s).ident = s.ident ∧ (State.dispatch n c a b d s).tick = s.tick ∧ (State.dispatch n c a b d s).aster = s.aster ∧ (State.dispatch n c a b d s).lupin = s.lupin ∧ (State.dispatch n c a b d s).poppy = s.poppy ∧ (State.dispatch n c a b d s).vetch = s.vetch ∧ (State.dispatch n c a b d s).commit = s.commit ∧ (State.dispatch n c a b d s).bindweed = s.bindweed ∧ (State.dispatch n c a b d s).sec = s.sec ∧ (State.dispatch n c a b d s).casc = s.casc ∧ (State.dispatch n c a b d s).now = s.now ∧ (State.dispatch n c a b d s).rdata = s.rdata ∧ (State.dispatch n c a b d s).pending = s.pending := by
  induction n generalizing s with
  | zero => simp [State.dispatch]
  | succ n ih =>
    unfold State.dispatch
    (repeat' split) <;> simp [ih]

@[simp ↓] theorem backgroundDispatchEffect_keeps (c : ServerClass) (server ac len : Nat) (s : State) :
    (backgroundDispatchEffect c server ac len s).ident = s.ident ∧ (backgroundDispatchEffect c server ac len s).aster = s.aster ∧ (backgroundDispatchEffect c server ac len s).lupin = s.lupin ∧ (backgroundDispatchEffect c server ac len s).poppy = s.poppy ∧ (backgroundDispatchEffect c server ac len s).vetch = s.vetch ∧ (backgroundDispatchEffect c server ac len s).commit = s.commit ∧ (backgroundDispatchEffect c server ac len s).bindweed = s.bindweed ∧ (backgroundDispatchEffect c server ac len s).sec = s.sec ∧ (backgroundDispatchEffect c server ac len s).casc = s.casc ∧ (backgroundDispatchEffect c server ac len s).now = s.now ∧ (backgroundDispatchEffect c server ac len s).rdata = s.rdata ∧ (backgroundDispatchEffect c server ac len s).pending = s.pending := by
  unfold backgroundDispatchEffect
  refine ⟨?_, ?_, ?_, ?_, ?_, ?_, ?_, ?_, ?_, ?_, ?_, ?_⟩ <;> (repeat' (first | with_reducible rfl | (simp; done) | (with_reducible intro _) | (with_reducible apply State.item_proj) | (with_reducible apply State.guarded_proj) | (with_reducible apply State.counterOp_proj) | (with_reducible apply State.packet_proj) | (with_reducible refine Eq.trans (foldl_proj _ _ _ _ ?_) ?_) | (with_reducible refine Eq.trans (foldl_fst_proj _ _ _ _ ?_) ?_) | (with_reducible refine Eq.trans (foldl_snd_proj _ _ _ _ ?_) ?_) | split | (simp only []; split) | (dsimp only; split)))

@[simp ↓] theorem State.itemDone_keeps (s : State) (r : Running) (n : Nat) (ue : Bool) :
    (State.itemDone s r n ue).ident = s.ident ∧ (State.itemDone s r n ue).tick = s.tick ∧ (State.itemDone s r n ue).world = s.world ∧ (State.itemDone s r n ue).lupin = s.lupin ∧ (State.itemDone s r n ue).harebell = s.harebell ∧ (State.itemDone s r n ue).cornflower = s.cornflower ∧ (State.itemDone s r n ue).vetch = s.vetch ∧ (State.itemDone s r n ue).commit = s.commit ∧ (State.itemDone s r n ue).zheda = s.zheda ∧ (State.itemDone s r n ue).bindweed = s.bindweed ∧ (State.itemDone s r n ue).safety = s.safety ∧ (State.itemDone s r n ue).clock = s.clock ∧ (State.itemDone s r n ue).sec = s.sec ∧ (State.itemDone s r n ue).casc = s.casc ∧ (State.itemDone s r n ue).now = s.now ∧ (State.itemDone s r n ue).rdata = s.rdata ∧ (State.itemDone s r n ue).freeIx = s.freeIx ∧ (State.itemDone s r n ue).pending = s.pending := by
  unfold State.itemDone
  (repeat' split) <;> simp

@[simp ↓] theorem flowItemCompleteEffect_keeps (c : ServerClass) (server : Nat) (ue : Bool) (s : State) :
    (flowItemCompleteEffect c server ue s).ident = s.ident ∧ (flowItemCompleteEffect c server ue s).tick = s.tick ∧ (flowItemCompleteEffect c server ue s).world = s.world ∧ (flowItemCompleteEffect c server ue s).lupin = s.lupin ∧ (flowItemCompleteEffect c server ue s).harebell = s.harebell ∧ (flowItemCompleteEffect c server ue s).cornflower = s.cornflower ∧ (flowItemCompleteEffect c server ue s).vetch = s.vetch ∧ (flowItemCompleteEffect c server ue s).commit = s.commit ∧ (flowItemCompleteEffect c server ue s).zheda = s.zheda ∧ (flowItemCompleteEffect c server ue s).bindweed = s.bindweed ∧ (flowItemCompleteEffect c server ue s).safety = s.safety ∧ (flowItemCompleteEffect c server ue s).clock = s.clock ∧ (flowItemCompleteEffect c server ue s).sec = s.sec ∧ (flowItemCompleteEffect c server ue s).casc = s.casc ∧ (flowItemCompleteEffect c server ue s).now = s.now ∧ (flowItemCompleteEffect c server ue s).rdata = s.rdata ∧ (flowItemCompleteEffect c server ue s).freeIx = s.freeIx ∧ (flowItemCompleteEffect c server ue s).pending = s.pending := by
  unfold flowItemCompleteEffect
  (repeat' split) <;> simp

@[simp ↓] theorem backgroundSliceEndEffect_keeps (c : ServerClass) (server : Nat) (last ue : Bool) (errs : List (Nat × GranErr)) (s : State) :
    (backgroundSliceEndEffect c server last ue errs s).ident = s.ident ∧ (backgroundSliceEndEffect c server last ue errs s).tick = s.tick ∧ (backgroundSliceEndEffect c server last ue errs s).world = s.world ∧ (backgroundSliceEndEffect c server last ue errs s).harebell = s.harebell ∧ (backgroundSliceEndEffect c server last ue errs s).vetch = s.vetch ∧ (backgroundSliceEndEffect c server last ue errs s).commit = s.commit ∧ (backgroundSliceEndEffect c server last ue errs s).bindweed = s.bindweed ∧ (backgroundSliceEndEffect c server last ue errs s).now = s.now ∧ (backgroundSliceEndEffect c server last ue errs s).rdata = s.rdata ∧ (backgroundSliceEndEffect c server last ue errs s).pending = s.pending ∧ (backgroundSliceEndEffect c server last ue errs s).sec.fuses = s.sec.fuses := by
  unfold backgroundSliceEndEffect
  (repeat' split) <;> simp

@[simp ↓] theorem testSliceStartEffect_keeps (u : TestUnit) (ac : Nat) (s : State) :
    (testSliceStartEffect u ac s).ident = s.ident ∧ (testSliceStartEffect u ac s).aster = s.aster ∧ (testSliceStartEffect u ac s).lupin = s.lupin ∧ (testSliceStartEffect u ac s).harebell = s.harebell ∧ (testSliceStartEffect u ac s).cornflower = s.cornflower ∧ (testSliceStartEffect u ac s).poppy = s.poppy ∧ (testSliceStartEffect u ac s).vetch = s.vetch ∧ (testSliceStartEffect u ac s).commit = s.commit ∧ (testSliceStartEffect u ac s).zheda = s.zheda ∧ (testSliceStartEffect u ac s).teasel = s.teasel ∧ (testSliceStartEffect u ac s).bindweed = s.bindweed ∧ (testSliceStartEffect u ac s).cowslip = s.cowslip ∧ (testSliceStartEffect u ac s).mem = s.mem ∧ (testSliceStartEffect u ac s).clock = s.clock ∧ (testSliceStartEffect u ac s).host = s.host ∧ (testSliceStartEffect u ac s).sec = s.sec ∧ (testSliceStartEffect u ac s).casc = s.casc ∧ (testSliceStartEffect u ac s).now = s.now ∧ (testSliceStartEffect u ac s).rdata = s.rdata ∧ (testSliceStartEffect u ac s).freeIx = s.freeIx ∧ (testSliceStartEffect u ac s).pending = s.pending := by
  unfold testSliceStartEffect
  simp only []
  (repeat' split) <;> simp

@[simp ↓] theorem State.covFails_keeps (s : State) (u : Nat) (f : Option AsterFail) (inj : Bool) :
    (State.covFails s u f inj).ident = s.ident ∧ (State.covFails s u f inj).tick = s.tick ∧ (State.covFails s u f inj).world = s.world ∧ (State.covFails s u f inj).lupin = s.lupin ∧ (State.covFails s u f inj).harebell = s.harebell ∧ (State.covFails s u f inj).vetch = s.vetch ∧ (State.covFails s u f inj).commit = s.commit ∧ (State.covFails s u f inj).zheda = s.zheda ∧ (State.covFails s u f inj).teasel = s.teasel ∧ (State.covFails s u f inj).bindweed = s.bindweed ∧ (State.covFails s u f inj).cowslip = s.cowslip ∧ (State.covFails s u f inj).cmd = s.cmd ∧ (State.covFails s u f inj).mem = s.mem ∧ (State.covFails s u f inj).sec = s.sec ∧ (State.covFails s u f inj).casc = s.casc ∧ (State.covFails s u f inj).now = s.now ∧ (State.covFails s u f inj).rdata = s.rdata ∧ (State.covFails s u f inj).pending = s.pending := by
  simp [State.covFails]

@[simp ↓] theorem State.covPasses_keeps (s : State) (u : Nat) :
    (State.covPasses s u).ident = s.ident ∧ (State.covPasses s u).tick = s.tick ∧ (State.covPasses s u).world = s.world ∧ (State.covPasses s u).aster = s.aster ∧ (State.covPasses s u).lupin = s.lupin ∧ (State.covPasses s u).harebell = s.harebell ∧ (State.covPasses s u).cornflower = s.cornflower ∧ (State.covPasses s u).poppy = s.poppy ∧ (State.covPasses s u).vetch = s.vetch ∧ (State.covPasses s u).commit = s.commit ∧ (State.covPasses s u).zheda = s.zheda ∧ (State.covPasses s u).teasel = s.teasel ∧ (State.covPasses s u).bindweed = s.bindweed ∧ (State.covPasses s u).cowslip = s.cowslip ∧ (State.covPasses s u).cmd = s.cmd ∧ (State.covPasses s u).mem = s.mem ∧ (State.covPasses s u).clock = s.clock ∧ (State.covPasses s u).host = s.host ∧ (State.covPasses s u).sec = s.sec ∧ (State.covPasses s u).casc = s.casc ∧ (State.covPasses s u).now = s.now ∧ (State.covPasses s u).rdata = s.rdata ∧ (State.covPasses s u).freeIx = s.freeIx ∧ (State.covPasses s u).pending = s.pending := by
  simp [State.covPasses]

@[simp ↓] theorem State.requalEnd_keeps (s : State) (t res : Nat) :
    (State.requalEnd s t res).ident = s.ident ∧ (State.requalEnd s t res).tick = s.tick ∧ (State.requalEnd s t res).world = s.world ∧ (State.requalEnd s t res).aster = s.aster ∧ (State.requalEnd s t res).lupin = s.lupin ∧ (State.requalEnd s t res).harebell = s.harebell ∧ (State.requalEnd s t res).poppy = s.poppy ∧ (State.requalEnd s t res).vetch = s.vetch ∧ (State.requalEnd s t res).commit = s.commit ∧ (State.requalEnd s t res).bindweed = s.bindweed ∧ (State.requalEnd s t res).mem = s.mem ∧ (State.requalEnd s t res).clock = s.clock ∧ (State.requalEnd s t res).sec = s.sec ∧ (State.requalEnd s t res).casc = s.casc ∧ (State.requalEnd s t res).now = s.now ∧ (State.requalEnd s t res).rdata = s.rdata ∧ (State.requalEnd s t res).freeIx = s.freeIx ∧ (State.requalEnd s t res).pending = s.pending := by
  unfold State.requalEnd
  (repeat' split) <;> simp

@[simp ↓] theorem State.tilePasses_keeps (s : State) (t : Nat) :
    (State.tilePasses s t).ident = s.ident ∧ (State.tilePasses s t).tick = s.tick ∧ (State.tilePasses s t).world = s.world ∧ (State.tilePasses s t).aster = s.aster ∧ (State.tilePasses s t).lupin = s.lupin ∧ (State.tilePasses s t).harebell = s.harebell ∧ (State.tilePasses s t).cornflower = s.cornflower ∧ (State.tilePasses s t).poppy = s.poppy ∧ (State.tilePasses s t).vetch = s.vetch ∧ (State.tilePasses s t).commit = s.commit ∧ (State.tilePasses s t).zheda = s.zheda ∧ (State.tilePasses s t).teasel = s.teasel ∧ (State.tilePasses s t).bindweed = s.bindweed ∧ (State.tilePasses s t).cowslip = s.cowslip ∧ (State.tilePasses s t).cmd = s.cmd ∧ (State.tilePasses s t).mem = s.mem ∧ (State.tilePasses s t).clock = s.clock ∧ (State.tilePasses s t).host = s.host ∧ (State.tilePasses s t).sec = s.sec ∧ (State.tilePasses s t).casc = s.casc ∧ (State.tilePasses s t).now = s.now ∧ (State.tilePasses s t).rdata = s.rdata ∧ (State.tilePasses s t).freeIx = s.freeIx ∧ (State.tilePasses s t).pending = s.pending := by
  unfold State.tilePasses
  simp only []
  (repeat' split) <;> simp

@[simp ↓] theorem State.tileTestFails_keeps (s : State) (t : Nat) (inj : Bool) :
    (State.tileTestFails s t inj).ident = s.ident ∧ (State.tileTestFails s t inj).tick = s.tick ∧ (State.tileTestFails s t inj).world = s.world ∧ (State.tileTestFails s t inj).aster = s.aster ∧ (State.tileTestFails s t inj).lupin = s.lupin ∧ (State.tileTestFails s t inj).harebell = s.harebell ∧ (State.tileTestFails s t inj).poppy = s.poppy ∧ (State.tileTestFails s t inj).vetch = s.vetch ∧ (State.tileTestFails s t inj).commit = s.commit ∧ (State.tileTestFails s t inj).bindweed = s.bindweed ∧ (State.tileTestFails s t inj).mem = s.mem ∧ (State.tileTestFails s t inj).sec = s.sec ∧ (State.tileTestFails s t inj).casc = s.casc ∧ (State.tileTestFails s t inj).now = s.now ∧ (State.tileTestFails s t inj).rdata = s.rdata ∧ (State.tileTestFails s t inj).pending = s.pending := by
  simp [State.tileTestFails]

@[simp ↓] theorem State.tileSlice_keeps (s : State) (t : Nat) (pass inj : Bool) :
    (State.tileSlice s t pass inj).ident = s.ident ∧ (State.tileSlice s t pass inj).tick = s.tick ∧ (State.tileSlice s t pass inj).world = s.world ∧ (State.tileSlice s t pass inj).aster = s.aster ∧ (State.tileSlice s t pass inj).lupin = s.lupin ∧ (State.tileSlice s t pass inj).harebell = s.harebell ∧ (State.tileSlice s t pass inj).poppy = s.poppy ∧ (State.tileSlice s t pass inj).vetch = s.vetch ∧ (State.tileSlice s t pass inj).commit = s.commit ∧ (State.tileSlice s t pass inj).bindweed = s.bindweed ∧ (State.tileSlice s t pass inj).mem = s.mem ∧ (State.tileSlice s t pass inj).sec = s.sec ∧ (State.tileSlice s t pass inj).casc = s.casc ∧ (State.tileSlice s t pass inj).now = s.now ∧ (State.tileSlice s t pass inj).rdata = s.rdata ∧ (State.tileSlice s t pass inj).pending = s.pending := by
  unfold State.tileSlice
  simp only []
  (repeat' split) <;> simp

@[simp ↓] theorem State.vetSlice_keeps (s : State) (pass inj : Bool) :
    (State.vetSlice s pass inj).ident = s.ident ∧ (State.vetSlice s pass inj).tick = s.tick ∧ (State.vetSlice s pass inj).world = s.world ∧ (State.vetSlice s pass inj).aster = s.aster ∧ (State.vetSlice s pass inj).lupin = s.lupin ∧ (State.vetSlice s pass inj).harebell = s.harebell ∧ (State.vetSlice s pass inj).cornflower = s.cornflower ∧ (State.vetSlice s pass inj).poppy = s.poppy ∧ (State.vetSlice s pass inj).commit = s.commit ∧ (State.vetSlice s pass inj).zheda = s.zheda ∧ (State.vetSlice s pass inj).teasel = s.teasel ∧ (State.vetSlice s pass inj).bindweed = s.bindweed ∧ (State.vetSlice s pass inj).cowslip = s.cowslip ∧ (State.vetSlice s pass inj).cmd = s.cmd ∧ (State.vetSlice s pass inj).mem = s.mem ∧ (State.vetSlice s pass inj).sec = s.sec ∧ (State.vetSlice s pass inj).casc = s.casc ∧ (State.vetSlice s pass inj).now = s.now ∧ (State.vetSlice s pass inj).rdata = s.rdata ∧ (State.vetSlice s pass inj).pending = s.pending := by
  unfold State.vetSlice
  (repeat' split) <;> simp

@[simp ↓] theorem testSliceEndEffect_keeps (u : TestUnit) (r : TestResult) (s : State) :
    (testSliceEndEffect u r s).ident = s.ident ∧ (testSliceEndEffect u r s).tick = s.tick ∧ (testSliceEndEffect u r s).world = s.world ∧ (testSliceEndEffect u r s).lupin = s.lupin ∧ (testSliceEndEffect u r s).harebell = s.harebell ∧ (testSliceEndEffect u r s).commit = s.commit ∧ (testSliceEndEffect u r s).bindweed = s.bindweed ∧ (testSliceEndEffect u r s).mem = s.mem ∧ (testSliceEndEffect u r s).sec = s.sec ∧ (testSliceEndEffect u r s).casc = s.casc ∧ (testSliceEndEffect u r s).now = s.now ∧ (testSliceEndEffect u r s).rdata = s.rdata ∧ (testSliceEndEffect u r s).pending = s.pending := by
  unfold testSliceEndEffect
  (repeat' split) <;> simp

@[simp ↓] theorem coverageExceededEffect_keeps (u : TestUnit) (s : State) :
    (coverageExceededEffect u s).ident = s.ident ∧ (coverageExceededEffect u s).tick = s.tick ∧ (coverageExceededEffect u s).world = s.world ∧ (coverageExceededEffect u s).aster = s.aster ∧ (coverageExceededEffect u s).lupin = s.lupin ∧ (coverageExceededEffect u s).harebell = s.harebell ∧ (coverageExceededEffect u s).cornflower = s.cornflower ∧ (coverageExceededEffect u s).poppy = s.poppy ∧ (coverageExceededEffect u s).vetch = s.vetch ∧ (coverageExceededEffect u s).commit = s.commit ∧ (coverageExceededEffect u s).zheda = s.zheda ∧ (coverageExceededEffect u s).teasel = s.teasel ∧ (coverageExceededEffect u s).bindweed = s.bindweed ∧ (coverageExceededEffect u s).cowslip = s.cowslip ∧ (coverageExceededEffect u s).cmd = s.cmd ∧ (coverageExceededEffect u s).mem = s.mem ∧ (coverageExceededEffect u s).sec = s.sec ∧ (coverageExceededEffect u s).casc = s.casc ∧ (coverageExceededEffect u s).now = s.now ∧ (coverageExceededEffect u s).rdata = s.rdata ∧ (coverageExceededEffect u s).pending = s.pending := by
  unfold coverageExceededEffect
  simp only []
  (repeat' split) <;> simp

@[simp ↓] theorem State.vetNext_keeps (s : State) (n : Nat) (f : FgSlot) :
    (State.vetNext s n f).ident = s.ident ∧ (State.vetNext s n f).tick = s.tick ∧ (State.vetNext s n f).world = s.world ∧ (State.vetNext s n f).aster = s.aster ∧ (State.vetNext s n f).lupin = s.lupin ∧ (State.vetNext s n f).harebell = s.harebell ∧ (State.vetNext s n f).cornflower = s.cornflower ∧ (State.vetNext s n f).poppy = s.poppy ∧ (State.vetNext s n f).commit = s.commit ∧ (State.vetNext s n f).zheda = s.zheda ∧ (State.vetNext s n f).teasel = s.teasel ∧ (State.vetNext s n f).bindweed = s.bindweed ∧ (State.vetNext s n f).cowslip = s.cowslip ∧ (State.vetNext s n f).cmd = s.cmd ∧ (State.vetNext s n f).safety = s.safety ∧ (State.vetNext s n f).mem = s.mem ∧ (State.vetNext s n f).clock = s.clock ∧ (State.vetNext s n f).host = s.host ∧ (State.vetNext s n f).sec = s.sec ∧ (State.vetNext s n f).casc = s.casc ∧ (State.vetNext s n f).now = s.now ∧ (State.vetNext s n f).rdata = s.rdata ∧ (State.vetNext s n f).freeIx = s.freeIx ∧ (State.vetNext s n f).pending = s.pending := by
  simp [State.vetNext]

@[simp ↓] theorem vetchFeasibilityEffect_keeps (n : Nat) (m : ItemFault) (s : State) :
    (vetchFeasibilityEffect n m s).ident = s.ident ∧ (vetchFeasibilityEffect n m s).tick = s.tick ∧ (vetchFeasibilityEffect n m s).world = s.world ∧ (vetchFeasibilityEffect n m s).aster = s.aster ∧ (vetchFeasibilityEffect n m s).lupin = s.lupin ∧ (vetchFeasibilityEffect n m s).harebell = s.harebell ∧ (vetchFeasibilityEffect n m s).cornflower = s.cornflower ∧ (vetchFeasibilityEffect n m s).poppy = s.poppy ∧ (vetchFeasibilityEffect n m s).commit = s.commit ∧ (vetchFeasibilityEffect n m s).bindweed = s.bindweed ∧ (vetchFeasibilityEffect n m s).cowslip = s.cowslip ∧ (vetchFeasibilityEffect n m s).cmd = s.cmd ∧ (vetchFeasibilityEffect n m s).sec = s.sec ∧ (vetchFeasibilityEffect n m s).casc = s.casc ∧ (vetchFeasibilityEffect n m s).now = s.now ∧ (vetchFeasibilityEffect n m s).rdata = s.rdata ∧ (vetchFeasibilityEffect n m s).pending = s.pending ∧ (vetchFeasibilityEffect n m s).mem.ddr = s.mem.ddr ∧ (vetchFeasibilityEffect n m s).mem.sram = s.mem.sram := by
  unfold vetchFeasibilityEffect State.item
  dsimp only
  (repeat' split) <;> simp

@[simp ↓] theorem State.vetIterate_keeps (s : State) (n : Nat) (f : FgSlot) (r : Nat) (e : HEntry) :
    (State.vetIterate s n f r e).ident = s.ident ∧ (State.vetIterate s n f r e).tick = s.tick ∧ (State.vetIterate s n f r e).world = s.world ∧ (State.vetIterate s n f r e).aster = s.aster ∧ (State.vetIterate s n f r e).lupin = s.lupin ∧ (State.vetIterate s n f r e).harebell = s.harebell ∧ (State.vetIterate s n f r e).cornflower = s.cornflower ∧ (State.vetIterate s n f r e).poppy = s.poppy ∧ (State.vetIterate s n f r e).commit = s.commit ∧ (State.vetIterate s n f r e).zheda = s.zheda ∧ (State.vetIterate s n f r e).teasel = s.teasel ∧ (State.vetIterate s n f r e).bindweed = s.bindweed ∧ (State.vetIterate s n f r e).cowslip = s.cowslip ∧ (State.vetIterate s n f r e).safety = s.safety ∧ (State.vetIterate s n f r e).mem = s.mem ∧ (State.vetIterate s n f r e).clock = s.clock ∧ (State.vetIterate s n f r e).host = s.host ∧ (State.vetIterate s n f r e).sec = s.sec ∧ (State.vetIterate s n f r e).casc = s.casc ∧ (State.vetIterate s n f r e).now = s.now ∧ (State.vetIterate s n f r e).rdata = s.rdata ∧ (State.vetIterate s n f r e).freeIx = s.freeIx ∧ (State.vetIterate s n f r e).pending = s.pending := by
  unfold State.vetIterate
  (repeat' split) <;> simp

@[simp ↓] theorem vetchIterationEffect_keeps (n : Nat) (m : ItemFault) (s : State) :
    (vetchIterationEffect n m s).ident = s.ident ∧ (vetchIterationEffect n m s).tick = s.tick ∧ (vetchIterationEffect n m s).world = s.world ∧ (vetchIterationEffect n m s).aster = s.aster ∧ (vetchIterationEffect n m s).lupin = s.lupin ∧ (vetchIterationEffect n m s).harebell = s.harebell ∧ (vetchIterationEffect n m s).cornflower = s.cornflower ∧ (vetchIterationEffect n m s).poppy = s.poppy ∧ (vetchIterationEffect n m s).commit = s.commit ∧ (vetchIterationEffect n m s).bindweed = s.bindweed ∧ (vetchIterationEffect n m s).cowslip = s.cowslip ∧ (vetchIterationEffect n m s).sec = s.sec ∧ (vetchIterationEffect n m s).casc = s.casc ∧ (vetchIterationEffect n m s).now = s.now ∧ (vetchIterationEffect n m s).rdata = s.rdata ∧ (vetchIterationEffect n m s).pending = s.pending ∧ (vetchIterationEffect n m s).mem.ddr = s.mem.ddr ∧ (vetchIterationEffect n m s).mem.sram = s.mem.sram := by
  unfold vetchIterationEffect State.item
  dsimp only
  (repeat' split) <;> simp

@[simp ↓] theorem vetchStopEffect_keeps (n : Nat) (m : ItemFault) (s : State) :
    (vetchStopEffect n m s).ident = s.ident ∧ (vetchStopEffect n m s).tick = s.tick ∧ (vetchStopEffect n m s).world = s.world ∧ (vetchStopEffect n m s).aster = s.aster ∧ (vetchStopEffect n m s).lupin = s.lupin ∧ (vetchStopEffect n m s).harebell = s.harebell ∧ (vetchStopEffect n m s).cornflower = s.cornflower ∧ (vetchStopEffect n m s).poppy = s.poppy ∧ (vetchStopEffect n m s).commit = s.commit ∧ (vetchStopEffect n m s).bindweed = s.bindweed ∧ (vetchStopEffect n m s).cowslip = s.cowslip ∧ (vetchStopEffect n m s).cmd = s.cmd ∧ (vetchStopEffect n m s).sec = s.sec ∧ (vetchStopEffect n m s).casc = s.casc ∧ (vetchStopEffect n m s).now = s.now ∧ (vetchStopEffect n m s).rdata = s.rdata ∧ (vetchStopEffect n m s).pending = s.pending ∧ (vetchStopEffect n m s).mem.ddr = s.mem.ddr ∧ (vetchStopEffect n m s).mem.sram = s.mem.sram := by
  unfold vetchStopEffect State.item
  dsimp only
  (repeat' split) <;> simp

@[simp ↓] theorem vetchWindowCutEffect_keeps (n : Nat) (s : State) :
    (vetchWindowCutEffect n s).ident = s.ident ∧ (vetchWindowCutEffect n s).tick = s.tick ∧ (vetchWindowCutEffect n s).world = s.world ∧ (vetchWindowCutEffect n s).aster = s.aster ∧ (vetchWindowCutEffect n s).lupin = s.lupin ∧ (vetchWindowCutEffect n s).harebell = s.harebell ∧ (vetchWindowCutEffect n s).cornflower = s.cornflower ∧ (vetchWindowCutEffect n s).poppy = s.poppy ∧ (vetchWindowCutEffect n s).commit = s.commit ∧ (vetchWindowCutEffect n s).teasel = s.teasel ∧ (vetchWindowCutEffect n s).bindweed = s.bindweed ∧ (vetchWindowCutEffect n s).cowslip = s.cowslip ∧ (vetchWindowCutEffect n s).cmd = s.cmd ∧ (vetchWindowCutEffect n s).safety = s.safety ∧ (vetchWindowCutEffect n s).mem = s.mem ∧ (vetchWindowCutEffect n s).clock = s.clock ∧ (vetchWindowCutEffect n s).host = s.host ∧ (vetchWindowCutEffect n s).sec = s.sec ∧ (vetchWindowCutEffect n s).casc = s.casc ∧ (vetchWindowCutEffect n s).now = s.now ∧ (vetchWindowCutEffect n s).rdata = s.rdata ∧ (vetchWindowCutEffect n s).freeIx = s.freeIx ∧ (vetchWindowCutEffect n s).pending = s.pending := by
  unfold vetchWindowCutEffect State.item
  dsimp only
  (repeat' split) <;> simp

@[simp ↓] theorem proposalNetworkEffect_keeps (n : Nat) (m : ItemFault) (s : State) :
    (proposalNetworkEffect n m s).ident = s.ident ∧ (proposalNetworkEffect n m s).tick = s.tick ∧ (proposalNetworkEffect n m s).world = s.world ∧ (proposalNetworkEffect n m s).lupin = s.lupin ∧ (proposalNetworkEffect n m s).harebell = s.harebell ∧ (proposalNetworkEffect n m s).cornflower = s.cornflower ∧ (proposalNetworkEffect n m s).poppy = s.poppy ∧ (proposalNetworkEffect n m s).vetch = s.vetch ∧ (proposalNetworkEffect n m s).commit = s.commit ∧ (proposalNetworkEffect n m s).bindweed = s.bindweed ∧ (proposalNetworkEffect n m s).cowslip = s.cowslip ∧ (proposalNetworkEffect n m s).cmd = s.cmd ∧ (proposalNetworkEffect n m s).sec = s.sec ∧ (proposalNetworkEffect n m s).casc = s.casc ∧ (proposalNetworkEffect n m s).now = s.now ∧ (proposalNetworkEffect n m s).rdata = s.rdata ∧ (proposalNetworkEffect n m s).pending = s.pending ∧ (proposalNetworkEffect n m s).mem.ddr = s.mem.ddr ∧ (proposalNetworkEffect n m s).mem.sram = s.mem.sram := by
  unfold proposalNetworkEffect State.item
  dsimp only
  (repeat' split) <;> simp

@[simp ↓] theorem State.lupinTake_keeps (s : State) (n : Nat) (f : FgSlot) (h : HandOff) :
    (State.lupinTake s n f h).ident = s.ident ∧ (State.lupinTake s n f h).tick = s.tick ∧ (State.lupinTake s n f h).world = s.world ∧ (State.lupinTake s n f h).aster = s.aster ∧ (State.lupinTake s n f h).harebell = s.harebell ∧ (State.lupinTake s n f h).cornflower = s.cornflower ∧ (State.lupinTake s n f h).poppy = s.poppy ∧ (State.lupinTake s n f h).vetch = s.vetch ∧ (State.lupinTake s n f h).commit = s.commit ∧ (State.lupinTake s n f h).zheda = s.zheda ∧ (State.lupinTake s n f h).teasel = s.teasel ∧ (State.lupinTake s n f h).bindweed = s.bindweed ∧ (State.lupinTake s n f h).cowslip = s.cowslip ∧ (State.lupinTake s n f h).cmd = s.cmd ∧ (State.lupinTake s n f h).safety = s.safety ∧ (State.lupinTake s n f h).mem = s.mem ∧ (State.lupinTake s n f h).clock = s.clock ∧ (State.lupinTake s n f h).host = s.host ∧ (State.lupinTake s n f h).sec = s.sec ∧ (State.lupinTake s n f h).casc = s.casc ∧ (State.lupinTake s n f h).now = s.now ∧ (State.lupinTake s n f h).rdata = s.rdata ∧ (State.lupinTake s n f h).freeIx = s.freeIx ∧ (State.lupinTake s n f h).pending = s.pending := by
  simp [State.lupinTake]

@[simp ↓] theorem State.handoffSlot_keeps (s : State) (n : Nat) (f : FgSlot) (m : ItemFault) :
    (State.handoffSlot s n f m).ident = s.ident ∧ (State.handoffSlot s n f m).tick = s.tick ∧ (State.handoffSlot s n f m).world = s.world ∧ (State.handoffSlot s n f m).aster = s.aster ∧ (State.handoffSlot s n f m).harebell = s.harebell ∧ (State.handoffSlot s n f m).cornflower = s.cornflower ∧ (State.handoffSlot s n f m).poppy = s.poppy ∧ (State.handoffSlot s n f m).commit = s.commit ∧ (State.handoffSlot s n f m).zheda = s.zheda ∧ (State.handoffSlot s n f m).teasel = s.teasel ∧ (State.handoffSlot s n f m).bindweed = s.bindweed ∧ (State.handoffSlot s n f m).cowslip = s.cowslip ∧ (State.handoffSlot s n f m).cmd = s.cmd ∧ (State.handoffSlot s n f m).safety = s.safety ∧ (State.handoffSlot s n f m).mem = s.mem ∧ (State.handoffSlot s n f m).clock = s.clock ∧ (State.handoffSlot s n f m).host = s.host ∧ (State.handoffSlot s n f m).sec = s.sec ∧ (State.handoffSlot s n f m).casc = s.casc ∧ (State.handoffSlot s n f m).now = s.now ∧ (State.handoffSlot s n f m).rdata = s.rdata ∧ (State.handoffSlot s n f m).freeIx = s.freeIx ∧ (State.handoffSlot s n f m).pending = s.pending := by
  simp [State.handoffSlot]

@[simp ↓] theorem handoffEffect_keeps (m : ItemFault) (s : State) :
    (handoffEffect m s).ident = s.ident ∧ (handoffEffect m s).world = s.world ∧ (handoffEffect m s).aster = s.aster ∧ (handoffEffect m s).harebell = s.harebell ∧ (handoffEffect m s).cornflower = s.cornflower ∧ (handoffEffect m s).poppy = s.poppy ∧ (handoffEffect m s).commit = s.commit ∧ (handoffEffect m s).bindweed = s.bindweed ∧ (handoffEffect m s).cowslip = s.cowslip ∧ (handoffEffect m s).cmd = s.cmd ∧ (handoffEffect m s).sec = s.sec ∧ (handoffEffect m s).now = s.now ∧ (handoffEffect m s).rdata = s.rdata ∧ (handoffEffect m s).pending = s.pending ∧ (handoffEffect m s).mem.ddr = s.mem.ddr ∧ (handoffEffect m s).mem.sram = s.mem.sram := by
  unfold handoffEffect State.item
  (repeat' split) <;> simp

@[simp ↓] theorem State.checkCounts_keeps (s : State) (t : Nat) (c : CheckRes) :
    (State.checkCounts s t c).ident = s.ident ∧ (State.checkCounts s t c).tick = s.tick ∧ (State.checkCounts s t c).aster = s.aster ∧ (State.checkCounts s t c).lupin = s.lupin ∧ (State.checkCounts s t c).cornflower = s.cornflower ∧ (State.checkCounts s t c).poppy = s.poppy ∧ (State.checkCounts s t c).vetch = s.vetch ∧ (State.checkCounts s t c).commit = s.commit ∧ (State.checkCounts s t c).teasel = s.teasel ∧ (State.checkCounts s t c).bindweed = s.bindweed ∧ (State.checkCounts s t c).cowslip = s.cowslip ∧ (State.checkCounts s t c).cmd = s.cmd ∧ (State.checkCounts s t c).mem = s.mem ∧ (State.checkCounts s t c).sec = s.sec ∧ (State.checkCounts s t c).casc = s.casc ∧ (State.checkCounts s t c).now = s.now ∧ (State.checkCounts s t c).rdata = s.rdata ∧ (State.checkCounts s t c).pending = s.pending := by
  simp [State.checkCounts]

@[simp ↓] theorem commitCheckJobEffect_keeps (n r : Nat) (s : State) :
    (commitCheckJobEffect n r s).ident = s.ident ∧ (commitCheckJobEffect n r s).tick = s.tick ∧ (commitCheckJobEffect n r s).aster = s.aster ∧ (commitCheckJobEffect n r s).lupin = s.lupin ∧ (commitCheckJobEffect n r s).cornflower = s.cornflower ∧ (commitCheckJobEffect n r s).poppy = s.poppy ∧ (commitCheckJobEffect n r s).vetch = s.vetch ∧ (commitCheckJobEffect n r s).teasel = s.teasel ∧ (commitCheckJobEffect n r s).bindweed = s.bindweed ∧ (commitCheckJobEffect n r s).cowslip = s.cowslip ∧ (commitCheckJobEffect n r s).cmd = s.cmd ∧ (commitCheckJobEffect n r s).mem = s.mem ∧ (commitCheckJobEffect n r s).sec = s.sec ∧ (commitCheckJobEffect n r s).casc = s.casc ∧ (commitCheckJobEffect n r s).now = s.now ∧ (commitCheckJobEffect n r s).rdata = s.rdata ∧ (commitCheckJobEffect n r s).pending = s.pending := by
  unfold commitCheckJobEffect State.item
  dsimp only
  (repeat' split) <;> simp

@[simp ↓] theorem State.frameEmitted_keeps (s : State) (q : QueuedFrame) :
    (State.frameEmitted s q).ident = s.ident ∧ (State.frameEmitted s q).tick = s.tick ∧ (State.frameEmitted s q).world = s.world ∧ (State.frameEmitted s q).aster = s.aster ∧ (State.frameEmitted s q).lupin = s.lupin ∧ (State.frameEmitted s q).harebell = s.harebell ∧ (State.frameEmitted s q).cornflower = s.cornflower ∧ (State.frameEmitted s q).poppy = s.poppy ∧ (State.frameEmitted s q).vetch = s.vetch ∧ (State.frameEmitted s q).zheda = s.zheda ∧ (State.frameEmitted s q).bindweed = s.bindweed ∧ (State.frameEmitted s q).cowslip = s.cowslip ∧ (State.frameEmitted s q).cmd = s.cmd ∧ (State.frameEmitted s q).safety = s.safety ∧ (State.frameEmitted s q).mem = s.mem ∧ (State.frameEmitted s q).clock = s.clock ∧ (State.frameEmitted s q).host = s.host ∧ (State.frameEmitted s q).sec = s.sec ∧ (State.frameEmitted s q).casc = s.casc ∧ (State.frameEmitted s q).now = s.now ∧ (State.frameEmitted s q).rdata = s.rdata ∧ (State.frameEmitted s q).freeIx = s.freeIx ∧ (State.frameEmitted s q).pending = s.pending := by
  simp [State.frameEmitted]

@[simp ↓] theorem State.takeCounter_keeps (s : State) (ctx parts : Nat) :
    (State.takeCounter s ctx parts).2.ident = s.ident ∧ (State.takeCounter s ctx parts).2.tick = s.tick ∧ (State.takeCounter s ctx parts).2.world = s.world ∧ (State.takeCounter s ctx parts).2.aster = s.aster ∧ (State.takeCounter s ctx parts).2.lupin = s.lupin ∧ (State.takeCounter s ctx parts).2.harebell = s.harebell ∧ (State.takeCounter s ctx parts).2.cornflower = s.cornflower ∧ (State.takeCounter s ctx parts).2.poppy = s.poppy ∧ (State.takeCounter s ctx parts).2.vetch = s.vetch ∧ (State.takeCounter s ctx parts).2.commit = s.commit ∧ (State.takeCounter s ctx parts).2.zheda = s.zheda ∧ (State.takeCounter s ctx parts).2.teasel = s.teasel ∧ (State.takeCounter s ctx parts).2.bindweed = s.bindweed ∧ (State.takeCounter s ctx parts).2.cowslip = s.cowslip ∧ (State.takeCounter s ctx parts).2.cmd = s.cmd ∧ (State.takeCounter s ctx parts).2.mem = s.mem ∧ (State.takeCounter s ctx parts).2.clock = s.clock ∧ (State.takeCounter s ctx parts).2.host = s.host ∧ (State.takeCounter s ctx parts).2.sec = s.sec ∧ (State.takeCounter s ctx parts).2.casc = s.casc ∧ (State.takeCounter s ctx parts).2.now = s.now ∧ (State.takeCounter s ctx parts).2.rdata = s.rdata ∧ (State.takeCounter s ctx parts).2.freeIx = s.freeIx ∧ (State.takeCounter s ctx parts).2.pending = s.pending := by
  simp [State.takeCounter]

@[simp ↓] theorem State.updFrame_keeps (s : State) (n : Nat) (g : QueuedFrame → QueuedFrame) :
    (State.updFrame s n g).ident = s.ident ∧ (State.updFrame s n g).tick = s.tick ∧ (State.updFrame s n g).world = s.world ∧ (State.updFrame s n g).aster = s.aster ∧ (State.updFrame s n g).lupin = s.lupin ∧ (State.updFrame s n g).harebell = s.harebell ∧ (State.updFrame s n g).cornflower = s.cornflower ∧ (State.updFrame s n g).poppy = s.poppy ∧ (State.updFrame s n g).vetch = s.vetch ∧ (State.updFrame s n g).zheda = s.zheda ∧ (State.updFrame s n g).teasel = s.teasel ∧ (State.updFrame s n g).bindweed = s.bindweed ∧ (State.updFrame s n g).cowslip = s.cowslip ∧ (State.updFrame s n g).cmd = s.cmd ∧ (State.updFrame s n g).safety = s.safety ∧ (State.updFrame s n g).mem = s.mem ∧ (State.updFrame s n g).clock = s.clock ∧ (State.updFrame s n g).host = s.host ∧ (State.updFrame s n g).sec = s.sec ∧ (State.updFrame s n g).casc = s.casc ∧ (State.updFrame s n g).now = s.now ∧ (State.updFrame s n g).rdata = s.rdata ∧ (State.updFrame s n g).freeIx = s.freeIx ∧ (State.updFrame s n g).pending = s.pending := by
  simp [State.updFrame]

@[simp ↓] theorem State.writeEgress_keeps (s : State) (q : QueuedFrame) :
    (State.writeEgress s q).ident = s.ident ∧ (State.writeEgress s q).tick = s.tick ∧ (State.writeEgress s q).world = s.world ∧ (State.writeEgress s q).aster = s.aster ∧ (State.writeEgress s q).lupin = s.lupin ∧ (State.writeEgress s q).harebell = s.harebell ∧ (State.writeEgress s q).cornflower = s.cornflower ∧ (State.writeEgress s q).poppy = s.poppy ∧ (State.writeEgress s q).vetch = s.vetch ∧ (State.writeEgress s q).zheda = s.zheda ∧ (State.writeEgress s q).bindweed = s.bindweed ∧ (State.writeEgress s q).cowslip = s.cowslip ∧ (State.writeEgress s q).cmd = s.cmd ∧ (State.writeEgress s q).mem = s.mem ∧ (State.writeEgress s q).clock = s.clock ∧ (State.writeEgress s q).sec = s.sec ∧ (State.writeEgress s q).casc = s.casc ∧ (State.writeEgress s q).now = s.now ∧ (State.writeEgress s q).rdata = s.rdata ∧ (State.writeEgress s q).freeIx = s.freeIx ∧ (State.writeEgress s q).pending = s.pending := by
  unfold State.writeEgress
  simp only []
  (repeat' split) <;> simp

@[simp ↓] theorem State.decideSlot_keeps (s : State) (n : Nat) (f : FgSlot) :
    (State.decideSlot s n f).ident = s.ident ∧ (State.decideSlot s n f).tick = s.tick ∧ (State.decideSlot s n f).world = s.world ∧ (State.decideSlot s n f).aster = s.aster ∧ (State.decideSlot s n f).lupin = s.lupin ∧ (State.decideSlot s n f).harebell = s.harebell ∧ (State.decideSlot s n f).cornflower = s.cornflower ∧ (State.decideSlot s n f).poppy = s.poppy ∧ (State.decideSlot s n f).vetch = s.vetch ∧ (State.decideSlot s n f).bindweed = s.bindweed ∧ (State.decideSlot s n f).cowslip = s.cowslip ∧ (State.decideSlot s n f).cmd = s.cmd ∧ (State.decideSlot s n f).mem = s.mem ∧ (State.decideSlot s n f).clock = s.clock ∧ (State.decideSlot s n f).sec = s.sec ∧ (State.decideSlot s n f).casc = s.casc ∧ (State.decideSlot s n f).now = s.now ∧ (State.decideSlot s n f).rdata = s.rdata ∧ (State.decideSlot s n f).freeIx = s.freeIx ∧ (State.decideSlot s n f).pending = s.pending := by
  unfold State.decideSlot
  simp only []
  (repeat' split) <;> simp

@[simp ↓] theorem decisionItemEffect_keeps (s : State) :
    (decisionItemEffect s).ident = s.ident ∧ (decisionItemEffect s).world = s.world ∧ (decisionItemEffect s).aster = s.aster ∧ (decisionItemEffect s).lupin = s.lupin ∧ (decisionItemEffect s).harebell = s.harebell ∧ (decisionItemEffect s).cornflower = s.cornflower ∧ (decisionItemEffect s).poppy = s.poppy ∧ (decisionItemEffect s).vetch = s.vetch ∧ (decisionItemEffect s).bindweed = s.bindweed ∧ (decisionItemEffect s).cowslip = s.cowslip ∧ (decisionItemEffect s).cmd = s.cmd ∧ (decisionItemEffect s).mem = s.mem ∧ (decisionItemEffect s).clock = s.clock ∧ (decisionItemEffect s).sec = s.sec ∧ (decisionItemEffect s).now = s.now ∧ (decisionItemEffect s).rdata = s.rdata ∧ (decisionItemEffect s).freeIx = s.freeIx ∧ (decisionItemEffect s).pending = s.pending := by
  unfold decisionItemEffect State.item
  (repeat' split) <;> simp

@[simp ↓] theorem State.selectFrame_keeps (s : State) (q : QueuedFrame) :
    (State.selectFrame s q).ident = s.ident ∧ (State.selectFrame s q).tick = s.tick ∧ (State.selectFrame s q).world = s.world ∧ (State.selectFrame s q).aster = s.aster ∧ (State.selectFrame s q).lupin = s.lupin ∧ (State.selectFrame s q).harebell = s.harebell ∧ (State.selectFrame s q).cornflower = s.cornflower ∧ (State.selectFrame s q).poppy = s.poppy ∧ (State.selectFrame s q).vetch = s.vetch ∧ (State.selectFrame s q).zheda = s.zheda ∧ (State.selectFrame s q).bindweed = s.bindweed ∧ (State.selectFrame s q).cowslip = s.cowslip ∧ (State.selectFrame s q).cmd = s.cmd ∧ (State.selectFrame s q).mem = s.mem ∧ (State.selectFrame s q).clock = s.clock ∧ (State.selectFrame s q).sec = s.sec ∧ (State.selectFrame s q).casc = s.casc ∧ (State.selectFrame s q).now = s.now ∧ (State.selectFrame s q).rdata = s.rdata ∧ (State.selectFrame s q).freeIx = s.freeIx ∧ (State.selectFrame s q).pending = s.pending := by
  simp [State.selectFrame]

@[simp ↓] theorem egressSelectEffect_keeps (time : Nat) (s : State) :
    (egressSelectEffect time s).ident = s.ident ∧ (egressSelectEffect time s).tick = s.tick ∧ (egressSelectEffect time s).world = s.world ∧ (egressSelectEffect time s).aster = s.aster ∧ (egressSelectEffect time s).lupin = s.lupin ∧ (egressSelectEffect time s).harebell = s.harebell ∧ (egressSelectEffect time s).cornflower = s.cornflower ∧ (egressSelectEffect time s).poppy = s.poppy ∧ (egressSelectEffect time s).vetch = s.vetch ∧ (egressSelectEffect time s).bindweed = s.bindweed ∧ (egressSelectEffect time s).cowslip = s.cowslip ∧ (egressSelectEffect time s).cmd = s.cmd ∧ (egressSelectEffect time s).mem = s.mem ∧ (egressSelectEffect time s).clock = s.clock ∧ (egressSelectEffect time s).sec = s.sec ∧ (egressSelectEffect time s).casc = s.casc ∧ (egressSelectEffect time s).rdata = s.rdata ∧ (egressSelectEffect time s).freeIx = s.freeIx ∧ (egressSelectEffect time s).pending = s.pending := by
  simp [egressSelectEffect]

@[simp ↓] theorem egressGateOpenEffect_keeps (p time : Nat) (s : State) :
    (egressGateOpenEffect p time s).ident = s.ident ∧ (egressGateOpenEffect p time s).tick = s.tick ∧ (egressGateOpenEffect p time s).world = s.world ∧ (egressGateOpenEffect p time s).aster = s.aster ∧ (egressGateOpenEffect p time s).lupin = s.lupin ∧ (egressGateOpenEffect p time s).harebell = s.harebell ∧ (egressGateOpenEffect p time s).cornflower = s.cornflower ∧ (egressGateOpenEffect p time s).poppy = s.poppy ∧ (egressGateOpenEffect p time s).vetch = s.vetch ∧ (egressGateOpenEffect p time s).commit = s.commit ∧ (egressGateOpenEffect p time s).zheda = s.zheda ∧ (egressGateOpenEffect p time s).teasel = s.teasel ∧ (egressGateOpenEffect p time s).bindweed = s.bindweed ∧ (egressGateOpenEffect p time s).cowslip = s.cowslip ∧ (egressGateOpenEffect p time s).cmd = s.cmd ∧ (egressGateOpenEffect p time s).safety = s.safety ∧ (egressGateOpenEffect p time s).mem = s.mem ∧ (egressGateOpenEffect p time s).clock = s.clock ∧ (egressGateOpenEffect p time s).sec = s.sec ∧ (egressGateOpenEffect p time s).casc = s.casc ∧ (egressGateOpenEffect p time s).rdata = s.rdata ∧ (egressGateOpenEffect p time s).freeIx = s.freeIx ∧ (egressGateOpenEffect p time s).pending = s.pending := by
  simp [egressGateOpenEffect]

@[simp ↓] theorem egressGateCloseEffect_keeps (p : Nat) (s : State) :
    (egressGateCloseEffect p s).ident = s.ident ∧ (egressGateCloseEffect p s).tick = s.tick ∧ (egressGateCloseEffect p s).world = s.world ∧ (egressGateCloseEffect p s).aster = s.aster ∧ (egressGateCloseEffect p s).lupin = s.lupin ∧ (egressGateCloseEffect p s).harebell = s.harebell ∧ (egressGateCloseEffect p s).cornflower = s.cornflower ∧ (egressGateCloseEffect p s).poppy = s.poppy ∧ (egressGateCloseEffect p s).vetch = s.vetch ∧ (egressGateCloseEffect p s).zheda = s.zheda ∧ (egressGateCloseEffect p s).teasel = s.teasel ∧ (egressGateCloseEffect p s).bindweed = s.bindweed ∧ (egressGateCloseEffect p s).cowslip = s.cowslip ∧ (egressGateCloseEffect p s).cmd = s.cmd ∧ (egressGateCloseEffect p s).safety = s.safety ∧ (egressGateCloseEffect p s).mem = s.mem ∧ (egressGateCloseEffect p s).clock = s.clock ∧ (egressGateCloseEffect p s).sec = s.sec ∧ (egressGateCloseEffect p s).casc = s.casc ∧ (egressGateCloseEffect p s).now = s.now ∧ (egressGateCloseEffect p s).rdata = s.rdata ∧ (egressGateCloseEffect p s).freeIx = s.freeIx ∧ (egressGateCloseEffect p s).pending = s.pending := by
  simp [egressGateCloseEffect]

@[simp ↓] theorem trajFrameSentEffect_keeps (n p : Nat) (s : State) :
    (trajFrameSentEffect n p s).ident = s.ident ∧ (trajFrameSentEffect n p s).tick = s.tick ∧ (trajFrameSentEffect n p s).world = s.world ∧ (trajFrameSentEffect n p s).aster = s.aster ∧ (trajFrameSentEffect n p s).lupin = s.lupin ∧ (trajFrameSentEffect n p s).harebell = s.harebell ∧ (trajFrameSentEffect n p s).cornflower = s.cornflower ∧ (trajFrameSentEffect n p s).poppy = s.poppy ∧ (trajFrameSentEffect n p s).vetch = s.vetch ∧ (trajFrameSentEffect n p s).zheda = s.zheda ∧ (trajFrameSentEffect n p s).bindweed = s.bindweed ∧ (trajFrameSentEffect n p s).cowslip = s.cowslip ∧ (trajFrameSentEffect n p s).cmd = s.cmd ∧ (trajFrameSentEffect n p s).mem = s.mem ∧ (trajFrameSentEffect n p s).clock = s.clock ∧ (trajFrameSentEffect n p s).sec = s.sec ∧ (trajFrameSentEffect n p s).casc = s.casc ∧ (trajFrameSentEffect n p s).now = s.now ∧ (trajFrameSentEffect n p s).rdata = s.rdata ∧ (trajFrameSentEffect n p s).freeIx = s.freeIx ∧ (trajFrameSentEffect n p s).pending = s.pending := by
  unfold trajFrameSentEffect
  (repeat' split) <;> simp

end Sys2Proof.Machine
end

