-- ==== Sys2Proof/Laws/FrameBoard.lean ====
section
/-! SUPPORT. What resets, bundle switches, the edge of a tick, clocks, power and the host link leave unchanged. -/

set_option linter.unusedSimpArgs false
set_option linter.unusedVariables false

namespace Sys2Proof.Machine

@[simp ↓] theorem State.loadField_keeps (s : State) (x : Snapshot) :
    (State.loadField s x).ident = s.ident ∧ (State.loadField s x).tick = s.tick ∧ (State.loadField s x).aster = s.aster ∧ (State.loadField s x).lupin = s.lupin ∧ (State.loadField s x).harebell = s.harebell ∧ (State.loadField s x).cornflower = s.cornflower ∧ (State.loadField s x).poppy = s.poppy ∧ (State.loadField s x).vetch = s.vetch ∧ (State.loadField s x).commit = s.commit ∧ (State.loadField s x).zheda = s.zheda ∧ (State.loadField s x).teasel = s.teasel ∧ (State.loadField s x).bindweed = s.bindweed ∧ (State.loadField s x).cowslip = s.cowslip ∧ (State.loadField s x).cmd = s.cmd ∧ (State.loadField s x).safety = s.safety ∧ (State.loadField s x).mem = s.mem ∧ (State.loadField s x).clock = s.clock ∧ (State.loadField s x).host = s.host ∧ (State.loadField s x).sec = s.sec ∧ (State.loadField s x).casc = s.casc ∧ (State.loadField s x).now = s.now ∧ (State.loadField s x).rdata = s.rdata ∧ (State.loadField s x).freeIx = s.freeIx ∧ (State.loadField s x).pending = s.pending := by
  simp [State.loadField]

@[simp ↓] theorem State.restore_keeps (s : State) (x : Snapshot) :
    (State.restore s x).ident = s.ident ∧ (State.restore s x).harebell = s.harebell ∧ (State.restore s x).poppy = s.poppy ∧ (State.restore s x).bindweed = s.bindweed ∧ (State.restore s x).cowslip = s.cowslip ∧ (State.restore s x).cmd = s.cmd ∧ (State.restore s x).safety = s.safety ∧ (State.restore s x).mem = s.mem ∧ (State.restore s x).clock = s.clock ∧ (State.restore s x).host = s.host ∧ (State.restore s x).sec = s.sec ∧ (State.restore s x).casc = s.casc ∧ (State.restore s x).now = s.now ∧ (State.restore s x).rdata = s.rdata ∧ (State.restore s x).freeIx = s.freeIx ∧ (State.restore s x).pending = s.pending := by
  simp [State.restore]

@[simp ↓] theorem State.putRecord_keeps (s : State) (tick : Nat) (bs : List Byte) :
    (State.putRecord s tick bs).ident = s.ident ∧ (State.putRecord s tick bs).tick = s.tick ∧ (State.putRecord s tick bs).world = s.world ∧ (State.putRecord s tick bs).aster = s.aster ∧ (State.putRecord s tick bs).lupin = s.lupin ∧ (State.putRecord s tick bs).harebell = s.harebell ∧ (State.putRecord s tick bs).cornflower = s.cornflower ∧ (State.putRecord s tick bs).poppy = s.poppy ∧ (State.putRecord s tick bs).vetch = s.vetch ∧ (State.putRecord s tick bs).commit = s.commit ∧ (State.putRecord s tick bs).teasel = s.teasel ∧ (State.putRecord s tick bs).bindweed = s.bindweed ∧ (State.putRecord s tick bs).cowslip = s.cowslip ∧ (State.putRecord s tick bs).cmd = s.cmd ∧ (State.putRecord s tick bs).safety = s.safety ∧ (State.putRecord s tick bs).clock = s.clock ∧ (State.putRecord s tick bs).host = s.host ∧ (State.putRecord s tick bs).sec = s.sec ∧ (State.putRecord s tick bs).casc = s.casc ∧ (State.putRecord s tick bs).now = s.now ∧ (State.putRecord s tick bs).rdata = s.rdata ∧ (State.putRecord s tick bs).freeIx = s.freeIx ∧ (State.putRecord s tick bs).pending = s.pending ∧ (State.putRecord s tick bs).mem.sram = s.mem.sram := by
  simp [State.putRecord]

@[simp ↓] theorem State.putJournal_keeps (s : State) (tick : Nat) (l : List JEntry) :
    (State.putJournal s tick l).ident = s.ident ∧ (State.putJournal s tick l).tick = s.tick ∧ (State.putJournal s tick l).world = s.world ∧ (State.putJournal s tick l).aster = s.aster ∧ (State.putJournal s tick l).lupin = s.lupin ∧ (State.putJournal s tick l).harebell = s.harebell ∧ (State.putJournal s tick l).cornflower = s.cornflower ∧ (State.putJournal s tick l).poppy = s.poppy ∧ (State.putJournal s tick l).vetch = s.vetch ∧ (State.putJournal s tick l).commit = s.commit ∧ (State.putJournal s tick l).teasel = s.teasel ∧ (State.putJournal s tick l).bindweed = s.bindweed ∧ (State.putJournal s tick l).cowslip = s.cowslip ∧ (State.putJournal s tick l).cmd = s.cmd ∧ (State.putJournal s tick l).safety = s.safety ∧ (State.putJournal s tick l).clock = s.clock ∧ (State.putJournal s tick l).host = s.host ∧ (State.putJournal s tick l).sec = s.sec ∧ (State.putJournal s tick l).casc = s.casc ∧ (State.putJournal s tick l).now = s.now ∧ (State.putJournal s tick l).rdata = s.rdata ∧ (State.putJournal s tick l).freeIx = s.freeIx ∧ (State.putJournal s tick l).pending = s.pending ∧ (State.putJournal s tick l).mem.sram = s.mem.sram := by
  simp [State.putJournal]

@[simp ↓] theorem zhedaRecordWriteEffect_keeps (ok : Bool) (s : State) :
    (zhedaRecordWriteEffect ok s).ident = s.ident ∧ (zhedaRecordWriteEffect ok s).tick = s.tick ∧ (zhedaRecordWriteEffect ok s).world = s.world ∧ (zhedaRecordWriteEffect ok s).aster = s.aster ∧ (zhedaRecordWriteEffect ok s).lupin = s.lupin ∧ (zhedaRecordWriteEffect ok s).harebell = s.harebell ∧ (zhedaRecordWriteEffect ok s).cornflower = s.cornflower ∧ (zhedaRecordWriteEffect ok s).poppy = s.poppy ∧ (zhedaRecordWriteEffect ok s).vetch = s.vetch ∧ (zhedaRecordWriteEffect ok s).commit = s.commit ∧ (zhedaRecordWriteEffect ok s).teasel = s.teasel ∧ (zhedaRecordWriteEffect ok s).bindweed = s.bindweed ∧ (zhedaRecordWriteEffect ok s).cowslip = s.cowslip ∧ (zhedaRecordWriteEffect ok s).cmd = s.cmd ∧ (zhedaRecordWriteEffect ok s).safety = s.safety ∧ (zhedaRecordWriteEffect ok s).clock = s.clock ∧ (zhedaRecordWriteEffect ok s).host = s.host ∧ (zhedaRecordWriteEffect ok s).sec = s.sec ∧ (zhedaRecordWriteEffect ok s).casc = s.casc ∧ (zhedaRecordWriteEffect ok s).now = s.now ∧ (zhedaRecordWriteEffect ok s).rdata = s.rdata ∧ (zhedaRecordWriteEffect ok s).freeIx = s.freeIx ∧ (zhedaRecordWriteEffect ok s).pending = s.pending ∧ (zhedaRecordWriteEffect ok s).mem.sram = s.mem.sram := by
  unfold zhedaRecordWriteEffect
  simp only []
  (repeat' split) <;> simp

@[simp ↓] theorem State.putCkpt_keeps (s : State) (n : Nat) (x : Snapshot) :
    (State.putCkpt s n x).ident = s.ident ∧ (State.putCkpt s n x).tick = s.tick ∧ (State.putCkpt s n x).world = s.world ∧ (State.putCkpt s n x).aster = s.aster ∧ (State.putCkpt s n x).lupin = s.lupin ∧ (State.putCkpt s n x).harebell = s.harebell ∧ (State.putCkpt s n x).cornflower = s.cornflower ∧ (State.putCkpt s n x).poppy = s.poppy ∧ (State.putCkpt s n x).vetch = s.vetch ∧ (State.putCkpt s n x).commit = s.commit ∧ (State.putCkpt s n x).teasel = s.teasel ∧ (State.putCkpt s n x).bindweed = s.bindweed ∧ (State.putCkpt s n x).cowslip = s.cowslip ∧ (State.putCkpt s n x).cmd = s.cmd ∧ (State.putCkpt s n x).safety = s.safety ∧ (State.putCkpt s n x).clock = s.clock ∧ (State.putCkpt s n x).host = s.host ∧ (State.putCkpt s n x).sec = s.sec ∧ (State.putCkpt s n x).casc = s.casc ∧ (State.putCkpt s n x).now = s.now ∧ (State.putCkpt s n x).rdata = s.rdata ∧ (State.putCkpt s n x).freeIx = s.freeIx ∧ (State.putCkpt s n x).pending = s.pending ∧ (State.putCkpt s n x).mem.sram = s.mem.sram := by
  simp [State.putCkpt]

@[simp ↓] theorem checkpointCaptureEffect_keeps (ok : Bool) (s : State) :
    (checkpointCaptureEffect ok s).ident = s.ident ∧ (checkpointCaptureEffect ok s).tick = s.tick ∧ (checkpointCaptureEffect ok s).world = s.world ∧ (checkpointCaptureEffect ok s).aster = s.aster ∧ (checkpointCaptureEffect ok s).lupin = s.lupin ∧ (checkpointCaptureEffect ok s).harebell = s.harebell ∧ (checkpointCaptureEffect ok s).cornflower = s.cornflower ∧ (checkpointCaptureEffect ok s).poppy = s.poppy ∧ (checkpointCaptureEffect ok s).vetch = s.vetch ∧ (checkpointCaptureEffect ok s).commit = s.commit ∧ (checkpointCaptureEffect ok s).teasel = s.teasel ∧ (checkpointCaptureEffect ok s).bindweed = s.bindweed ∧ (checkpointCaptureEffect ok s).cowslip = s.cowslip ∧ (checkpointCaptureEffect ok s).cmd = s.cmd ∧ (checkpointCaptureEffect ok s).safety = s.safety ∧ (checkpointCaptureEffect ok s).clock = s.clock ∧ (checkpointCaptureEffect ok s).host = s.host ∧ (checkpointCaptureEffect ok s).sec = s.sec ∧ (checkpointCaptureEffect ok s).casc = s.casc ∧ (checkpointCaptureEffect ok s).now = s.now ∧ (checkpointCaptureEffect ok s).rdata = s.rdata ∧ (checkpointCaptureEffect ok s).freeIx = s.freeIx ∧ (checkpointCaptureEffect ok s).pending = s.pending ∧ (checkpointCaptureEffect ok s).mem.sram = s.mem.sram := by
  unfold checkpointCaptureEffect
  (repeat' split) <;> simp

@[simp ↓] theorem snapPauseEffect_keeps (h : Hdr) (s : State) :
    (snapPauseEffect h s).ident = s.ident ∧ (snapPauseEffect h s).tick = s.tick ∧ (snapPauseEffect h s).world = s.world ∧ (snapPauseEffect h s).aster = s.aster ∧ (snapPauseEffect h s).lupin = s.lupin ∧ (snapPauseEffect h s).harebell = s.harebell ∧ (snapPauseEffect h s).cornflower = s.cornflower ∧ (snapPauseEffect h s).poppy = s.poppy ∧ (snapPauseEffect h s).vetch = s.vetch ∧ (snapPauseEffect h s).commit = s.commit ∧ (snapPauseEffect h s).teasel = s.teasel ∧ (snapPauseEffect h s).bindweed = s.bindweed ∧ (snapPauseEffect h s).safety = s.safety ∧ (snapPauseEffect h s).mem = s.mem ∧ (snapPauseEffect h s).clock = s.clock ∧ (snapPauseEffect h s).sec = s.sec ∧ (snapPauseEffect h s).casc = s.casc ∧ (snapPauseEffect h s).now = s.now ∧ (snapPauseEffect h s).rdata = s.rdata ∧ (snapPauseEffect h s).freeIx = s.freeIx ∧ (snapPauseEffect h s).pending = s.pending := by
  unfold snapPauseEffect
  refine ⟨?_, ?_, ?_, ?_, ?_, ?_, ?_, ?_, ?_, ?_, ?_, ?_, ?_, ?_, ?_, ?_, ?_, ?_, ?_, ?_, ?_⟩ <;> (repeat' (first | with_reducible rfl | (simp; done) | (with_reducible intro _) | (with_reducible apply State.item_proj) | (with_reducible apply State.guarded_proj) | (with_reducible apply State.counterOp_proj) | (with_reducible apply State.packet_proj) | (with_reducible refine Eq.trans (foldl_proj _ _ _ _ ?_) ?_) | (with_reducible refine Eq.trans (foldl_fst_proj _ _ _ _ ?_) ?_) | (with_reducible refine Eq.trans (foldl_snd_proj _ _ _ _ ?_) ?_) | split | (simp only []; split) | (dsimp only; split)))

@[simp ↓] theorem snapResumeEffect_keeps (h : Hdr) (s : State) :
    (snapResumeEffect h s).ident = s.ident ∧ (snapResumeEffect h s).world = s.world ∧ (snapResumeEffect h s).aster = s.aster ∧ (snapResumeEffect h s).lupin = s.lupin ∧ (snapResumeEffect h s).harebell = s.harebell ∧ (snapResumeEffect h s).cornflower = s.cornflower ∧ (snapResumeEffect h s).poppy = s.poppy ∧ (snapResumeEffect h s).vetch = s.vetch ∧ (snapResumeEffect h s).commit = s.commit ∧ (snapResumeEffect h s).teasel = s.teasel ∧ (snapResumeEffect h s).bindweed = s.bindweed ∧ (snapResumeEffect h s).safety = s.safety ∧ (snapResumeEffect h s).mem = s.mem ∧ (snapResumeEffect h s).clock = s.clock ∧ (snapResumeEffect h s).sec = s.sec ∧ (snapResumeEffect h s).casc = s.casc ∧ (snapResumeEffect h s).now = s.now ∧ (snapResumeEffect h s).rdata = s.rdata ∧ (snapResumeEffect h s).freeIx = s.freeIx ∧ (snapResumeEffect h s).pending = s.pending := by
  unfold snapResumeEffect
  refine ⟨?_, ?_, ?_, ?_, ?_, ?_, ?_, ?_, ?_, ?_, ?_, ?_, ?_, ?_, ?_, ?_, ?_, ?_, ?_, ?_⟩ <;> (repeat' (first | with_reducible rfl | (simp; done) | (with_reducible intro _) | (with_reducible apply State.item_proj) | (with_reducible apply State.guarded_proj) | (with_reducible apply State.counterOp_proj) | (with_reducible apply State.packet_proj) | (with_reducible refine Eq.trans (foldl_proj _ _ _ _ ?_) ?_) | (with_reducible refine Eq.trans (foldl_fst_proj _ _ _ _ ?_) ?_) | (with_reducible refine Eq.trans (foldl_snd_proj _ _ _ _ ?_) ?_) | split | (simp only []; split) | (dsimp only; split)))

@[simp ↓] theorem snapSaveEffect_keeps (h : Hdr) (dest slot addr : Nat) (s : State) :
    (snapSaveEffect h dest slot addr s).ident = s.ident ∧ (snapSaveEffect h dest slot addr s).tick = s.tick ∧ (snapSaveEffect h dest slot addr s).world = s.world ∧ (snapSaveEffect h dest slot addr s).aster = s.aster ∧ (snapSaveEffect h dest slot addr s).lupin = s.lupin ∧ (snapSaveEffect h dest slot addr s).harebell = s.harebell ∧ (snapSaveEffect h dest slot addr s).cornflower = s.cornflower ∧ (snapSaveEffect h dest slot addr s).poppy = s.poppy ∧ (snapSaveEffect h dest slot addr s).vetch = s.vetch ∧ (snapSaveEffect h dest slot addr s).commit = s.commit ∧ (snapSaveEffect h dest slot addr s).zheda = s.zheda ∧ (snapSaveEffect h dest slot addr s).teasel = s.teasel ∧ (snapSaveEffect h dest slot addr s).bindweed = s.bindweed ∧ (snapSaveEffect h dest slot addr s).safety = s.safety ∧ (snapSaveEffect h dest slot addr s).mem = s.mem ∧ (snapSaveEffect h dest slot addr s).clock = s.clock ∧ (snapSaveEffect h dest slot addr s).sec = s.sec ∧ (snapSaveEffect h dest slot addr s).casc = s.casc ∧ (snapSaveEffect h dest slot addr s).now = s.now ∧ (snapSaveEffect h dest slot addr s).rdata = s.rdata ∧ (snapSaveEffect h dest slot addr s).freeIx = s.freeIx ∧ (snapSaveEffect h dest slot addr s).pending = s.pending := by
  unfold snapSaveEffect
  refine ⟨?_, ?_, ?_, ?_, ?_, ?_, ?_, ?_, ?_, ?_, ?_, ?_, ?_, ?_, ?_, ?_, ?_, ?_, ?_, ?_, ?_, ?_⟩ <;> (repeat' (first | with_reducible rfl | (simp; done) | (with_reducible intro _) | (with_reducible apply State.item_proj) | (with_reducible apply State.guarded_proj) | (with_reducible apply State.counterOp_proj) | (with_reducible apply State.packet_proj) | (with_reducible refine Eq.trans (foldl_proj _ _ _ _ ?_) ?_) | (with_reducible refine Eq.trans (foldl_fst_proj _ _ _ _ ?_) ?_) | (with_reducible refine Eq.trans (foldl_snd_proj _ _ _ _ ?_) ?_) | split | (simp only []; split) | (dsimp only; split)))

@[simp ↓] theorem snapSaveDoneEffect_keeps (s : State) :
    (snapSaveDoneEffect s).ident = s.ident ∧ (snapSaveDoneEffect s).tick = s.tick ∧ (snapSaveDoneEffect s).world = s.world ∧ (snapSaveDoneEffect s).aster = s.aster ∧ (snapSaveDoneEffect s).lupin = s.lupin ∧ (snapSaveDoneEffect s).harebell = s.harebell ∧ (snapSaveDoneEffect s).cornflower = s.cornflower ∧ (snapSaveDoneEffect s).poppy = s.poppy ∧ (snapSaveDoneEffect s).vetch = s.vetch ∧ (snapSaveDoneEffect s).commit = s.commit ∧ (snapSaveDoneEffect s).teasel = s.teasel ∧ (snapSaveDoneEffect s).bindweed = s.bindweed ∧ (snapSaveDoneEffect s).safety = s.safety ∧ (snapSaveDoneEffect s).clock = s.clock ∧ (snapSaveDoneEffect s).sec = s.sec ∧ (snapSaveDoneEffect s).casc = s.casc ∧ (snapSaveDoneEffect s).now = s.now ∧ (snapSaveDoneEffect s).rdata = s.rdata ∧ (snapSaveDoneEffect s).freeIx = s.freeIx ∧ (snapSaveDoneEffect s).pending = s.pending ∧ (snapSaveDoneEffect s).mem.sram = s.mem.sram := by
  unfold snapSaveDoneEffect
  (repeat' split) <;> simp

@[simp ↓] theorem snapLoadEffect_keeps (h : Hdr) (src slot addr : Nat) (s : State) :
    (snapLoadEffect h src slot addr s).ident = s.ident ∧ (snapLoadEffect h src slot addr s).harebell = s.harebell ∧ (snapLoadEffect h src slot addr s).poppy = s.poppy ∧ (snapLoadEffect h src slot addr s).bindweed = s.bindweed ∧ (snapLoadEffect h src slot addr s).safety = s.safety ∧ (snapLoadEffect h src slot addr s).mem = s.mem ∧ (snapLoadEffect h src slot addr s).clock = s.clock ∧ (snapLoadEffect h src slot addr s).sec = s.sec ∧ (snapLoadEffect h src slot addr s).casc = s.casc ∧ (snapLoadEffect h src slot addr s).now = s.now ∧ (snapLoadEffect h src slot addr s).rdata = s.rdata ∧ (snapLoadEffect h src slot addr s).freeIx = s.freeIx ∧ (snapLoadEffect h src slot addr s).pending = s.pending := by
  unfold snapLoadEffect
  refine ⟨?_, ?_, ?_, ?_, ?_, ?_, ?_, ?_, ?_, ?_, ?_, ?_, ?_⟩ <;> (repeat' (first | with_reducible rfl | (simp; done) | (with_reducible intro _) | (with_reducible apply State.item_proj) | (with_reducible apply State.guarded_proj) | (with_reducible apply State.counterOp_proj) | (with_reducible apply State.packet_proj) | (with_reducible refine Eq.trans (foldl_proj _ _ _ _ ?_) ?_) | (with_reducible refine Eq.trans (foldl_fst_proj _ _ _ _ ?_) ?_) | (with_reducible refine Eq.trans (foldl_snd_proj _ _ _ _ ?_) ?_) | split | (simp only []; split) | (dsimp only; split)))

@[simp ↓] theorem replayEffect_keeps (h : Hdr) (src slot inputs image target input raddr : Nat) (probes : List Probe) (s : State) :
    (replayEffect h src slot inputs image target input raddr probes s).ident = s.ident ∧ (replayEffect h src slot inputs image target input raddr probes s).tick = s.tick ∧ (replayEffect h src slot inputs image target input raddr probes s).world = s.world ∧ (replayEffect h src slot inputs image target input raddr probes s).aster = s.aster ∧ (replayEffect h src slot inputs image target input raddr probes s).lupin = s.lupin ∧ (replayEffect h src slot inputs image target input raddr probes s).harebell = s.harebell ∧ (replayEffect h src slot inputs image target input raddr probes s).cornflower = s.cornflower ∧ (replayEffect h src slot inputs image target input raddr probes s).poppy = s.poppy ∧ (replayEffect h src slot inputs image target input raddr probes s).vetch = s.vetch ∧ (replayEffect h src slot inputs image target input raddr probes s).commit = s.commit ∧ (replayEffect h src slot inputs image target input raddr probes s).teasel = s.teasel ∧ (replayEffect h src slot inputs image target input raddr probes s).bindweed = s.bindweed ∧ (replayEffect h src slot inputs image target input raddr probes s).safety = s.safety ∧ (replayEffect h src slot inputs image target input raddr probes s).mem = s.mem ∧ (replayEffect h src slot inputs image target input raddr probes s).clock = s.clock ∧ (replayEffect h src slot inputs image target input raddr probes s).sec = s.sec ∧ (replayEffect h src slot inputs image target input raddr probes s).casc = s.casc ∧ (replayEffect h src slot inputs image target input raddr probes s).now = s.now ∧ (replayEffect h src slot inputs image target input raddr probes s).rdata = s.rdata ∧ (replayEffect h src slot inputs image target input raddr probes s).freeIx = s.freeIx ∧ (replayEffect h src slot inputs image target input raddr probes s).pending = s.pending := by
  unfold replayEffect
  refine ⟨?_, ?_, ?_, ?_, ?_, ?_, ?_, ?_, ?_, ?_, ?_, ?_, ?_, ?_, ?_, ?_, ?_, ?_, ?_, ?_, ?_⟩ <;> (repeat' (first | with_reducible rfl | (simp; done) | (with_reducible intro _) | (with_reducible apply State.item_proj) | (with_reducible apply State.guarded_proj) | (with_reducible apply State.counterOp_proj) | (with_reducible apply State.packet_proj) | (with_reducible refine Eq.trans (foldl_proj _ _ _ _ ?_) ?_) | (with_reducible refine Eq.trans (foldl_fst_proj _ _ _ _ ?_) ?_) | (with_reducible refine Eq.trans (foldl_snd_proj _ _ _ _ ?_) ?_) | split | (simp only []; split) | (dsimp only; split)))

@[simp ↓] theorem zhdExportEffect_keeps (h : Hdr) (first count journal raddr : Nat) (s : State) :
    (zhdExportEffect h first count journal raddr s).ident = s.ident ∧ (zhdExportEffect h first count journal raddr s).tick = s.tick ∧ (zhdExportEffect h first count journal raddr s).world = s.world ∧ (zhdExportEffect h first count journal raddr s).aster = s.aster ∧ (zhdExportEffect h first count journal raddr s).lupin = s.lupin ∧ (zhdExportEffect h first count journal raddr s).harebell = s.harebell ∧ (zhdExportEffect h first count journal raddr s).cornflower = s.cornflower ∧ (zhdExportEffect h first count journal raddr s).poppy = s.poppy ∧ (zhdExportEffect h first count journal raddr s).vetch = s.vetch ∧ (zhdExportEffect h first count journal raddr s).commit = s.commit ∧ (zhdExportEffect h first count journal raddr s).zheda = s.zheda ∧ (zhdExportEffect h first count journal raddr s).teasel = s.teasel ∧ (zhdExportEffect h first count journal raddr s).bindweed = s.bindweed ∧ (zhdExportEffect h first count journal raddr s).safety = s.safety ∧ (zhdExportEffect h first count journal raddr s).mem = s.mem ∧ (zhdExportEffect h first count journal raddr s).clock = s.clock ∧ (zhdExportEffect h first count journal raddr s).sec = s.sec ∧ (zhdExportEffect h first count journal raddr s).casc = s.casc ∧ (zhdExportEffect h first count journal raddr s).now = s.now ∧ (zhdExportEffect h first count journal raddr s).rdata = s.rdata ∧ (zhdExportEffect h first count journal raddr s).freeIx = s.freeIx ∧ (zhdExportEffect h first count journal raddr s).pending = s.pending := by
  unfold zhdExportEffect
  refine ⟨?_, ?_, ?_, ?_, ?_, ?_, ?_, ?_, ?_, ?_, ?_, ?_, ?_, ?_, ?_, ?_, ?_, ?_, ?_, ?_, ?_, ?_⟩ <;> (repeat' (first | with_reducible rfl | (simp; done) | (with_reducible intro _) | (with_reducible apply State.item_proj) | (with_reducible apply State.guarded_proj) | (with_reducible apply State.counterOp_proj) | (with_reducible apply State.packet_proj) | (with_reducible refine Eq.trans (foldl_proj _ _ _ _ ?_) ?_) | (with_reducible refine Eq.trans (foldl_fst_proj _ _ _ _ ?_) ?_) | (with_reducible refine Eq.trans (foldl_snd_proj _ _ _ _ ?_) ?_) | split | (simp only []; split) | (dsimp only; split)))

@[simp ↓] theorem State.e2eDrop_keeps (s : State) (n : Nat) (inj : Bool) :
    (State.e2eDrop s n inj).ident = s.ident ∧ (State.e2eDrop s n inj).tick = s.tick ∧ (State.e2eDrop s n inj).world = s.world ∧ (State.e2eDrop s n inj).aster = s.aster ∧ (State.e2eDrop s n inj).lupin = s.lupin ∧ (State.e2eDrop s n inj).harebell = s.harebell ∧ (State.e2eDrop s n inj).cornflower = s.cornflower ∧ (State.e2eDrop s n inj).poppy = s.poppy ∧ (State.e2eDrop s n inj).vetch = s.vetch ∧ (State.e2eDrop s n inj).commit = s.commit ∧ (State.e2eDrop s n inj).zheda = s.zheda ∧ (State.e2eDrop s n inj).teasel = s.teasel ∧ (State.e2eDrop s n inj).bindweed = s.bindweed ∧ (State.e2eDrop s n inj).cowslip = s.cowslip ∧ (State.e2eDrop s n inj).cmd = s.cmd ∧ (State.e2eDrop s n inj).mem = s.mem ∧ (State.e2eDrop s n inj).sec = s.sec ∧ (State.e2eDrop s n inj).casc = s.casc ∧ (State.e2eDrop s n inj).now = s.now ∧ (State.e2eDrop s n inj).rdata = s.rdata ∧ (State.e2eDrop s n inj).pending = s.pending := by
  simp [State.e2eDrop]

@[simp ↓] theorem State.worldDrop_keeps (s : State) :
    (State.worldDrop s).1.ident = s.ident ∧ (State.worldDrop s).1.tick = s.tick ∧ (State.worldDrop s).1.aster = s.aster ∧ (State.worldDrop s).1.lupin = s.lupin ∧ (State.worldDrop s).1.harebell = s.harebell ∧ (State.worldDrop s).1.cornflower = s.cornflower ∧ (State.worldDrop s).1.poppy = s.poppy ∧ (State.worldDrop s).1.vetch = s.vetch ∧ (State.worldDrop s).1.commit = s.commit ∧ (State.worldDrop s).1.zheda = s.zheda ∧ (State.worldDrop s).1.teasel = s.teasel ∧ (State.worldDrop s).1.bindweed = s.bindweed ∧ (State.worldDrop s).1.cowslip = s.cowslip ∧ (State.worldDrop s).1.cmd = s.cmd ∧ (State.worldDrop s).1.safety = s.safety ∧ (State.worldDrop s).1.mem = s.mem ∧ (State.worldDrop s).1.clock = s.clock ∧ (State.worldDrop s).1.host = s.host ∧ (State.worldDrop s).1.sec = s.sec ∧ (State.worldDrop s).1.casc = s.casc ∧ (State.worldDrop s).1.now = s.now ∧ (State.worldDrop s).1.rdata = s.rdata ∧ (State.worldDrop s).1.freeIx = s.freeIx ∧ (State.worldDrop s).1.pending = s.pending := by
  simp [State.worldDrop]

@[simp ↓] theorem State.worldAccept_keeps (s : State) (stamp : Nat) :
    (State.worldAccept s stamp).1.ident = s.ident ∧ (State.worldAccept s stamp).1.tick = s.tick ∧ (State.worldAccept s stamp).1.aster = s.aster ∧ (State.worldAccept s stamp).1.lupin = s.lupin ∧ (State.worldAccept s stamp).1.harebell = s.harebell ∧ (State.worldAccept s stamp).1.cornflower = s.cornflower ∧ (State.worldAccept s stamp).1.poppy = s.poppy ∧ (State.worldAccept s stamp).1.vetch = s.vetch ∧ (State.worldAccept s stamp).1.commit = s.commit ∧ (State.worldAccept s stamp).1.zheda = s.zheda ∧ (State.worldAccept s stamp).1.teasel = s.teasel ∧ (State.worldAccept s stamp).1.bindweed = s.bindweed ∧ (State.worldAccept s stamp).1.cowslip = s.cowslip ∧ (State.worldAccept s stamp).1.cmd = s.cmd ∧ (State.worldAccept s stamp).1.safety = s.safety ∧ (State.worldAccept s stamp).1.mem = s.mem ∧ (State.worldAccept s stamp).1.clock = s.clock ∧ (State.worldAccept s stamp).1.host = s.host ∧ (State.worldAccept s stamp).1.sec = s.sec ∧ (State.worldAccept s stamp).1.casc = s.casc ∧ (State.worldAccept s stamp).1.now = s.now ∧ (State.worldAccept s stamp).1.rdata = s.rdata ∧ (State.worldAccept s stamp).1.freeIx = s.freeIx ∧ (State.worldAccept s stamp).1.pending = s.pending := by
  unfold State.worldAccept
  (repeat' split) <;> simp

@[simp ↓] theorem State.takeSegment_keeps (s : State) (src : Nat) (g : Segment) :
    (State.takeSegment s src g).1.ident = s.ident ∧ (State.takeSegment s src g).1.tick = s.tick ∧ (State.takeSegment s src g).1.aster = s.aster ∧ (State.takeSegment s src g).1.lupin = s.lupin ∧ (State.takeSegment s src g).1.harebell = s.harebell ∧ (State.takeSegment s src g).1.cornflower = s.cornflower ∧ (State.takeSegment s src g).1.poppy = s.poppy ∧ (State.takeSegment s src g).1.vetch = s.vetch ∧ (State.takeSegment s src g).1.commit = s.commit ∧ (State.takeSegment s src g).1.zheda = s.zheda ∧ (State.takeSegment s src g).1.teasel = s.teasel ∧ (State.takeSegment s src g).1.bindweed = s.bindweed ∧ (State.takeSegment s src g).1.cowslip = s.cowslip ∧ (State.takeSegment s src g).1.cmd = s.cmd ∧ (State.takeSegment s src g).1.safety = s.safety ∧ (State.takeSegment s src g).1.mem = s.mem ∧ (State.takeSegment s src g).1.clock = s.clock ∧ (State.takeSegment s src g).1.host = s.host ∧ (State.takeSegment s src g).1.sec = s.sec ∧ (State.takeSegment s src g).1.casc = s.casc ∧ (State.takeSegment s src g).1.now = s.now ∧ (State.takeSegment s src g).1.rdata = s.rdata ∧ (State.takeSegment s src g).1.freeIx = s.freeIx ∧ (State.takeSegment s src g).1.pending = s.pending := by
  unfold State.takeSegment
  simp only []
  (repeat' split) <;> simp

@[simp ↓] theorem State.takeState_keeps (s : State) (c : Nat) (r : RobotState) :
    (State.takeState s c r).1.ident = s.ident ∧ (State.takeState s c r).1.tick = s.tick ∧ (State.takeState s c r).1.aster = s.aster ∧ (State.takeState s c r).1.lupin = s.lupin ∧ (State.takeState s c r).1.harebell = s.harebell ∧ (State.takeState s c r).1.cornflower = s.cornflower ∧ (State.takeState s c r).1.poppy = s.poppy ∧ (State.takeState s c r).1.vetch = s.vetch ∧ (State.takeState s c r).1.commit = s.commit ∧ (State.takeState s c r).1.zheda = s.zheda ∧ (State.takeState s c r).1.teasel = s.teasel ∧ (State.takeState s c r).1.bindweed = s.bindweed ∧ (State.takeState s c r).1.cowslip = s.cowslip ∧ (State.takeState s c r).1.cmd = s.cmd ∧ (State.takeState s c r).1.safety = s.safety ∧ (State.takeState s c r).1.mem = s.mem ∧ (State.takeState s c r).1.clock = s.clock ∧ (State.takeState s c r).1.host = s.host ∧ (State.takeState s c r).1.sec = s.sec ∧ (State.takeState s c r).1.casc = s.casc ∧ (State.takeState s c r).1.now = s.now ∧ (State.takeState s c r).1.rdata = s.rdata ∧ (State.takeState s c r).1.freeIx = s.freeIx ∧ (State.takeState s c r).1.pending = s.pending := by
  unfold State.takeState
  simp only []
  (repeat' split) <;> simp

@[simp ↓] theorem State.ingest_keeps (s : State) (b : List Byte) :
    (State.ingest s b).1.ident = s.ident ∧ (State.ingest s b).1.tick = s.tick ∧ (State.ingest s b).1.aster = s.aster ∧ (State.ingest s b).1.lupin = s.lupin ∧ (State.ingest s b).1.harebell = s.harebell ∧ (State.ingest s b).1.cornflower = s.cornflower ∧ (State.ingest s b).1.poppy = s.poppy ∧ (State.ingest s b).1.vetch = s.vetch ∧ (State.ingest s b).1.commit = s.commit ∧ (State.ingest s b).1.zheda = s.zheda ∧ (State.ingest s b).1.teasel = s.teasel ∧ (State.ingest s b).1.bindweed = s.bindweed ∧ (State.ingest s b).1.cowslip = s.cowslip ∧ (State.ingest s b).1.cmd = s.cmd ∧ (State.ingest s b).1.safety = s.safety ∧ (State.ingest s b).1.mem = s.mem ∧ (State.ingest s b).1.clock = s.clock ∧ (State.ingest s b).1.host = s.host ∧ (State.ingest s b).1.sec = s.sec ∧ (State.ingest s b).1.casc = s.casc ∧ (State.ingest s b).1.now = s.now ∧ (State.ingest s b).1.rdata = s.rdata ∧ (State.ingest s b).1.freeIx = s.freeIx ∧ (State.ingest s b).1.pending = s.pending := by
  unfold State.ingest
  simp only []
  (repeat' split) <;> simp

@[simp ↓] theorem State.receive_keeps (s : State) (b : List Byte) :
    (State.receive s b).1.ident = s.ident ∧ (State.receive s b).1.tick = s.tick ∧ (State.receive s b).1.aster = s.aster ∧ (State.receive s b).1.lupin = s.lupin ∧ (State.receive s b).1.harebell = s.harebell ∧ (State.receive s b).1.cornflower = s.cornflower ∧ (State.receive s b).1.poppy = s.poppy ∧ (State.receive s b).1.vetch = s.vetch ∧ (State.receive s b).1.commit = s.commit ∧ (State.receive s b).1.zheda = s.zheda ∧ (State.receive s b).1.teasel = s.teasel ∧ (State.receive s b).1.bindweed = s.bindweed ∧ (State.receive s b).1.cowslip = s.cowslip ∧ (State.receive s b).1.cmd = s.cmd ∧ (State.receive s b).1.mem = s.mem ∧ (State.receive s b).1.sec = s.sec ∧ (State.receive s b).1.casc = s.casc ∧ (State.receive s b).1.now = s.now ∧ (State.receive s b).1.rdata = s.rdata ∧ (State.receive s b).1.pending = s.pending := by
  unfold State.receive
  simp only []
  (repeat' split) <;> simp

@[simp ↓] theorem State.updPort_keeps (s : State) (p : Nat) (f : EthPort → EthPort) :
    (State.updPort s p f).ident = s.ident ∧ (State.updPort s p f).tick = s.tick ∧ (State.updPort s p f).world = s.world ∧ (State.updPort s p f).aster = s.aster ∧ (State.updPort s p f).lupin = s.lupin ∧ (State.updPort s p f).harebell = s.harebell ∧ (State.updPort s p f).cornflower = s.cornflower ∧ (State.updPort s p f).poppy = s.poppy ∧ (State.updPort s p f).vetch = s.vetch ∧ (State.updPort s p f).commit = s.commit ∧ (State.updPort s p f).zheda = s.zheda ∧ (State.updPort s p f).teasel = s.teasel ∧ (State.updPort s p f).bindweed = s.bindweed ∧ (State.updPort s p f).cowslip = s.cowslip ∧ (State.updPort s p f).cmd = s.cmd ∧ (State.updPort s p f).safety = s.safety ∧ (State.updPort s p f).mem = s.mem ∧ (State.updPort s p f).clock = s.clock ∧ (State.updPort s p f).sec = s.sec ∧ (State.updPort s p f).casc = s.casc ∧ (State.updPort s p f).now = s.now ∧ (State.updPort s p f).rdata = s.rdata ∧ (State.updPort s p f).freeIx = s.freeIx ∧ (State.updPort s p f).pending = s.pending := by
  simp [State.updPort]

@[simp ↓] theorem ethFrameRxEffect_keeps (time p : Nat) (fcsOk : Bool) (b : List Byte) (room : Bool) (s : State) :
    (ethFrameRxEffect time p fcsOk b room s).ident = s.ident ∧ (ethFrameRxEffect time p fcsOk b room s).tick = s.tick ∧ (ethFrameRxEffect time p fcsOk b room s).aster = s.aster ∧ (ethFrameRxEffect time p fcsOk b room s).lupin = s.lupin ∧ (ethFrameRxEffect time p fcsOk b room s).harebell = s.harebell ∧ (ethFrameRxEffect time p fcsOk b room s).cornflower = s.cornflower ∧ (ethFrameRxEffect time p fcsOk b room s).poppy = s.poppy ∧ (ethFrameRxEffect time p fcsOk b room s).vetch = s.vetch ∧ (ethFrameRxEffect time p fcsOk b room s).commit = s.commit ∧ (ethFrameRxEffect time p fcsOk b room s).zheda = s.zheda ∧ (ethFrameRxEffect time p fcsOk b room s).teasel = s.teasel ∧ (ethFrameRxEffect time p fcsOk b room s).bindweed = s.bindweed ∧ (ethFrameRxEffect time p fcsOk b room s).cowslip = s.cowslip ∧ (ethFrameRxEffect time p fcsOk b room s).cmd = s.cmd ∧ (ethFrameRxEffect time p fcsOk b room s).mem = s.mem ∧ (ethFrameRxEffect time p fcsOk b room s).sec = s.sec ∧ (ethFrameRxEffect time p fcsOk b room s).casc = s.casc ∧ (ethFrameRxEffect time p fcsOk b room s).rdata = s.rdata ∧ (ethFrameRxEffect time p fcsOk b room s).pending = s.pending := by
  simp [ethFrameRxEffect]

@[simp ↓] theorem worldFrameEffect_keeps (h : Hdr) (op : Nat) (frame : List Byte) (s : State) :
    (worldFrameEffect h op frame s).ident = s.ident ∧ (worldFrameEffect h op frame s).tick = s.tick ∧ (worldFrameEffect h op frame s).aster = s.aster ∧ (worldFrameEffect h op frame s).lupin = s.lupin ∧ (worldFrameEffect h op frame s).harebell = s.harebell ∧ (worldFrameEffect h op frame s).cornflower = s.cornflower ∧ (worldFrameEffect h op frame s).poppy = s.poppy ∧ (worldFrameEffect h op frame s).vetch = s.vetch ∧ (worldFrameEffect h op frame s).commit = s.commit ∧ (worldFrameEffect h op frame s).zheda = s.zheda ∧ (worldFrameEffect h op frame s).teasel = s.teasel ∧ (worldFrameEffect h op frame s).bindweed = s.bindweed ∧ (worldFrameEffect h op frame s).mem = s.mem ∧ (worldFrameEffect h op frame s).sec = s.sec ∧ (worldFrameEffect h op frame s).casc = s.casc ∧ (worldFrameEffect h op frame s).now = s.now ∧ (worldFrameEffect h op frame s).rdata = s.rdata ∧ (worldFrameEffect h op frame s).pending = s.pending := by
  unfold worldFrameEffect
  refine ⟨?_, ?_, ?_, ?_, ?_, ?_, ?_, ?_, ?_, ?_, ?_, ?_, ?_, ?_, ?_, ?_, ?_, ?_⟩ <;> (repeat' (first | with_reducible rfl | (simp; done) | (with_reducible intro _) | (with_reducible apply State.item_proj) | (with_reducible apply State.guarded_proj) | (with_reducible apply State.counterOp_proj) | (with_reducible apply State.packet_proj) | (with_reducible refine Eq.trans (foldl_proj _ _ _ _ ?_) ?_) | (with_reducible refine Eq.trans (foldl_fst_proj _ _ _ _ ?_) ?_) | (with_reducible refine Eq.trans (foldl_snd_proj _ _ _ _ ?_) ?_) | split | (simp only []; split) | (dsimp only; split)))

@[simp ↓] theorem State.worldCmd_keeps (s : State) (h : Hdr) (op : Nat) (c : WorldCmd) (payload : List Byte) :
    (State.worldCmd s h op c payload).ident = s.ident ∧ (State.worldCmd s h op c payload).tick = s.tick ∧ (State.worldCmd s h op c payload).aster = s.aster ∧ (State.worldCmd s h op c payload).lupin = s.lupin ∧ (State.worldCmd s h op c payload).harebell = s.harebell ∧ (State.worldCmd s h op c payload).cornflower = s.cornflower ∧ (State.worldCmd s h op c payload).poppy = s.poppy ∧ (State.worldCmd s h op c payload).vetch = s.vetch ∧ (State.worldCmd s h op c payload).commit = s.commit ∧ (State.worldCmd s h op c payload).zheda = s.zheda ∧ (State.worldCmd s h op c payload).teasel = s.teasel ∧ (State.worldCmd s h op c payload).bindweed = s.bindweed ∧ (State.worldCmd s h op c payload).safety = s.safety ∧ (State.worldCmd s h op c payload).mem = s.mem ∧ (State.worldCmd s h op c payload).clock = s.clock ∧ (State.worldCmd s h op c payload).sec = s.sec ∧ (State.worldCmd s h op c payload).casc = s.casc ∧ (State.worldCmd s h op c payload).now = s.now ∧ (State.worldCmd s h op c payload).rdata = s.rdata ∧ (State.worldCmd s h op c payload).freeIx = s.freeIx ∧ (State.worldCmd s h op c payload).pending = s.pending := by
  simp [State.worldCmd]

@[simp ↓] theorem keepoutSetEffect_keeps (h : Hdr) (id mask : Byte) (b : Box) (s : State) :
    (keepoutSetEffect h id mask b s).ident = s.ident ∧ (keepoutSetEffect h id mask b s).tick = s.tick ∧ (keepoutSetEffect h id mask b s).aster = s.aster ∧ (keepoutSetEffect h id mask b s).lupin = s.lupin ∧ (keepoutSetEffect h id mask b s).harebell = s.harebell ∧ (keepoutSetEffect h id mask b s).cornflower = s.cornflower ∧ (keepoutSetEffect h id mask b s).poppy = s.poppy ∧ (keepoutSetEffect h id mask b s).vetch = s.vetch ∧ (keepoutSetEffect h id mask b s).commit = s.commit ∧ (keepoutSetEffect h id mask b s).zheda = s.zheda ∧ (keepoutSetEffect h id mask b s).teasel = s.teasel ∧ (keepoutSetEffect h id mask b s).bindweed = s.bindweed ∧ (keepoutSetEffect h id mask b s).safety = s.safety ∧ (keepoutSetEffect h id mask b s).mem = s.mem ∧ (keepoutSetEffect h id mask b s).clock = s.clock ∧ (keepoutSetEffect h id mask b s).sec = s.sec ∧ (keepoutSetEffect h id mask b s).casc = s.casc ∧ (keepoutSetEffect h id mask b s).now = s.now ∧ (keepoutSetEffect h id mask b s).rdata = s.rdata ∧ (keepoutSetEffect h id mask b s).freeIx = s.freeIx ∧ (keepoutSetEffect h id mask b s).pending = s.pending := by
  unfold keepoutSetEffect
  refine ⟨?_, ?_, ?_, ?_, ?_, ?_, ?_, ?_, ?_, ?_, ?_, ?_, ?_, ?_, ?_, ?_, ?_, ?_, ?_, ?_, ?_⟩ <;> (repeat' (first | with_reducible rfl | (simp; done) | (with_reducible intro _) | (with_reducible apply State.item_proj) | (with_reducible apply State.guarded_proj) | (with_reducible apply State.counterOp_proj) | (with_reducible apply State.packet_proj) | (with_reducible refine Eq.trans (foldl_proj _ _ _ _ ?_) ?_) | (with_reducible refine Eq.trans (foldl_fst_proj _ _ _ _ ?_) ?_) | (with_reducible refine Eq.trans (foldl_snd_proj _ _ _ _ ?_) ?_) | split | (simp only []; split) | (dsimp only; split)))

@[simp ↓] theorem keepoutClearEffect_keeps (h : Hdr) (id : Byte) (s : State) :
    (keepoutClearEffect h id s).ident = s.ident ∧ (keepoutClearEffect h id s).tick = s.tick ∧ (keepoutClearEffect h id s).aster = s.aster ∧ (keepoutClearEffect h id s).lupin = s.lupin ∧ (keepoutClearEffect h id s).harebell = s.harebell ∧ (keepoutClearEffect h id s).cornflower = s.cornflower ∧ (keepoutClearEffect h id s).poppy = s.poppy ∧ (keepoutClearEffect h id s).vetch = s.vetch ∧ (keepoutClearEffect h id s).commit = s.commit ∧ (keepoutClearEffect h id s).zheda = s.zheda ∧ (keepoutClearEffect h id s).teasel = s.teasel ∧ (keepoutClearEffect h id s).bindweed = s.bindweed ∧ (keepoutClearEffect h id s).safety = s.safety ∧ (keepoutClearEffect h id s).mem = s.mem ∧ (keepoutClearEffect h id s).clock = s.clock ∧ (keepoutClearEffect h id s).sec = s.sec ∧ (keepoutClearEffect h id s).casc = s.casc ∧ (keepoutClearEffect h id s).now = s.now ∧ (keepoutClearEffect h id s).rdata = s.rdata ∧ (keepoutClearEffect h id s).freeIx = s.freeIx ∧ (keepoutClearEffect h id s).pending = s.pending := by
  unfold keepoutClearEffect
  refine ⟨?_, ?_, ?_, ?_, ?_, ?_, ?_, ?_, ?_, ?_, ?_, ?_, ?_, ?_, ?_, ?_, ?_, ?_, ?_, ?_, ?_⟩ <;> (repeat' (first | with_reducible rfl | (simp; done) | (with_reducible intro _) | (with_reducible apply State.item_proj) | (with_reducible apply State.guarded_proj) | (with_reducible apply State.counterOp_proj) | (with_reducible apply State.packet_proj) | (with_reducible refine Eq.trans (foldl_proj _ _ _ _ ?_) ?_) | (with_reducible refine Eq.trans (foldl_fst_proj _ _ _ _ ?_) ?_) | (with_reducible refine Eq.trans (foldl_snd_proj _ _ _ _ ?_) ?_) | split | (simp only []; split) | (dsimp only; split)))

@[simp ↓] theorem worldFieldReadEffect_keeps (h : Hdr) (raddr : Nat) (s : State) :
    (worldFieldReadEffect h raddr s).ident = s.ident ∧ (worldFieldReadEffect h raddr s).tick = s.tick ∧ (worldFieldReadEffect h raddr s).world = s.world ∧ (worldFieldReadEffect h raddr s).aster = s.aster ∧ (worldFieldReadEffect h raddr s).lupin = s.lupin ∧ (worldFieldReadEffect h raddr s).harebell = s.harebell ∧ (worldFieldReadEffect h raddr s).cornflower = s.cornflower ∧ (worldFieldReadEffect h raddr s).poppy = s.poppy ∧ (worldFieldReadEffect h raddr s).vetch = s.vetch ∧ (worldFieldReadEffect h raddr s).commit = s.commit ∧ (worldFieldReadEffect h raddr s).zheda = s.zheda ∧ (worldFieldReadEffect h raddr s).teasel = s.teasel ∧ (worldFieldReadEffect h raddr s).bindweed = s.bindweed ∧ (worldFieldReadEffect h raddr s).safety = s.safety ∧ (worldFieldReadEffect h raddr s).mem = s.mem ∧ (worldFieldReadEffect h raddr s).clock = s.clock ∧ (worldFieldReadEffect h raddr s).sec = s.sec ∧ (worldFieldReadEffect h raddr s).casc = s.casc ∧ (worldFieldReadEffect h raddr s).now = s.now ∧ (worldFieldReadEffect h raddr s).rdata = s.rdata ∧ (worldFieldReadEffect h raddr s).freeIx = s.freeIx ∧ (worldFieldReadEffect h raddr s).pending = s.pending := by
  unfold worldFieldReadEffect
  refine ⟨?_, ?_, ?_, ?_, ?_, ?_, ?_, ?_, ?_, ?_, ?_, ?_, ?_, ?_, ?_, ?_, ?_, ?_, ?_, ?_, ?_, ?_⟩ <;> (repeat' (first | with_reducible rfl | (simp; done) | (with_reducible intro _) | (with_reducible apply State.item_proj) | (with_reducible apply State.guarded_proj) | (with_reducible apply State.counterOp_proj) | (with_reducible apply State.packet_proj) | (with_reducible refine Eq.trans (foldl_proj _ _ _ _ ?_) ?_) | (with_reducible refine Eq.trans (foldl_fst_proj _ _ _ _ ?_) ?_) | (with_reducible refine Eq.trans (foldl_snd_proj _ _ _ _ ?_) ?_) | split | (simp only []; split) | (dsimp only; split)))

@[simp ↓] theorem planFrameReadEffect_keeps (h : Hdr) (slot raddr : Nat) (s : State) :
    (planFrameReadEffect h slot raddr s).ident = s.ident ∧ (planFrameReadEffect h slot raddr s).tick = s.tick ∧ (planFrameReadEffect h slot raddr s).world = s.world ∧ (planFrameReadEffect h slot raddr s).aster = s.aster ∧ (planFrameReadEffect h slot raddr s).lupin = s.lupin ∧ (planFrameReadEffect h slot raddr s).harebell = s.harebell ∧ (planFrameReadEffect h slot raddr s).cornflower = s.cornflower ∧ (planFrameReadEffect h slot raddr s).poppy = s.poppy ∧ (planFrameReadEffect h slot raddr s).vetch = s.vetch ∧ (planFrameReadEffect h slot raddr s).commit = s.commit ∧ (planFrameReadEffect h slot raddr s).zheda = s.zheda ∧ (planFrameReadEffect h slot raddr s).teasel = s.teasel ∧ (planFrameReadEffect h slot raddr s).bindweed = s.bindweed ∧ (planFrameReadEffect h slot raddr s).safety = s.safety ∧ (planFrameReadEffect h slot raddr s).mem = s.mem ∧ (planFrameReadEffect h slot raddr s).clock = s.clock ∧ (planFrameReadEffect h slot raddr s).sec = s.sec ∧ (planFrameReadEffect h slot raddr s).casc = s.casc ∧ (planFrameReadEffect h slot raddr s).now = s.now ∧ (planFrameReadEffect h slot raddr s).rdata = s.rdata ∧ (planFrameReadEffect h slot raddr s).freeIx = s.freeIx ∧ (planFrameReadEffect h slot raddr s).pending = s.pending := by
  unfold planFrameReadEffect
  refine ⟨?_, ?_, ?_, ?_, ?_, ?_, ?_, ?_, ?_, ?_, ?_, ?_, ?_, ?_, ?_, ?_, ?_, ?_, ?_, ?_, ?_, ?_⟩ <;> (repeat' (first | with_reducible rfl | (simp; done) | (with_reducible intro _) | (with_reducible apply State.item_proj) | (with_reducible apply State.guarded_proj) | (with_reducible apply State.counterOp_proj) | (with_reducible apply State.packet_proj) | (with_reducible refine Eq.trans (foldl_proj _ _ _ _ ?_) ?_) | (with_reducible refine Eq.trans (foldl_fst_proj _ _ _ _ ?_) ?_) | (with_reducible refine Eq.trans (foldl_snd_proj _ _ _ _ ?_) ?_) | split | (simp only []; split) | (dsimp only; split)))

@[simp ↓] theorem planResultReadEffect_keeps (h : Hdr) (slot raddr : Nat) (s : State) :
    (planResultReadEffect h slot raddr s).ident = s.ident ∧ (planResultReadEffect h slot raddr s).tick = s.tick ∧ (planResultReadEffect h slot raddr s).world = s.world ∧ (planResultReadEffect h slot raddr s).aster = s.aster ∧ (planResultReadEffect h slot raddr s).lupin = s.lupin ∧ (planResultReadEffect h slot raddr s).harebell = s.harebell ∧ (planResultReadEffect h slot raddr s).cornflower = s.cornflower ∧ (planResultReadEffect h slot raddr s).poppy = s.poppy ∧ (planResultReadEffect h slot raddr s).vetch = s.vetch ∧ (planResultReadEffect h slot raddr s).commit = s.commit ∧ (planResultReadEffect h slot raddr s).zheda = s.zheda ∧ (planResultReadEffect h slot raddr s).teasel = s.teasel ∧ (planResultReadEffect h slot raddr s).bindweed = s.bindweed ∧ (planResultReadEffect h slot raddr s).safety = s.safety ∧ (planResultReadEffect h slot raddr s).mem = s.mem ∧ (planResultReadEffect h slot raddr s).clock = s.clock ∧ (planResultReadEffect h slot raddr s).sec = s.sec ∧ (planResultReadEffect h slot raddr s).casc = s.casc ∧ (planResultReadEffect h slot raddr s).now = s.now ∧ (planResultReadEffect h slot raddr s).rdata = s.rdata ∧ (planResultReadEffect h slot raddr s).freeIx = s.freeIx ∧ (planResultReadEffect h slot raddr s).pending = s.pending := by
  unfold planResultReadEffect
  refine ⟨?_, ?_, ?_, ?_, ?_, ?_, ?_, ?_, ?_, ?_, ?_, ?_, ?_, ?_, ?_, ?_, ?_, ?_, ?_, ?_, ?_, ?_⟩ <;> (repeat' (first | with_reducible rfl | (simp; done) | (with_reducible intro _) | (with_reducible apply State.item_proj) | (with_reducible apply State.guarded_proj) | (with_reducible apply State.counterOp_proj) | (with_reducible apply State.packet_proj) | (with_reducible refine Eq.trans (foldl_proj _ _ _ _ ?_) ?_) | (with_reducible refine Eq.trans (foldl_fst_proj _ _ _ _ ?_) ?_) | (with_reducible refine Eq.trans (foldl_snd_proj _ _ _ _ ?_) ?_) | split | (simp only []; split) | (dsimp only; split)))

@[simp ↓] theorem planHandoffReadEffect_keeps (h : Hdr) (slot raddr : Nat) (s : State) :
    (planHandoffReadEffect h slot raddr s).ident = s.ident ∧ (planHandoffReadEffect h slot raddr s).tick = s.tick ∧ (planHandoffReadEffect h slot raddr s).world = s.world ∧ (planHandoffReadEffect h slot raddr s).aster = s.aster ∧ (planHandoffReadEffect h slot raddr s).lupin = s.lupin ∧ (planHandoffReadEffect h slot raddr s).harebell = s.harebell ∧ (planHandoffReadEffect h slot raddr s).cornflower = s.cornflower ∧ (planHandoffReadEffect h slot raddr s).poppy = s.poppy ∧ (planHandoffReadEffect h slot raddr s).vetch = s.vetch ∧ (planHandoffReadEffect h slot raddr s).commit = s.commit ∧ (planHandoffReadEffect h slot raddr s).zheda = s.zheda ∧ (planHandoffReadEffect h slot raddr s).teasel = s.teasel ∧ (planHandoffReadEffect h slot raddr s).bindweed = s.bindweed ∧ (planHandoffReadEffect h slot raddr s).safety = s.safety ∧ (planHandoffReadEffect h slot raddr s).mem = s.mem ∧ (planHandoffReadEffect h slot raddr s).clock = s.clock ∧ (planHandoffReadEffect h slot raddr s).sec = s.sec ∧ (planHandoffReadEffect h slot raddr s).casc = s.casc ∧ (planHandoffReadEffect h slot raddr s).now = s.now ∧ (planHandoffReadEffect h slot raddr s).rdata = s.rdata ∧ (planHandoffReadEffect h slot raddr s).freeIx = s.freeIx ∧ (planHandoffReadEffect h slot raddr s).pending = s.pending := by
  unfold planHandoffReadEffect
  refine ⟨?_, ?_, ?_, ?_, ?_, ?_, ?_, ?_, ?_, ?_, ?_, ?_, ?_, ?_, ?_, ?_, ?_, ?_, ?_, ?_, ?_, ?_⟩ <;> (repeat' (first | with_reducible rfl | (simp; done) | (with_reducible intro _) | (with_reducible apply State.item_proj) | (with_reducible apply State.guarded_proj) | (with_reducible apply State.counterOp_proj) | (with_reducible apply State.packet_proj) | (with_reducible refine Eq.trans (foldl_proj _ _ _ _ ?_) ?_) | (with_reducible refine Eq.trans (foldl_fst_proj _ _ _ _ ?_) ?_) | (with_reducible refine Eq.trans (foldl_snd_proj _ _ _ _ ?_) ?_) | split | (simp only []; split) | (dsimp only; split)))

@[simp ↓] theorem rearmEffect_keeps (h : Hdr) (s : State) :
    (rearmEffect h s).ident = s.ident ∧ (rearmEffect h s).tick = s.tick ∧ (rearmEffect h s).world = s.world ∧ (rearmEffect h s).aster = s.aster ∧ (rearmEffect h s).lupin = s.lupin ∧ (rearmEffect h s).harebell = s.harebell ∧ (rearmEffect h s).cornflower = s.cornflower ∧ (rearmEffect h s).poppy = s.poppy ∧ (rearmEffect h s).vetch = s.vetch ∧ (rearmEffect h s).zheda = s.zheda ∧ (rearmEffect h s).teasel = s.teasel ∧ (rearmEffect h s).bindweed = s.bindweed ∧ (rearmEffect h s).safety = s.safety ∧ (rearmEffect h s).mem = s.mem ∧ (rearmEffect h s).clock = s.clock ∧ (rearmEffect h s).sec = s.sec ∧ (rearmEffect h s).casc = s.casc ∧ (rearmEffect h s).now = s.now ∧ (rearmEffect h s).rdata = s.rdata ∧ (rearmEffect h s).freeIx = s.freeIx ∧ (rearmEffect h s).pending = s.pending := by
  unfold rearmEffect
  refine ⟨?_, ?_, ?_, ?_, ?_, ?_, ?_, ?_, ?_, ?_, ?_, ?_, ?_, ?_, ?_, ?_, ?_, ?_, ?_, ?_, ?_⟩ <;> (repeat' (first | with_reducible rfl | (simp; done) | (with_reducible intro _) | (with_reducible apply State.item_proj) | (with_reducible apply State.guarded_proj) | (with_reducible apply State.counterOp_proj) | (with_reducible apply State.packet_proj) | (with_reducible refine Eq.trans (foldl_proj _ _ _ _ ?_) ?_) | (with_reducible refine Eq.trans (foldl_fst_proj _ _ _ _ ?_) ?_) | (with_reducible refine Eq.trans (foldl_snd_proj _ _ _ _ ?_) ?_) | split | (simp only []; split) | (dsimp only; split)))

@[simp ↓] theorem estopActiveEffect_keeps (time : Nat) (s : State) :
    (estopActiveEffect time s).ident = s.ident ∧ (estopActiveEffect time s).tick = s.tick ∧ (estopActiveEffect time s).world = s.world ∧ (estopActiveEffect time s).aster = s.aster ∧ (estopActiveEffect time s).lupin = s.lupin ∧ (estopActiveEffect time s).harebell = s.harebell ∧ (estopActiveEffect time s).cornflower = s.cornflower ∧ (estopActiveEffect time s).poppy = s.poppy ∧ (estopActiveEffect time s).vetch = s.vetch ∧ (estopActiveEffect time s).zheda = s.zheda ∧ (estopActiveEffect time s).teasel = s.teasel ∧ (estopActiveEffect time s).bindweed = s.bindweed ∧ (estopActiveEffect time s).cowslip = s.cowslip ∧ (estopActiveEffect time s).cmd = s.cmd ∧ (estopActiveEffect time s).safety = s.safety ∧ (estopActiveEffect time s).mem = s.mem ∧ (estopActiveEffect time s).clock = s.clock ∧ (estopActiveEffect time s).host = s.host ∧ (estopActiveEffect time s).sec = s.sec ∧ (estopActiveEffect time s).casc = s.casc ∧ (estopActiveEffect time s).rdata = s.rdata ∧ (estopActiveEffect time s).freeIx = s.freeIx ∧ (estopActiveEffect time s).pending = s.pending := by
  simp [estopActiveEffect]

@[simp ↓] theorem estopInactiveEffect_keeps (time : Nat) (s : State) :
    (estopInactiveEffect time s).ident = s.ident ∧ (estopInactiveEffect time s).tick = s.tick ∧ (estopInactiveEffect time s).world = s.world ∧ (estopInactiveEffect time s).aster = s.aster ∧ (estopInactiveEffect time s).lupin = s.lupin ∧ (estopInactiveEffect time s).harebell = s.harebell ∧ (estopInactiveEffect time s).cornflower = s.cornflower ∧ (estopInactiveEffect time s).poppy = s.poppy ∧ (estopInactiveEffect time s).vetch = s.vetch ∧ (estopInactiveEffect time s).zheda = s.zheda ∧ (estopInactiveEffect time s).teasel = s.teasel ∧ (estopInactiveEffect time s).bindweed = s.bindweed ∧ (estopInactiveEffect time s).cowslip = s.cowslip ∧ (estopInactiveEffect time s).cmd = s.cmd ∧ (estopInactiveEffect time s).safety = s.safety ∧ (estopInactiveEffect time s).mem = s.mem ∧ (estopInactiveEffect time s).clock = s.clock ∧ (estopInactiveEffect time s).host = s.host ∧ (estopInactiveEffect time s).sec = s.sec ∧ (estopInactiveEffect time s).casc = s.casc ∧ (estopInactiveEffect time s).rdata = s.rdata ∧ (estopInactiveEffect time s).freeIx = s.freeIx ∧ (estopInactiveEffect time s).pending = s.pending := by
  simp [estopInactiveEffect]

@[simp ↓] theorem estopRearmReadyEffect_keeps (time : Nat) (s : State) :
    (estopRearmReadyEffect time s).ident = s.ident ∧ (estopRearmReadyEffect time s).tick = s.tick ∧ (estopRearmReadyEffect time s).world = s.world ∧ (estopRearmReadyEffect time s).aster = s.aster ∧ (estopRearmReadyEffect time s).lupin = s.lupin ∧ (estopRearmReadyEffect time s).harebell = s.harebell ∧ (estopRearmReadyEffect time s).cornflower = s.cornflower ∧ (estopRearmReadyEffect time s).poppy = s.poppy ∧ (estopRearmReadyEffect time s).vetch = s.vetch ∧ (estopRearmReadyEffect time s).commit = s.commit ∧ (estopRearmReadyEffect time s).zheda = s.zheda ∧ (estopRearmReadyEffect time s).teasel = s.teasel ∧ (estopRearmReadyEffect time s).bindweed = s.bindweed ∧ (estopRearmReadyEffect time s).cowslip = s.cowslip ∧ (estopRearmReadyEffect time s).cmd = s.cmd ∧ (estopRearmReadyEffect time s).safety = s.safety ∧ (estopRearmReadyEffect time s).mem = s.mem ∧ (estopRearmReadyEffect time s).clock = s.clock ∧ (estopRearmReadyEffect time s).host = s.host ∧ (estopRearmReadyEffect time s).sec = s.sec ∧ (estopRearmReadyEffect time s).casc = s.casc ∧ (estopRearmReadyEffect time s).rdata = s.rdata ∧ (estopRearmReadyEffect time s).freeIx = s.freeIx ∧ (estopRearmReadyEffect time s).pending = s.pending := by
  simp [estopRearmReadyEffect]

@[simp ↓] theorem State.cutBroadcast_keeps (s : State) :
    (State.cutBroadcast s).ident = s.ident ∧ (State.cutBroadcast s).tick = s.tick ∧ (State.cutBroadcast s).aster = s.aster ∧ (State.cutBroadcast s).lupin = s.lupin ∧ (State.cutBroadcast s).harebell = s.harebell ∧ (State.cutBroadcast s).cornflower = s.cornflower ∧ (State.cutBroadcast s).poppy = s.poppy ∧ (State.cutBroadcast s).vetch = s.vetch ∧ (State.cutBroadcast s).commit = s.commit ∧ (State.cutBroadcast s).teasel = s.teasel ∧ (State.cutBroadcast s).bindweed = s.bindweed ∧ (State.cutBroadcast s).cowslip = s.cowslip ∧ (State.cutBroadcast s).cmd = s.cmd ∧ (State.cutBroadcast s).safety = s.safety ∧ (State.cutBroadcast s).mem = s.mem ∧ (State.cutBroadcast s).clock = s.clock ∧ (State.cutBroadcast s).sec = s.sec ∧ (State.cutBroadcast s).casc = s.casc ∧ (State.cutBroadcast s).now = s.now ∧ (State.cutBroadcast s).rdata = s.rdata ∧ (State.cutBroadcast s).freeIx = s.freeIx ∧ (State.cutBroadcast s).pending = s.pending := by
  simp [State.cutBroadcast]

@[simp ↓] theorem State.cutCornflower_keeps (s : State) :
    (State.cutCornflower s).ident = s.ident ∧ (State.cutCornflower s).tick = s.tick ∧ (State.cutCornflower s).world = s.world ∧ (State.cutCornflower s).aster = s.aster ∧ (State.cutCornflower s).lupin = s.lupin ∧ (State.cutCornflower s).harebell = s.harebell ∧ (State.cutCornflower s).poppy = s.poppy ∧ (State.cutCornflower s).vetch = s.vetch ∧ (State.cutCornflower s).commit = s.commit ∧ (State.cutCornflower s).zheda = s.zheda ∧ (State.cutCornflower s).teasel = s.teasel ∧ (State.cutCornflower s).bindweed = s.bindweed ∧ (State.cutCornflower s).cowslip = s.cowslip ∧ (State.cutCornflower s).cmd = s.cmd ∧ (State.cutCornflower s).safety = s.safety ∧ (State.cutCornflower s).mem = s.mem ∧ (State.cutCornflower s).clock = s.clock ∧ (State.cutCornflower s).host = s.host ∧ (State.cutCornflower s).sec = s.sec ∧ (State.cutCornflower s).casc = s.casc ∧ (State.cutCornflower s).now = s.now ∧ (State.cutCornflower s).rdata = s.rdata ∧ (State.cutCornflower s).freeIx = s.freeIx ∧ (State.cutCornflower s).pending = s.pending := by
  simp [State.cutCornflower]

@[simp ↓] theorem State.cutCritic_keeps (s : State) :
    (State.cutCritic s).ident = s.ident ∧ (State.cutCritic s).tick = s.tick ∧ (State.cutCritic s).world = s.world ∧ (State.cutCritic s).lupin = s.lupin ∧ (State.cutCritic s).harebell = s.harebell ∧ (State.cutCritic s).cornflower = s.cornflower ∧ (State.cutCritic s).poppy = s.poppy ∧ (State.cutCritic s).vetch = s.vetch ∧ (State.cutCritic s).commit = s.commit ∧ (State.cutCritic s).zheda = s.zheda ∧ (State.cutCritic s).teasel = s.teasel ∧ (State.cutCritic s).bindweed = s.bindweed ∧ (State.cutCritic s).cowslip = s.cowslip ∧ (State.cutCritic s).cmd = s.cmd ∧ (State.cutCritic s).safety = s.safety ∧ (State.cutCritic s).mem = s.mem ∧ (State.cutCritic s).clock = s.clock ∧ (State.cutCritic s).host = s.host ∧ (State.cutCritic s).sec = s.sec ∧ (State.cutCritic s).casc = s.casc ∧ (State.cutCritic s).now = s.now ∧ (State.cutCritic s).rdata = s.rdata ∧ (State.cutCritic s).freeIx = s.freeIx ∧ (State.cutCritic s).pending = s.pending := by
  simp [State.cutCritic]

@[simp ↓] theorem State.cutProposal_keeps (s : State) :
    (State.cutProposal s).ident = s.ident ∧ (State.cutProposal s).tick = s.tick ∧ (State.cutProposal s).world = s.world ∧ (State.cutProposal s).lupin = s.lupin ∧ (State.cutProposal s).harebell = s.harebell ∧ (State.cutProposal s).cornflower = s.cornflower ∧ (State.cutProposal s).poppy = s.poppy ∧ (State.cutProposal s).vetch = s.vetch ∧ (State.cutProposal s).commit = s.commit ∧ (State.cutProposal s).zheda = s.zheda ∧ (State.cutProposal s).teasel = s.teasel ∧ (State.cutProposal s).bindweed = s.bindweed ∧ (State.cutProposal s).cowslip = s.cowslip ∧ (State.cutProposal s).cmd = s.cmd ∧ (State.cutProposal s).safety = s.safety ∧ (State.cutProposal s).mem = s.mem ∧ (State.cutProposal s).clock = s.clock ∧ (State.cutProposal s).host = s.host ∧ (State.cutProposal s).sec = s.sec ∧ (State.cutProposal s).casc = s.casc ∧ (State.cutProposal s).now = s.now ∧ (State.cutProposal s).rdata = s.rdata ∧ (State.cutProposal s).freeIx = s.freeIx ∧ (State.cutProposal s).pending = s.pending := by
  simp [State.cutProposal]

@[simp ↓] theorem State.truncate_keeps (s : State) (ac : Nat) :
    (State.truncate s ac).ident = s.ident ∧ (State.truncate s ac).harebell = s.harebell ∧ (State.truncate s ac).commit = s.commit ∧ (State.truncate s ac).teasel = s.teasel ∧ (State.truncate s ac).bindweed = s.bindweed ∧ (State.truncate s ac).cowslip = s.cowslip ∧ (State.truncate s ac).cmd = s.cmd ∧ (State.truncate s ac).safety = s.safety ∧ (State.truncate s ac).mem = s.mem ∧ (State.truncate s ac).clock = s.clock ∧ (State.truncate s ac).sec = s.sec ∧ (State.truncate s ac).casc = s.casc ∧ (State.truncate s ac).now = s.now ∧ (State.truncate s ac).rdata = s.rdata ∧ (State.truncate s ac).freeIx = s.freeIx ∧ (State.truncate s ac).pending = s.pending := by
  simp [State.truncate]

@[simp ↓] theorem State.preempt_keeps (s : State) :
    (State.preempt s).ident = s.ident ∧ (State.preempt s).tick = s.tick ∧ (State.preempt s).world = s.world ∧ (State.preempt s).aster = s.aster ∧ (State.preempt s).lupin = s.lupin ∧ (State.preempt s).harebell = s.harebell ∧ (State.preempt s).cornflower = s.cornflower ∧ (State.preempt s).poppy = s.poppy ∧ (State.preempt s).vetch = s.vetch ∧ (State.preempt s).commit = s.commit ∧ (State.preempt s).zheda = s.zheda ∧ (State.preempt s).bindweed = s.bindweed ∧ (State.preempt s).cowslip = s.cowslip ∧ (State.preempt s).cmd = s.cmd ∧ (State.preempt s).mem = s.mem ∧ (State.preempt s).clock = s.clock ∧ (State.preempt s).host = s.host ∧ (State.preempt s).sec = s.sec ∧ (State.preempt s).casc = s.casc ∧ (State.preempt s).now = s.now ∧ (State.preempt s).rdata = s.rdata ∧ (State.preempt s).freeIx = s.freeIx ∧ (State.preempt s).pending = s.pending := by
  simp [State.preempt]

@[simp ↓] theorem State.updRot_keeps (s : State) (c : Nat) (f : ClusterRot → ClusterRot) :
    (State.updRot s c f).ident = s.ident ∧ (State.updRot s c f).tick = s.tick ∧ (State.updRot s c f).world = s.world ∧ (State.updRot s c f).aster = s.aster ∧ (State.updRot s c f).lupin = s.lupin ∧ (State.updRot s c f).harebell = s.harebell ∧ (State.updRot s c f).cornflower = s.cornflower ∧ (State.updRot s c f).poppy = s.poppy ∧ (State.updRot s c f).vetch = s.vetch ∧ (State.updRot s c f).commit = s.commit ∧ (State.updRot s c f).zheda = s.zheda ∧ (State.updRot s c f).teasel = s.teasel ∧ (State.updRot s c f).bindweed = s.bindweed ∧ (State.updRot s c f).cowslip = s.cowslip ∧ (State.updRot s c f).cmd = s.cmd ∧ (State.updRot s c f).mem = s.mem ∧ (State.updRot s c f).clock = s.clock ∧ (State.updRot s c f).host = s.host ∧ (State.updRot s c f).sec = s.sec ∧ (State.updRot s c f).casc = s.casc ∧ (State.updRot s c f).now = s.now ∧ (State.updRot s c f).rdata = s.rdata ∧ (State.updRot s c f).freeIx = s.freeIx ∧ (State.updRot s c f).pending = s.pending := by
  simp [State.updRot]

@[simp ↓] theorem State.takePos_keeps (s : State) (c p : Nat) :
    (State.takePos s c p).ident = s.ident ∧ (State.takePos s c p).tick = s.tick ∧ (State.takePos s c p).world = s.world ∧ (State.takePos s c p).aster = s.aster ∧ (State.takePos s c p).lupin = s.lupin ∧ (State.takePos s c p).harebell = s.harebell ∧ (State.takePos s c p).cornflower = s.cornflower ∧ (State.takePos s c p).poppy = s.poppy ∧ (State.takePos s c p).vetch = s.vetch ∧ (State.takePos s c p).commit = s.commit ∧ (State.takePos s c p).zheda = s.zheda ∧ (State.takePos s c p).teasel = s.teasel ∧ (State.takePos s c p).bindweed = s.bindweed ∧ (State.takePos s c p).cowslip = s.cowslip ∧ (State.takePos s c p).cmd = s.cmd ∧ (State.takePos s c p).mem = s.mem ∧ (State.takePos s c p).clock = s.clock ∧ (State.takePos s c p).host = s.host ∧ (State.takePos s c p).sec = s.sec ∧ (State.takePos s c p).casc = s.casc ∧ (State.takePos s c p).now = s.now ∧ (State.takePos s c p).rdata = s.rdata ∧ (State.takePos s c p).freeIx = s.freeIx ∧ (State.takePos s c p).pending = s.pending := by
  unfold State.takePos
  simp only []
  (repeat' split) <;> simp

@[simp ↓] theorem State.declareTile_keeps (s : State) (t : Nat) :
    (State.declareTile s t).ident = s.ident ∧ (State.declareTile s t).tick = s.tick ∧ (State.declareTile s t).world = s.world ∧ (State.declareTile s t).aster = s.aster ∧ (State.declareTile s t).lupin = s.lupin ∧ (State.declareTile s t).harebell = s.harebell ∧ (State.declareTile s t).poppy = s.poppy ∧ (State.declareTile s t).vetch = s.vetch ∧ (State.declareTile s t).commit = s.commit ∧ (State.declareTile s t).bindweed = s.bindweed ∧ (State.declareTile s t).mem = s.mem ∧ (State.declareTile s t).clock = s.clock ∧ (State.declareTile s t).sec = s.sec ∧ (State.declareTile s t).casc = s.casc ∧ (State.declareTile s t).now = s.now ∧ (State.declareTile s t).rdata = s.rdata ∧ (State.declareTile s t).freeIx = s.freeIx ∧ (State.declareTile s t).pending = s.pending := by
  unfold State.declareTile
  simp only []
  (repeat' split) <;> simp

@[simp ↓] theorem State.joinTile_keeps (s : State) (t : Nat) :
    (State.joinTile s t).ident = s.ident ∧ (State.joinTile s t).tick = s.tick ∧ (State.joinTile s t).world = s.world ∧ (State.joinTile s t).aster = s.aster ∧ (State.joinTile s t).lupin = s.lupin ∧ (State.joinTile s t).harebell = s.harebell ∧ (State.joinTile s t).poppy = s.poppy ∧ (State.joinTile s t).vetch = s.vetch ∧ (State.joinTile s t).commit = s.commit ∧ (State.joinTile s t).bindweed = s.bindweed ∧ (State.joinTile s t).mem = s.mem ∧ (State.joinTile s t).clock = s.clock ∧ (State.joinTile s t).sec = s.sec ∧ (State.joinTile s t).casc = s.casc ∧ (State.joinTile s t).now = s.now ∧ (State.joinTile s t).rdata = s.rdata ∧ (State.joinTile s t).freeIx = s.freeIx ∧ (State.joinTile s t).pending = s.pending := by
  simp [State.joinTile]

@[simp ↓] theorem State.returnOwner_keeps (s : State) (c : Nat) :
    (State.returnOwner s c).ident = s.ident ∧ (State.returnOwner s c).tick = s.tick ∧ (State.returnOwner s c).world = s.world ∧ (State.returnOwner s c).aster = s.aster ∧ (State.returnOwner s c).lupin = s.lupin ∧ (State.returnOwner s c).harebell = s.harebell ∧ (State.returnOwner s c).cornflower = s.cornflower ∧ (State.returnOwner s c).poppy = s.poppy ∧ (State.returnOwner s c).vetch = s.vetch ∧ (State.returnOwner s c).commit = s.commit ∧ (State.returnOwner s c).zheda = s.zheda ∧ (State.returnOwner s c).teasel = s.teasel ∧ (State.returnOwner s c).bindweed = s.bindweed ∧ (State.returnOwner s c).cowslip = s.cowslip ∧ (State.returnOwner s c).cmd = s.cmd ∧ (State.returnOwner s c).mem = s.mem ∧ (State.returnOwner s c).clock = s.clock ∧ (State.returnOwner s c).host = s.host ∧ (State.returnOwner s c).sec = s.sec ∧ (State.returnOwner s c).casc = s.casc ∧ (State.returnOwner s c).now = s.now ∧ (State.returnOwner s c).rdata = s.rdata ∧ (State.returnOwner s c).freeIx = s.freeIx ∧ (State.returnOwner s c).pending = s.pending := by
  unfold State.returnOwner
  simp only []
  (repeat' split) <;> simp

@[simp ↓] theorem State.departOwner_keeps (s : State) (c : Nat) :
    (State.departOwner s c).ident = s.ident ∧ (State.departOwner s c).tick = s.tick ∧ (State.departOwner s c).world = s.world ∧ (State.departOwner s c).aster = s.aster ∧ (State.departOwner s c).lupin = s.lupin ∧ (State.departOwner s c).harebell = s.harebell ∧ (State.departOwner s c).cornflower = s.cornflower ∧ (State.departOwner s c).poppy = s.poppy ∧ (State.departOwner s c).vetch = s.vetch ∧ (State.departOwner s c).commit = s.commit ∧ (State.departOwner s c).zheda = s.zheda ∧ (State.departOwner s c).teasel = s.teasel ∧ (State.departOwner s c).bindweed = s.bindweed ∧ (State.departOwner s c).cowslip = s.cowslip ∧ (State.departOwner s c).cmd = s.cmd ∧ (State.departOwner s c).mem = s.mem ∧ (State.departOwner s c).clock = s.clock ∧ (State.departOwner s c).host = s.host ∧ (State.departOwner s c).sec = s.sec ∧ (State.departOwner s c).casc = s.casc ∧ (State.departOwner s c).now = s.now ∧ (State.departOwner s c).rdata = s.rdata ∧ (State.departOwner s c).freeIx = s.freeIx ∧ (State.departOwner s c).pending = s.pending := by
  unfold State.departOwner
  simp only []
  (repeat' split) <;> simp

@[simp ↓] theorem State.rosterEdge_keeps (s : State) (c k : Nat) :
    (State.rosterEdge s c k).ident = s.ident ∧ (State.rosterEdge s c k).tick = s.tick ∧ (State.rosterEdge s c k).world = s.world ∧ (State.rosterEdge s c k).aster = s.aster ∧ (State.rosterEdge s c k).lupin = s.lupin ∧ (State.rosterEdge s c k).harebell = s.harebell ∧ (State.rosterEdge s c k).poppy = s.poppy ∧ (State.rosterEdge s c k).vetch = s.vetch ∧ (State.rosterEdge s c k).commit = s.commit ∧ (State.rosterEdge s c k).bindweed = s.bindweed ∧ (State.rosterEdge s c k).mem = s.mem ∧ (State.rosterEdge s c k).sec = s.sec ∧ (State.rosterEdge s c k).casc = s.casc ∧ (State.rosterEdge s c k).now = s.now ∧ (State.rosterEdge s c k).rdata = s.rdata ∧ (State.rosterEdge s c k).pending = s.pending := by
  unfold State.rosterEdge
  simp only []
  (repeat' split) <;> simp

@[simp ↓] theorem State.asterEdge_keeps (s : State) :
    (State.asterEdge s).ident = s.ident ∧ (State.asterEdge s).tick = s.tick ∧ (State.asterEdge s).world = s.world ∧ (State.asterEdge s).lupin = s.lupin ∧ (State.asterEdge s).harebell = s.harebell ∧ (State.asterEdge s).cornflower = s.cornflower ∧ (State.asterEdge s).poppy = s.poppy ∧ (State.asterEdge s).vetch = s.vetch ∧ (State.asterEdge s).commit = s.commit ∧ (State.asterEdge s).zheda = s.zheda ∧ (State.asterEdge s).teasel = s.teasel ∧ (State.asterEdge s).bindweed = s.bindweed ∧ (State.asterEdge s).cowslip = s.cowslip ∧ (State.asterEdge s).cmd = s.cmd ∧ (State.asterEdge s).mem = s.mem ∧ (State.asterEdge s).clock = s.clock ∧ (State.asterEdge s).host = s.host ∧ (State.asterEdge s).sec = s.sec ∧ (State.asterEdge s).casc = s.casc ∧ (State.asterEdge s).now = s.now ∧ (State.asterEdge s).rdata = s.rdata ∧ (State.asterEdge s).freeIx = s.freeIx ∧ (State.asterEdge s).pending = s.pending := by
  simp [State.asterEdge]

@[simp ↓] theorem State.unitsEdge_keeps (s : State) :
    (State.unitsEdge s).ident = s.ident ∧ (State.unitsEdge s).tick = s.tick ∧ (State.unitsEdge s).world = s.world ∧ (State.unitsEdge s).aster = s.aster ∧ (State.unitsEdge s).lupin = s.lupin ∧ (State.unitsEdge s).harebell = s.harebell ∧ (State.unitsEdge s).vetch = s.vetch ∧ (State.unitsEdge s).commit = s.commit ∧ (State.unitsEdge s).zheda = s.zheda ∧ (State.unitsEdge s).teasel = s.teasel ∧ (State.unitsEdge s).bindweed = s.bindweed ∧ (State.unitsEdge s).cowslip = s.cowslip ∧ (State.unitsEdge s).cmd = s.cmd ∧ (State.unitsEdge s).mem = s.mem ∧ (State.unitsEdge s).host = s.host ∧ (State.unitsEdge s).sec = s.sec ∧ (State.unitsEdge s).casc = s.casc ∧ (State.unitsEdge s).now = s.now ∧ (State.unitsEdge s).rdata = s.rdata ∧ (State.unitsEdge s).freeIx = s.freeIx ∧ (State.unitsEdge s).pending = s.pending := by
  simp [State.unitsEdge]

@[simp ↓] theorem State.vetchFails_keeps (s : State) (v : Nat) :
    (State.vetchFails s v).ident = s.ident ∧ (State.vetchFails s v).tick = s.tick ∧ (State.vetchFails s v).world = s.world ∧ (State.vetchFails s v).aster = s.aster ∧ (State.vetchFails s v).lupin = s.lupin ∧ (State.vetchFails s v).harebell = s.harebell ∧ (State.vetchFails s v).cornflower = s.cornflower ∧ (State.vetchFails s v).poppy = s.poppy ∧ (State.vetchFails s v).commit = s.commit ∧ (State.vetchFails s v).zheda = s.zheda ∧ (State.vetchFails s v).teasel = s.teasel ∧ (State.vetchFails s v).bindweed = s.bindweed ∧ (State.vetchFails s v).cowslip = s.cowslip ∧ (State.vetchFails s v).cmd = s.cmd ∧ (State.vetchFails s v).mem = s.mem ∧ (State.vetchFails s v).clock = s.clock ∧ (State.vetchFails s v).host = s.host ∧ (State.vetchFails s v).sec = s.sec ∧ (State.vetchFails s v).casc = s.casc ∧ (State.vetchFails s v).now = s.now ∧ (State.vetchFails s v).rdata = s.rdata ∧ (State.vetchFails s v).freeIx = s.freeIx ∧ (State.vetchFails s v).pending = s.pending := by
  simp [State.vetchFails]

@[simp ↓] theorem State.vetchSwap_keeps (s : State) :
    (State.vetchSwap s).ident = s.ident ∧ (State.vetchSwap s).tick = s.tick ∧ (State.vetchSwap s).world = s.world ∧ (State.vetchSwap s).aster = s.aster ∧ (State.vetchSwap s).lupin = s.lupin ∧ (State.vetchSwap s).harebell = s.harebell ∧ (State.vetchSwap s).cornflower = s.cornflower ∧ (State.vetchSwap s).poppy = s.poppy ∧ (State.vetchSwap s).commit = s.commit ∧ (State.vetchSwap s).zheda = s.zheda ∧ (State.vetchSwap s).teasel = s.teasel ∧ (State.vetchSwap s).bindweed = s.bindweed ∧ (State.vetchSwap s).cowslip = s.cowslip ∧ (State.vetchSwap s).cmd = s.cmd ∧ (State.vetchSwap s).mem = s.mem ∧ (State.vetchSwap s).clock = s.clock ∧ (State.vetchSwap s).host = s.host ∧ (State.vetchSwap s).sec = s.sec ∧ (State.vetchSwap s).casc = s.casc ∧ (State.vetchSwap s).now = s.now ∧ (State.vetchSwap s).rdata = s.rdata ∧ (State.vetchSwap s).freeIx = s.freeIx ∧ (State.vetchSwap s).pending = s.pending := by
  unfold State.vetchSwap
  simp only []
  (repeat' split) <;> simp

@[simp ↓] theorem State.vetchEdge_keeps (s : State) (k : Nat) :
    (State.vetchEdge s k).ident = s.ident ∧ (State.vetchEdge s k).tick = s.tick ∧ (State.vetchEdge s k).world = s.world ∧ (State.vetchEdge s k).aster = s.aster ∧ (State.vetchEdge s k).lupin = s.lupin ∧ (State.vetchEdge s k).harebell = s.harebell ∧ (State.vetchEdge s k).cornflower = s.cornflower ∧ (State.vetchEdge s k).poppy = s.poppy ∧ (State.vetchEdge s k).commit = s.commit ∧ (State.vetchEdge s k).zheda = s.zheda ∧ (State.vetchEdge s k).teasel = s.teasel ∧ (State.vetchEdge s k).bindweed = s.bindweed ∧ (State.vetchEdge s k).cowslip = s.cowslip ∧ (State.vetchEdge s k).cmd = s.cmd ∧ (State.vetchEdge s k).mem = s.mem ∧ (State.vetchEdge s k).clock = s.clock ∧ (State.vetchEdge s k).host = s.host ∧ (State.vetchEdge s k).sec = s.sec ∧ (State.vetchEdge s k).casc = s.casc ∧ (State.vetchEdge s k).now = s.now ∧ (State.vetchEdge s k).rdata = s.rdata ∧ (State.vetchEdge s k).freeIx = s.freeIx ∧ (State.vetchEdge s k).pending = s.pending := by
  simp [State.vetchEdge]

@[simp ↓] theorem State.writeLedger_keeps (s : State) :
    (State.writeLedger s).ident = s.ident ∧ (State.writeLedger s).tick = s.tick ∧ (State.writeLedger s).world = s.world ∧ (State.writeLedger s).aster = s.aster ∧ (State.writeLedger s).lupin = s.lupin ∧ (State.writeLedger s).harebell = s.harebell ∧ (State.writeLedger s).cornflower = s.cornflower ∧ (State.writeLedger s).poppy = s.poppy ∧ (State.writeLedger s).vetch = s.vetch ∧ (State.writeLedger s).commit = s.commit ∧ (State.writeLedger s).zheda = s.zheda ∧ (State.writeLedger s).teasel = s.teasel ∧ (State.writeLedger s).bindweed = s.bindweed ∧ (State.writeLedger s).cowslip = s.cowslip ∧ (State.writeLedger s).cmd = s.cmd ∧ (State.writeLedger s).mem = s.mem ∧ (State.writeLedger s).clock = s.clock ∧ (State.writeLedger s).host = s.host ∧ (State.writeLedger s).casc = s.casc ∧ (State.writeLedger s).now = s.now ∧ (State.writeLedger s).rdata = s.rdata ∧ (State.writeLedger s).freeIx = s.freeIx ∧ (State.writeLedger s).pending = s.pending ∧ (State.writeLedger s).sec.fuses = s.sec.fuses := by
  simp [State.writeLedger]

@[simp ↓] theorem State.failuresEdge_keeps (s : State) (k : Nat) :
    (State.failuresEdge s k).ident = s.ident ∧ (State.failuresEdge s k).tick = s.tick ∧ (State.failuresEdge s k).world = s.world ∧ (State.failuresEdge s k).lupin = s.lupin ∧ (State.failuresEdge s k).harebell = s.harebell ∧ (State.failuresEdge s k).commit = s.commit ∧ (State.failuresEdge s k).bindweed = s.bindweed ∧ (State.failuresEdge s k).mem = s.mem ∧ (State.failuresEdge s k).casc = s.casc ∧ (State.failuresEdge s k).now = s.now ∧ (State.failuresEdge s k).rdata = s.rdata ∧ (State.failuresEdge s k).pending = s.pending ∧ (State.failuresEdge s k).sec.fuses = s.sec.fuses := by
  unfold State.failuresEdge
  (repeat' split) <;> simp

@[simp ↓] theorem State.rejected_keeps (s : State) :
    (State.rejected s).ident = s.ident ∧ (State.rejected s).tick = s.tick ∧ (State.rejected s).world = s.world ∧ (State.rejected s).aster = s.aster ∧ (State.rejected s).lupin = s.lupin ∧ (State.rejected s).harebell = s.harebell ∧ (State.rejected s).cornflower = s.cornflower ∧ (State.rejected s).poppy = s.poppy ∧ (State.rejected s).vetch = s.vetch ∧ (State.rejected s).commit = s.commit ∧ (State.rejected s).zheda = s.zheda ∧ (State.rejected s).teasel = s.teasel ∧ (State.rejected s).bindweed = s.bindweed ∧ (State.rejected s).cowslip = s.cowslip ∧ (State.rejected s).safety = s.safety ∧ (State.rejected s).mem = s.mem ∧ (State.rejected s).clock = s.clock ∧ (State.rejected s).host = s.host ∧ (State.rejected s).sec = s.sec ∧ (State.rejected s).casc = s.casc ∧ (State.rejected s).now = s.now ∧ (State.rejected s).rdata = s.rdata ∧ (State.rejected s).freeIx = s.freeIx ∧ (State.rejected s).pending = s.pending := by
  simp [State.rejected]

theorem State.cfgPacket_proj {α : Type} (p : State → α) (s : State) (h : Hdr) (op : Nat) (c : Checks) (run : State → State)
    (hj : ∀ s, p (State.rejected s) = p s) (hu : ∀ s r f, p (State.updRing s r f) = p s)
    (hr : ∀ s h op st, p (State.refuse s h op st) = p s) (hk : ∀ s, p (run s) = p s) : p (s.cfgPacket h op c run) = p s := by
  unfold State.cfgPacket
  dsimp only
  split
  · rw [hj]; exact State.packet_proj p s h op c run hu hr hk
  · exact State.packet_proj p s h op c run hu hr hk

@[simp ↓] theorem configWriteEffect_keeps (h : Hdr) (off : Nat) (bs : List Byte) (s : State) :
    (configWriteEffect h off bs s).ident = s.ident ∧ (configWriteEffect h off bs s).tick = s.tick ∧ (configWriteEffect h off bs s).world = s.world ∧ (configWriteEffect h off bs s).aster = s.aster ∧ (configWriteEffect h off bs s).lupin = s.lupin ∧ (configWriteEffect h off bs s).harebell = s.harebell ∧ (configWriteEffect h off bs s).cornflower = s.cornflower ∧ (configWriteEffect h off bs s).poppy = s.poppy ∧ (configWriteEffect h off bs s).vetch = s.vetch ∧ (configWriteEffect h off bs s).commit = s.commit ∧ (configWriteEffect h off bs s).zheda = s.zheda ∧ (configWriteEffect h off bs s).teasel = s.teasel ∧ (configWriteEffect h off bs s).bindweed = s.bindweed ∧ (configWriteEffect h off bs s).safety = s.safety ∧ (configWriteEffect h off bs s).mem = s.mem ∧ (configWriteEffect h off bs s).clock = s.clock ∧ (configWriteEffect h off bs s).sec = s.sec ∧ (configWriteEffect h off bs s).casc = s.casc ∧ (configWriteEffect h off bs s).now = s.now ∧ (configWriteEffect h off bs s).rdata = s.rdata ∧ (configWriteEffect h off bs s).freeIx = s.freeIx ∧ (configWriteEffect h off bs s).pending = s.pending := by
  unfold configWriteEffect
  refine ⟨?_, ?_, ?_, ?_, ?_, ?_, ?_, ?_, ?_, ?_, ?_, ?_, ?_, ?_, ?_, ?_, ?_, ?_, ?_, ?_, ?_, ?_⟩ <;> (repeat' (first | with_reducible rfl | (simp; done) | (with_reducible intro _) | (with_reducible apply State.item_proj) | (with_reducible apply State.guarded_proj) | (with_reducible apply State.counterOp_proj) | (with_reducible apply State.packet_proj) | (with_reducible apply State.cfgPacket_proj) | (with_reducible refine Eq.trans (foldl_proj _ _ _ _ ?_) ?_) | (with_reducible refine Eq.trans (foldl_fst_proj _ _ _ _ ?_) ?_) | (with_reducible refine Eq.trans (foldl_snd_proj _ _ _ _ ?_) ?_) | split | (simp only []; split) | (dsimp only; split)))

@[simp ↓] theorem configLoadEffect_keeps (h : Hdr) (gen source addr len : Nat) (digest : List Byte) (s : State) :
    (configLoadEffect h gen source addr len digest s).ident = s.ident ∧ (configLoadEffect h gen source addr len digest s).tick = s.tick ∧ (configLoadEffect h gen source addr len digest s).world = s.world ∧ (configLoadEffect h gen source addr len digest s).aster = s.aster ∧ (configLoadEffect h gen source addr len digest s).lupin = s.lupin ∧ (configLoadEffect h gen source addr len digest s).harebell = s.harebell ∧ (configLoadEffect h gen source addr len digest s).cornflower = s.cornflower ∧ (configLoadEffect h gen source addr len digest s).poppy = s.poppy ∧ (configLoadEffect h gen source addr len digest s).vetch = s.vetch ∧ (configLoadEffect h gen source addr len digest s).commit = s.commit ∧ (configLoadEffect h gen source addr len digest s).zheda = s.zheda ∧ (configLoadEffect h gen source addr len digest s).teasel = s.teasel ∧ (configLoadEffect h gen source addr len digest s).bindweed = s.bindweed ∧ (configLoadEffect h gen source addr len digest s).safety = s.safety ∧ (configLoadEffect h gen source addr len digest s).mem = s.mem ∧ (configLoadEffect h gen source addr len digest s).clock = s.clock ∧ (configLoadEffect h gen source addr len digest s).sec = s.sec ∧ (configLoadEffect h gen source addr len digest s).casc = s.casc ∧ (configLoadEffect h gen source addr len digest s).now = s.now ∧ (configLoadEffect h gen source addr len digest s).rdata = s.rdata ∧ (configLoadEffect h gen source addr len digest s).freeIx = s.freeIx ∧ (configLoadEffect h gen source addr len digest s).pending = s.pending := by
  unfold configLoadEffect
  refine ⟨?_, ?_, ?_, ?_, ?_, ?_, ?_, ?_, ?_, ?_, ?_, ?_, ?_, ?_, ?_, ?_, ?_, ?_, ?_, ?_, ?_, ?_⟩ <;> (repeat' (first | with_reducible rfl | (simp; done) | (with_reducible intro _) | (with_reducible apply State.item_proj) | (with_reducible apply State.guarded_proj) | (with_reducible apply State.counterOp_proj) | (with_reducible apply State.packet_proj) | (with_reducible apply State.cfgPacket_proj) | (with_reducible refine Eq.trans (foldl_proj _ _ _ _ ?_) ?_) | (with_reducible refine Eq.trans (foldl_fst_proj _ _ _ _ ?_) ?_) | (with_reducible refine Eq.trans (foldl_snd_proj _ _ _ _ ?_) ?_) | split | (simp only []; split) | (dsimp only; split)))

@[simp ↓] theorem configLoadDoneEffect_keeps (s : State) :
    (configLoadDoneEffect s).ident = s.ident ∧ (configLoadDoneEffect s).tick = s.tick ∧ (configLoadDoneEffect s).world = s.world ∧ (configLoadDoneEffect s).aster = s.aster ∧ (configLoadDoneEffect s).lupin = s.lupin ∧ (configLoadDoneEffect s).harebell = s.harebell ∧ (configLoadDoneEffect s).cornflower = s.cornflower ∧ (configLoadDoneEffect s).poppy = s.poppy ∧ (configLoadDoneEffect s).vetch = s.vetch ∧ (configLoadDoneEffect s).commit = s.commit ∧ (configLoadDoneEffect s).zheda = s.zheda ∧ (configLoadDoneEffect s).teasel = s.teasel ∧ (configLoadDoneEffect s).bindweed = s.bindweed ∧ (configLoadDoneEffect s).safety = s.safety ∧ (configLoadDoneEffect s).mem = s.mem ∧ (configLoadDoneEffect s).clock = s.clock ∧ (configLoadDoneEffect s).sec = s.sec ∧ (configLoadDoneEffect s).casc = s.casc ∧ (configLoadDoneEffect s).now = s.now ∧ (configLoadDoneEffect s).rdata = s.rdata ∧ (configLoadDoneEffect s).freeIx = s.freeIx ∧ (configLoadDoneEffect s).pending = s.pending := by
  unfold configLoadDoneEffect
  (repeat' split) <;> simp

@[simp ↓] theorem configCommitEffect_keeps (h : Hdr) (gen : Nat) (s : State) :
    (configCommitEffect h gen s).ident = s.ident ∧ (configCommitEffect h gen s).tick = s.tick ∧ (configCommitEffect h gen s).world = s.world ∧ (configCommitEffect h gen s).aster = s.aster ∧ (configCommitEffect h gen s).lupin = s.lupin ∧ (configCommitEffect h gen s).harebell = s.harebell ∧ (configCommitEffect h gen s).cornflower = s.cornflower ∧ (configCommitEffect h gen s).poppy = s.poppy ∧ (configCommitEffect h gen s).vetch = s.vetch ∧ (configCommitEffect h gen s).commit = s.commit ∧ (configCommitEffect h gen s).zheda = s.zheda ∧ (configCommitEffect h gen s).teasel = s.teasel ∧ (configCommitEffect h gen s).bindweed = s.bindweed ∧ (configCommitEffect h gen s).safety = s.safety ∧ (configCommitEffect h gen s).mem = s.mem ∧ (configCommitEffect h gen s).clock = s.clock ∧ (configCommitEffect h gen s).sec = s.sec ∧ (configCommitEffect h gen s).casc = s.casc ∧ (configCommitEffect h gen s).now = s.now ∧ (configCommitEffect h gen s).rdata = s.rdata ∧ (configCommitEffect h gen s).freeIx = s.freeIx ∧ (configCommitEffect h gen s).pending = s.pending := by
  unfold configCommitEffect
  refine ⟨?_, ?_, ?_, ?_, ?_, ?_, ?_, ?_, ?_, ?_, ?_, ?_, ?_, ?_, ?_, ?_, ?_, ?_, ?_, ?_, ?_, ?_⟩ <;> (repeat' (first | with_reducible rfl | (simp; done) | (with_reducible intro _) | (with_reducible apply State.item_proj) | (with_reducible apply State.guarded_proj) | (with_reducible apply State.counterOp_proj) | (with_reducible apply State.packet_proj) | (with_reducible apply State.cfgPacket_proj) | (with_reducible refine Eq.trans (foldl_proj _ _ _ _ ?_) ?_) | (with_reducible refine Eq.trans (foldl_fst_proj _ _ _ _ ?_) ?_) | (with_reducible refine Eq.trans (foldl_snd_proj _ _ _ _ ?_) ?_) | split | (simp only []; split) | (dsimp only; split)))

@[simp ↓] theorem configStagingDoneEffect_keeps (ue : Bool) (s : State) :
    (configStagingDoneEffect ue s).ident = s.ident ∧ (configStagingDoneEffect ue s).tick = s.tick ∧ (configStagingDoneEffect ue s).world = s.world ∧ (configStagingDoneEffect ue s).aster = s.aster ∧ (configStagingDoneEffect ue s).lupin = s.lupin ∧ (configStagingDoneEffect ue s).harebell = s.harebell ∧ (configStagingDoneEffect ue s).cornflower = s.cornflower ∧ (configStagingDoneEffect ue s).poppy = s.poppy ∧ (configStagingDoneEffect ue s).vetch = s.vetch ∧ (configStagingDoneEffect ue s).commit = s.commit ∧ (configStagingDoneEffect ue s).zheda = s.zheda ∧ (configStagingDoneEffect ue s).teasel = s.teasel ∧ (configStagingDoneEffect ue s).bindweed = s.bindweed ∧ (configStagingDoneEffect ue s).safety = s.safety ∧ (configStagingDoneEffect ue s).mem = s.mem ∧ (configStagingDoneEffect ue s).clock = s.clock ∧ (configStagingDoneEffect ue s).sec = s.sec ∧ (configStagingDoneEffect ue s).casc = s.casc ∧ (configStagingDoneEffect ue s).now = s.now ∧ (configStagingDoneEffect ue s).rdata = s.rdata ∧ (configStagingDoneEffect ue s).freeIx = s.freeIx ∧ (configStagingDoneEffect ue s).pending = s.pending := by
  unfold configStagingDoneEffect
  (repeat' split) <;> simp

@[simp ↓] theorem configRollbackEffect_keeps (h : Hdr) (gen : Nat) (s : State) :
    (configRollbackEffect h gen s).ident = s.ident ∧ (configRollbackEffect h gen s).tick = s.tick ∧ (configRollbackEffect h gen s).world = s.world ∧ (configRollbackEffect h gen s).aster = s.aster ∧ (configRollbackEffect h gen s).lupin = s.lupin ∧ (configRollbackEffect h gen s).harebell = s.harebell ∧ (configRollbackEffect h gen s).cornflower = s.cornflower ∧ (configRollbackEffect h gen s).poppy = s.poppy ∧ (configRollbackEffect h gen s).vetch = s.vetch ∧ (configRollbackEffect h gen s).commit = s.commit ∧ (configRollbackEffect h gen s).zheda = s.zheda ∧ (configRollbackEffect h gen s).teasel = s.teasel ∧ (configRollbackEffect h gen s).bindweed = s.bindweed ∧ (configRollbackEffect h gen s).safety = s.safety ∧ (configRollbackEffect h gen s).mem = s.mem ∧ (configRollbackEffect h gen s).clock = s.clock ∧ (configRollbackEffect h gen s).sec = s.sec ∧ (configRollbackEffect h gen s).casc = s.casc ∧ (configRollbackEffect h gen s).now = s.now ∧ (configRollbackEffect h gen s).rdata = s.rdata ∧ (configRollbackEffect h gen s).freeIx = s.freeIx ∧ (configRollbackEffect h gen s).pending = s.pending := by
  unfold configRollbackEffect
  refine ⟨?_, ?_, ?_, ?_, ?_, ?_, ?_, ?_, ?_, ?_, ?_, ?_, ?_, ?_, ?_, ?_, ?_, ?_, ?_, ?_, ?_, ?_⟩ <;> (repeat' (first | with_reducible rfl | (simp; done) | (with_reducible intro _) | (with_reducible apply State.item_proj) | (with_reducible apply State.guarded_proj) | (with_reducible apply State.counterOp_proj) | (with_reducible apply State.packet_proj) | (with_reducible apply State.cfgPacket_proj) | (with_reducible refine Eq.trans (foldl_proj _ _ _ _ ?_) ?_) | (with_reducible refine Eq.trans (foldl_fst_proj _ _ _ _ ?_) ?_) | (with_reducible refine Eq.trans (foldl_snd_proj _ _ _ _ ?_) ?_) | split | (simp only []; split) | (dsimp only; split)))

@[simp ↓] theorem configDiscardEffect_keeps (h : Hdr) (s : State) :
    (configDiscardEffect h s).ident = s.ident ∧ (configDiscardEffect h s).tick = s.tick ∧ (configDiscardEffect h s).world = s.world ∧ (configDiscardEffect h s).aster = s.aster ∧ (configDiscardEffect h s).lupin = s.lupin ∧ (configDiscardEffect h s).harebell = s.harebell ∧ (configDiscardEffect h s).cornflower = s.cornflower ∧ (configDiscardEffect h s).poppy = s.poppy ∧ (configDiscardEffect h s).vetch = s.vetch ∧ (configDiscardEffect h s).commit = s.commit ∧ (configDiscardEffect h s).zheda = s.zheda ∧ (configDiscardEffect h s).teasel = s.teasel ∧ (configDiscardEffect h s).bindweed = s.bindweed ∧ (configDiscardEffect h s).safety = s.safety ∧ (configDiscardEffect h s).mem = s.mem ∧ (configDiscardEffect h s).clock = s.clock ∧ (configDiscardEffect h s).sec = s.sec ∧ (configDiscardEffect h s).casc = s.casc ∧ (configDiscardEffect h s).now = s.now ∧ (configDiscardEffect h s).rdata = s.rdata ∧ (configDiscardEffect h s).freeIx = s.freeIx ∧ (configDiscardEffect h s).pending = s.pending := by
  unfold configDiscardEffect
  refine ⟨?_, ?_, ?_, ?_, ?_, ?_, ?_, ?_, ?_, ?_, ?_, ?_, ?_, ?_, ?_, ?_, ?_, ?_, ?_, ?_, ?_, ?_⟩ <;> (repeat' (first | with_reducible rfl | (simp; done) | (with_reducible intro _) | (with_reducible apply State.item_proj) | (with_reducible apply State.guarded_proj) | (with_reducible apply State.counterOp_proj) | (with_reducible apply State.packet_proj) | (with_reducible apply State.cfgPacket_proj) | (with_reducible refine Eq.trans (foldl_proj _ _ _ _ ?_) ?_) | (with_reducible refine Eq.trans (foldl_fst_proj _ _ _ _ ?_) ?_) | (with_reducible refine Eq.trans (foldl_snd_proj _ _ _ _ ?_) ?_) | split | (simp only []; split) | (dsimp only; split)))

@[simp ↓] theorem configReadEffect_keeps (h : Hdr) (n off len raddr : Nat) (s : State) :
    (configReadEffect h n off len raddr s).ident = s.ident ∧ (configReadEffect h n off len raddr s).tick = s.tick ∧ (configReadEffect h n off len raddr s).world = s.world ∧ (configReadEffect h n off len raddr s).aster = s.aster ∧ (configReadEffect h n off len raddr s).lupin = s.lupin ∧ (configReadEffect h n off len raddr s).harebell = s.harebell ∧ (configReadEffect h n off len raddr s).cornflower = s.cornflower ∧ (configReadEffect h n off len raddr s).poppy = s.poppy ∧ (configReadEffect h n off len raddr s).vetch = s.vetch ∧ (configReadEffect h n off len raddr s).commit = s.commit ∧ (configReadEffect h n off len raddr s).zheda = s.zheda ∧ (configReadEffect h n off len raddr s).teasel = s.teasel ∧ (configReadEffect h n off len raddr s).bindweed = s.bindweed ∧ (configReadEffect h n off len raddr s).safety = s.safety ∧ (configReadEffect h n off len raddr s).mem = s.mem ∧ (configReadEffect h n off len raddr s).clock = s.clock ∧ (configReadEffect h n off len raddr s).sec = s.sec ∧ (configReadEffect h n off len raddr s).casc = s.casc ∧ (configReadEffect h n off len raddr s).now = s.now ∧ (configReadEffect h n off len raddr s).rdata = s.rdata ∧ (configReadEffect h n off len raddr s).freeIx = s.freeIx ∧ (configReadEffect h n off len raddr s).pending = s.pending := by
  unfold configReadEffect
  refine ⟨?_, ?_, ?_, ?_, ?_, ?_, ?_, ?_, ?_, ?_, ?_, ?_, ?_, ?_, ?_, ?_, ?_, ?_, ?_, ?_, ?_, ?_⟩ <;> (repeat' (first | with_reducible rfl | (simp; done) | (with_reducible intro _) | (with_reducible apply State.item_proj) | (with_reducible apply State.guarded_proj) | (with_reducible apply State.counterOp_proj) | (with_reducible apply State.packet_proj) | (with_reducible apply State.cfgPacket_proj) | (with_reducible refine Eq.trans (foldl_proj _ _ _ _ ?_) ?_) | (with_reducible refine Eq.trans (foldl_fst_proj _ _ _ _ ?_) ?_) | (with_reducible refine Eq.trans (foldl_snd_proj _ _ _ _ ?_) ?_) | split | (simp only []; split) | (dsimp only; split)))

@[simp ↓] theorem configStoreEffect_keeps (h : Hdr) (s : State) :
    (configStoreEffect h s).ident = s.ident ∧ (configStoreEffect h s).tick = s.tick ∧ (configStoreEffect h s).world = s.world ∧ (configStoreEffect h s).aster = s.aster ∧ (configStoreEffect h s).lupin = s.lupin ∧ (configStoreEffect h s).harebell = s.harebell ∧ (configStoreEffect h s).cornflower = s.cornflower ∧ (configStoreEffect h s).poppy = s.poppy ∧ (configStoreEffect h s).vetch = s.vetch ∧ (configStoreEffect h s).commit = s.commit ∧ (configStoreEffect h s).zheda = s.zheda ∧ (configStoreEffect h s).teasel = s.teasel ∧ (configStoreEffect h s).bindweed = s.bindweed ∧ (configStoreEffect h s).safety = s.safety ∧ (configStoreEffect h s).mem = s.mem ∧ (configStoreEffect h s).clock = s.clock ∧ (configStoreEffect h s).sec = s.sec ∧ (configStoreEffect h s).casc = s.casc ∧ (configStoreEffect h s).now = s.now ∧ (configStoreEffect h s).rdata = s.rdata ∧ (configStoreEffect h s).freeIx = s.freeIx ∧ (configStoreEffect h s).pending = s.pending := by
  unfold configStoreEffect
  refine ⟨?_, ?_, ?_, ?_, ?_, ?_, ?_, ?_, ?_, ?_, ?_, ?_, ?_, ?_, ?_, ?_, ?_, ?_, ?_, ?_, ?_, ?_⟩ <;> (repeat' (first | with_reducible rfl | (simp; done) | (with_reducible intro _) | (with_reducible apply State.item_proj) | (with_reducible apply State.guarded_proj) | (with_reducible apply State.counterOp_proj) | (with_reducible apply State.packet_proj) | (with_reducible apply State.cfgPacket_proj) | (with_reducible refine Eq.trans (foldl_proj _ _ _ _ ?_) ?_) | (with_reducible refine Eq.trans (foldl_fst_proj _ _ _ _ ?_) ?_) | (with_reducible refine Eq.trans (foldl_snd_proj _ _ _ _ ?_) ?_) | split | (simp only []; split) | (dsimp only; split)))

@[simp ↓] theorem configStoreDoneEffect_keeps (ok : Bool) (s : State) :
    (configStoreDoneEffect ok s).ident = s.ident ∧ (configStoreDoneEffect ok s).tick = s.tick ∧ (configStoreDoneEffect ok s).world = s.world ∧ (configStoreDoneEffect ok s).aster = s.aster ∧ (configStoreDoneEffect ok s).lupin = s.lupin ∧ (configStoreDoneEffect ok s).harebell = s.harebell ∧ (configStoreDoneEffect ok s).cornflower = s.cornflower ∧ (configStoreDoneEffect ok s).poppy = s.poppy ∧ (configStoreDoneEffect ok s).vetch = s.vetch ∧ (configStoreDoneEffect ok s).commit = s.commit ∧ (configStoreDoneEffect ok s).zheda = s.zheda ∧ (configStoreDoneEffect ok s).teasel = s.teasel ∧ (configStoreDoneEffect ok s).bindweed = s.bindweed ∧ (configStoreDoneEffect ok s).safety = s.safety ∧ (configStoreDoneEffect ok s).mem = s.mem ∧ (configStoreDoneEffect ok s).clock = s.clock ∧ (configStoreDoneEffect ok s).casc = s.casc ∧ (configStoreDoneEffect ok s).now = s.now ∧ (configStoreDoneEffect ok s).rdata = s.rdata ∧ (configStoreDoneEffect ok s).freeIx = s.freeIx ∧ (configStoreDoneEffect ok s).pending = s.pending ∧ (configStoreDoneEffect ok s).sec.fuses = s.sec.fuses := by
  unfold configStoreDoneEffect
  (repeat' split) <;> simp

@[simp ↓] theorem State.endItems_keeps (s : State) (st : Status) (p : PoolEntry → Bool) :
    (State.endItems s st p).ident = s.ident ∧ (State.endItems s st p).tick = s.tick ∧ (State.endItems s st p).world = s.world ∧ (State.endItems s st p).aster = s.aster ∧ (State.endItems s st p).lupin = s.lupin ∧ (State.endItems s st p).harebell = s.harebell ∧ (State.endItems s st p).cornflower = s.cornflower ∧ (State.endItems s st p).poppy = s.poppy ∧ (State.endItems s st p).vetch = s.vetch ∧ (State.endItems s st p).commit = s.commit ∧ (State.endItems s st p).zheda = s.zheda ∧ (State.endItems s st p).bindweed = s.bindweed ∧ (State.endItems s st p).safety = s.safety ∧ (State.endItems s st p).clock = s.clock ∧ (State.endItems s st p).sec = s.sec ∧ (State.endItems s st p).casc = s.casc ∧ (State.endItems s st p).now = s.now ∧ (State.endItems s st p).rdata = s.rdata ∧ (State.endItems s st p).freeIx = s.freeIx ∧ (State.endItems s st p).pending = s.pending := by
  simp [State.endItems]

@[simp ↓] theorem State.endOffLongs_keeps (s : State) :
    (State.endOffLongs s).ident = s.ident ∧ (State.endOffLongs s).tick = s.tick ∧ (State.endOffLongs s).world = s.world ∧ (State.endOffLongs s).aster = s.aster ∧ (State.endOffLongs s).lupin = s.lupin ∧ (State.endOffLongs s).harebell = s.harebell ∧ (State.endOffLongs s).poppy = s.poppy ∧ (State.endOffLongs s).vetch = s.vetch ∧ (State.endOffLongs s).commit = s.commit ∧ (State.endOffLongs s).bindweed = s.bindweed ∧ (State.endOffLongs s).mem = s.mem ∧ (State.endOffLongs s).clock = s.clock ∧ (State.endOffLongs s).sec = s.sec ∧ (State.endOffLongs s).casc = s.casc ∧ (State.endOffLongs s).now = s.now ∧ (State.endOffLongs s).rdata = s.rdata ∧ (State.endOffLongs s).freeIx = s.freeIx ∧ (State.endOffLongs s).pending = s.pending := by
  simp [State.endOffLongs]

@[simp ↓] theorem State.endOff_keeps (s : State) :
    (State.endOff s).ident = s.ident ∧ (State.endOff s).tick = s.tick ∧ (State.endOff s).world = s.world ∧ (State.endOff s).aster = s.aster ∧ (State.endOff s).lupin = s.lupin ∧ (State.endOff s).harebell = s.harebell ∧ (State.endOff s).poppy = s.poppy ∧ (State.endOff s).vetch = s.vetch ∧ (State.endOff s).commit = s.commit ∧ (State.endOff s).bindweed = s.bindweed ∧ (State.endOff s).clock = s.clock ∧ (State.endOff s).sec = s.sec ∧ (State.endOff s).casc = s.casc ∧ (State.endOff s).now = s.now ∧ (State.endOff s).rdata = s.rdata ∧ (State.endOff s).freeIx = s.freeIx ∧ (State.endOff s).pending = s.pending := by
  simp [State.endOff]

@[simp ↓] theorem State.endUnfit_keeps (s : State) :
    (State.endUnfit s).ident = s.ident ∧ (State.endUnfit s).tick = s.tick ∧ (State.endUnfit s).world = s.world ∧ (State.endUnfit s).aster = s.aster ∧ (State.endUnfit s).lupin = s.lupin ∧ (State.endUnfit s).harebell = s.harebell ∧ (State.endUnfit s).cornflower = s.cornflower ∧ (State.endUnfit s).poppy = s.poppy ∧ (State.endUnfit s).vetch = s.vetch ∧ (State.endUnfit s).commit = s.commit ∧ (State.endUnfit s).zheda = s.zheda ∧ (State.endUnfit s).bindweed = s.bindweed ∧ (State.endUnfit s).safety = s.safety ∧ (State.endUnfit s).clock = s.clock ∧ (State.endUnfit s).sec = s.sec ∧ (State.endUnfit s).casc = s.casc ∧ (State.endUnfit s).now = s.now ∧ (State.endUnfit s).rdata = s.rdata ∧ (State.endUnfit s).freeIx = s.freeIx ∧ (State.endUnfit s).pending = s.pending := by
  simp [State.endUnfit]

@[simp ↓] theorem State.modelSwitched_keeps (s : State) (old : Option Bundle) (c : Nat) (x : Ctx) :
    (State.modelSwitched s old c x).ident = s.ident ∧ (State.modelSwitched s old c x).tick = s.tick ∧ (State.modelSwitched s old c x).aster = s.aster ∧ (State.modelSwitched s old c x).harebell = s.harebell ∧ (State.modelSwitched s old c x).poppy = s.poppy ∧ (State.modelSwitched s old c x).commit = s.commit ∧ (State.modelSwitched s old c x).zheda = s.zheda ∧ (State.modelSwitched s old c x).teasel = s.teasel ∧ (State.modelSwitched s old c x).bindweed = s.bindweed ∧ (State.modelSwitched s old c x).cowslip = s.cowslip ∧ (State.modelSwitched s old c x).cmd = s.cmd ∧ (State.modelSwitched s old c x).safety = s.safety ∧ (State.modelSwitched s old c x).mem = s.mem ∧ (State.modelSwitched s old c x).clock = s.clock ∧ (State.modelSwitched s old c x).host = s.host ∧ (State.modelSwitched s old c x).sec = s.sec ∧ (State.modelSwitched s old c x).casc = s.casc ∧ (State.modelSwitched s old c x).now = s.now ∧ (State.modelSwitched s old c x).rdata = s.rdata ∧ (State.modelSwitched s old c x).freeIx = s.freeIx ∧ (State.modelSwitched s old c x).pending = s.pending := by
  unfold State.modelSwitched
  (repeat' split) <;> simp

@[simp ↓] theorem State.cancelRemoved_keeps (s : State) (b : Bundle) :
    (State.cancelRemoved s b).ident = s.ident ∧ (State.cancelRemoved s b).tick = s.tick ∧ (State.cancelRemoved s b).world = s.world ∧ (State.cancelRemoved s b).aster = s.aster ∧ (State.cancelRemoved s b).lupin = s.lupin ∧ (State.cancelRemoved s b).harebell = s.harebell ∧ (State.cancelRemoved s b).poppy = s.poppy ∧ (State.cancelRemoved s b).vetch = s.vetch ∧ (State.cancelRemoved s b).commit = s.commit ∧ (State.cancelRemoved s b).bindweed = s.bindweed ∧ (State.cancelRemoved s b).mem = s.mem ∧ (State.cancelRemoved s b).clock = s.clock ∧ (State.cancelRemoved s b).sec = s.sec ∧ (State.cancelRemoved s b).casc = s.casc ∧ (State.cancelRemoved s b).now = s.now ∧ (State.cancelRemoved s b).rdata = s.rdata ∧ (State.cancelRemoved s b).freeIx = s.freeIx ∧ (State.cancelRemoved s b).pending = s.pending := by
  simp [State.cancelRemoved]

@[simp ↓] theorem State.loadBundle_keeps (s : State) (old : Option Bundle) (x : BundleSlot) :
    (State.loadBundle s old x).ident = s.ident ∧ (State.loadBundle s old x).aster = s.aster ∧ (State.loadBundle s old x).lupin = s.lupin ∧ (State.loadBundle s old x).harebell = s.harebell ∧ (State.loadBundle s old x).cornflower = s.cornflower ∧ (State.loadBundle s old x).vetch = s.vetch ∧ (State.loadBundle s old x).teasel = s.teasel ∧ (State.loadBundle s old x).cowslip = s.cowslip ∧ (State.loadBundle s old x).cmd = s.cmd ∧ (State.loadBundle s old x).mem = s.mem ∧ (State.loadBundle s old x).clock = s.clock ∧ (State.loadBundle s old x).host = s.host ∧ (State.loadBundle s old x).sec = s.sec ∧ (State.loadBundle s old x).casc = s.casc ∧ (State.loadBundle s old x).now = s.now ∧ (State.loadBundle s old x).rdata = s.rdata ∧ (State.loadBundle s old x).freeIx = s.freeIx ∧ (State.loadBundle s old x).pending = s.pending := by
  simp [State.loadBundle]

@[simp ↓] theorem State.switchTo_keeps (s : State) (k : Nat) (x : BundleSlot) :
    (State.switchTo s k x).ident = s.ident ∧ (State.switchTo s k x).aster = s.aster ∧ (State.switchTo s k x).harebell = s.harebell ∧ (State.switchTo s k x).clock = s.clock ∧ (State.switchTo s k x).sec = s.sec ∧ (State.switchTo s k x).now = s.now ∧ (State.switchTo s k x).rdata = s.rdata ∧ (State.switchTo s k x).freeIx = s.freeIx ∧ (State.switchTo s k x).pending = s.pending := by
  simp [State.switchTo]

@[simp ↓] theorem State.configEdge_keeps (s : State) (k : Nat) :
    (State.configEdge s k).ident = s.ident ∧ (State.configEdge s k).aster = s.aster ∧ (State.configEdge s k).harebell = s.harebell ∧ (State.configEdge s k).clock = s.clock ∧ (State.configEdge s k).sec = s.sec ∧ (State.configEdge s k).now = s.now ∧ (State.configEdge s k).rdata = s.rdata ∧ (State.configEdge s k).freeIx = s.freeIx ∧ (State.configEdge s k).pending = s.pending := by
  unfold State.configEdge
  (repeat' split) <;> simp

@[simp ↓] theorem State.clusterLost_keeps (s : State) (c : Nat) :
    (State.clusterLost s c).ident = s.ident ∧ (State.clusterLost s c).tick = s.tick ∧ (State.clusterLost s c).aster = s.aster ∧ (State.clusterLost s c).lupin = s.lupin ∧ (State.clusterLost s c).poppy = s.poppy ∧ (State.clusterLost s c).vetch = s.vetch ∧ (State.clusterLost s c).commit = s.commit ∧ (State.clusterLost s c).zheda = s.zheda ∧ (State.clusterLost s c).teasel = s.teasel ∧ (State.clusterLost s c).cmd = s.cmd ∧ (State.clusterLost s c).safety = s.safety ∧ (State.clusterLost s c).clock = s.clock ∧ (State.clusterLost s c).sec = s.sec ∧ (State.clusterLost s c).casc = s.casc ∧ (State.clusterLost s c).now = s.now ∧ (State.clusterLost s c).rdata = s.rdata ∧ (State.clusterLost s c).freeIx = s.freeIx ∧ (State.clusterLost s c).pending = s.pending ∧ (State.clusterLost s c).mem.ddr = s.mem.ddr := by
  simp [State.clusterLost]

@[simp ↓] theorem State.setCluster_keeps (s : State) (c : Nat) (d : DomState) :
    (State.setCluster s c d).ident = s.ident ∧ (State.setCluster s c d).tick = s.tick ∧ (State.setCluster s c d).aster = s.aster ∧ (State.setCluster s c d).lupin = s.lupin ∧ (State.setCluster s c d).poppy = s.poppy ∧ (State.setCluster s c d).vetch = s.vetch ∧ (State.setCluster s c d).commit = s.commit ∧ (State.setCluster s c d).zheda = s.zheda ∧ (State.setCluster s c d).teasel = s.teasel ∧ (State.setCluster s c d).cmd = s.cmd ∧ (State.setCluster s c d).safety = s.safety ∧ (State.setCluster s c d).sec = s.sec ∧ (State.setCluster s c d).casc = s.casc ∧ (State.setCluster s c d).now = s.now ∧ (State.setCluster s c d).rdata = s.rdata ∧ (State.setCluster s c d).freeIx = s.freeIx ∧ (State.setCluster s c d).pending = s.pending ∧ (State.setCluster s c d).mem.ddr = s.mem.ddr := by
  unfold State.setCluster
  (repeat' split) <;> simp

@[simp ↓] theorem State.enterOp3_keeps (s : State) :
    (State.enterOp3 s).ident = s.ident ∧ (State.enterOp3 s).tick = s.tick ∧ (State.enterOp3 s).aster = s.aster ∧ (State.enterOp3 s).lupin = s.lupin ∧ (State.enterOp3 s).poppy = s.poppy ∧ (State.enterOp3 s).vetch = s.vetch ∧ (State.enterOp3 s).commit = s.commit ∧ (State.enterOp3 s).sec = s.sec ∧ (State.enterOp3 s).casc = s.casc ∧ (State.enterOp3 s).now = s.now ∧ (State.enterOp3 s).rdata = s.rdata ∧ (State.enterOp3 s).freeIx = s.freeIx ∧ (State.enterOp3 s).pending = s.pending := by
  simp [State.enterOp3]

@[simp ↓] theorem State.opEdge_keeps (s : State) :
    (State.opEdge s).ident = s.ident ∧ (State.opEdge s).tick = s.tick ∧ (State.opEdge s).aster = s.aster ∧ (State.opEdge s).lupin = s.lupin ∧ (State.opEdge s).poppy = s.poppy ∧ (State.opEdge s).vetch = s.vetch ∧ (State.opEdge s).commit = s.commit ∧ (State.opEdge s).sec = s.sec ∧ (State.opEdge s).casc = s.casc ∧ (State.opEdge s).now = s.now ∧ (State.opEdge s).rdata = s.rdata ∧ (State.opEdge s).freeIx = s.freeIx ∧ (State.opEdge s).pending = s.pending := by
  unfold State.opEdge
  (repeat' split) <;> simp

@[simp ↓] theorem State.rebudget_keeps (s : State) :
    (State.rebudget s).ident = s.ident ∧ (State.rebudget s).world = s.world ∧ (State.rebudget s).aster = s.aster ∧ (State.rebudget s).lupin = s.lupin ∧ (State.rebudget s).harebell = s.harebell ∧ (State.rebudget s).cornflower = s.cornflower ∧ (State.rebudget s).poppy = s.poppy ∧ (State.rebudget s).vetch = s.vetch ∧ (State.rebudget s).commit = s.commit ∧ (State.rebudget s).zheda = s.zheda ∧ (State.rebudget s).teasel = s.teasel ∧ (State.rebudget s).bindweed = s.bindweed ∧ (State.rebudget s).cowslip = s.cowslip ∧ (State.rebudget s).cmd = s.cmd ∧ (State.rebudget s).safety = s.safety ∧ (State.rebudget s).mem = s.mem ∧ (State.rebudget s).clock = s.clock ∧ (State.rebudget s).host = s.host ∧ (State.rebudget s).sec = s.sec ∧ (State.rebudget s).casc = s.casc ∧ (State.rebudget s).now = s.now ∧ (State.rebudget s).rdata = s.rdata ∧ (State.rebudget s).freeIx = s.freeIx ∧ (State.rebudget s).pending = s.pending := by
  unfold State.rebudget
  (repeat' split) <;> simp

@[simp ↓] theorem State.throttleEdge_keeps (s : State) :
    (State.throttleEdge s).ident = s.ident ∧ (State.throttleEdge s).world = s.world ∧ (State.throttleEdge s).aster = s.aster ∧ (State.throttleEdge s).lupin = s.lupin ∧ (State.throttleEdge s).harebell = s.harebell ∧ (State.throttleEdge s).cornflower = s.cornflower ∧ (State.throttleEdge s).poppy = s.poppy ∧ (State.throttleEdge s).vetch = s.vetch ∧ (State.throttleEdge s).commit = s.commit ∧ (State.throttleEdge s).zheda = s.zheda ∧ (State.throttleEdge s).teasel = s.teasel ∧ (State.throttleEdge s).bindweed = s.bindweed ∧ (State.throttleEdge s).cowslip = s.cowslip ∧ (State.throttleEdge s).cmd = s.cmd ∧ (State.throttleEdge s).safety = s.safety ∧ (State.throttleEdge s).mem = s.mem ∧ (State.throttleEdge s).clock = s.clock ∧ (State.throttleEdge s).host = s.host ∧ (State.throttleEdge s).sec = s.sec ∧ (State.throttleEdge s).now = s.now ∧ (State.throttleEdge s).rdata = s.rdata ∧ (State.throttleEdge s).freeIx = s.freeIx ∧ (State.throttleEdge s).pending = s.pending := by
  simp [State.throttleEdge]

@[simp ↓] theorem State.latchEdge_keeps (s : State) :
    (State.latchEdge s).ident = s.ident ∧ (State.latchEdge s).tick = s.tick ∧ (State.latchEdge s).world = s.world ∧ (State.latchEdge s).aster = s.aster ∧ (State.latchEdge s).lupin = s.lupin ∧ (State.latchEdge s).harebell = s.harebell ∧ (State.latchEdge s).cornflower = s.cornflower ∧ (State.latchEdge s).poppy = s.poppy ∧ (State.latchEdge s).vetch = s.vetch ∧ (State.latchEdge s).commit = s.commit ∧ (State.latchEdge s).bindweed = s.bindweed ∧ (State.latchEdge s).cowslip = s.cowslip ∧ (State.latchEdge s).cmd = s.cmd ∧ (State.latchEdge s).safety = s.safety ∧ (State.latchEdge s).mem = s.mem ∧ (State.latchEdge s).clock = s.clock ∧ (State.latchEdge s).sec = s.sec ∧ (State.latchEdge s).casc = s.casc ∧ (State.latchEdge s).now = s.now ∧ (State.latchEdge s).rdata = s.rdata ∧ (State.latchEdge s).freeIx = s.freeIx ∧ (State.latchEdge s).pending = s.pending := by
  simp [State.latchEdge]

@[simp ↓] theorem State.startPrimrose_keeps (s : State) :
    (State.startPrimrose s).ident = s.ident ∧ (State.startPrimrose s).tick = s.tick ∧ (State.startPrimrose s).world = s.world ∧ (State.startPrimrose s).aster = s.aster ∧ (State.startPrimrose s).lupin = s.lupin ∧ (State.startPrimrose s).harebell = s.harebell ∧ (State.startPrimrose s).cornflower = s.cornflower ∧ (State.startPrimrose s).poppy = s.poppy ∧ (State.startPrimrose s).vetch = s.vetch ∧ (State.startPrimrose s).commit = s.commit ∧ (State.startPrimrose s).zheda = s.zheda ∧ (State.startPrimrose s).teasel = s.teasel ∧ (State.startPrimrose s).bindweed = s.bindweed ∧ (State.startPrimrose s).cowslip = s.cowslip ∧ (State.startPrimrose s).cmd = s.cmd ∧ (State.startPrimrose s).safety = s.safety ∧ (State.startPrimrose s).mem = s.mem ∧ (State.startPrimrose s).clock = s.clock ∧ (State.startPrimrose s).host = s.host ∧ (State.startPrimrose s).casc = s.casc ∧ (State.startPrimrose s).now = s.now ∧ (State.startPrimrose s).rdata = s.rdata ∧ (State.startPrimrose s).freeIx = s.freeIx ∧ (State.startPrimrose s).pending = s.pending ∧ (State.startPrimrose s).sec.fuses = s.sec.fuses := by
  simp [State.startPrimrose]

@[simp ↓] theorem State.cleared_keeps (s : State) (por : Bool) (holds : Holds) (cause : BitVec 4) :
    (State.cleared s por holds cause).ident = s.ident ∧ (State.cleared s por holds cause).now = s.now ∧ (State.cleared s por holds cause).freeIx = s.freeIx ∧ (State.cleared s por holds cause).pending = s.pending ∧ (State.cleared s por holds cause).sec.fuses = s.sec.fuses := by
  unfold State.cleared
  refine ⟨?_, ?_, ?_, ?_, ?_⟩ <;> (simp only []; split <;> simp)

@[simp ↓] theorem porAssertEffect_keeps (s : State) :
    (porAssertEffect s).ident = s.ident ∧ (porAssertEffect s).now = s.now ∧ (porAssertEffect s).freeIx = s.freeIx ∧ (porAssertEffect s).pending = s.pending ∧ (porAssertEffect s).sec.fuses = s.sec.fuses := by
  simp [porAssertEffect]

@[simp ↓] theorem porReleaseEffect_keeps (time : Nat) (st : Straps) (ok : Bool) (s : State) :
    (porReleaseEffect time st ok s).tick = s.tick ∧ (porReleaseEffect time st ok s).world = s.world ∧ (porReleaseEffect time st ok s).aster = s.aster ∧ (porReleaseEffect time st ok s).lupin = s.lupin ∧ (porReleaseEffect time st ok s).harebell = s.harebell ∧ (porReleaseEffect time st ok s).cornflower = s.cornflower ∧ (porReleaseEffect time st ok s).poppy = s.poppy ∧ (porReleaseEffect time st ok s).vetch = s.vetch ∧ (porReleaseEffect time st ok s).commit = s.commit ∧ (porReleaseEffect time st ok s).zheda = s.zheda ∧ (porReleaseEffect time st ok s).teasel = s.teasel ∧ (porReleaseEffect time st ok s).bindweed = s.bindweed ∧ (porReleaseEffect time st ok s).cowslip = s.cowslip ∧ (porReleaseEffect time st ok s).cmd = s.cmd ∧ (porReleaseEffect time st ok s).safety = s.safety ∧ (porReleaseEffect time st ok s).mem = s.mem ∧ (porReleaseEffect time st ok s).host = s.host ∧ (porReleaseEffect time st ok s).casc = s.casc ∧ (porReleaseEffect time st ok s).rdata = s.rdata ∧ (porReleaseEffect time st ok s).freeIx = s.freeIx ∧ (porReleaseEffect time st ok s).pending = s.pending ∧ (porReleaseEffect time st ok s).sec.fuses = s.sec.fuses := by
  unfold porReleaseEffect
  (repeat' split) <;> simp

@[simp ↓] theorem sysResetEffect_keeps (s : State) :
    (sysResetEffect s).ident = s.ident ∧ (sysResetEffect s).now = s.now ∧ (sysResetEffect s).freeIx = s.freeIx ∧ (sysResetEffect s).pending = s.pending ∧ (sysResetEffect s).sec.fuses = s.sec.fuses := by
  unfold sysResetEffect
  (repeat' split) <;> simp

@[simp ↓] theorem sysResetReleaseEffect_keeps (s : State) :
    (sysResetReleaseEffect s).ident = s.ident ∧ (sysResetReleaseEffect s).tick = s.tick ∧ (sysResetReleaseEffect s).world = s.world ∧ (sysResetReleaseEffect s).aster = s.aster ∧ (sysResetReleaseEffect s).lupin = s.lupin ∧ (sysResetReleaseEffect s).harebell = s.harebell ∧ (sysResetReleaseEffect s).cornflower = s.cornflower ∧ (sysResetReleaseEffect s).poppy = s.poppy ∧ (sysResetReleaseEffect s).vetch = s.vetch ∧ (sysResetReleaseEffect s).commit = s.commit ∧ (sysResetReleaseEffect s).zheda = s.zheda ∧ (sysResetReleaseEffect s).teasel = s.teasel ∧ (sysResetReleaseEffect s).bindweed = s.bindweed ∧ (sysResetReleaseEffect s).cowslip = s.cowslip ∧ (sysResetReleaseEffect s).cmd = s.cmd ∧ (sysResetReleaseEffect s).safety = s.safety ∧ (sysResetReleaseEffect s).mem = s.mem ∧ (sysResetReleaseEffect s).host = s.host ∧ (sysResetReleaseEffect s).sec = s.sec ∧ (sysResetReleaseEffect s).casc = s.casc ∧ (sysResetReleaseEffect s).now = s.now ∧ (sysResetReleaseEffect s).rdata = s.rdata ∧ (sysResetReleaseEffect s).freeIx = s.freeIx ∧ (sysResetReleaseEffect s).pending = s.pending := by
  simp [sysResetReleaseEffect]

@[simp ↓] theorem supplyRecoveredEffect_keeps (s : State) :
    (supplyRecoveredEffect s).ident = s.ident ∧ (supplyRecoveredEffect s).tick = s.tick ∧ (supplyRecoveredEffect s).world = s.world ∧ (supplyRecoveredEffect s).aster = s.aster ∧ (supplyRecoveredEffect s).lupin = s.lupin ∧ (supplyRecoveredEffect s).harebell = s.harebell ∧ (supplyRecoveredEffect s).cornflower = s.cornflower ∧ (supplyRecoveredEffect s).poppy = s.poppy ∧ (supplyRecoveredEffect s).vetch = s.vetch ∧ (supplyRecoveredEffect s).commit = s.commit ∧ (supplyRecoveredEffect s).zheda = s.zheda ∧ (supplyRecoveredEffect s).teasel = s.teasel ∧ (supplyRecoveredEffect s).bindweed = s.bindweed ∧ (supplyRecoveredEffect s).cowslip = s.cowslip ∧ (supplyRecoveredEffect s).cmd = s.cmd ∧ (supplyRecoveredEffect s).safety = s.safety ∧ (supplyRecoveredEffect s).mem = s.mem ∧ (supplyRecoveredEffect s).host = s.host ∧ (supplyRecoveredEffect s).casc = s.casc ∧ (supplyRecoveredEffect s).now = s.now ∧ (supplyRecoveredEffect s).rdata = s.rdata ∧ (supplyRecoveredEffect s).freeIx = s.freeIx ∧ (supplyRecoveredEffect s).pending = s.pending ∧ (supplyRecoveredEffect s).sec.fuses = s.sec.fuses := by
  unfold supplyRecoveredEffect
  (repeat' split) <;> simp

@[simp ↓] theorem devResetEffect_keeps (h : Hdr) (s : State) :
    (devResetEffect h s).ident = s.ident ∧ (devResetEffect h s).now = s.now ∧ (devResetEffect h s).freeIx = s.freeIx ∧ (devResetEffect h s).pending = s.pending ∧ (devResetEffect h s).sec.fuses = s.sec.fuses := by
  unfold devResetEffect
  refine ⟨?_, ?_, ?_, ?_, ?_⟩ <;> (repeat' (first | with_reducible rfl | (simp; done) | (with_reducible intro _) | (with_reducible apply State.item_proj) | (with_reducible apply State.guarded_proj) | (with_reducible apply State.counterOp_proj) | (with_reducible apply State.packet_proj) | (with_reducible apply State.cfgPacket_proj) | (with_reducible refine Eq.trans (foldl_proj _ _ _ _ ?_) ?_) | (with_reducible refine Eq.trans (foldl_fst_proj _ _ _ _ ?_) ?_) | (with_reducible refine Eq.trans (foldl_snd_proj _ _ _ _ ?_) ?_) | (with_reducible apply State.item_proj (fun s => s.sec.fuses)) | (with_reducible apply State.guarded_proj (fun s => s.sec.fuses)) | (with_reducible apply State.counterOp_proj (fun s => s.sec.fuses)) | (with_reducible apply State.packet_proj (fun s => s.sec.fuses)) | (with_reducible apply State.cfgPacket_proj (fun s => s.sec.fuses)) | (with_reducible refine Eq.trans (foldl_proj  (fun s => s.sec.fuses) _ _ _ ?_) ?_) | (with_reducible refine Eq.trans (foldl_fst_proj  (fun s => s.sec.fuses) _ _ _ ?_) ?_) | (with_reducible refine Eq.trans (foldl_snd_proj  (fun s => s.sec.fuses) _ _ _ ?_) ?_) | split | (simp only []; split) | (dsimp only; split)))

@[simp ↓] theorem bootFailEffect_keeps (c : Nat) (s : State) :
    (bootFailEffect c s).ident = s.ident ∧ (bootFailEffect c s).tick = s.tick ∧ (bootFailEffect c s).world = s.world ∧ (bootFailEffect c s).aster = s.aster ∧ (bootFailEffect c s).lupin = s.lupin ∧ (bootFailEffect c s).harebell = s.harebell ∧ (bootFailEffect c s).cornflower = s.cornflower ∧ (bootFailEffect c s).poppy = s.poppy ∧ (bootFailEffect c s).vetch = s.vetch ∧ (bootFailEffect c s).commit = s.commit ∧ (bootFailEffect c s).zheda = s.zheda ∧ (bootFailEffect c s).teasel = s.teasel ∧ (bootFailEffect c s).bindweed = s.bindweed ∧ (bootFailEffect c s).cowslip = s.cowslip ∧ (bootFailEffect c s).cmd = s.cmd ∧ (bootFailEffect c s).safety = s.safety ∧ (bootFailEffect c s).mem = s.mem ∧ (bootFailEffect c s).host = s.host ∧ (bootFailEffect c s).casc = s.casc ∧ (bootFailEffect c s).now = s.now ∧ (bootFailEffect c s).rdata = s.rdata ∧ (bootFailEffect c s).freeIx = s.freeIx ∧ (bootFailEffect c s).pending = s.pending ∧ (bootFailEffect c s).sec.fuses = s.sec.fuses := by
  unfold bootFailEffect
  (repeat' split) <;> simp

@[simp ↓] theorem State.commitStored_keeps (s : State) (x : BundleSlot) :
    (State.commitStored s x).ident = s.ident ∧ (State.commitStored s x).aster = s.aster ∧ (State.commitStored s x).lupin = s.lupin ∧ (State.commitStored s x).vetch = s.vetch ∧ (State.commitStored s x).sec = s.sec ∧ (State.commitStored s x).casc = s.casc ∧ (State.commitStored s x).now = s.now ∧ (State.commitStored s x).rdata = s.rdata ∧ (State.commitStored s x).freeIx = s.freeIx ∧ (State.commitStored s x).pending = s.pending := by
  simp [State.commitStored]

@[simp ↓] theorem State.repairRows_keeps (s : State) (unrepaired : List Nat) :
    (State.repairRows s unrepaired).ident = s.ident ∧ (State.repairRows s unrepaired).tick = s.tick ∧ (State.repairRows s unrepaired).world = s.world ∧ (State.repairRows s unrepaired).aster = s.aster ∧ (State.repairRows s unrepaired).lupin = s.lupin ∧ (State.repairRows s unrepaired).harebell = s.harebell ∧ (State.repairRows s unrepaired).cornflower = s.cornflower ∧ (State.repairRows s unrepaired).poppy = s.poppy ∧ (State.repairRows s unrepaired).vetch = s.vetch ∧ (State.repairRows s unrepaired).commit = s.commit ∧ (State.repairRows s unrepaired).zheda = s.zheda ∧ (State.repairRows s unrepaired).teasel = s.teasel ∧ (State.repairRows s unrepaired).bindweed = s.bindweed ∧ (State.repairRows s unrepaired).cowslip = s.cowslip ∧ (State.repairRows s unrepaired).cmd = s.cmd ∧ (State.repairRows s unrepaired).casc = s.casc ∧ (State.repairRows s unrepaired).now = s.now ∧ (State.repairRows s unrepaired).rdata = s.rdata ∧ (State.repairRows s unrepaired).pending = s.pending ∧ (State.repairRows s unrepaired).sec.fuses = s.sec.fuses ∧ (State.repairRows s unrepaired).mem.ddr = s.mem.ddr ∧ (State.repairRows s unrepaired).mem.sram = s.mem.sram := by
  unfold State.repairRows
  (repeat' split) <;> simp

@[simp ↓] theorem bootReadyEffect_keeps (time : Nat) (unrepaired : List Nat) (s : State) :
    (bootReadyEffect time unrepaired s).ident = s.ident ∧ (bootReadyEffect time unrepaired s).aster = s.aster ∧ (bootReadyEffect time unrepaired s).lupin = s.lupin ∧ (bootReadyEffect time unrepaired s).vetch = s.vetch ∧ (bootReadyEffect time unrepaired s).casc = s.casc ∧ (bootReadyEffect time unrepaired s).rdata = s.rdata ∧ (bootReadyEffect time unrepaired s).pending = s.pending := by
  unfold bootReadyEffect
  simp only []
  (repeat' split) <;> simp

@[simp ↓] theorem State.answerSec_keeps (s : State) (c : SecCmd) (st : Status) :
    (State.answerSec s c st).ident = s.ident ∧ (State.answerSec s c st).tick = s.tick ∧ (State.answerSec s c st).world = s.world ∧ (State.answerSec s c st).aster = s.aster ∧ (State.answerSec s c st).lupin = s.lupin ∧ (State.answerSec s c st).harebell = s.harebell ∧ (State.answerSec s c st).cornflower = s.cornflower ∧ (State.answerSec s c st).poppy = s.poppy ∧ (State.answerSec s c st).vetch = s.vetch ∧ (State.answerSec s c st).commit = s.commit ∧ (State.answerSec s c st).zheda = s.zheda ∧ (State.answerSec s c st).teasel = s.teasel ∧ (State.answerSec s c st).bindweed = s.bindweed ∧ (State.answerSec s c st).safety = s.safety ∧ (State.answerSec s c st).mem = s.mem ∧ (State.answerSec s c st).clock = s.clock ∧ (State.answerSec s c st).sec = s.sec ∧ (State.answerSec s c st).casc = s.casc ∧ (State.answerSec s c st).now = s.now ∧ (State.answerSec s c st).rdata = s.rdata ∧ (State.answerSec s c st).freeIx = s.freeIx ∧ (State.answerSec s c st).pending = s.pending := by
  unfold State.answerSec
  (repeat' split) <;> simp

@[simp ↓] theorem State.endSec_keeps (s : State) :
    (State.endSec s).ident = s.ident ∧ (State.endSec s).tick = s.tick ∧ (State.endSec s).world = s.world ∧ (State.endSec s).aster = s.aster ∧ (State.endSec s).lupin = s.lupin ∧ (State.endSec s).harebell = s.harebell ∧ (State.endSec s).poppy = s.poppy ∧ (State.endSec s).vetch = s.vetch ∧ (State.endSec s).commit = s.commit ∧ (State.endSec s).bindweed = s.bindweed ∧ (State.endSec s).mem = s.mem ∧ (State.endSec s).clock = s.clock ∧ (State.endSec s).casc = s.casc ∧ (State.endSec s).now = s.now ∧ (State.endSec s).rdata = s.rdata ∧ (State.endSec s).freeIx = s.freeIx ∧ (State.endSec s).pending = s.pending ∧ (State.endSec s).sec.fuses = s.sec.fuses := by
  simp [State.endSec]

@[simp ↓] theorem State.wipeSecure_keeps (s : State) :
    (State.wipeSecure s).ident = s.ident ∧ (State.wipeSecure s).tick = s.tick ∧ (State.wipeSecure s).world = s.world ∧ (State.wipeSecure s).aster = s.aster ∧ (State.wipeSecure s).lupin = s.lupin ∧ (State.wipeSecure s).harebell = s.harebell ∧ (State.wipeSecure s).cornflower = s.cornflower ∧ (State.wipeSecure s).poppy = s.poppy ∧ (State.wipeSecure s).vetch = s.vetch ∧ (State.wipeSecure s).commit = s.commit ∧ (State.wipeSecure s).zheda = s.zheda ∧ (State.wipeSecure s).teasel = s.teasel ∧ (State.wipeSecure s).bindweed = s.bindweed ∧ (State.wipeSecure s).cowslip = s.cowslip ∧ (State.wipeSecure s).cmd = s.cmd ∧ (State.wipeSecure s).safety = s.safety ∧ (State.wipeSecure s).clock = s.clock ∧ (State.wipeSecure s).host = s.host ∧ (State.wipeSecure s).casc = s.casc ∧ (State.wipeSecure s).now = s.now ∧ (State.wipeSecure s).rdata = s.rdata ∧ (State.wipeSecure s).freeIx = s.freeIx ∧ (State.wipeSecure s).pending = s.pending ∧ (State.wipeSecure s).sec.fuses = s.sec.fuses ∧ (State.wipeSecure s).mem.ddr = s.mem.ddr ∧ (State.wipeSecure s).mem.sram = s.mem.sram := by
  simp [State.wipeSecure]

@[simp ↓] theorem State.tamperEvent_keeps (s : State) :
    (State.tamperEvent s).ident = s.ident ∧ (State.tamperEvent s).tick = s.tick ∧ (State.tamperEvent s).world = s.world ∧ (State.tamperEvent s).aster = s.aster ∧ (State.tamperEvent s).lupin = s.lupin ∧ (State.tamperEvent s).harebell = s.harebell ∧ (State.tamperEvent s).poppy = s.poppy ∧ (State.tamperEvent s).vetch = s.vetch ∧ (State.tamperEvent s).commit = s.commit ∧ (State.tamperEvent s).bindweed = s.bindweed ∧ (State.tamperEvent s).casc = s.casc ∧ (State.tamperEvent s).now = s.now ∧ (State.tamperEvent s).rdata = s.rdata ∧ (State.tamperEvent s).pending = s.pending ∧ (State.tamperEvent s).sec.fuses = s.sec.fuses ∧ (State.tamperEvent s).mem.ddr = s.mem.ddr ∧ (State.tamperEvent s).mem.sram = s.mem.sram := by
  simp [State.tamperEvent]

@[simp ↓] theorem tamperDetectEffect_keeps (src : BitVec 4) (s : State) :
    (tamperDetectEffect src s).ident = s.ident ∧ (tamperDetectEffect src s).tick = s.tick ∧ (tamperDetectEffect src s).world = s.world ∧ (tamperDetectEffect src s).aster = s.aster ∧ (tamperDetectEffect src s).lupin = s.lupin ∧ (tamperDetectEffect src s).harebell = s.harebell ∧ (tamperDetectEffect src s).poppy = s.poppy ∧ (tamperDetectEffect src s).vetch = s.vetch ∧ (tamperDetectEffect src s).commit = s.commit ∧ (tamperDetectEffect src s).bindweed = s.bindweed ∧ (tamperDetectEffect src s).casc = s.casc ∧ (tamperDetectEffect src s).now = s.now ∧ (tamperDetectEffect src s).rdata = s.rdata ∧ (tamperDetectEffect src s).pending = s.pending ∧ (tamperDetectEffect src s).sec.fuses = s.sec.fuses ∧ (tamperDetectEffect src s).mem.ddr = s.mem.ddr ∧ (tamperDetectEffect src s).mem.sram = s.mem.sram := by
  unfold tamperDetectEffect
  (repeat' split) <;> simp

@[simp ↓] theorem State.reserve_keeps (s : State) (nvmOk : Bool) :
    (State.reserve s nvmOk).2.ident = s.ident ∧ (State.reserve s nvmOk).2.tick = s.tick ∧ (State.reserve s nvmOk).2.world = s.world ∧ (State.reserve s nvmOk).2.aster = s.aster ∧ (State.reserve s nvmOk).2.lupin = s.lupin ∧ (State.reserve s nvmOk).2.harebell = s.harebell ∧ (State.reserve s nvmOk).2.cornflower = s.cornflower ∧ (State.reserve s nvmOk).2.poppy = s.poppy ∧ (State.reserve s nvmOk).2.vetch = s.vetch ∧ (State.reserve s nvmOk).2.commit = s.commit ∧ (State.reserve s nvmOk).2.zheda = s.zheda ∧ (State.reserve s nvmOk).2.teasel = s.teasel ∧ (State.reserve s nvmOk).2.bindweed = s.bindweed ∧ (State.reserve s nvmOk).2.cowslip = s.cowslip ∧ (State.reserve s nvmOk).2.cmd = s.cmd ∧ (State.reserve s nvmOk).2.mem = s.mem ∧ (State.reserve s nvmOk).2.casc = s.casc ∧ (State.reserve s nvmOk).2.now = s.now ∧ (State.reserve s nvmOk).2.rdata = s.rdata ∧ (State.reserve s nvmOk).2.pending = s.pending ∧ (State.reserve s nvmOk).2.sec.fuses = s.sec.fuses := by
  unfold State.reserve
  simp only []
  (repeat' split) <;> simp

@[simp ↓] theorem secAttestEffect_keeps (h : Hdr) (nonce : List Byte) (raddr : Nat) (nvmOk : Bool) (s : State) :
    (secAttestEffect h nonce raddr nvmOk s).ident = s.ident ∧ (secAttestEffect h nonce raddr nvmOk s).tick = s.tick ∧ (secAttestEffect h nonce raddr nvmOk s).world = s.world ∧ (secAttestEffect h nonce raddr nvmOk s).aster = s.aster ∧ (secAttestEffect h nonce raddr nvmOk s).lupin = s.lupin ∧ (secAttestEffect h nonce raddr nvmOk s).harebell = s.harebell ∧ (secAttestEffect h nonce raddr nvmOk s).cornflower = s.cornflower ∧ (secAttestEffect h nonce raddr nvmOk s).poppy = s.poppy ∧ (secAttestEffect h nonce raddr nvmOk s).vetch = s.vetch ∧ (secAttestEffect h nonce raddr nvmOk s).commit = s.commit ∧ (secAttestEffect h nonce raddr nvmOk s).zheda = s.zheda ∧ (secAttestEffect h nonce raddr nvmOk s).teasel = s.teasel ∧ (secAttestEffect h nonce raddr nvmOk s).bindweed = s.bindweed ∧ (secAttestEffect h nonce raddr nvmOk s).mem = s.mem ∧ (secAttestEffect h nonce raddr nvmOk s).casc = s.casc ∧ (secAttestEffect h nonce raddr nvmOk s).now = s.now ∧ (secAttestEffect h nonce raddr nvmOk s).rdata = s.rdata ∧ (secAttestEffect h nonce raddr nvmOk s).pending = s.pending ∧ (secAttestEffect h nonce raddr nvmOk s).sec.fuses = s.sec.fuses := by
  have aux : ∀ u : State, (u.reserve nvmOk).2.ident = u.ident ∧ (u.reserve nvmOk).2.tick = u.tick ∧ (u.reserve nvmOk).2.world = u.world ∧ (u.reserve nvmOk).2.aster = u.aster ∧ (u.reserve nvmOk).2.lupin = u.lupin ∧ (u.reserve nvmOk).2.harebell = u.harebell ∧ (u.reserve nvmOk).2.cornflower = u.cornflower ∧ (u.reserve nvmOk).2.poppy = u.poppy ∧ (u.reserve nvmOk).2.vetch = u.vetch ∧ (u.reserve nvmOk).2.commit = u.commit ∧ (u.reserve nvmOk).2.zheda = u.zheda ∧ (u.reserve nvmOk).2.teasel = u.teasel ∧ (u.reserve nvmOk).2.bindweed = u.bindweed ∧ (u.reserve nvmOk).2.mem = u.mem ∧ (u.reserve nvmOk).2.casc = u.casc ∧ (u.reserve nvmOk).2.now = u.now ∧ (u.reserve nvmOk).2.rdata = u.rdata ∧ (u.reserve nvmOk).2.pending = u.pending ∧ (u.reserve nvmOk).2.sec.fuses = u.sec.fuses := by
    intro u; simp
  unfold secAttestEffect
  refine ⟨?_, ?_, ?_, ?_, ?_, ?_, ?_, ?_, ?_, ?_, ?_, ?_, ?_, ?_, ?_, ?_, ?_, ?_, ?_⟩ <;>
  · first | with_reducible apply State.packet_proj | with_reducible apply State.packet_proj (fun s => s.sec.fuses)
    · intros; simp
    · intros; simp
    · intro u
      have h := aux u
      generalize u.reserve nvmOk = r at h ⊢
      rcases r with ⟨_ | i, t⟩ <;> simp at h ⊢ <;> simp [h]

@[simp ↓] theorem attestReportDoneEffect_keeps (s : State) :
    (attestReportDoneEffect s).ident = s.ident ∧ (attestReportDoneEffect s).tick = s.tick ∧ (attestReportDoneEffect s).world = s.world ∧ (attestReportDoneEffect s).aster = s.aster ∧ (attestReportDoneEffect s).lupin = s.lupin ∧ (attestReportDoneEffect s).harebell = s.harebell ∧ (attestReportDoneEffect s).cornflower = s.cornflower ∧ (attestReportDoneEffect s).poppy = s.poppy ∧ (attestReportDoneEffect s).vetch = s.vetch ∧ (attestReportDoneEffect s).commit = s.commit ∧ (attestReportDoneEffect s).zheda = s.zheda ∧ (attestReportDoneEffect s).teasel = s.teasel ∧ (attestReportDoneEffect s).bindweed = s.bindweed ∧ (attestReportDoneEffect s).safety = s.safety ∧ (attestReportDoneEffect s).mem = s.mem ∧ (attestReportDoneEffect s).clock = s.clock ∧ (attestReportDoneEffect s).casc = s.casc ∧ (attestReportDoneEffect s).now = s.now ∧ (attestReportDoneEffect s).rdata = s.rdata ∧ (attestReportDoneEffect s).freeIx = s.freeIx ∧ (attestReportDoneEffect s).pending = s.pending ∧ (attestReportDoneEffect s).sec.fuses = s.sec.fuses := by
  unfold attestReportDoneEffect
  (repeat' split) <;> simp

@[simp ↓] theorem State.freshNonce_keeps (s : State) :
    (State.freshNonce s).ident = s.ident ∧ (State.freshNonce s).tick = s.tick ∧ (State.freshNonce s).world = s.world ∧ (State.freshNonce s).aster = s.aster ∧ (State.freshNonce s).lupin = s.lupin ∧ (State.freshNonce s).harebell = s.harebell ∧ (State.freshNonce s).cornflower = s.cornflower ∧ (State.freshNonce s).poppy = s.poppy ∧ (State.freshNonce s).vetch = s.vetch ∧ (State.freshNonce s).commit = s.commit ∧ (State.freshNonce s).zheda = s.zheda ∧ (State.freshNonce s).teasel = s.teasel ∧ (State.freshNonce s).bindweed = s.bindweed ∧ (State.freshNonce s).cowslip = s.cowslip ∧ (State.freshNonce s).cmd = s.cmd ∧ (State.freshNonce s).safety = s.safety ∧ (State.freshNonce s).mem = s.mem ∧ (State.freshNonce s).clock = s.clock ∧ (State.freshNonce s).host = s.host ∧ (State.freshNonce s).casc = s.casc ∧ (State.freshNonce s).now = s.now ∧ (State.freshNonce s).rdata = s.rdata ∧ (State.freshNonce s).freeIx = s.freeIx ∧ (State.freshNonce s).pending = s.pending ∧ (State.freshNonce s).sec.fuses = s.sec.fuses := by
  simp [State.freshNonce]

@[simp ↓] theorem secLifecycleEffect_keeps (h : Hdr) (target : Nat) (token : List Byte) (s : State) :
    (secLifecycleEffect h target token s).ident = s.ident ∧ (secLifecycleEffect h target token s).tick = s.tick ∧ (secLifecycleEffect h target token s).world = s.world ∧ (secLifecycleEffect h target token s).aster = s.aster ∧ (secLifecycleEffect h target token s).lupin = s.lupin ∧ (secLifecycleEffect h target token s).harebell = s.harebell ∧ (secLifecycleEffect h target token s).poppy = s.poppy ∧ (secLifecycleEffect h target token s).vetch = s.vetch ∧ (secLifecycleEffect h target token s).commit = s.commit ∧ (secLifecycleEffect h target token s).bindweed = s.bindweed ∧ (secLifecycleEffect h target token s).clock = s.clock ∧ (secLifecycleEffect h target token s).casc = s.casc ∧ (secLifecycleEffect h target token s).now = s.now ∧ (secLifecycleEffect h target token s).rdata = s.rdata ∧ (secLifecycleEffect h target token s).freeIx = s.freeIx ∧ (secLifecycleEffect h target token s).pending = s.pending ∧ (secLifecycleEffect h target token s).sec.fuses = s.sec.fuses ∧ (secLifecycleEffect h target token s).mem.ddr = s.mem.ddr ∧ (secLifecycleEffect h target token s).mem.sram = s.mem.sram := by
  unfold secLifecycleEffect
  refine ⟨?_, ?_, ?_, ?_, ?_, ?_, ?_, ?_, ?_, ?_, ?_, ?_, ?_, ?_, ?_, ?_, ?_, ?_, ?_⟩ <;> (repeat' (first | with_reducible rfl | (simp; done) | (with_reducible intro _) | (with_reducible apply State.item_proj) | (with_reducible apply State.guarded_proj) | (with_reducible apply State.counterOp_proj) | (with_reducible apply State.packet_proj) | (with_reducible apply State.cfgPacket_proj) | (with_reducible refine Eq.trans (foldl_proj _ _ _ _ ?_) ?_) | (with_reducible refine Eq.trans (foldl_fst_proj _ _ _ _ ?_) ?_) | (with_reducible refine Eq.trans (foldl_snd_proj _ _ _ _ ?_) ?_) | (with_reducible apply State.item_proj (fun s => s.sec.fuses)) | (with_reducible apply State.guarded_proj (fun s => s.sec.fuses)) | (with_reducible apply State.counterOp_proj (fun s => s.sec.fuses)) | (with_reducible apply State.packet_proj (fun s => s.sec.fuses)) | (with_reducible apply State.cfgPacket_proj (fun s => s.sec.fuses)) | (with_reducible refine Eq.trans (foldl_proj  (fun s => s.sec.fuses) _ _ _ ?_) ?_) | (with_reducible refine Eq.trans (foldl_fst_proj  (fun s => s.sec.fuses) _ _ _ ?_) ?_) | (with_reducible refine Eq.trans (foldl_snd_proj  (fun s => s.sec.fuses) _ _ _ ?_) ?_) | (with_reducible apply State.item_proj (fun s => s.mem.ddr)) | (with_reducible apply State.guarded_proj (fun s => s.mem.ddr)) | (with_reducible apply State.counterOp_proj (fun s => s.mem.ddr)) | (with_reducible apply State.packet_proj (fun s => s.mem.ddr)) | (with_reducible apply State.cfgPacket_proj (fun s => s.mem.ddr)) | (with_reducible refine Eq.trans (foldl_proj  (fun s => s.mem.ddr) _ _ _ ?_) ?_) | (with_reducible refine Eq.trans (foldl_fst_proj  (fun s => s.mem.ddr) _ _ _ ?_) ?_) | (with_reducible refine Eq.trans (foldl_snd_proj  (fun s => s.mem.ddr) _ _ _ ?_) ?_) | (with_reducible apply State.item_proj (fun s => s.mem.sram)) | (with_reducible apply State.guarded_proj (fun s => s.mem.sram)) | (with_reducible apply State.counterOp_proj (fun s => s.mem.sram)) | (with_reducible apply State.packet_proj (fun s => s.mem.sram)) | (with_reducible apply State.cfgPacket_proj (fun s => s.mem.sram)) | (with_reducible refine Eq.trans (foldl_proj  (fun s => s.mem.sram) _ _ _ ?_) ?_) | (with_reducible refine Eq.trans (foldl_fst_proj  (fun s => s.mem.sram) _ _ _ ?_) ?_) | (with_reducible refine Eq.trans (foldl_snd_proj  (fun s => s.mem.sram) _ _ _ ?_) ?_) | split | (simp only []; split) | (dsimp only; split) | simp | dsimp only))

@[simp ↓] theorem lifecycleFuseBlownEffect_keeps (s : State) :
    (lifecycleFuseBlownEffect s).ident = s.ident ∧ (lifecycleFuseBlownEffect s).now = s.now ∧ (lifecycleFuseBlownEffect s).freeIx = s.freeIx ∧ (lifecycleFuseBlownEffect s).pending = s.pending := by
  unfold lifecycleFuseBlownEffect
  (repeat' split) <;> simp

@[simp ↓] theorem State.resumeBoot_keeps (s : State) :
    (State.resumeBoot s).ident = s.ident ∧ (State.resumeBoot s).tick = s.tick ∧ (State.resumeBoot s).world = s.world ∧ (State.resumeBoot s).aster = s.aster ∧ (State.resumeBoot s).lupin = s.lupin ∧ (State.resumeBoot s).harebell = s.harebell ∧ (State.resumeBoot s).cornflower = s.cornflower ∧ (State.resumeBoot s).poppy = s.poppy ∧ (State.resumeBoot s).vetch = s.vetch ∧ (State.resumeBoot s).commit = s.commit ∧ (State.resumeBoot s).zheda = s.zheda ∧ (State.resumeBoot s).teasel = s.teasel ∧ (State.resumeBoot s).bindweed = s.bindweed ∧ (State.resumeBoot s).cowslip = s.cowslip ∧ (State.resumeBoot s).cmd = s.cmd ∧ (State.resumeBoot s).safety = s.safety ∧ (State.resumeBoot s).mem = s.mem ∧ (State.resumeBoot s).host = s.host ∧ (State.resumeBoot s).sec = s.sec ∧ (State.resumeBoot s).casc = s.casc ∧ (State.resumeBoot s).now = s.now ∧ (State.resumeBoot s).rdata = s.rdata ∧ (State.resumeBoot s).freeIx = s.freeIx ∧ (State.resumeBoot s).pending = s.pending := by
  simp [State.resumeBoot]

@[simp ↓] theorem State.takeImage_keeps (s : State) (c : SecCmd) (f : FwImage) :
    (State.takeImage s c f).ident = s.ident ∧ (State.takeImage s c f).tick = s.tick ∧ (State.takeImage s c f).world = s.world ∧ (State.takeImage s c f).aster = s.aster ∧ (State.takeImage s c f).lupin = s.lupin ∧ (State.takeImage s c f).harebell = s.harebell ∧ (State.takeImage s c f).cornflower = s.cornflower ∧ (State.takeImage s c f).poppy = s.poppy ∧ (State.takeImage s c f).vetch = s.vetch ∧ (State.takeImage s c f).commit = s.commit ∧ (State.takeImage s c f).zheda = s.zheda ∧ (State.takeImage s c f).teasel = s.teasel ∧ (State.takeImage s c f).bindweed = s.bindweed ∧ (State.takeImage s c f).safety = s.safety ∧ (State.takeImage s c f).mem = s.mem ∧ (State.takeImage s c f).casc = s.casc ∧ (State.takeImage s c f).now = s.now ∧ (State.takeImage s c f).rdata = s.rdata ∧ (State.takeImage s c f).freeIx = s.freeIx ∧ (State.takeImage s c f).pending = s.pending ∧ (State.takeImage s c f).sec.fuses = s.sec.fuses := by
  unfold State.takeImage
  (repeat' split) <;> simp

@[simp ↓] theorem secFwUpdateEffect_keeps (h : Hdr) (addr len : Nat) (s : State) :
    (secFwUpdateEffect h addr len s).ident = s.ident ∧ (secFwUpdateEffect h addr len s).tick = s.tick ∧ (secFwUpdateEffect h addr len s).world = s.world ∧ (secFwUpdateEffect h addr len s).aster = s.aster ∧ (secFwUpdateEffect h addr len s).lupin = s.lupin ∧ (secFwUpdateEffect h addr len s).harebell = s.harebell ∧ (secFwUpdateEffect h addr len s).cornflower = s.cornflower ∧ (secFwUpdateEffect h addr len s).poppy = s.poppy ∧ (secFwUpdateEffect h addr len s).vetch = s.vetch ∧ (secFwUpdateEffect h addr len s).commit = s.commit ∧ (secFwUpdateEffect h addr len s).zheda = s.zheda ∧ (secFwUpdateEffect h addr len s).teasel = s.teasel ∧ (secFwUpdateEffect h addr len s).bindweed = s.bindweed ∧ (secFwUpdateEffect h addr len s).safety = s.safety ∧ (secFwUpdateEffect h addr len s).mem = s.mem ∧ (secFwUpdateEffect h addr len s).casc = s.casc ∧ (secFwUpdateEffect h addr len s).now = s.now ∧ (secFwUpdateEffect h addr len s).rdata = s.rdata ∧ (secFwUpdateEffect h addr len s).freeIx = s.freeIx ∧ (secFwUpdateEffect h addr len s).pending = s.pending ∧ (secFwUpdateEffect h addr len s).sec.fuses = s.sec.fuses := by
  unfold secFwUpdateEffect
  refine ⟨?_, ?_, ?_, ?_, ?_, ?_, ?_, ?_, ?_, ?_, ?_, ?_, ?_, ?_, ?_, ?_, ?_, ?_, ?_, ?_, ?_⟩ <;> (repeat' (first | with_reducible rfl | (simp; done) | (with_reducible intro _) | (with_reducible apply State.item_proj) | (with_reducible apply State.guarded_proj) | (with_reducible apply State.counterOp_proj) | (with_reducible apply State.packet_proj) | (with_reducible apply State.cfgPacket_proj) | (with_reducible refine Eq.trans (foldl_proj _ _ _ _ ?_) ?_) | (with_reducible refine Eq.trans (foldl_fst_proj _ _ _ _ ?_) ?_) | (with_reducible refine Eq.trans (foldl_snd_proj _ _ _ _ ?_) ?_) | (with_reducible apply State.item_proj (fun s => s.sec.fuses)) | (with_reducible apply State.guarded_proj (fun s => s.sec.fuses)) | (with_reducible apply State.counterOp_proj (fun s => s.sec.fuses)) | (with_reducible apply State.packet_proj (fun s => s.sec.fuses)) | (with_reducible apply State.cfgPacket_proj (fun s => s.sec.fuses)) | (with_reducible refine Eq.trans (foldl_proj  (fun s => s.sec.fuses) _ _ _ ?_) ?_) | (with_reducible refine Eq.trans (foldl_fst_proj  (fun s => s.sec.fuses) _ _ _ ?_) ?_) | (with_reducible refine Eq.trans (foldl_snd_proj  (fun s => s.sec.fuses) _ _ _ ?_) ?_) | split | (simp only []; split) | (dsimp only; split)))

@[simp ↓] theorem fwUpdateProgrammedEffect_keeps (ok : Bool) (s : State) :
    (fwUpdateProgrammedEffect ok s).ident = s.ident ∧ (fwUpdateProgrammedEffect ok s).tick = s.tick ∧ (fwUpdateProgrammedEffect ok s).world = s.world ∧ (fwUpdateProgrammedEffect ok s).aster = s.aster ∧ (fwUpdateProgrammedEffect ok s).lupin = s.lupin ∧ (fwUpdateProgrammedEffect ok s).harebell = s.harebell ∧ (fwUpdateProgrammedEffect ok s).cornflower = s.cornflower ∧ (fwUpdateProgrammedEffect ok s).poppy = s.poppy ∧ (fwUpdateProgrammedEffect ok s).vetch = s.vetch ∧ (fwUpdateProgrammedEffect ok s).commit = s.commit ∧ (fwUpdateProgrammedEffect ok s).zheda = s.zheda ∧ (fwUpdateProgrammedEffect ok s).teasel = s.teasel ∧ (fwUpdateProgrammedEffect ok s).bindweed = s.bindweed ∧ (fwUpdateProgrammedEffect ok s).safety = s.safety ∧ (fwUpdateProgrammedEffect ok s).mem = s.mem ∧ (fwUpdateProgrammedEffect ok s).casc = s.casc ∧ (fwUpdateProgrammedEffect ok s).now = s.now ∧ (fwUpdateProgrammedEffect ok s).rdata = s.rdata ∧ (fwUpdateProgrammedEffect ok s).freeIx = s.freeIx ∧ (fwUpdateProgrammedEffect ok s).pending = s.pending ∧ (fwUpdateProgrammedEffect ok s).sec.fuses = s.sec.fuses := by
  unfold fwUpdateProgrammedEffect
  (repeat' split) <;> simp

@[simp ↓] theorem usbRecoveryImageEffect_keeps (bs : List Byte) (s : State) :
    (usbRecoveryImageEffect bs s).ident = s.ident ∧ (usbRecoveryImageEffect bs s).tick = s.tick ∧ (usbRecoveryImageEffect bs s).world = s.world ∧ (usbRecoveryImageEffect bs s).aster = s.aster ∧ (usbRecoveryImageEffect bs s).lupin = s.lupin ∧ (usbRecoveryImageEffect bs s).harebell = s.harebell ∧ (usbRecoveryImageEffect bs s).cornflower = s.cornflower ∧ (usbRecoveryImageEffect bs s).poppy = s.poppy ∧ (usbRecoveryImageEffect bs s).vetch = s.vetch ∧ (usbRecoveryImageEffect bs s).commit = s.commit ∧ (usbRecoveryImageEffect bs s).zheda = s.zheda ∧ (usbRecoveryImageEffect bs s).teasel = s.teasel ∧ (usbRecoveryImageEffect bs s).bindweed = s.bindweed ∧ (usbRecoveryImageEffect bs s).safety = s.safety ∧ (usbRecoveryImageEffect bs s).mem = s.mem ∧ (usbRecoveryImageEffect bs s).casc = s.casc ∧ (usbRecoveryImageEffect bs s).now = s.now ∧ (usbRecoveryImageEffect bs s).rdata = s.rdata ∧ (usbRecoveryImageEffect bs s).freeIx = s.freeIx ∧ (usbRecoveryImageEffect bs s).pending = s.pending ∧ (usbRecoveryImageEffect bs s).sec.fuses = s.sec.fuses := by
  unfold usbRecoveryImageEffect
  (repeat' split) <;> simp

@[simp ↓] theorem xmssKeygenEffect_keeps (h : Hdr) (raddr : Nat) (s : State) :
    (xmssKeygenEffect h raddr s).ident = s.ident ∧ (xmssKeygenEffect h raddr s).tick = s.tick ∧ (xmssKeygenEffect h raddr s).world = s.world ∧ (xmssKeygenEffect h raddr s).aster = s.aster ∧ (xmssKeygenEffect h raddr s).lupin = s.lupin ∧ (xmssKeygenEffect h raddr s).harebell = s.harebell ∧ (xmssKeygenEffect h raddr s).cornflower = s.cornflower ∧ (xmssKeygenEffect h raddr s).poppy = s.poppy ∧ (xmssKeygenEffect h raddr s).vetch = s.vetch ∧ (xmssKeygenEffect h raddr s).commit = s.commit ∧ (xmssKeygenEffect h raddr s).zheda = s.zheda ∧ (xmssKeygenEffect h raddr s).teasel = s.teasel ∧ (xmssKeygenEffect h raddr s).bindweed = s.bindweed ∧ (xmssKeygenEffect h raddr s).safety = s.safety ∧ (xmssKeygenEffect h raddr s).mem = s.mem ∧ (xmssKeygenEffect h raddr s).clock = s.clock ∧ (xmssKeygenEffect h raddr s).sec = s.sec ∧ (xmssKeygenEffect h raddr s).casc = s.casc ∧ (xmssKeygenEffect h raddr s).now = s.now ∧ (xmssKeygenEffect h raddr s).rdata = s.rdata ∧ (xmssKeygenEffect h raddr s).freeIx = s.freeIx ∧ (xmssKeygenEffect h raddr s).pending = s.pending := by
  simp [xmssKeygenEffect]

@[simp ↓] theorem State.entry_keeps (s : State) (ty id time : Nat) (bs : List Byte) :
    (State.entry s ty id time bs).ident = s.ident ∧ (State.entry s ty id time bs).tick = s.tick ∧ (State.entry s ty id time bs).world = s.world ∧ (State.entry s ty id time bs).aster = s.aster ∧ (State.entry s ty id time bs).lupin = s.lupin ∧ (State.entry s ty id time bs).harebell = s.harebell ∧ (State.entry s ty id time bs).cornflower = s.cornflower ∧ (State.entry s ty id time bs).poppy = s.poppy ∧ (State.entry s ty id time bs).vetch = s.vetch ∧ (State.entry s ty id time bs).commit = s.commit ∧ (State.entry s ty id time bs).teasel = s.teasel ∧ (State.entry s ty id time bs).bindweed = s.bindweed ∧ (State.entry s ty id time bs).cowslip = s.cowslip ∧ (State.entry s ty id time bs).cmd = s.cmd ∧ (State.entry s ty id time bs).safety = s.safety ∧ (State.entry s ty id time bs).mem = s.mem ∧ (State.entry s ty id time bs).clock = s.clock ∧ (State.entry s ty id time bs).host = s.host ∧ (State.entry s ty id time bs).sec = s.sec ∧ (State.entry s ty id time bs).casc = s.casc ∧ (State.entry s ty id time bs).now = s.now ∧ (State.entry s ty id time bs).rdata = s.rdata ∧ (State.entry s ty id time bs).freeIx = s.freeIx ∧ (State.entry s ty id time bs).pending = s.pending := by
  simp [State.entry]

@[simp ↓] theorem State.applyWorldCmds_keeps (s : State) :
    (State.applyWorldCmds s).ident = s.ident ∧ (State.applyWorldCmds s).tick = s.tick ∧ (State.applyWorldCmds s).aster = s.aster ∧ (State.applyWorldCmds s).lupin = s.lupin ∧ (State.applyWorldCmds s).harebell = s.harebell ∧ (State.applyWorldCmds s).cornflower = s.cornflower ∧ (State.applyWorldCmds s).poppy = s.poppy ∧ (State.applyWorldCmds s).vetch = s.vetch ∧ (State.applyWorldCmds s).commit = s.commit ∧ (State.applyWorldCmds s).teasel = s.teasel ∧ (State.applyWorldCmds s).bindweed = s.bindweed ∧ (State.applyWorldCmds s).cowslip = s.cowslip ∧ (State.applyWorldCmds s).cmd = s.cmd ∧ (State.applyWorldCmds s).safety = s.safety ∧ (State.applyWorldCmds s).mem = s.mem ∧ (State.applyWorldCmds s).clock = s.clock ∧ (State.applyWorldCmds s).host = s.host ∧ (State.applyWorldCmds s).sec = s.sec ∧ (State.applyWorldCmds s).casc = s.casc ∧ (State.applyWorldCmds s).now = s.now ∧ (State.applyWorldCmds s).rdata = s.rdata ∧ (State.applyWorldCmds s).freeIx = s.freeIx ∧ (State.applyWorldCmds s).pending = s.pending := by
  simp [State.applyWorldCmds]

@[simp ↓] theorem State.runCtxCmds_keeps (s : State) :
    (State.runCtxCmds s).ident = s.ident ∧ (State.runCtxCmds s).tick = s.tick ∧ (State.runCtxCmds s).world = s.world ∧ (State.runCtxCmds s).aster = s.aster ∧ (State.runCtxCmds s).harebell = s.harebell ∧ (State.runCtxCmds s).poppy = s.poppy ∧ (State.runCtxCmds s).bindweed = s.bindweed ∧ (State.runCtxCmds s).safety = s.safety ∧ (State.runCtxCmds s).mem = s.mem ∧ (State.runCtxCmds s).clock = s.clock ∧ (State.runCtxCmds s).sec = s.sec ∧ (State.runCtxCmds s).casc = s.casc ∧ (State.runCtxCmds s).now = s.now ∧ (State.runCtxCmds s).rdata = s.rdata ∧ (State.runCtxCmds s).freeIx = s.freeIx ∧ (State.runCtxCmds s).pending = s.pending := by
  simp [State.runCtxCmds]

@[simp ↓] theorem State.takeSnapshot_keeps (s : State) (t : Nat) (e : Nat × SourceSt) :
    (State.takeSnapshot s t e).ident = s.ident ∧ (State.takeSnapshot s t e).tick = s.tick ∧ (State.takeSnapshot s t e).aster = s.aster ∧ (State.takeSnapshot s t e).lupin = s.lupin ∧ (State.takeSnapshot s t e).harebell = s.harebell ∧ (State.takeSnapshot s t e).cornflower = s.cornflower ∧ (State.takeSnapshot s t e).poppy = s.poppy ∧ (State.takeSnapshot s t e).vetch = s.vetch ∧ (State.takeSnapshot s t e).commit = s.commit ∧ (State.takeSnapshot s t e).teasel = s.teasel ∧ (State.takeSnapshot s t e).bindweed = s.bindweed ∧ (State.takeSnapshot s t e).cowslip = s.cowslip ∧ (State.takeSnapshot s t e).cmd = s.cmd ∧ (State.takeSnapshot s t e).safety = s.safety ∧ (State.takeSnapshot s t e).mem = s.mem ∧ (State.takeSnapshot s t e).clock = s.clock ∧ (State.takeSnapshot s t e).host = s.host ∧ (State.takeSnapshot s t e).sec = s.sec ∧ (State.takeSnapshot s t e).casc = s.casc ∧ (State.takeSnapshot s t e).now = s.now ∧ (State.takeSnapshot s t e).rdata = s.rdata ∧ (State.takeSnapshot s t e).freeIx = s.freeIx ∧ (State.takeSnapshot s t e).pending = s.pending := by
  unfold State.takeSnapshot
  (repeat' split) <;> simp

@[simp ↓] theorem State.takeCtxState_keeps (s : State) (k t : Nat) (e : Nat × CtxInput) :
    (State.takeCtxState s k t e).ident = s.ident ∧ (State.takeCtxState s k t e).tick = s.tick ∧ (State.takeCtxState s k t e).aster = s.aster ∧ (State.takeCtxState s k t e).lupin = s.lupin ∧ (State.takeCtxState s k t e).harebell = s.harebell ∧ (State.takeCtxState s k t e).cornflower = s.cornflower ∧ (State.takeCtxState s k t e).poppy = s.poppy ∧ (State.takeCtxState s k t e).vetch = s.vetch ∧ (State.takeCtxState s k t e).commit = s.commit ∧ (State.takeCtxState s k t e).teasel = s.teasel ∧ (State.takeCtxState s k t e).bindweed = s.bindweed ∧ (State.takeCtxState s k t e).cowslip = s.cowslip ∧ (State.takeCtxState s k t e).cmd = s.cmd ∧ (State.takeCtxState s k t e).safety = s.safety ∧ (State.takeCtxState s k t e).mem = s.mem ∧ (State.takeCtxState s k t e).clock = s.clock ∧ (State.takeCtxState s k t e).host = s.host ∧ (State.takeCtxState s k t e).sec = s.sec ∧ (State.takeCtxState s k t e).casc = s.casc ∧ (State.takeCtxState s k t e).now = s.now ∧ (State.takeCtxState s k t e).rdata = s.rdata ∧ (State.takeCtxState s k t e).freeIx = s.freeIx ∧ (State.takeCtxState s k t e).pending = s.pending := by
  unfold State.takeCtxState
  simp only []
  (repeat' split) <;> simp

@[simp ↓] theorem State.placeOrigin_keeps (s : State) (b : Bundle) :
    (State.placeOrigin s b).ident = s.ident ∧ (State.placeOrigin s b).tick = s.tick ∧ (State.placeOrigin s b).aster = s.aster ∧ (State.placeOrigin s b).lupin = s.lupin ∧ (State.placeOrigin s b).harebell = s.harebell ∧ (State.placeOrigin s b).poppy = s.poppy ∧ (State.placeOrigin s b).vetch = s.vetch ∧ (State.placeOrigin s b).commit = s.commit ∧ (State.placeOrigin s b).zheda = s.zheda ∧ (State.placeOrigin s b).teasel = s.teasel ∧ (State.placeOrigin s b).bindweed = s.bindweed ∧ (State.placeOrigin s b).cowslip = s.cowslip ∧ (State.placeOrigin s b).cmd = s.cmd ∧ (State.placeOrigin s b).safety = s.safety ∧ (State.placeOrigin s b).mem = s.mem ∧ (State.placeOrigin s b).clock = s.clock ∧ (State.placeOrigin s b).host = s.host ∧ (State.placeOrigin s b).sec = s.sec ∧ (State.placeOrigin s b).casc = s.casc ∧ (State.placeOrigin s b).now = s.now ∧ (State.placeOrigin s b).rdata = s.rdata ∧ (State.placeOrigin s b).freeIx = s.freeIx ∧ (State.placeOrigin s b).pending = s.pending := by
  simp [State.placeOrigin]

@[simp ↓] theorem State.pushHistory_keeps (s : State) (b : Bundle) :
    (State.pushHistory s b).ident = s.ident ∧ (State.pushHistory s b).tick = s.tick ∧ (State.pushHistory s b).world = s.world ∧ (State.pushHistory s b).lupin = s.lupin ∧ (State.pushHistory s b).harebell = s.harebell ∧ (State.pushHistory s b).cornflower = s.cornflower ∧ (State.pushHistory s b).poppy = s.poppy ∧ (State.pushHistory s b).vetch = s.vetch ∧ (State.pushHistory s b).commit = s.commit ∧ (State.pushHistory s b).zheda = s.zheda ∧ (State.pushHistory s b).teasel = s.teasel ∧ (State.pushHistory s b).bindweed = s.bindweed ∧ (State.pushHistory s b).cowslip = s.cowslip ∧ (State.pushHistory s b).cmd = s.cmd ∧ (State.pushHistory s b).safety = s.safety ∧ (State.pushHistory s b).mem = s.mem ∧ (State.pushHistory s b).clock = s.clock ∧ (State.pushHistory s b).host = s.host ∧ (State.pushHistory s b).sec = s.sec ∧ (State.pushHistory s b).casc = s.casc ∧ (State.pushHistory s b).now = s.now ∧ (State.pushHistory s b).rdata = s.rdata ∧ (State.pushHistory s b).freeIx = s.freeIx ∧ (State.pushHistory s b).pending = s.pending := by
  simp [State.pushHistory]

@[simp ↓] theorem State.cutOff_keeps (s : State) (k t : Nat) :
    (State.cutOff s k t).ident = s.ident ∧ (State.cutOff s k t).tick = s.tick ∧ (State.cutOff s k t).lupin = s.lupin ∧ (State.cutOff s k t).harebell = s.harebell ∧ (State.cutOff s k t).poppy = s.poppy ∧ (State.cutOff s k t).vetch = s.vetch ∧ (State.cutOff s k t).commit = s.commit ∧ (State.cutOff s k t).teasel = s.teasel ∧ (State.cutOff s k t).bindweed = s.bindweed ∧ (State.cutOff s k t).cowslip = s.cowslip ∧ (State.cutOff s k t).cmd = s.cmd ∧ (State.cutOff s k t).safety = s.safety ∧ (State.cutOff s k t).mem = s.mem ∧ (State.cutOff s k t).clock = s.clock ∧ (State.cutOff s k t).host = s.host ∧ (State.cutOff s k t).sec = s.sec ∧ (State.cutOff s k t).casc = s.casc ∧ (State.cutOff s k t).now = s.now ∧ (State.cutOff s k t).rdata = s.rdata ∧ (State.cutOff s k t).freeIx = s.freeIx ∧ (State.cutOff s k t).pending = s.pending := by
  unfold State.cutOff
  (repeat' split) <;> simp

@[simp ↓] theorem State.adoptRoutes_keeps (s : State) (e : Nat × LupCtx) :
    (State.adoptRoutes s e).ident = s.ident ∧ (State.adoptRoutes s e).tick = s.tick ∧ (State.adoptRoutes s e).world = s.world ∧ (State.adoptRoutes s e).aster = s.aster ∧ (State.adoptRoutes s e).harebell = s.harebell ∧ (State.adoptRoutes s e).cornflower = s.cornflower ∧ (State.adoptRoutes s e).poppy = s.poppy ∧ (State.adoptRoutes s e).vetch = s.vetch ∧ (State.adoptRoutes s e).commit = s.commit ∧ (State.adoptRoutes s e).teasel = s.teasel ∧ (State.adoptRoutes s e).bindweed = s.bindweed ∧ (State.adoptRoutes s e).cowslip = s.cowslip ∧ (State.adoptRoutes s e).cmd = s.cmd ∧ (State.adoptRoutes s e).safety = s.safety ∧ (State.adoptRoutes s e).mem = s.mem ∧ (State.adoptRoutes s e).clock = s.clock ∧ (State.adoptRoutes s e).host = s.host ∧ (State.adoptRoutes s e).sec = s.sec ∧ (State.adoptRoutes s e).casc = s.casc ∧ (State.adoptRoutes s e).now = s.now ∧ (State.adoptRoutes s e).rdata = s.rdata ∧ (State.adoptRoutes s e).freeIx = s.freeIx ∧ (State.adoptRoutes s e).pending = s.pending := by
  unfold State.adoptRoutes
  (repeat' split) <;> simp

@[simp ↓] theorem State.adoptFull_keeps (s : State) (r : FullRun) :
    (State.adoptFull s r).ident = s.ident ∧ (State.adoptFull s r).tick = s.tick ∧ (State.adoptFull s r).world = s.world ∧ (State.adoptFull s r).aster = s.aster ∧ (State.adoptFull s r).lupin = s.lupin ∧ (State.adoptFull s r).harebell = s.harebell ∧ (State.adoptFull s r).poppy = s.poppy ∧ (State.adoptFull s r).vetch = s.vetch ∧ (State.adoptFull s r).commit = s.commit ∧ (State.adoptFull s r).bindweed = s.bindweed ∧ (State.adoptFull s r).mem = s.mem ∧ (State.adoptFull s r).clock = s.clock ∧ (State.adoptFull s r).sec = s.sec ∧ (State.adoptFull s r).casc = s.casc ∧ (State.adoptFull s r).now = s.now ∧ (State.adoptFull s r).rdata = s.rdata ∧ (State.adoptFull s r).freeIx = s.freeIx ∧ (State.adoptFull s r).pending = s.pending := by
  unfold State.adoptFull
  simp only []
  (repeat' split) <;> simp

@[simp ↓] theorem State.endLostFulls_keeps (s : State) :
    (State.endLostFulls s).ident = s.ident ∧ (State.endLostFulls s).tick = s.tick ∧ (State.endLostFulls s).world = s.world ∧ (State.endLostFulls s).aster = s.aster ∧ (State.endLostFulls s).lupin = s.lupin ∧ (State.endLostFulls s).harebell = s.harebell ∧ (State.endLostFulls s).poppy = s.poppy ∧ (State.endLostFulls s).vetch = s.vetch ∧ (State.endLostFulls s).commit = s.commit ∧ (State.endLostFulls s).bindweed = s.bindweed ∧ (State.endLostFulls s).mem = s.mem ∧ (State.endLostFulls s).clock = s.clock ∧ (State.endLostFulls s).sec = s.sec ∧ (State.endLostFulls s).casc = s.casc ∧ (State.endLostFulls s).now = s.now ∧ (State.endLostFulls s).rdata = s.rdata ∧ (State.endLostFulls s).freeIx = s.freeIx ∧ (State.endLostFulls s).pending = s.pending := by
  simp [State.endLostFulls]

@[simp ↓] theorem State.adoptEdge_keeps (s : State) :
    (State.adoptEdge s).ident = s.ident ∧ (State.adoptEdge s).tick = s.tick ∧ (State.adoptEdge s).world = s.world ∧ (State.adoptEdge s).aster = s.aster ∧ (State.adoptEdge s).harebell = s.harebell ∧ (State.adoptEdge s).poppy = s.poppy ∧ (State.adoptEdge s).vetch = s.vetch ∧ (State.adoptEdge s).commit = s.commit ∧ (State.adoptEdge s).bindweed = s.bindweed ∧ (State.adoptEdge s).mem = s.mem ∧ (State.adoptEdge s).clock = s.clock ∧ (State.adoptEdge s).sec = s.sec ∧ (State.adoptEdge s).casc = s.casc ∧ (State.adoptEdge s).now = s.now ∧ (State.adoptEdge s).rdata = s.rdata ∧ (State.adoptEdge s).freeIx = s.freeIx ∧ (State.adoptEdge s).pending = s.pending := by
  simp [State.adoptEdge]

@[simp ↓] theorem State.allocEdge_keeps (s : State) :
    (State.allocEdge s).ident = s.ident ∧ (State.allocEdge s).tick = s.tick ∧ (State.allocEdge s).world = s.world ∧ (State.allocEdge s).aster = s.aster ∧ (State.allocEdge s).harebell = s.harebell ∧ (State.allocEdge s).cornflower = s.cornflower ∧ (State.allocEdge s).poppy = s.poppy ∧ (State.allocEdge s).vetch = s.vetch ∧ (State.allocEdge s).commit = s.commit ∧ (State.allocEdge s).teasel = s.teasel ∧ (State.allocEdge s).bindweed = s.bindweed ∧ (State.allocEdge s).cowslip = s.cowslip ∧ (State.allocEdge s).cmd = s.cmd ∧ (State.allocEdge s).safety = s.safety ∧ (State.allocEdge s).mem = s.mem ∧ (State.allocEdge s).clock = s.clock ∧ (State.allocEdge s).host = s.host ∧ (State.allocEdge s).sec = s.sec ∧ (State.allocEdge s).casc = s.casc ∧ (State.allocEdge s).now = s.now ∧ (State.allocEdge s).rdata = s.rdata ∧ (State.allocEdge s).freeIx = s.freeIx ∧ (State.allocEdge s).pending = s.pending := by
  simp [State.allocEdge]

@[simp ↓] theorem State.closeTrace_keeps (s : State) :
    (State.closeTrace s).ident = s.ident ∧ (State.closeTrace s).tick = s.tick ∧ (State.closeTrace s).world = s.world ∧ (State.closeTrace s).aster = s.aster ∧ (State.closeTrace s).lupin = s.lupin ∧ (State.closeTrace s).harebell = s.harebell ∧ (State.closeTrace s).cornflower = s.cornflower ∧ (State.closeTrace s).poppy = s.poppy ∧ (State.closeTrace s).vetch = s.vetch ∧ (State.closeTrace s).commit = s.commit ∧ (State.closeTrace s).teasel = s.teasel ∧ (State.closeTrace s).bindweed = s.bindweed ∧ (State.closeTrace s).cowslip = s.cowslip ∧ (State.closeTrace s).cmd = s.cmd ∧ (State.closeTrace s).safety = s.safety ∧ (State.closeTrace s).mem = s.mem ∧ (State.closeTrace s).clock = s.clock ∧ (State.closeTrace s).host = s.host ∧ (State.closeTrace s).sec = s.sec ∧ (State.closeTrace s).casc = s.casc ∧ (State.closeTrace s).now = s.now ∧ (State.closeTrace s).rdata = s.rdata ∧ (State.closeTrace s).freeIx = s.freeIx ∧ (State.closeTrace s).pending = s.pending := by
  simp [State.closeTrace]

@[simp ↓] theorem State.stopTick_keeps (s : State) (ac : Nat) :
    (State.stopTick s ac).ident = s.ident ∧ (State.stopTick s ac).harebell = s.harebell ∧ (State.stopTick s ac).commit = s.commit ∧ (State.stopTick s ac).teasel = s.teasel ∧ (State.stopTick s ac).bindweed = s.bindweed ∧ (State.stopTick s ac).cowslip = s.cowslip ∧ (State.stopTick s ac).cmd = s.cmd ∧ (State.stopTick s ac).safety = s.safety ∧ (State.stopTick s ac).mem = s.mem ∧ (State.stopTick s ac).clock = s.clock ∧ (State.stopTick s ac).sec = s.sec ∧ (State.stopTick s ac).casc = s.casc ∧ (State.stopTick s ac).now = s.now ∧ (State.stopTick s ac).rdata = s.rdata ∧ (State.stopTick s ac).freeIx = s.freeIx ∧ (State.stopTick s ac).pending = s.pending := by
  simp [State.stopTick]

@[simp ↓] theorem State.countMissing_keeps (s : State) :
    (State.countMissing s).ident = s.ident ∧ (State.countMissing s).tick = s.tick ∧ (State.countMissing s).world = s.world ∧ (State.countMissing s).aster = s.aster ∧ (State.countMissing s).lupin = s.lupin ∧ (State.countMissing s).harebell = s.harebell ∧ (State.countMissing s).cornflower = s.cornflower ∧ (State.countMissing s).poppy = s.poppy ∧ (State.countMissing s).vetch = s.vetch ∧ (State.countMissing s).commit = s.commit ∧ (State.countMissing s).zheda = s.zheda ∧ (State.countMissing s).teasel = s.teasel ∧ (State.countMissing s).bindweed = s.bindweed ∧ (State.countMissing s).cowslip = s.cowslip ∧ (State.countMissing s).cmd = s.cmd ∧ (State.countMissing s).safety = s.safety ∧ (State.countMissing s).mem = s.mem ∧ (State.countMissing s).clock = s.clock ∧ (State.countMissing s).host = s.host ∧ (State.countMissing s).sec = s.sec ∧ (State.countMissing s).now = s.now ∧ (State.countMissing s).rdata = s.rdata ∧ (State.countMissing s).freeIx = s.freeIx ∧ (State.countMissing s).pending = s.pending := by
  simp [State.countMissing]

@[simp ↓] theorem State.removeMember_keeps (s : State) (p : Nat) :
    (State.removeMember s p).ident = s.ident ∧ (State.removeMember s p).tick = s.tick ∧ (State.removeMember s p).world = s.world ∧ (State.removeMember s p).aster = s.aster ∧ (State.removeMember s p).lupin = s.lupin ∧ (State.removeMember s p).harebell = s.harebell ∧ (State.removeMember s p).cornflower = s.cornflower ∧ (State.removeMember s p).poppy = s.poppy ∧ (State.removeMember s p).vetch = s.vetch ∧ (State.removeMember s p).commit = s.commit ∧ (State.removeMember s p).zheda = s.zheda ∧ (State.removeMember s p).teasel = s.teasel ∧ (State.removeMember s p).bindweed = s.bindweed ∧ (State.removeMember s p).cowslip = s.cowslip ∧ (State.removeMember s p).cmd = s.cmd ∧ (State.removeMember s p).mem = s.mem ∧ (State.removeMember s p).sec = s.sec ∧ (State.removeMember s p).now = s.now ∧ (State.removeMember s p).rdata = s.rdata ∧ (State.removeMember s p).pending = s.pending := by
  simp [State.removeMember]

@[simp ↓] theorem State.admitMember_keeps (s : State) (p : Nat) :
    (State.admitMember s p).ident = s.ident ∧ (State.admitMember s p).tick = s.tick ∧ (State.admitMember s p).world = s.world ∧ (State.admitMember s p).aster = s.aster ∧ (State.admitMember s p).lupin = s.lupin ∧ (State.admitMember s p).harebell = s.harebell ∧ (State.admitMember s p).cornflower = s.cornflower ∧ (State.admitMember s p).poppy = s.poppy ∧ (State.admitMember s p).vetch = s.vetch ∧ (State.admitMember s p).commit = s.commit ∧ (State.admitMember s p).zheda = s.zheda ∧ (State.admitMember s p).teasel = s.teasel ∧ (State.admitMember s p).bindweed = s.bindweed ∧ (State.admitMember s p).cowslip = s.cowslip ∧ (State.admitMember s p).cmd = s.cmd ∧ (State.admitMember s p).safety = s.safety ∧ (State.admitMember s p).mem = s.mem ∧ (State.admitMember s p).clock = s.clock ∧ (State.admitMember s p).host = s.host ∧ (State.admitMember s p).sec = s.sec ∧ (State.admitMember s p).now = s.now ∧ (State.admitMember s p).rdata = s.rdata ∧ (State.admitMember s p).freeIx = s.freeIx ∧ (State.admitMember s p).pending = s.pending := by
  simp [State.admitMember]

@[simp ↓] theorem State.feedJoin_keeps (s : State) (x : Snapshot) (k : Nat) (e : Nat × Member) :
    (State.feedJoin s x k e).ident = s.ident ∧ (State.feedJoin s x k e).tick = s.tick ∧ (State.feedJoin s x k e).world = s.world ∧ (State.feedJoin s x k e).aster = s.aster ∧ (State.feedJoin s x k e).lupin = s.lupin ∧ (State.feedJoin s x k e).harebell = s.harebell ∧ (State.feedJoin s x k e).cornflower = s.cornflower ∧ (State.feedJoin s x k e).poppy = s.poppy ∧ (State.feedJoin s x k e).vetch = s.vetch ∧ (State.feedJoin s x k e).commit = s.commit ∧ (State.feedJoin s x k e).zheda = s.zheda ∧ (State.feedJoin s x k e).teasel = s.teasel ∧ (State.feedJoin s x k e).bindweed = s.bindweed ∧ (State.feedJoin s x k e).cowslip = s.cowslip ∧ (State.feedJoin s x k e).cmd = s.cmd ∧ (State.feedJoin s x k e).safety = s.safety ∧ (State.feedJoin s x k e).mem = s.mem ∧ (State.feedJoin s x k e).clock = s.clock ∧ (State.feedJoin s x k e).host = s.host ∧ (State.feedJoin s x k e).sec = s.sec ∧ (State.feedJoin s x k e).now = s.now ∧ (State.feedJoin s x k e).rdata = s.rdata ∧ (State.feedJoin s x k e).freeIx = s.freeIx ∧ (State.feedJoin s x k e).pending = s.pending := by
  unfold State.feedJoin
  (repeat' split) <;> simp

@[simp ↓] theorem State.sendDelays_keeps (s : State) (p : Nat) :
    (State.sendDelays s p).ident = s.ident ∧ (State.sendDelays s p).tick = s.tick ∧ (State.sendDelays s p).world = s.world ∧ (State.sendDelays s p).aster = s.aster ∧ (State.sendDelays s p).lupin = s.lupin ∧ (State.sendDelays s p).harebell = s.harebell ∧ (State.sendDelays s p).cornflower = s.cornflower ∧ (State.sendDelays s p).poppy = s.poppy ∧ (State.sendDelays s p).vetch = s.vetch ∧ (State.sendDelays s p).commit = s.commit ∧ (State.sendDelays s p).zheda = s.zheda ∧ (State.sendDelays s p).teasel = s.teasel ∧ (State.sendDelays s p).bindweed = s.bindweed ∧ (State.sendDelays s p).cowslip = s.cowslip ∧ (State.sendDelays s p).cmd = s.cmd ∧ (State.sendDelays s p).safety = s.safety ∧ (State.sendDelays s p).mem = s.mem ∧ (State.sendDelays s p).clock = s.clock ∧ (State.sendDelays s p).host = s.host ∧ (State.sendDelays s p).sec = s.sec ∧ (State.sendDelays s p).now = s.now ∧ (State.sendDelays s p).rdata = s.rdata ∧ (State.sendDelays s p).freeIx = s.freeIx ∧ (State.sendDelays s p).pending = s.pending := by
  simp [State.sendDelays]

@[simp ↓] theorem State.sendEcho_keeps (s : State) (p : Nat) :
    (State.sendEcho s p).ident = s.ident ∧ (State.sendEcho s p).tick = s.tick ∧ (State.sendEcho s p).world = s.world ∧ (State.sendEcho s p).aster = s.aster ∧ (State.sendEcho s p).lupin = s.lupin ∧ (State.sendEcho s p).harebell = s.harebell ∧ (State.sendEcho s p).cornflower = s.cornflower ∧ (State.sendEcho s p).poppy = s.poppy ∧ (State.sendEcho s p).vetch = s.vetch ∧ (State.sendEcho s p).commit = s.commit ∧ (State.sendEcho s p).zheda = s.zheda ∧ (State.sendEcho s p).teasel = s.teasel ∧ (State.sendEcho s p).bindweed = s.bindweed ∧ (State.sendEcho s p).cowslip = s.cowslip ∧ (State.sendEcho s p).cmd = s.cmd ∧ (State.sendEcho s p).safety = s.safety ∧ (State.sendEcho s p).mem = s.mem ∧ (State.sendEcho s p).clock = s.clock ∧ (State.sendEcho s p).host = s.host ∧ (State.sendEcho s p).sec = s.sec ∧ (State.sendEcho s p).now = s.now ∧ (State.sendEcho s p).rdata = s.rdata ∧ (State.sendEcho s p).freeIx = s.freeIx ∧ (State.sendEcho s p).pending = s.pending := by
  simp [State.sendEcho]

@[simp ↓] theorem State.cascadeEdge_keeps (s : State) (x : Snapshot) (k : Nat) :
    (State.cascadeEdge s x k).ident = s.ident ∧ (State.cascadeEdge s x k).tick = s.tick ∧ (State.cascadeEdge s x k).world = s.world ∧ (State.cascadeEdge s x k).aster = s.aster ∧ (State.cascadeEdge s x k).lupin = s.lupin ∧ (State.cascadeEdge s x k).harebell = s.harebell ∧ (State.cascadeEdge s x k).cornflower = s.cornflower ∧ (State.cascadeEdge s x k).poppy = s.poppy ∧ (State.cascadeEdge s x k).vetch = s.vetch ∧ (State.cascadeEdge s x k).commit = s.commit ∧ (State.cascadeEdge s x k).zheda = s.zheda ∧ (State.cascadeEdge s x k).teasel = s.teasel ∧ (State.cascadeEdge s x k).bindweed = s.bindweed ∧ (State.cascadeEdge s x k).cowslip = s.cowslip ∧ (State.cascadeEdge s x k).cmd = s.cmd ∧ (State.cascadeEdge s x k).mem = s.mem ∧ (State.cascadeEdge s x k).sec = s.sec ∧ (State.cascadeEdge s x k).now = s.now ∧ (State.cascadeEdge s x k).rdata = s.rdata ∧ (State.cascadeEdge s x k).pending = s.pending := by
  unfold State.cascadeEdge
  simp only []
  (repeat' split) <;> simp

@[simp ↓] theorem State.drainEdge_keeps (s : State) :
    (State.drainEdge s).ident = s.ident ∧ (State.drainEdge s).tick = s.tick ∧ (State.drainEdge s).world = s.world ∧ (State.drainEdge s).aster = s.aster ∧ (State.drainEdge s).harebell = s.harebell ∧ (State.drainEdge s).poppy = s.poppy ∧ (State.drainEdge s).zheda = s.zheda ∧ (State.drainEdge s).bindweed = s.bindweed ∧ (State.drainEdge s).cowslip = s.cowslip ∧ (State.drainEdge s).cmd = s.cmd ∧ (State.drainEdge s).safety = s.safety ∧ (State.drainEdge s).mem = s.mem ∧ (State.drainEdge s).clock = s.clock ∧ (State.drainEdge s).host = s.host ∧ (State.drainEdge s).sec = s.sec ∧ (State.drainEdge s).casc = s.casc ∧ (State.drainEdge s).now = s.now ∧ (State.drainEdge s).rdata = s.rdata ∧ (State.drainEdge s).freeIx = s.freeIx ∧ (State.drainEdge s).pending = s.pending := by
  unfold State.drainEdge
  refine ⟨?_, ?_, ?_, ?_, ?_, ?_, ?_, ?_, ?_, ?_, ?_, ?_, ?_, ?_, ?_, ?_, ?_, ?_, ?_, ?_⟩ <;> (repeat' (first | with_reducible rfl | (simp; done) | (with_reducible intro _) | (with_reducible apply State.item_proj) | (with_reducible apply State.guarded_proj) | (with_reducible apply State.counterOp_proj) | (with_reducible apply State.packet_proj) | (with_reducible apply State.cfgPacket_proj) | (with_reducible refine Eq.trans (foldl_proj _ _ _ _ ?_) ?_) | (with_reducible refine Eq.trans (foldl_fst_proj _ _ _ _ ?_) ?_) | (with_reducible refine Eq.trans (foldl_snd_proj _ _ _ _ ?_) ?_) | split | (simp only []; split) | (dsimp only; split)))

@[simp ↓] theorem State.releaseDelay_keeps (s : State) (e : DelayEntry) :
    (State.releaseDelay s e).ident = s.ident ∧ (State.releaseDelay s e).tick = s.tick ∧ (State.releaseDelay s e).world = s.world ∧ (State.releaseDelay s e).aster = s.aster ∧ (State.releaseDelay s e).lupin = s.lupin ∧ (State.releaseDelay s e).harebell = s.harebell ∧ (State.releaseDelay s e).cornflower = s.cornflower ∧ (State.releaseDelay s e).poppy = s.poppy ∧ (State.releaseDelay s e).vetch = s.vetch ∧ (State.releaseDelay s e).commit = s.commit ∧ (State.releaseDelay s e).zheda = s.zheda ∧ (State.releaseDelay s e).mem = s.mem ∧ (State.releaseDelay s e).sec = s.sec ∧ (State.releaseDelay s e).casc = s.casc ∧ (State.releaseDelay s e).now = s.now ∧ (State.releaseDelay s e).rdata = s.rdata ∧ (State.releaseDelay s e).pending = s.pending := by
  unfold State.releaseDelay
  (repeat' split) <;> simp

@[simp ↓] theorem State.delayEdge_keeps (s : State) (k : Nat) :
    (State.delayEdge s k).ident = s.ident ∧ (State.delayEdge s k).tick = s.tick ∧ (State.delayEdge s k).world = s.world ∧ (State.delayEdge s k).aster = s.aster ∧ (State.delayEdge s k).lupin = s.lupin ∧ (State.delayEdge s k).harebell = s.harebell ∧ (State.delayEdge s k).cornflower = s.cornflower ∧ (State.delayEdge s k).poppy = s.poppy ∧ (State.delayEdge s k).vetch = s.vetch ∧ (State.delayEdge s k).commit = s.commit ∧ (State.delayEdge s k).zheda = s.zheda ∧ (State.delayEdge s k).mem = s.mem ∧ (State.delayEdge s k).sec = s.sec ∧ (State.delayEdge s k).casc = s.casc ∧ (State.delayEdge s k).now = s.now ∧ (State.delayEdge s k).rdata = s.rdata ∧ (State.delayEdge s k).pending = s.pending := by
  simp [State.delayEdge]

@[simp ↓] theorem State.inject_keeps (s : State) (i : Injection) :
    (State.inject s i).ident = s.ident ∧ (State.inject s i).tick = s.tick ∧ (State.inject s i).aster = s.aster ∧ (State.inject s i).lupin = s.lupin ∧ (State.inject s i).harebell = s.harebell ∧ (State.inject s i).cornflower = s.cornflower ∧ (State.inject s i).poppy = s.poppy ∧ (State.inject s i).vetch = s.vetch ∧ (State.inject s i).zheda = s.zheda ∧ (State.inject s i).teasel = s.teasel ∧ (State.inject s i).bindweed = s.bindweed ∧ (State.inject s i).cowslip = s.cowslip ∧ (State.inject s i).cmd = s.cmd ∧ (State.inject s i).mem = s.mem ∧ (State.inject s i).sec = s.sec ∧ (State.inject s i).casc = s.casc ∧ (State.inject s i).now = s.now ∧ (State.inject s i).rdata = s.rdata ∧ (State.inject s i).pending = s.pending := by
  simp [State.inject]

@[simp ↓] theorem State.injectEdge_keeps (s : State) (k : Nat) :
    (State.injectEdge s k).ident = s.ident ∧ (State.injectEdge s k).tick = s.tick ∧ (State.injectEdge s k).aster = s.aster ∧ (State.injectEdge s k).lupin = s.lupin ∧ (State.injectEdge s k).harebell = s.harebell ∧ (State.injectEdge s k).cornflower = s.cornflower ∧ (State.injectEdge s k).poppy = s.poppy ∧ (State.injectEdge s k).vetch = s.vetch ∧ (State.injectEdge s k).zheda = s.zheda ∧ (State.injectEdge s k).teasel = s.teasel ∧ (State.injectEdge s k).bindweed = s.bindweed ∧ (State.injectEdge s k).cowslip = s.cowslip ∧ (State.injectEdge s k).cmd = s.cmd ∧ (State.injectEdge s k).mem = s.mem ∧ (State.injectEdge s k).sec = s.sec ∧ (State.injectEdge s k).casc = s.casc ∧ (State.injectEdge s k).now = s.now ∧ (State.injectEdge s k).rdata = s.rdata ∧ (State.injectEdge s k).pending = s.pending := by
  simp [State.injectEdge]

@[simp ↓] theorem State.freezeEdge_keeps (s : State) :
    (State.freezeEdge s).ident = s.ident ∧ (State.freezeEdge s).tick = s.tick ∧ (State.freezeEdge s).world = s.world ∧ (State.freezeEdge s).aster = s.aster ∧ (State.freezeEdge s).lupin = s.lupin ∧ (State.freezeEdge s).harebell = s.harebell ∧ (State.freezeEdge s).cornflower = s.cornflower ∧ (State.freezeEdge s).poppy = s.poppy ∧ (State.freezeEdge s).vetch = s.vetch ∧ (State.freezeEdge s).zheda = s.zheda ∧ (State.freezeEdge s).teasel = s.teasel ∧ (State.freezeEdge s).bindweed = s.bindweed ∧ (State.freezeEdge s).cowslip = s.cowslip ∧ (State.freezeEdge s).cmd = s.cmd ∧ (State.freezeEdge s).mem = s.mem ∧ (State.freezeEdge s).clock = s.clock ∧ (State.freezeEdge s).host = s.host ∧ (State.freezeEdge s).sec = s.sec ∧ (State.freezeEdge s).casc = s.casc ∧ (State.freezeEdge s).now = s.now ∧ (State.freezeEdge s).rdata = s.rdata ∧ (State.freezeEdge s).freeIx = s.freeIx ∧ (State.freezeEdge s).pending = s.pending := by
  simp [State.freezeEdge]

@[simp ↓] theorem State.rearmEdge_keeps (s : State) :
    (State.rearmEdge s).ident = s.ident ∧ (State.rearmEdge s).tick = s.tick ∧ (State.rearmEdge s).world = s.world ∧ (State.rearmEdge s).aster = s.aster ∧ (State.rearmEdge s).lupin = s.lupin ∧ (State.rearmEdge s).harebell = s.harebell ∧ (State.rearmEdge s).cornflower = s.cornflower ∧ (State.rearmEdge s).poppy = s.poppy ∧ (State.rearmEdge s).vetch = s.vetch ∧ (State.rearmEdge s).zheda = s.zheda ∧ (State.rearmEdge s).teasel = s.teasel ∧ (State.rearmEdge s).bindweed = s.bindweed ∧ (State.rearmEdge s).cowslip = s.cowslip ∧ (State.rearmEdge s).cmd = s.cmd ∧ (State.rearmEdge s).safety = s.safety ∧ (State.rearmEdge s).mem = s.mem ∧ (State.rearmEdge s).clock = s.clock ∧ (State.rearmEdge s).host = s.host ∧ (State.rearmEdge s).sec = s.sec ∧ (State.rearmEdge s).casc = s.casc ∧ (State.rearmEdge s).now = s.now ∧ (State.rearmEdge s).rdata = s.rdata ∧ (State.rearmEdge s).freeIx = s.freeIx ∧ (State.rearmEdge s).pending = s.pending := by
  simp [State.rearmEdge]

@[simp ↓] theorem State.freshSlots_keeps (s : State) (old : Tbl FgSlot) :
    (State.freshSlots s old).ident = s.ident ∧ (State.freshSlots s old).tick = s.tick ∧ (State.freshSlots s old).world = s.world ∧ (State.freshSlots s old).aster = s.aster ∧ (State.freshSlots s old).lupin = s.lupin ∧ (State.freshSlots s old).harebell = s.harebell ∧ (State.freshSlots s old).zheda = s.zheda ∧ (State.freshSlots s old).teasel = s.teasel ∧ (State.freshSlots s old).bindweed = s.bindweed ∧ (State.freshSlots s old).cowslip = s.cowslip ∧ (State.freshSlots s old).cmd = s.cmd ∧ (State.freshSlots s old).safety = s.safety ∧ (State.freshSlots s old).mem = s.mem ∧ (State.freshSlots s old).clock = s.clock ∧ (State.freshSlots s old).host = s.host ∧ (State.freshSlots s old).sec = s.sec ∧ (State.freshSlots s old).casc = s.casc ∧ (State.freshSlots s old).now = s.now ∧ (State.freshSlots s old).rdata = s.rdata ∧ (State.freshSlots s old).freeIx = s.freeIx ∧ (State.freshSlots s old).pending = s.pending := by
  simp [State.freshSlots]

@[simp ↓] theorem State.freshTick_keeps (s : State) (k : Nat) :
    (State.freshTick s k).ident = s.ident ∧ (State.freshTick s k).tick = s.tick ∧ (State.freshTick s k).lupin = s.lupin ∧ (State.freshTick s k).cornflower = s.cornflower ∧ (State.freshTick s k).poppy = s.poppy ∧ (State.freshTick s k).vetch = s.vetch ∧ (State.freshTick s k).commit = s.commit ∧ (State.freshTick s k).zheda = s.zheda ∧ (State.freshTick s k).teasel = s.teasel ∧ (State.freshTick s k).bindweed = s.bindweed ∧ (State.freshTick s k).cowslip = s.cowslip ∧ (State.freshTick s k).cmd = s.cmd ∧ (State.freshTick s k).mem = s.mem ∧ (State.freshTick s k).clock = s.clock ∧ (State.freshTick s k).sec = s.sec ∧ (State.freshTick s k).now = s.now ∧ (State.freshTick s k).rdata = s.rdata ∧ (State.freshTick s k).freeIx = s.freeIx ∧ (State.freshTick s k).pending = s.pending := by
  simp [State.freshTick]

@[simp ↓] theorem State.newTrace_keeps (s : State) (k : Nat) :
    (State.newTrace s k).ident = s.ident ∧ (State.newTrace s k).tick = s.tick ∧ (State.newTrace s k).world = s.world ∧ (State.newTrace s k).aster = s.aster ∧ (State.newTrace s k).lupin = s.lupin ∧ (State.newTrace s k).harebell = s.harebell ∧ (State.newTrace s k).cornflower = s.cornflower ∧ (State.newTrace s k).poppy = s.poppy ∧ (State.newTrace s k).vetch = s.vetch ∧ (State.newTrace s k).commit = s.commit ∧ (State.newTrace s k).teasel = s.teasel ∧ (State.newTrace s k).bindweed = s.bindweed ∧ (State.newTrace s k).cowslip = s.cowslip ∧ (State.newTrace s k).cmd = s.cmd ∧ (State.newTrace s k).safety = s.safety ∧ (State.newTrace s k).mem = s.mem ∧ (State.newTrace s k).clock = s.clock ∧ (State.newTrace s k).host = s.host ∧ (State.newTrace s k).sec = s.sec ∧ (State.newTrace s k).casc = s.casc ∧ (State.newTrace s k).now = s.now ∧ (State.newTrace s k).rdata = s.rdata ∧ (State.newTrace s k).freeIx = s.freeIx ∧ (State.newTrace s k).pending = s.pending := by
  simp [State.newTrace]

@[simp ↓] theorem State.countForeground_keeps (s : State) :
    (State.countForeground s).ident = s.ident ∧ (State.countForeground s).tick = s.tick ∧ (State.countForeground s).world = s.world ∧ (State.countForeground s).aster = s.aster ∧ (State.countForeground s).lupin = s.lupin ∧ (State.countForeground s).harebell = s.harebell ∧ (State.countForeground s).cornflower = s.cornflower ∧ (State.countForeground s).poppy = s.poppy ∧ (State.countForeground s).vetch = s.vetch ∧ (State.countForeground s).commit = s.commit ∧ (State.countForeground s).zheda = s.zheda ∧ (State.countForeground s).bindweed = s.bindweed ∧ (State.countForeground s).cowslip = s.cowslip ∧ (State.countForeground s).cmd = s.cmd ∧ (State.countForeground s).safety = s.safety ∧ (State.countForeground s).mem = s.mem ∧ (State.countForeground s).clock = s.clock ∧ (State.countForeground s).host = s.host ∧ (State.countForeground s).sec = s.sec ∧ (State.countForeground s).casc = s.casc ∧ (State.countForeground s).now = s.now ∧ (State.countForeground s).rdata = s.rdata ∧ (State.countForeground s).freeIx = s.freeIx ∧ (State.countForeground s).pending = s.pending := by
  simp [State.countForeground]

@[simp ↓] theorem State.checkpointEdge_keeps (s : State) (x : Snapshot) (k : Nat) :
    (State.checkpointEdge s x k).ident = s.ident ∧ (State.checkpointEdge s x k).tick = s.tick ∧ (State.checkpointEdge s x k).world = s.world ∧ (State.checkpointEdge s x k).aster = s.aster ∧ (State.checkpointEdge s x k).lupin = s.lupin ∧ (State.checkpointEdge s x k).harebell = s.harebell ∧ (State.checkpointEdge s x k).cornflower = s.cornflower ∧ (State.checkpointEdge s x k).poppy = s.poppy ∧ (State.checkpointEdge s x k).vetch = s.vetch ∧ (State.checkpointEdge s x k).commit = s.commit ∧ (State.checkpointEdge s x k).teasel = s.teasel ∧ (State.checkpointEdge s x k).bindweed = s.bindweed ∧ (State.checkpointEdge s x k).cowslip = s.cowslip ∧ (State.checkpointEdge s x k).cmd = s.cmd ∧ (State.checkpointEdge s x k).safety = s.safety ∧ (State.checkpointEdge s x k).mem = s.mem ∧ (State.checkpointEdge s x k).clock = s.clock ∧ (State.checkpointEdge s x k).host = s.host ∧ (State.checkpointEdge s x k).sec = s.sec ∧ (State.checkpointEdge s x k).casc = s.casc ∧ (State.checkpointEdge s x k).now = s.now ∧ (State.checkpointEdge s x k).rdata = s.rdata ∧ (State.checkpointEdge s x k).freeIx = s.freeIx ∧ (State.checkpointEdge s x k).pending = s.pending := by
  simp [State.checkpointEdge]

@[simp ↓] theorem State.sendInputs_keeps (s : State) :
    (State.sendInputs s).ident = s.ident ∧ (State.sendInputs s).tick = s.tick ∧ (State.sendInputs s).world = s.world ∧ (State.sendInputs s).aster = s.aster ∧ (State.sendInputs s).lupin = s.lupin ∧ (State.sendInputs s).harebell = s.harebell ∧ (State.sendInputs s).cornflower = s.cornflower ∧ (State.sendInputs s).poppy = s.poppy ∧ (State.sendInputs s).vetch = s.vetch ∧ (State.sendInputs s).commit = s.commit ∧ (State.sendInputs s).zheda = s.zheda ∧ (State.sendInputs s).teasel = s.teasel ∧ (State.sendInputs s).bindweed = s.bindweed ∧ (State.sendInputs s).cowslip = s.cowslip ∧ (State.sendInputs s).cmd = s.cmd ∧ (State.sendInputs s).safety = s.safety ∧ (State.sendInputs s).mem = s.mem ∧ (State.sendInputs s).clock = s.clock ∧ (State.sendInputs s).host = s.host ∧ (State.sendInputs s).sec = s.sec ∧ (State.sendInputs s).now = s.now ∧ (State.sendInputs s).rdata = s.rdata ∧ (State.sendInputs s).freeIx = s.freeIx ∧ (State.sendInputs s).pending = s.pending := by
  simp [State.sendInputs]

@[simp ↓] theorem State.forceEdge_keeps (s : State) (k : Nat) :
    (State.forceEdge s k).ident = s.ident ∧ (State.forceEdge s k).now = s.now ∧ (State.forceEdge s k).rdata = s.rdata ∧ (State.forceEdge s k).pending = s.pending ∧ (State.forceEdge s k).sec.fuses = s.sec.fuses := by
  simp [State.forceEdge]

@[simp ↓] theorem State.planEdge_keeps (s : State) (k : Nat) :
    (State.planEdge s k).ident = s.ident ∧ (State.planEdge s k).harebell = s.harebell ∧ (State.planEdge s k).mem = s.mem ∧ (State.planEdge s k).sec = s.sec ∧ (State.planEdge s k).now = s.now ∧ (State.planEdge s k).rdata = s.rdata ∧ (State.planEdge s k).pending = s.pending := by
  simp [State.planEdge]

@[simp ↓] theorem State.beginTick_keeps (s : State) (k : Nat) (p : TickProgress) :
    (State.beginTick s k p).ident = s.ident ∧ (State.beginTick s k p).aster = s.aster ∧ (State.beginTick s k p).lupin = s.lupin ∧ (State.beginTick s k p).harebell = s.harebell ∧ (State.beginTick s k p).cornflower = s.cornflower ∧ (State.beginTick s k p).poppy = s.poppy ∧ (State.beginTick s k p).vetch = s.vetch ∧ (State.beginTick s k p).teasel = s.teasel ∧ (State.beginTick s k p).bindweed = s.bindweed ∧ (State.beginTick s k p).cowslip = s.cowslip ∧ (State.beginTick s k p).cmd = s.cmd ∧ (State.beginTick s k p).mem = s.mem ∧ (State.beginTick s k p).sec = s.sec ∧ (State.beginTick s k p).casc = s.casc ∧ (State.beginTick s k p).now = s.now ∧ (State.beginTick s k p).rdata = s.rdata ∧ (State.beginTick s k p).pending = s.pending := by
  simp [State.beginTick]

@[simp ↓] theorem State.acceptEdge_keeps (s : State) (ac : Nat) (act : BitVec 2) :
    (State.acceptEdge s ac act).ident = s.ident ∧ (State.acceptEdge s ac act).now = s.now ∧ (State.acceptEdge s ac act).rdata = s.rdata ∧ (State.acceptEdge s ac act).pending = s.pending ∧ (State.acceptEdge s ac act).sec.fuses = s.sec.fuses := by
  simp [State.acceptEdge]

@[simp ↓] theorem State.pauseEdge_keeps (s : State) (ac : Nat) :
    (State.pauseEdge s ac).ident = s.ident ∧ (State.pauseEdge s ac).harebell = s.harebell ∧ (State.pauseEdge s ac).commit = s.commit ∧ (State.pauseEdge s ac).teasel = s.teasel ∧ (State.pauseEdge s ac).bindweed = s.bindweed ∧ (State.pauseEdge s ac).safety = s.safety ∧ (State.pauseEdge s ac).mem = s.mem ∧ (State.pauseEdge s ac).clock = s.clock ∧ (State.pauseEdge s ac).sec = s.sec ∧ (State.pauseEdge s ac).casc = s.casc ∧ (State.pauseEdge s ac).now = s.now ∧ (State.pauseEdge s ac).rdata = s.rdata ∧ (State.pauseEdge s ac).freeIx = s.freeIx ∧ (State.pauseEdge s ac).pending = s.pending := by
  unfold State.pauseEdge
  simp only []
  (repeat' split) <;> simp

@[simp ↓] theorem State.edge_keeps (s : State) (ac : Nat) (act : BitVec 2) :
    (State.edge s ac act).ident = s.ident ∧ (State.edge s ac act).now = s.now ∧ (State.edge s ac act).rdata = s.rdata ∧ (State.edge s ac act).pending = s.pending ∧ (State.edge s ac act).sec.fuses = s.sec.fuses := by
  unfold State.edge
  (repeat' split) <;> simp

@[simp ↓] theorem internalTickEdgeEffect_keeps (e : Edge) (s : State) :
    (internalTickEdgeEffect e s).ident = s.ident ∧ (internalTickEdgeEffect e s).rdata = s.rdata ∧ (internalTickEdgeEffect e s).pending = s.pending ∧ (internalTickEdgeEffect e s).sec.fuses = s.sec.fuses := by
  unfold internalTickEdgeEffect
  (repeat' split) <;> simp

@[simp ↓] theorem tickInEdgeEffect_keeps (e : Edge) (s : State) :
    (tickInEdgeEffect e s).ident = s.ident ∧ (tickInEdgeEffect e s).rdata = s.rdata ∧ (tickInEdgeEffect e s).pending = s.pending ∧ (tickInEdgeEffect e s).sec.fuses = s.sec.fuses := by
  unfold tickInEdgeEffect
  (repeat' split) <;> simp

@[simp ↓] theorem holdoverEdgeEffect_keeps (e : Edge) (s : State) :
    (holdoverEdgeEffect e s).ident = s.ident ∧ (holdoverEdgeEffect e s).rdata = s.rdata ∧ (holdoverEdgeEffect e s).pending = s.pending ∧ (holdoverEdgeEffect e s).sec.fuses = s.sec.fuses := by
  unfold holdoverEdgeEffect
  simp only []
  (repeat' split) <;> simp

@[simp ↓] theorem ptpTickEdgeEffect_keeps (e : Edge) (s : State) :
    (ptpTickEdgeEffect e s).ident = s.ident ∧ (ptpTickEdgeEffect e s).rdata = s.rdata ∧ (ptpTickEdgeEffect e s).pending = s.pending ∧ (ptpTickEdgeEffect e s).sec.fuses = s.sec.fuses := by
  unfold ptpTickEdgeEffect
  (repeat' split) <;> simp

@[simp ↓] theorem State.memberEdge_keeps (s : State) (ac k t : Nat) :
    (State.memberEdge s ac k t).ident = s.ident ∧ (State.memberEdge s ac k t).now = s.now ∧ (State.memberEdge s ac k t).rdata = s.rdata ∧ (State.memberEdge s ac k t).pending = s.pending ∧ (State.memberEdge s ac k t).sec.fuses = s.sec.fuses := by
  simp [State.memberEdge]

@[simp ↓] theorem State.disableRings_keeps (s : State) :
    (State.disableRings s).ident = s.ident ∧ (State.disableRings s).tick = s.tick ∧ (State.disableRings s).world = s.world ∧ (State.disableRings s).aster = s.aster ∧ (State.disableRings s).lupin = s.lupin ∧ (State.disableRings s).harebell = s.harebell ∧ (State.disableRings s).cornflower = s.cornflower ∧ (State.disableRings s).poppy = s.poppy ∧ (State.disableRings s).vetch = s.vetch ∧ (State.disableRings s).commit = s.commit ∧ (State.disableRings s).zheda = s.zheda ∧ (State.disableRings s).teasel = s.teasel ∧ (State.disableRings s).bindweed = s.bindweed ∧ (State.disableRings s).cowslip = s.cowslip ∧ (State.disableRings s).safety = s.safety ∧ (State.disableRings s).mem = s.mem ∧ (State.disableRings s).clock = s.clock ∧ (State.disableRings s).host = s.host ∧ (State.disableRings s).sec = s.sec ∧ (State.disableRings s).casc = s.casc ∧ (State.disableRings s).now = s.now ∧ (State.disableRings s).rdata = s.rdata ∧ (State.disableRings s).freeIx = s.freeIx ∧ (State.disableRings s).pending = s.pending := by
  simp [State.disableRings]

@[simp ↓] theorem State.hostGone_keeps (s : State) :
    (State.hostGone s).ident = s.ident ∧ (State.hostGone s).tick = s.tick ∧ (State.hostGone s).world = s.world ∧ (State.hostGone s).aster = s.aster ∧ (State.hostGone s).lupin = s.lupin ∧ (State.hostGone s).harebell = s.harebell ∧ (State.hostGone s).cornflower = s.cornflower ∧ (State.hostGone s).poppy = s.poppy ∧ (State.hostGone s).vetch = s.vetch ∧ (State.hostGone s).zheda = s.zheda ∧ (State.hostGone s).teasel = s.teasel ∧ (State.hostGone s).bindweed = s.bindweed ∧ (State.hostGone s).cowslip = s.cowslip ∧ (State.hostGone s).mem = s.mem ∧ (State.hostGone s).clock = s.clock ∧ (State.hostGone s).host = s.host ∧ (State.hostGone s).sec = s.sec ∧ (State.hostGone s).casc = s.casc ∧ (State.hostGone s).now = s.now ∧ (State.hostGone s).rdata = s.rdata ∧ (State.hostGone s).freeIx = s.freeIx ∧ (State.hostGone s).pending = s.pending := by
  simp [State.hostGone]

@[simp ↓] theorem State.resetDomain_keeps (s : State) (d : Nat) :
    (State.resetDomain s d).ident = s.ident ∧ (State.resetDomain s d).tick = s.tick ∧ (State.resetDomain s d).world = s.world ∧ (State.resetDomain s d).aster = s.aster ∧ (State.resetDomain s d).lupin = s.lupin ∧ (State.resetDomain s d).harebell = s.harebell ∧ (State.resetDomain s d).cornflower = s.cornflower ∧ (State.resetDomain s d).poppy = s.poppy ∧ (State.resetDomain s d).vetch = s.vetch ∧ (State.resetDomain s d).commit = s.commit ∧ (State.resetDomain s d).zheda = s.zheda ∧ (State.resetDomain s d).teasel = s.teasel ∧ (State.resetDomain s d).bindweed = s.bindweed ∧ (State.resetDomain s d).cowslip = s.cowslip ∧ (State.resetDomain s d).cmd = s.cmd ∧ (State.resetDomain s d).safety = s.safety ∧ (State.resetDomain s d).mem = s.mem ∧ (State.resetDomain s d).host = s.host ∧ (State.resetDomain s d).sec = s.sec ∧ (State.resetDomain s d).casc = s.casc ∧ (State.resetDomain s d).now = s.now ∧ (State.resetDomain s d).rdata = s.rdata ∧ (State.resetDomain s d).freeIx = s.freeIx ∧ (State.resetDomain s d).pending = s.pending := by
  simp [State.resetDomain]

@[simp ↓] theorem perstAssertEffect_keeps (s : State) :
    (perstAssertEffect s).ident = s.ident ∧ (perstAssertEffect s).tick = s.tick ∧ (perstAssertEffect s).world = s.world ∧ (perstAssertEffect s).aster = s.aster ∧ (perstAssertEffect s).lupin = s.lupin ∧ (perstAssertEffect s).harebell = s.harebell ∧ (perstAssertEffect s).cornflower = s.cornflower ∧ (perstAssertEffect s).poppy = s.poppy ∧ (perstAssertEffect s).vetch = s.vetch ∧ (perstAssertEffect s).zheda = s.zheda ∧ (perstAssertEffect s).teasel = s.teasel ∧ (perstAssertEffect s).bindweed = s.bindweed ∧ (perstAssertEffect s).cowslip = s.cowslip ∧ (perstAssertEffect s).mem = s.mem ∧ (perstAssertEffect s).sec = s.sec ∧ (perstAssertEffect s).casc = s.casc ∧ (perstAssertEffect s).now = s.now ∧ (perstAssertEffect s).rdata = s.rdata ∧ (perstAssertEffect s).freeIx = s.freeIx ∧ (perstAssertEffect s).pending = s.pending := by
  simp [perstAssertEffect]

@[simp ↓] theorem functionLevelResetEffect_keeps (s : State) :
    (functionLevelResetEffect s).ident = s.ident ∧ (functionLevelResetEffect s).tick = s.tick ∧ (functionLevelResetEffect s).world = s.world ∧ (functionLevelResetEffect s).aster = s.aster ∧ (functionLevelResetEffect s).lupin = s.lupin ∧ (functionLevelResetEffect s).harebell = s.harebell ∧ (functionLevelResetEffect s).cornflower = s.cornflower ∧ (functionLevelResetEffect s).poppy = s.poppy ∧ (functionLevelResetEffect s).vetch = s.vetch ∧ (functionLevelResetEffect s).zheda = s.zheda ∧ (functionLevelResetEffect s).teasel = s.teasel ∧ (functionLevelResetEffect s).bindweed = s.bindweed ∧ (functionLevelResetEffect s).cowslip = s.cowslip ∧ (functionLevelResetEffect s).mem = s.mem ∧ (functionLevelResetEffect s).clock = s.clock ∧ (functionLevelResetEffect s).sec = s.sec ∧ (functionLevelResetEffect s).casc = s.casc ∧ (functionLevelResetEffect s).now = s.now ∧ (functionLevelResetEffect s).rdata = s.rdata ∧ (functionLevelResetEffect s).freeIx = s.freeIx ∧ (functionLevelResetEffect s).pending = s.pending := by
  simp [functionLevelResetEffect]

@[simp ↓] theorem pcieLinkDownEffect_keeps (s : State) :
    (pcieLinkDownEffect s).ident = s.ident ∧ (pcieLinkDownEffect s).tick = s.tick ∧ (pcieLinkDownEffect s).world = s.world ∧ (pcieLinkDownEffect s).aster = s.aster ∧ (pcieLinkDownEffect s).lupin = s.lupin ∧ (pcieLinkDownEffect s).harebell = s.harebell ∧ (pcieLinkDownEffect s).cornflower = s.cornflower ∧ (pcieLinkDownEffect s).poppy = s.poppy ∧ (pcieLinkDownEffect s).vetch = s.vetch ∧ (pcieLinkDownEffect s).zheda = s.zheda ∧ (pcieLinkDownEffect s).teasel = s.teasel ∧ (pcieLinkDownEffect s).bindweed = s.bindweed ∧ (pcieLinkDownEffect s).cowslip = s.cowslip ∧ (pcieLinkDownEffect s).mem = s.mem ∧ (pcieLinkDownEffect s).clock = s.clock ∧ (pcieLinkDownEffect s).sec = s.sec ∧ (pcieLinkDownEffect s).casc = s.casc ∧ (pcieLinkDownEffect s).now = s.now ∧ (pcieLinkDownEffect s).rdata = s.rdata ∧ (pcieLinkDownEffect s).freeIx = s.freeIx ∧ (pcieLinkDownEffect s).pending = s.pending := by
  simp [pcieLinkDownEffect]

@[simp ↓] theorem perstReleaseEffect_keeps (s : State) :
    (perstReleaseEffect s).ident = s.ident ∧ (perstReleaseEffect s).tick = s.tick ∧ (perstReleaseEffect s).world = s.world ∧ (perstReleaseEffect s).aster = s.aster ∧ (perstReleaseEffect s).lupin = s.lupin ∧ (perstReleaseEffect s).harebell = s.harebell ∧ (perstReleaseEffect s).cornflower = s.cornflower ∧ (perstReleaseEffect s).poppy = s.poppy ∧ (perstReleaseEffect s).vetch = s.vetch ∧ (perstReleaseEffect s).commit = s.commit ∧ (perstReleaseEffect s).zheda = s.zheda ∧ (perstReleaseEffect s).teasel = s.teasel ∧ (perstReleaseEffect s).bindweed = s.bindweed ∧ (perstReleaseEffect s).cowslip = s.cowslip ∧ (perstReleaseEffect s).cmd = s.cmd ∧ (perstReleaseEffect s).safety = s.safety ∧ (perstReleaseEffect s).mem = s.mem ∧ (perstReleaseEffect s).clock = s.clock ∧ (perstReleaseEffect s).sec = s.sec ∧ (perstReleaseEffect s).casc = s.casc ∧ (perstReleaseEffect s).now = s.now ∧ (perstReleaseEffect s).rdata = s.rdata ∧ (perstReleaseEffect s).freeIx = s.freeIx ∧ (perstReleaseEffect s).pending = s.pending := by
  simp [perstReleaseEffect]

@[simp ↓] theorem pcieLinkUpEffect_keeps (w : BitVec 6) (v : BitVec 4) (s : State) :
    (pcieLinkUpEffect w v s).ident = s.ident ∧ (pcieLinkUpEffect w v s).tick = s.tick ∧ (pcieLinkUpEffect w v s).world = s.world ∧ (pcieLinkUpEffect w v s).aster = s.aster ∧ (pcieLinkUpEffect w v s).lupin = s.lupin ∧ (pcieLinkUpEffect w v s).harebell = s.harebell ∧ (pcieLinkUpEffect w v s).cornflower = s.cornflower ∧ (pcieLinkUpEffect w v s).poppy = s.poppy ∧ (pcieLinkUpEffect w v s).vetch = s.vetch ∧ (pcieLinkUpEffect w v s).commit = s.commit ∧ (pcieLinkUpEffect w v s).zheda = s.zheda ∧ (pcieLinkUpEffect w v s).teasel = s.teasel ∧ (pcieLinkUpEffect w v s).bindweed = s.bindweed ∧ (pcieLinkUpEffect w v s).cowslip = s.cowslip ∧ (pcieLinkUpEffect w v s).cmd = s.cmd ∧ (pcieLinkUpEffect w v s).safety = s.safety ∧ (pcieLinkUpEffect w v s).mem = s.mem ∧ (pcieLinkUpEffect w v s).clock = s.clock ∧ (pcieLinkUpEffect w v s).sec = s.sec ∧ (pcieLinkUpEffect w v s).casc = s.casc ∧ (pcieLinkUpEffect w v s).now = s.now ∧ (pcieLinkUpEffect w v s).rdata = s.rdata ∧ (pcieLinkUpEffect w v s).freeIx = s.freeIx ∧ (pcieLinkUpEffect w v s).pending = s.pending := by
  simp [pcieLinkUpEffect]

@[simp ↓] theorem powerStateEffect_keeps (d3 : Bool) (s : State) :
    (powerStateEffect d3 s).ident = s.ident ∧ (powerStateEffect d3 s).tick = s.tick ∧ (powerStateEffect d3 s).world = s.world ∧ (powerStateEffect d3 s).aster = s.aster ∧ (powerStateEffect d3 s).lupin = s.lupin ∧ (powerStateEffect d3 s).harebell = s.harebell ∧ (powerStateEffect d3 s).cornflower = s.cornflower ∧ (powerStateEffect d3 s).poppy = s.poppy ∧ (powerStateEffect d3 s).vetch = s.vetch ∧ (powerStateEffect d3 s).commit = s.commit ∧ (powerStateEffect d3 s).zheda = s.zheda ∧ (powerStateEffect d3 s).teasel = s.teasel ∧ (powerStateEffect d3 s).bindweed = s.bindweed ∧ (powerStateEffect d3 s).cowslip = s.cowslip ∧ (powerStateEffect d3 s).cmd = s.cmd ∧ (powerStateEffect d3 s).safety = s.safety ∧ (powerStateEffect d3 s).mem = s.mem ∧ (powerStateEffect d3 s).clock = s.clock ∧ (powerStateEffect d3 s).sec = s.sec ∧ (powerStateEffect d3 s).casc = s.casc ∧ (powerStateEffect d3 s).now = s.now ∧ (powerStateEffect d3 s).rdata = s.rdata ∧ (powerStateEffect d3 s).freeIx = s.freeIx ∧ (powerStateEffect d3 s).pending = s.pending := by
  simp [powerStateEffect]

@[simp ↓] theorem State.linkError_keeps (s : State) :
    (State.linkError s).ident = s.ident ∧ (State.linkError s).tick = s.tick ∧ (State.linkError s).world = s.world ∧ (State.linkError s).aster = s.aster ∧ (State.linkError s).lupin = s.lupin ∧ (State.linkError s).harebell = s.harebell ∧ (State.linkError s).cornflower = s.cornflower ∧ (State.linkError s).poppy = s.poppy ∧ (State.linkError s).vetch = s.vetch ∧ (State.linkError s).commit = s.commit ∧ (State.linkError s).zheda = s.zheda ∧ (State.linkError s).teasel = s.teasel ∧ (State.linkError s).bindweed = s.bindweed ∧ (State.linkError s).cowslip = s.cowslip ∧ (State.linkError s).cmd = s.cmd ∧ (State.linkError s).safety = s.safety ∧ (State.linkError s).mem = s.mem ∧ (State.linkError s).clock = s.clock ∧ (State.linkError s).sec = s.sec ∧ (State.linkError s).casc = s.casc ∧ (State.linkError s).now = s.now ∧ (State.linkError s).rdata = s.rdata ∧ (State.linkError s).freeIx = s.freeIx ∧ (State.linkError s).pending = s.pending := by
  simp [State.linkError]

@[simp ↓] theorem pcieRequestEffect_keeps (r : PcieReq) (s : State) :
    (pcieRequestEffect r s).ident = s.ident ∧ (pcieRequestEffect r s).tick = s.tick ∧ (pcieRequestEffect r s).world = s.world ∧ (pcieRequestEffect r s).aster = s.aster ∧ (pcieRequestEffect r s).lupin = s.lupin ∧ (pcieRequestEffect r s).harebell = s.harebell ∧ (pcieRequestEffect r s).cornflower = s.cornflower ∧ (pcieRequestEffect r s).poppy = s.poppy ∧ (pcieRequestEffect r s).vetch = s.vetch ∧ (pcieRequestEffect r s).commit = s.commit ∧ (pcieRequestEffect r s).zheda = s.zheda ∧ (pcieRequestEffect r s).teasel = s.teasel ∧ (pcieRequestEffect r s).bindweed = s.bindweed ∧ (pcieRequestEffect r s).cowslip = s.cowslip ∧ (pcieRequestEffect r s).cmd = s.cmd ∧ (pcieRequestEffect r s).safety = s.safety ∧ (pcieRequestEffect r s).mem = s.mem ∧ (pcieRequestEffect r s).clock = s.clock ∧ (pcieRequestEffect r s).sec = s.sec ∧ (pcieRequestEffect r s).casc = s.casc ∧ (pcieRequestEffect r s).now = s.now ∧ (pcieRequestEffect r s).freeIx = s.freeIx ∧ (pcieRequestEffect r s).pending = s.pending := by
  unfold pcieRequestEffect
  (repeat' split) <;> simp

@[simp ↓] theorem msixUnmaskEffect_keeps (v : Option (Fin 64)) (s : State) :
    (msixUnmaskEffect v s).ident = s.ident ∧ (msixUnmaskEffect v s).tick = s.tick ∧ (msixUnmaskEffect v s).world = s.world ∧ (msixUnmaskEffect v s).aster = s.aster ∧ (msixUnmaskEffect v s).lupin = s.lupin ∧ (msixUnmaskEffect v s).harebell = s.harebell ∧ (msixUnmaskEffect v s).cornflower = s.cornflower ∧ (msixUnmaskEffect v s).poppy = s.poppy ∧ (msixUnmaskEffect v s).vetch = s.vetch ∧ (msixUnmaskEffect v s).commit = s.commit ∧ (msixUnmaskEffect v s).zheda = s.zheda ∧ (msixUnmaskEffect v s).teasel = s.teasel ∧ (msixUnmaskEffect v s).bindweed = s.bindweed ∧ (msixUnmaskEffect v s).cowslip = s.cowslip ∧ (msixUnmaskEffect v s).cmd = s.cmd ∧ (msixUnmaskEffect v s).safety = s.safety ∧ (msixUnmaskEffect v s).mem = s.mem ∧ (msixUnmaskEffect v s).clock = s.clock ∧ (msixUnmaskEffect v s).sec = s.sec ∧ (msixUnmaskEffect v s).casc = s.casc ∧ (msixUnmaskEffect v s).now = s.now ∧ (msixUnmaskEffect v s).rdata = s.rdata ∧ (msixUnmaskEffect v s).freeIx = s.freeIx ∧ (msixUnmaskEffect v s).pending = s.pending := by
  simp [msixUnmaskEffect]

@[simp ↓] theorem usbConnectEffect_keeps (ss : Bool) (s : State) :
    (usbConnectEffect ss s).ident = s.ident ∧ (usbConnectEffect ss s).tick = s.tick ∧ (usbConnectEffect ss s).world = s.world ∧ (usbConnectEffect ss s).aster = s.aster ∧ (usbConnectEffect ss s).lupin = s.lupin ∧ (usbConnectEffect ss s).harebell = s.harebell ∧ (usbConnectEffect ss s).cornflower = s.cornflower ∧ (usbConnectEffect ss s).poppy = s.poppy ∧ (usbConnectEffect ss s).vetch = s.vetch ∧ (usbConnectEffect ss s).commit = s.commit ∧ (usbConnectEffect ss s).zheda = s.zheda ∧ (usbConnectEffect ss s).teasel = s.teasel ∧ (usbConnectEffect ss s).bindweed = s.bindweed ∧ (usbConnectEffect ss s).cowslip = s.cowslip ∧ (usbConnectEffect ss s).cmd = s.cmd ∧ (usbConnectEffect ss s).safety = s.safety ∧ (usbConnectEffect ss s).mem = s.mem ∧ (usbConnectEffect ss s).clock = s.clock ∧ (usbConnectEffect ss s).sec = s.sec ∧ (usbConnectEffect ss s).casc = s.casc ∧ (usbConnectEffect ss s).now = s.now ∧ (usbConnectEffect ss s).rdata = s.rdata ∧ (usbConnectEffect ss s).freeIx = s.freeIx ∧ (usbConnectEffect ss s).pending = s.pending := by
  simp [usbConnectEffect]

@[simp ↓] theorem usbBusResetEffect_keeps (s : State) :
    (usbBusResetEffect s).ident = s.ident ∧ (usbBusResetEffect s).tick = s.tick ∧ (usbBusResetEffect s).world = s.world ∧ (usbBusResetEffect s).aster = s.aster ∧ (usbBusResetEffect s).lupin = s.lupin ∧ (usbBusResetEffect s).harebell = s.harebell ∧ (usbBusResetEffect s).cornflower = s.cornflower ∧ (usbBusResetEffect s).poppy = s.poppy ∧ (usbBusResetEffect s).vetch = s.vetch ∧ (usbBusResetEffect s).commit = s.commit ∧ (usbBusResetEffect s).zheda = s.zheda ∧ (usbBusResetEffect s).teasel = s.teasel ∧ (usbBusResetEffect s).bindweed = s.bindweed ∧ (usbBusResetEffect s).cowslip = s.cowslip ∧ (usbBusResetEffect s).cmd = s.cmd ∧ (usbBusResetEffect s).safety = s.safety ∧ (usbBusResetEffect s).mem = s.mem ∧ (usbBusResetEffect s).clock = s.clock ∧ (usbBusResetEffect s).sec = s.sec ∧ (usbBusResetEffect s).casc = s.casc ∧ (usbBusResetEffect s).now = s.now ∧ (usbBusResetEffect s).rdata = s.rdata ∧ (usbBusResetEffect s).freeIx = s.freeIx ∧ (usbBusResetEffect s).pending = s.pending := by
  simp [usbBusResetEffect]

@[simp ↓] theorem usbResumeEffect_keeps (s : State) :
    (usbResumeEffect s).ident = s.ident ∧ (usbResumeEffect s).tick = s.tick ∧ (usbResumeEffect s).world = s.world ∧ (usbResumeEffect s).aster = s.aster ∧ (usbResumeEffect s).lupin = s.lupin ∧ (usbResumeEffect s).harebell = s.harebell ∧ (usbResumeEffect s).cornflower = s.cornflower ∧ (usbResumeEffect s).poppy = s.poppy ∧ (usbResumeEffect s).vetch = s.vetch ∧ (usbResumeEffect s).commit = s.commit ∧ (usbResumeEffect s).zheda = s.zheda ∧ (usbResumeEffect s).teasel = s.teasel ∧ (usbResumeEffect s).bindweed = s.bindweed ∧ (usbResumeEffect s).cowslip = s.cowslip ∧ (usbResumeEffect s).cmd = s.cmd ∧ (usbResumeEffect s).safety = s.safety ∧ (usbResumeEffect s).mem = s.mem ∧ (usbResumeEffect s).clock = s.clock ∧ (usbResumeEffect s).sec = s.sec ∧ (usbResumeEffect s).casc = s.casc ∧ (usbResumeEffect s).now = s.now ∧ (usbResumeEffect s).rdata = s.rdata ∧ (usbResumeEffect s).freeIx = s.freeIx ∧ (usbResumeEffect s).pending = s.pending := by
  simp [usbResumeEffect]

@[simp ↓] theorem ethLosEffect_keeps (p : Nat) (los lock : Bool) (s : State) :
    (ethLosEffect p los lock s).ident = s.ident ∧ (ethLosEffect p los lock s).tick = s.tick ∧ (ethLosEffect p los lock s).world = s.world ∧ (ethLosEffect p los lock s).aster = s.aster ∧ (ethLosEffect p los lock s).lupin = s.lupin ∧ (ethLosEffect p los lock s).harebell = s.harebell ∧ (ethLosEffect p los lock s).cornflower = s.cornflower ∧ (ethLosEffect p los lock s).poppy = s.poppy ∧ (ethLosEffect p los lock s).vetch = s.vetch ∧ (ethLosEffect p los lock s).commit = s.commit ∧ (ethLosEffect p los lock s).zheda = s.zheda ∧ (ethLosEffect p los lock s).teasel = s.teasel ∧ (ethLosEffect p los lock s).bindweed = s.bindweed ∧ (ethLosEffect p los lock s).cowslip = s.cowslip ∧ (ethLosEffect p los lock s).cmd = s.cmd ∧ (ethLosEffect p los lock s).safety = s.safety ∧ (ethLosEffect p los lock s).mem = s.mem ∧ (ethLosEffect p los lock s).clock = s.clock ∧ (ethLosEffect p los lock s).sec = s.sec ∧ (ethLosEffect p los lock s).casc = s.casc ∧ (ethLosEffect p los lock s).now = s.now ∧ (ethLosEffect p los lock s).rdata = s.rdata ∧ (ethLosEffect p los lock s).freeIx = s.freeIx ∧ (ethLosEffect p los lock s).pending = s.pending := by
  simp [ethLosEffect]

@[simp ↓] theorem State.loseSync_keeps (s : State) :
    (State.loseSync s).ident = s.ident ∧ (State.loseSync s).world = s.world ∧ (State.loseSync s).aster = s.aster ∧ (State.loseSync s).lupin = s.lupin ∧ (State.loseSync s).harebell = s.harebell ∧ (State.loseSync s).cornflower = s.cornflower ∧ (State.loseSync s).poppy = s.poppy ∧ (State.loseSync s).vetch = s.vetch ∧ (State.loseSync s).commit = s.commit ∧ (State.loseSync s).zheda = s.zheda ∧ (State.loseSync s).teasel = s.teasel ∧ (State.loseSync s).bindweed = s.bindweed ∧ (State.loseSync s).cowslip = s.cowslip ∧ (State.loseSync s).cmd = s.cmd ∧ (State.loseSync s).safety = s.safety ∧ (State.loseSync s).mem = s.mem ∧ (State.loseSync s).clock = s.clock ∧ (State.loseSync s).sec = s.sec ∧ (State.loseSync s).casc = s.casc ∧ (State.loseSync s).now = s.now ∧ (State.loseSync s).rdata = s.rdata ∧ (State.loseSync s).freeIx = s.freeIx ∧ (State.loseSync s).pending = s.pending := by
  simp [State.loseSync]

@[simp ↓] theorem State.gainSync_keeps (s : State) :
    (State.gainSync s).ident = s.ident ∧ (State.gainSync s).world = s.world ∧ (State.gainSync s).aster = s.aster ∧ (State.gainSync s).lupin = s.lupin ∧ (State.gainSync s).harebell = s.harebell ∧ (State.gainSync s).cornflower = s.cornflower ∧ (State.gainSync s).poppy = s.poppy ∧ (State.gainSync s).vetch = s.vetch ∧ (State.gainSync s).commit = s.commit ∧ (State.gainSync s).zheda = s.zheda ∧ (State.gainSync s).teasel = s.teasel ∧ (State.gainSync s).bindweed = s.bindweed ∧ (State.gainSync s).cowslip = s.cowslip ∧ (State.gainSync s).cmd = s.cmd ∧ (State.gainSync s).safety = s.safety ∧ (State.gainSync s).mem = s.mem ∧ (State.gainSync s).clock = s.clock ∧ (State.gainSync s).sec = s.sec ∧ (State.gainSync s).casc = s.casc ∧ (State.gainSync s).now = s.now ∧ (State.gainSync s).rdata = s.rdata ∧ (State.gainSync s).freeIx = s.freeIx ∧ (State.gainSync s).pending = s.pending := by
  simp [State.gainSync]

@[simp ↓] theorem ptpSyncEffect_keeps (time port : Nat) (offset : Int) (s : State) :
    (ptpSyncEffect time port offset s).ident = s.ident ∧ (ptpSyncEffect time port offset s).world = s.world ∧ (ptpSyncEffect time port offset s).aster = s.aster ∧ (ptpSyncEffect time port offset s).lupin = s.lupin ∧ (ptpSyncEffect time port offset s).harebell = s.harebell ∧ (ptpSyncEffect time port offset s).cornflower = s.cornflower ∧ (ptpSyncEffect time port offset s).poppy = s.poppy ∧ (ptpSyncEffect time port offset s).vetch = s.vetch ∧ (ptpSyncEffect time port offset s).commit = s.commit ∧ (ptpSyncEffect time port offset s).zheda = s.zheda ∧ (ptpSyncEffect time port offset s).teasel = s.teasel ∧ (ptpSyncEffect time port offset s).bindweed = s.bindweed ∧ (ptpSyncEffect time port offset s).cowslip = s.cowslip ∧ (ptpSyncEffect time port offset s).cmd = s.cmd ∧ (ptpSyncEffect time port offset s).safety = s.safety ∧ (ptpSyncEffect time port offset s).mem = s.mem ∧ (ptpSyncEffect time port offset s).clock = s.clock ∧ (ptpSyncEffect time port offset s).sec = s.sec ∧ (ptpSyncEffect time port offset s).casc = s.casc ∧ (ptpSyncEffect time port offset s).rdata = s.rdata ∧ (ptpSyncEffect time port offset s).pending = s.pending := by
  simp [ptpSyncEffect]

@[simp ↓] theorem bestMasterEffect_keeps (time : Nat) (gm : Bool) (s : State) :
    (bestMasterEffect time gm s).ident = s.ident ∧ (bestMasterEffect time gm s).world = s.world ∧ (bestMasterEffect time gm s).aster = s.aster ∧ (bestMasterEffect time gm s).lupin = s.lupin ∧ (bestMasterEffect time gm s).harebell = s.harebell ∧ (bestMasterEffect time gm s).cornflower = s.cornflower ∧ (bestMasterEffect time gm s).poppy = s.poppy ∧ (bestMasterEffect time gm s).vetch = s.vetch ∧ (bestMasterEffect time gm s).commit = s.commit ∧ (bestMasterEffect time gm s).zheda = s.zheda ∧ (bestMasterEffect time gm s).teasel = s.teasel ∧ (bestMasterEffect time gm s).bindweed = s.bindweed ∧ (bestMasterEffect time gm s).cowslip = s.cowslip ∧ (bestMasterEffect time gm s).cmd = s.cmd ∧ (bestMasterEffect time gm s).safety = s.safety ∧ (bestMasterEffect time gm s).mem = s.mem ∧ (bestMasterEffect time gm s).clock = s.clock ∧ (bestMasterEffect time gm s).sec = s.sec ∧ (bestMasterEffect time gm s).casc = s.casc ∧ (bestMasterEffect time gm s).rdata = s.rdata ∧ (bestMasterEffect time gm s).freeIx = s.freeIx ∧ (bestMasterEffect time gm s).pending = s.pending := by
  simp [bestMasterEffect]

@[simp ↓] theorem xtalWindowEffect_keeps (time count : Nat) (s : State) :
    (xtalWindowEffect time count s).ident = s.ident ∧ (xtalWindowEffect time count s).tick = s.tick ∧ (xtalWindowEffect time count s).world = s.world ∧ (xtalWindowEffect time count s).aster = s.aster ∧ (xtalWindowEffect time count s).lupin = s.lupin ∧ (xtalWindowEffect time count s).harebell = s.harebell ∧ (xtalWindowEffect time count s).cornflower = s.cornflower ∧ (xtalWindowEffect time count s).poppy = s.poppy ∧ (xtalWindowEffect time count s).vetch = s.vetch ∧ (xtalWindowEffect time count s).commit = s.commit ∧ (xtalWindowEffect time count s).zheda = s.zheda ∧ (xtalWindowEffect time count s).teasel = s.teasel ∧ (xtalWindowEffect time count s).bindweed = s.bindweed ∧ (xtalWindowEffect time count s).cowslip = s.cowslip ∧ (xtalWindowEffect time count s).cmd = s.cmd ∧ (xtalWindowEffect time count s).safety = s.safety ∧ (xtalWindowEffect time count s).mem = s.mem ∧ (xtalWindowEffect time count s).host = s.host ∧ (xtalWindowEffect time count s).sec = s.sec ∧ (xtalWindowEffect time count s).casc = s.casc ∧ (xtalWindowEffect time count s).rdata = s.rdata ∧ (xtalWindowEffect time count s).freeIx = s.freeIx ∧ (xtalWindowEffect time count s).pending = s.pending := by
  simp [xtalWindowEffect]

@[simp ↓] theorem State.xtalOutage_keeps (s : State) (refclk : Bool) :
    (State.xtalOutage s refclk).ident = s.ident ∧ (State.xtalOutage s refclk).tick = s.tick ∧ (State.xtalOutage s refclk).world = s.world ∧ (State.xtalOutage s refclk).aster = s.aster ∧ (State.xtalOutage s refclk).lupin = s.lupin ∧ (State.xtalOutage s refclk).harebell = s.harebell ∧ (State.xtalOutage s refclk).cornflower = s.cornflower ∧ (State.xtalOutage s refclk).poppy = s.poppy ∧ (State.xtalOutage s refclk).vetch = s.vetch ∧ (State.xtalOutage s refclk).commit = s.commit ∧ (State.xtalOutage s refclk).zheda = s.zheda ∧ (State.xtalOutage s refclk).teasel = s.teasel ∧ (State.xtalOutage s refclk).bindweed = s.bindweed ∧ (State.xtalOutage s refclk).cowslip = s.cowslip ∧ (State.xtalOutage s refclk).cmd = s.cmd ∧ (State.xtalOutage s refclk).safety = s.safety ∧ (State.xtalOutage s refclk).mem = s.mem ∧ (State.xtalOutage s refclk).sec = s.sec ∧ (State.xtalOutage s refclk).now = s.now ∧ (State.xtalOutage s refclk).rdata = s.rdata ∧ (State.xtalOutage s refclk).freeIx = s.freeIx ∧ (State.xtalOutage s refclk).pending = s.pending := by
  simp [State.xtalOutage]

@[simp ↓] theorem xtalTimeoutEffect_keeps (time : Nat) (refclk : Bool) (s : State) :
    (xtalTimeoutEffect time refclk s).ident = s.ident ∧ (xtalTimeoutEffect time refclk s).tick = s.tick ∧ (xtalTimeoutEffect time refclk s).world = s.world ∧ (xtalTimeoutEffect time refclk s).aster = s.aster ∧ (xtalTimeoutEffect time refclk s).lupin = s.lupin ∧ (xtalTimeoutEffect time refclk s).harebell = s.harebell ∧ (xtalTimeoutEffect time refclk s).cornflower = s.cornflower ∧ (xtalTimeoutEffect time refclk s).poppy = s.poppy ∧ (xtalTimeoutEffect time refclk s).vetch = s.vetch ∧ (xtalTimeoutEffect time refclk s).commit = s.commit ∧ (xtalTimeoutEffect time refclk s).zheda = s.zheda ∧ (xtalTimeoutEffect time refclk s).teasel = s.teasel ∧ (xtalTimeoutEffect time refclk s).bindweed = s.bindweed ∧ (xtalTimeoutEffect time refclk s).cowslip = s.cowslip ∧ (xtalTimeoutEffect time refclk s).cmd = s.cmd ∧ (xtalTimeoutEffect time refclk s).mem = s.mem ∧ (xtalTimeoutEffect time refclk s).sec = s.sec ∧ (xtalTimeoutEffect time refclk s).rdata = s.rdata ∧ (xtalTimeoutEffect time refclk s).pending = s.pending := by
  simp [xtalTimeoutEffect]

@[simp ↓] theorem State.stallDomain_keeps (s : State) (d : Nat) :
    (State.stallDomain s d).ident = s.ident ∧ (State.stallDomain s d).tick = s.tick ∧ (State.stallDomain s d).world = s.world ∧ (State.stallDomain s d).aster = s.aster ∧ (State.stallDomain s d).lupin = s.lupin ∧ (State.stallDomain s d).harebell = s.harebell ∧ (State.stallDomain s d).cornflower = s.cornflower ∧ (State.stallDomain s d).poppy = s.poppy ∧ (State.stallDomain s d).vetch = s.vetch ∧ (State.stallDomain s d).commit = s.commit ∧ (State.stallDomain s d).zheda = s.zheda ∧ (State.stallDomain s d).teasel = s.teasel ∧ (State.stallDomain s d).bindweed = s.bindweed ∧ (State.stallDomain s d).cowslip = s.cowslip ∧ (State.stallDomain s d).cmd = s.cmd ∧ (State.stallDomain s d).safety = s.safety ∧ (State.stallDomain s d).mem = s.mem ∧ (State.stallDomain s d).host = s.host ∧ (State.stallDomain s d).sec = s.sec ∧ (State.stallDomain s d).casc = s.casc ∧ (State.stallDomain s d).now = s.now ∧ (State.stallDomain s d).rdata = s.rdata ∧ (State.stallDomain s d).freeIx = s.freeIx ∧ (State.stallDomain s d).pending = s.pending := by
  simp [State.stallDomain]

@[simp ↓] theorem State.loseTick_keeps (s : State) :
    (State.loseTick s).ident = s.ident ∧ (State.loseTick s).harebell = s.harebell ∧ (State.loseTick s).commit = s.commit ∧ (State.loseTick s).teasel = s.teasel ∧ (State.loseTick s).bindweed = s.bindweed ∧ (State.loseTick s).cowslip = s.cowslip ∧ (State.loseTick s).cmd = s.cmd ∧ (State.loseTick s).safety = s.safety ∧ (State.loseTick s).mem = s.mem ∧ (State.loseTick s).clock = s.clock ∧ (State.loseTick s).sec = s.sec ∧ (State.loseTick s).casc = s.casc ∧ (State.loseTick s).now = s.now ∧ (State.loseTick s).rdata = s.rdata ∧ (State.loseTick s).freeIx = s.freeIx ∧ (State.loseTick s).pending = s.pending := by
  simp [State.loseTick]

@[simp ↓] theorem pllLossEffect_keeps (p : Nat) (s : State) :
    (pllLossEffect p s).ident = s.ident ∧ (pllLossEffect p s).harebell = s.harebell ∧ (pllLossEffect p s).commit = s.commit ∧ (pllLossEffect p s).teasel = s.teasel ∧ (pllLossEffect p s).bindweed = s.bindweed ∧ (pllLossEffect p s).cowslip = s.cowslip ∧ (pllLossEffect p s).cmd = s.cmd ∧ (pllLossEffect p s).mem = s.mem ∧ (pllLossEffect p s).sec = s.sec ∧ (pllLossEffect p s).casc = s.casc ∧ (pllLossEffect p s).now = s.now ∧ (pllLossEffect p s).rdata = s.rdata ∧ (pllLossEffect p s).pending = s.pending := by
  unfold pllLossEffect
  simp only []
  (repeat' split) <;> simp

@[simp ↓] theorem sparePllLockedEffect_keeps (p : Nat) (s : State) :
    (sparePllLockedEffect p s).ident = s.ident ∧ (sparePllLockedEffect p s).tick = s.tick ∧ (sparePllLockedEffect p s).world = s.world ∧ (sparePllLockedEffect p s).aster = s.aster ∧ (sparePllLockedEffect p s).lupin = s.lupin ∧ (sparePllLockedEffect p s).harebell = s.harebell ∧ (sparePllLockedEffect p s).cornflower = s.cornflower ∧ (sparePllLockedEffect p s).poppy = s.poppy ∧ (sparePllLockedEffect p s).vetch = s.vetch ∧ (sparePllLockedEffect p s).commit = s.commit ∧ (sparePllLockedEffect p s).zheda = s.zheda ∧ (sparePllLockedEffect p s).teasel = s.teasel ∧ (sparePllLockedEffect p s).bindweed = s.bindweed ∧ (sparePllLockedEffect p s).cowslip = s.cowslip ∧ (sparePllLockedEffect p s).cmd = s.cmd ∧ (sparePllLockedEffect p s).safety = s.safety ∧ (sparePllLockedEffect p s).mem = s.mem ∧ (sparePllLockedEffect p s).host = s.host ∧ (sparePllLockedEffect p s).sec = s.sec ∧ (sparePllLockedEffect p s).casc = s.casc ∧ (sparePllLockedEffect p s).now = s.now ∧ (sparePllLockedEffect p s).rdata = s.rdata ∧ (sparePllLockedEffect p s).freeIx = s.freeIx ∧ (sparePllLockedEffect p s).pending = s.pending := by
  simp [sparePllLockedEffect]

@[simp ↓] theorem clockMonitorEffect_keeps (d edges : Nat) (s : State) :
    (clockMonitorEffect d edges s).ident = s.ident ∧ (clockMonitorEffect d edges s).tick = s.tick ∧ (clockMonitorEffect d edges s).world = s.world ∧ (clockMonitorEffect d edges s).aster = s.aster ∧ (clockMonitorEffect d edges s).lupin = s.lupin ∧ (clockMonitorEffect d edges s).harebell = s.harebell ∧ (clockMonitorEffect d edges s).cornflower = s.cornflower ∧ (clockMonitorEffect d edges s).poppy = s.poppy ∧ (clockMonitorEffect d edges s).vetch = s.vetch ∧ (clockMonitorEffect d edges s).commit = s.commit ∧ (clockMonitorEffect d edges s).zheda = s.zheda ∧ (clockMonitorEffect d edges s).teasel = s.teasel ∧ (clockMonitorEffect d edges s).bindweed = s.bindweed ∧ (clockMonitorEffect d edges s).cowslip = s.cowslip ∧ (clockMonitorEffect d edges s).cmd = s.cmd ∧ (clockMonitorEffect d edges s).mem = s.mem ∧ (clockMonitorEffect d edges s).sec = s.sec ∧ (clockMonitorEffect d edges s).casc = s.casc ∧ (clockMonitorEffect d edges s).now = s.now ∧ (clockMonitorEffect d edges s).rdata = s.rdata ∧ (clockMonitorEffect d edges s).pending = s.pending := by
  simp [clockMonitorEffect]

@[simp ↓] theorem State.dropSlice_keeps (s : State) (r : Running) :
    (State.dropSlice s r).ident = s.ident ∧ (State.dropSlice s r).tick = s.tick ∧ (State.dropSlice s r).world = s.world ∧ (State.dropSlice s r).aster = s.aster ∧ (State.dropSlice s r).lupin = s.lupin ∧ (State.dropSlice s r).harebell = s.harebell ∧ (State.dropSlice s r).cornflower = s.cornflower ∧ (State.dropSlice s r).poppy = s.poppy ∧ (State.dropSlice s r).vetch = s.vetch ∧ (State.dropSlice s r).commit = s.commit ∧ (State.dropSlice s r).zheda = s.zheda ∧ (State.dropSlice s r).bindweed = s.bindweed ∧ (State.dropSlice s r).safety = s.safety ∧ (State.dropSlice s r).clock = s.clock ∧ (State.dropSlice s r).sec = s.sec ∧ (State.dropSlice s r).casc = s.casc ∧ (State.dropSlice s r).now = s.now ∧ (State.dropSlice s r).rdata = s.rdata ∧ (State.dropSlice s r).freeIx = s.freeIx ∧ (State.dropSlice s r).pending = s.pending := by
  unfold State.dropSlice
  (repeat' split) <;> simp

@[simp ↓] theorem State.domainRegs_keeps (s : State) (d : Nat) :
    (State.domainRegs s d).ident = s.ident ∧ (State.domainRegs s d).tick = s.tick ∧ (State.domainRegs s d).aster = s.aster ∧ (State.domainRegs s d).lupin = s.lupin ∧ (State.domainRegs s d).harebell = s.harebell ∧ (State.domainRegs s d).cornflower = s.cornflower ∧ (State.domainRegs s d).poppy = s.poppy ∧ (State.domainRegs s d).vetch = s.vetch ∧ (State.domainRegs s d).zheda = s.zheda ∧ (State.domainRegs s d).teasel = s.teasel ∧ (State.domainRegs s d).mem = s.mem ∧ (State.domainRegs s d).clock = s.clock ∧ (State.domainRegs s d).sec = s.sec ∧ (State.domainRegs s d).now = s.now ∧ (State.domainRegs s d).rdata = s.rdata ∧ (State.domainRegs s d).freeIx = s.freeIx ∧ (State.domainRegs s d).pending = s.pending := by
  simp [State.domainRegs]

@[simp ↓] theorem State.startDomainReset_keeps (s : State) (d : Nat) :
    (State.startDomainReset s d).ident = s.ident ∧ (State.startDomainReset s d).harebell = s.harebell ∧ (State.startDomainReset s d).sec = s.sec ∧ (State.startDomainReset s d).now = s.now ∧ (State.startDomainReset s d).rdata = s.rdata ∧ (State.startDomainReset s d).freeIx = s.freeIx ∧ (State.startDomainReset s d).pending = s.pending := by
  simp [State.startDomainReset]

@[simp ↓] theorem clkDomainResetEffect_keeps (who : Master) (val : Word) (s : State) :
    (clkDomainResetEffect who val s).ident = s.ident ∧ (clkDomainResetEffect who val s).harebell = s.harebell ∧ (clkDomainResetEffect who val s).sec = s.sec ∧ (clkDomainResetEffect who val s).now = s.now ∧ (clkDomainResetEffect who val s).rdata = s.rdata ∧ (clkDomainResetEffect who val s).freeIx = s.freeIx ∧ (clkDomainResetEffect who val s).pending = s.pending := by
  simp [clkDomainResetEffect]

@[simp ↓] theorem domainResetDoneEffect_keeps (d : Nat) (s : State) :
    (domainResetDoneEffect d s).ident = s.ident ∧ (domainResetDoneEffect d s).tick = s.tick ∧ (domainResetDoneEffect d s).world = s.world ∧ (domainResetDoneEffect d s).aster = s.aster ∧ (domainResetDoneEffect d s).lupin = s.lupin ∧ (domainResetDoneEffect d s).harebell = s.harebell ∧ (domainResetDoneEffect d s).cornflower = s.cornflower ∧ (domainResetDoneEffect d s).poppy = s.poppy ∧ (domainResetDoneEffect d s).vetch = s.vetch ∧ (domainResetDoneEffect d s).commit = s.commit ∧ (domainResetDoneEffect d s).zheda = s.zheda ∧ (domainResetDoneEffect d s).teasel = s.teasel ∧ (domainResetDoneEffect d s).bindweed = s.bindweed ∧ (domainResetDoneEffect d s).cowslip = s.cowslip ∧ (domainResetDoneEffect d s).cmd = s.cmd ∧ (domainResetDoneEffect d s).safety = s.safety ∧ (domainResetDoneEffect d s).mem = s.mem ∧ (domainResetDoneEffect d s).host = s.host ∧ (domainResetDoneEffect d s).sec = s.sec ∧ (domainResetDoneEffect d s).casc = s.casc ∧ (domainResetDoneEffect d s).now = s.now ∧ (domainResetDoneEffect d s).rdata = s.rdata ∧ (domainResetDoneEffect d s).freeIx = s.freeIx ∧ (domainResetDoneEffect d s).pending = s.pending := by
  simp [domainResetDoneEffect]

@[simp ↓] theorem regulatorEffect_keeps (mv : Half) (s : State) :
    (regulatorEffect mv s).ident = s.ident ∧ (regulatorEffect mv s).tick = s.tick ∧ (regulatorEffect mv s).world = s.world ∧ (regulatorEffect mv s).aster = s.aster ∧ (regulatorEffect mv s).lupin = s.lupin ∧ (regulatorEffect mv s).harebell = s.harebell ∧ (regulatorEffect mv s).cornflower = s.cornflower ∧ (regulatorEffect mv s).poppy = s.poppy ∧ (regulatorEffect mv s).vetch = s.vetch ∧ (regulatorEffect mv s).commit = s.commit ∧ (regulatorEffect mv s).zheda = s.zheda ∧ (regulatorEffect mv s).teasel = s.teasel ∧ (regulatorEffect mv s).bindweed = s.bindweed ∧ (regulatorEffect mv s).cowslip = s.cowslip ∧ (regulatorEffect mv s).cmd = s.cmd ∧ (regulatorEffect mv s).safety = s.safety ∧ (regulatorEffect mv s).mem = s.mem ∧ (regulatorEffect mv s).host = s.host ∧ (regulatorEffect mv s).sec = s.sec ∧ (regulatorEffect mv s).casc = s.casc ∧ (regulatorEffect mv s).now = s.now ∧ (regulatorEffect mv s).rdata = s.rdata ∧ (regulatorEffect mv s).freeIx = s.freeIx ∧ (regulatorEffect mv s).pending = s.pending := by
  simp [regulatorEffect]

@[simp ↓] theorem avsTimeoutEffect_keeps (s : State) :
    (avsTimeoutEffect s).ident = s.ident ∧ (avsTimeoutEffect s).tick = s.tick ∧ (avsTimeoutEffect s).world = s.world ∧ (avsTimeoutEffect s).aster = s.aster ∧ (avsTimeoutEffect s).lupin = s.lupin ∧ (avsTimeoutEffect s).harebell = s.harebell ∧ (avsTimeoutEffect s).cornflower = s.cornflower ∧ (avsTimeoutEffect s).poppy = s.poppy ∧ (avsTimeoutEffect s).vetch = s.vetch ∧ (avsTimeoutEffect s).commit = s.commit ∧ (avsTimeoutEffect s).zheda = s.zheda ∧ (avsTimeoutEffect s).teasel = s.teasel ∧ (avsTimeoutEffect s).bindweed = s.bindweed ∧ (avsTimeoutEffect s).cowslip = s.cowslip ∧ (avsTimeoutEffect s).cmd = s.cmd ∧ (avsTimeoutEffect s).mem = s.mem ∧ (avsTimeoutEffect s).sec = s.sec ∧ (avsTimeoutEffect s).casc = s.casc ∧ (avsTimeoutEffect s).now = s.now ∧ (avsTimeoutEffect s).rdata = s.rdata ∧ (avsTimeoutEffect s).pending = s.pending := by
  simp [avsTimeoutEffect]

@[simp ↓] theorem pmbusAlertEffect_keeps (s : State) :
    (pmbusAlertEffect s).ident = s.ident ∧ (pmbusAlertEffect s).tick = s.tick ∧ (pmbusAlertEffect s).world = s.world ∧ (pmbusAlertEffect s).aster = s.aster ∧ (pmbusAlertEffect s).lupin = s.lupin ∧ (pmbusAlertEffect s).harebell = s.harebell ∧ (pmbusAlertEffect s).cornflower = s.cornflower ∧ (pmbusAlertEffect s).poppy = s.poppy ∧ (pmbusAlertEffect s).vetch = s.vetch ∧ (pmbusAlertEffect s).commit = s.commit ∧ (pmbusAlertEffect s).zheda = s.zheda ∧ (pmbusAlertEffect s).teasel = s.teasel ∧ (pmbusAlertEffect s).bindweed = s.bindweed ∧ (pmbusAlertEffect s).cowslip = s.cowslip ∧ (pmbusAlertEffect s).cmd = s.cmd ∧ (pmbusAlertEffect s).mem = s.mem ∧ (pmbusAlertEffect s).sec = s.sec ∧ (pmbusAlertEffect s).casc = s.casc ∧ (pmbusAlertEffect s).now = s.now ∧ (pmbusAlertEffect s).rdata = s.rdata ∧ (pmbusAlertEffect s).pending = s.pending := by
  simp [pmbusAlertEffect]

@[simp ↓] theorem pwrOpSetEffect_keeps (h : Hdr) (p : Nat) (s : State) :
    (pwrOpSetEffect h p s).ident = s.ident ∧ (pwrOpSetEffect h p s).tick = s.tick ∧ (pwrOpSetEffect h p s).world = s.world ∧ (pwrOpSetEffect h p s).aster = s.aster ∧ (pwrOpSetEffect h p s).lupin = s.lupin ∧ (pwrOpSetEffect h p s).harebell = s.harebell ∧ (pwrOpSetEffect h p s).cornflower = s.cornflower ∧ (pwrOpSetEffect h p s).poppy = s.poppy ∧ (pwrOpSetEffect h p s).vetch = s.vetch ∧ (pwrOpSetEffect h p s).commit = s.commit ∧ (pwrOpSetEffect h p s).zheda = s.zheda ∧ (pwrOpSetEffect h p s).teasel = s.teasel ∧ (pwrOpSetEffect h p s).bindweed = s.bindweed ∧ (pwrOpSetEffect h p s).safety = s.safety ∧ (pwrOpSetEffect h p s).mem = s.mem ∧ (pwrOpSetEffect h p s).sec = s.sec ∧ (pwrOpSetEffect h p s).casc = s.casc ∧ (pwrOpSetEffect h p s).now = s.now ∧ (pwrOpSetEffect h p s).rdata = s.rdata ∧ (pwrOpSetEffect h p s).freeIx = s.freeIx ∧ (pwrOpSetEffect h p s).pending = s.pending := by
  unfold pwrOpSetEffect
  refine ⟨?_, ?_, ?_, ?_, ?_, ?_, ?_, ?_, ?_, ?_, ?_, ?_, ?_, ?_, ?_, ?_, ?_, ?_, ?_, ?_, ?_⟩ <;> (repeat' (first | with_reducible rfl | (simp; done) | (with_reducible intro _) | (with_reducible apply State.item_proj) | (with_reducible apply State.guarded_proj) | (with_reducible apply State.counterOp_proj) | (with_reducible apply State.packet_proj) | (with_reducible apply State.cfgPacket_proj) | (with_reducible refine Eq.trans (foldl_proj _ _ _ _ ?_) ?_) | (with_reducible refine Eq.trans (foldl_fst_proj _ _ _ _ ?_) ?_) | (with_reducible refine Eq.trans (foldl_snd_proj _ _ _ _ ?_) ?_) | split | (simp only []; split) | (dsimp only; split)))

@[simp ↓] theorem clkSpreadSetEffect_keeps (h : Hdr) (depth rate : Nat) (s : State) :
    (clkSpreadSetEffect h depth rate s).ident = s.ident ∧ (clkSpreadSetEffect h depth rate s).tick = s.tick ∧ (clkSpreadSetEffect h depth rate s).world = s.world ∧ (clkSpreadSetEffect h depth rate s).aster = s.aster ∧ (clkSpreadSetEffect h depth rate s).lupin = s.lupin ∧ (clkSpreadSetEffect h depth rate s).harebell = s.harebell ∧ (clkSpreadSetEffect h depth rate s).cornflower = s.cornflower ∧ (clkSpreadSetEffect h depth rate s).poppy = s.poppy ∧ (clkSpreadSetEffect h depth rate s).vetch = s.vetch ∧ (clkSpreadSetEffect h depth rate s).commit = s.commit ∧ (clkSpreadSetEffect h depth rate s).zheda = s.zheda ∧ (clkSpreadSetEffect h depth rate s).teasel = s.teasel ∧ (clkSpreadSetEffect h depth rate s).bindweed = s.bindweed ∧ (clkSpreadSetEffect h depth rate s).safety = s.safety ∧ (clkSpreadSetEffect h depth rate s).mem = s.mem ∧ (clkSpreadSetEffect h depth rate s).sec = s.sec ∧ (clkSpreadSetEffect h depth rate s).casc = s.casc ∧ (clkSpreadSetEffect h depth rate s).now = s.now ∧ (clkSpreadSetEffect h depth rate s).rdata = s.rdata ∧ (clkSpreadSetEffect h depth rate s).freeIx = s.freeIx ∧ (clkSpreadSetEffect h depth rate s).pending = s.pending := by
  unfold clkSpreadSetEffect
  refine ⟨?_, ?_, ?_, ?_, ?_, ?_, ?_, ?_, ?_, ?_, ?_, ?_, ?_, ?_, ?_, ?_, ?_, ?_, ?_, ?_, ?_⟩ <;> (repeat' (first | with_reducible rfl | (simp; done) | (with_reducible intro _) | (with_reducible apply State.item_proj) | (with_reducible apply State.guarded_proj) | (with_reducible apply State.counterOp_proj) | (with_reducible apply State.packet_proj) | (with_reducible apply State.cfgPacket_proj) | (with_reducible refine Eq.trans (foldl_proj _ _ _ _ ?_) ?_) | (with_reducible refine Eq.trans (foldl_fst_proj _ _ _ _ ?_) ?_) | (with_reducible refine Eq.trans (foldl_snd_proj _ _ _ _ ?_) ?_) | split | (simp only []; split) | (dsimp only; split)))

@[simp ↓] theorem pwrClusterSetEffect_keeps (h : Hdr) (mask st : Nat) (s : State) :
    (pwrClusterSetEffect h mask st s).ident = s.ident ∧ (pwrClusterSetEffect h mask st s).tick = s.tick ∧ (pwrClusterSetEffect h mask st s).aster = s.aster ∧ (pwrClusterSetEffect h mask st s).lupin = s.lupin ∧ (pwrClusterSetEffect h mask st s).poppy = s.poppy ∧ (pwrClusterSetEffect h mask st s).vetch = s.vetch ∧ (pwrClusterSetEffect h mask st s).commit = s.commit ∧ (pwrClusterSetEffect h mask st s).zheda = s.zheda ∧ (pwrClusterSetEffect h mask st s).teasel = s.teasel ∧ (pwrClusterSetEffect h mask st s).safety = s.safety ∧ (pwrClusterSetEffect h mask st s).sec = s.sec ∧ (pwrClusterSetEffect h mask st s).casc = s.casc ∧ (pwrClusterSetEffect h mask st s).now = s.now ∧ (pwrClusterSetEffect h mask st s).rdata = s.rdata ∧ (pwrClusterSetEffect h mask st s).freeIx = s.freeIx ∧ (pwrClusterSetEffect h mask st s).pending = s.pending ∧ (pwrClusterSetEffect h mask st s).mem.ddr = s.mem.ddr := by
  unfold pwrClusterSetEffect
  refine ⟨?_, ?_, ?_, ?_, ?_, ?_, ?_, ?_, ?_, ?_, ?_, ?_, ?_, ?_, ?_, ?_, ?_⟩ <;> (repeat' (first | with_reducible rfl | (simp; done) | (with_reducible intro _) | (with_reducible apply State.item_proj) | (with_reducible apply State.guarded_proj) | (with_reducible apply State.counterOp_proj) | (with_reducible apply State.packet_proj) | (with_reducible apply State.cfgPacket_proj) | (with_reducible refine Eq.trans (foldl_proj _ _ _ _ ?_) ?_) | (with_reducible refine Eq.trans (foldl_fst_proj _ _ _ _ ?_) ?_) | (with_reducible refine Eq.trans (foldl_snd_proj _ _ _ _ ?_) ?_) | (with_reducible apply State.item_proj (fun s => s.mem.ddr)) | (with_reducible apply State.guarded_proj (fun s => s.mem.ddr)) | (with_reducible apply State.counterOp_proj (fun s => s.mem.ddr)) | (with_reducible apply State.packet_proj (fun s => s.mem.ddr)) | (with_reducible apply State.cfgPacket_proj (fun s => s.mem.ddr)) | (with_reducible refine Eq.trans (foldl_proj  (fun s => s.mem.ddr) _ _ _ ?_) ?_) | (with_reducible refine Eq.trans (foldl_fst_proj  (fun s => s.mem.ddr) _ _ _ ?_) ?_) | (with_reducible refine Eq.trans (foldl_snd_proj  (fun s => s.mem.ddr) _ _ _ ?_) ?_) | split | (simp only []; split) | (dsimp only; split)))

@[simp ↓] theorem pwrStatusEffect_keeps (h : Hdr) (s : State) :
    (pwrStatusEffect h s).ident = s.ident ∧ (pwrStatusEffect h s).tick = s.tick ∧ (pwrStatusEffect h s).world = s.world ∧ (pwrStatusEffect h s).aster = s.aster ∧ (pwrStatusEffect h s).lupin = s.lupin ∧ (pwrStatusEffect h s).harebell = s.harebell ∧ (pwrStatusEffect h s).cornflower = s.cornflower ∧ (pwrStatusEffect h s).poppy = s.poppy ∧ (pwrStatusEffect h s).vetch = s.vetch ∧ (pwrStatusEffect h s).commit = s.commit ∧ (pwrStatusEffect h s).zheda = s.zheda ∧ (pwrStatusEffect h s).teasel = s.teasel ∧ (pwrStatusEffect h s).bindweed = s.bindweed ∧ (pwrStatusEffect h s).safety = s.safety ∧ (pwrStatusEffect h s).mem = s.mem ∧ (pwrStatusEffect h s).clock = s.clock ∧ (pwrStatusEffect h s).sec = s.sec ∧ (pwrStatusEffect h s).casc = s.casc ∧ (pwrStatusEffect h s).now = s.now ∧ (pwrStatusEffect h s).rdata = s.rdata ∧ (pwrStatusEffect h s).freeIx = s.freeIx ∧ (pwrStatusEffect h s).pending = s.pending := by
  unfold pwrStatusEffect
  refine ⟨?_, ?_, ?_, ?_, ?_, ?_, ?_, ?_, ?_, ?_, ?_, ?_, ?_, ?_, ?_, ?_, ?_, ?_, ?_, ?_, ?_, ?_⟩ <;> (repeat' (first | with_reducible rfl | (simp; done) | (with_reducible intro _) | (with_reducible apply State.item_proj) | (with_reducible apply State.guarded_proj) | (with_reducible apply State.counterOp_proj) | (with_reducible apply State.packet_proj) | (with_reducible apply State.cfgPacket_proj) | (with_reducible refine Eq.trans (foldl_proj _ _ _ _ ?_) ?_) | (with_reducible refine Eq.trans (foldl_fst_proj _ _ _ _ ?_) ?_) | (with_reducible refine Eq.trans (foldl_snd_proj _ _ _ _ ?_) ?_) | split | (simp only []; split) | (dsimp only; split)))

@[simp ↓] theorem thermalSampleEffect_keeps (temps : List Int) (s : State) :
    (thermalSampleEffect temps s).ident = s.ident ∧ (thermalSampleEffect temps s).now = s.now ∧ (thermalSampleEffect temps s).pending = s.pending ∧ (thermalSampleEffect temps s).sec.fuses = s.sec.fuses := by
  unfold thermalSampleEffect
  (repeat' split) <;> simp

@[simp ↓] theorem supplyExcursionEffect_keeps (glitch : Bool) (s : State) :
    (supplyExcursionEffect glitch s).ident = s.ident ∧ (supplyExcursionEffect glitch s).now = s.now ∧ (supplyExcursionEffect glitch s).pending = s.pending ∧ (supplyExcursionEffect glitch s).sec.fuses = s.sec.fuses := by
  unfold supplyExcursionEffect
  (repeat' split) <;> simp

theorem sysCnt_put (s : State) (o : Nat) (c : StatCnt) (put : StatCnt → State) (h : sysCnt s o = some (c, put)) (x : StatCnt) :
    (put x).ident = s.ident ∧ (put x).aster = s.aster ∧ (put x).lupin = s.lupin ∧ (put x).harebell = s.harebell ∧ (put x).cornflower = s.cornflower ∧ (put x).poppy = s.poppy ∧ (put x).vetch = s.vetch ∧ (put x).commit = s.commit ∧ (put x).teasel = s.teasel ∧ (put x).bindweed = s.bindweed ∧ (put x).cowslip = s.cowslip ∧ (put x).mem = s.mem ∧ (put x).clock = s.clock ∧ (put x).host = s.host ∧ (put x).sec = s.sec ∧ (put x).casc = s.casc ∧ (put x).now = s.now ∧ (put x).rdata = s.rdata ∧ (put x).freeIx = s.freeIx ∧ (put x).pending = s.pending := by
  unfold sysCnt at h
  (try simp only [] at h)
  (repeat' split at h) <;> first | (simp at h; done) | (cases h; simp; done)

theorem planCnt_put (s : State) (b o : Nat) (c : StatCnt) (put : StatCnt → State) (h : planCnt s b o = some (c, put)) (x : StatCnt) :
    (put x).ident = s.ident ∧ (put x).tick = s.tick ∧ (put x).world = s.world ∧ (put x).cornflower = s.cornflower ∧ (put x).zheda = s.zheda ∧ (put x).bindweed = s.bindweed ∧ (put x).cowslip = s.cowslip ∧ (put x).cmd = s.cmd ∧ (put x).mem = s.mem ∧ (put x).clock = s.clock ∧ (put x).host = s.host ∧ (put x).sec = s.sec ∧ (put x).casc = s.casc ∧ (put x).now = s.now ∧ (put x).rdata = s.rdata ∧ (put x).freeIx = s.freeIx ∧ (put x).pending = s.pending := by
  unfold planCnt at h
  (try simp only [] at h)
  (repeat' split at h) <;> first | (simp at h; done) | (cases h; simp; done)

theorem unitCnt_put (s : State) (b o : Nat) (c : StatCnt) (put : StatCnt → State) (h : unitCnt s b o = some (c, put)) (x : StatCnt) :
    (put x).ident = s.ident ∧ (put x).tick = s.tick ∧ (put x).world = s.world ∧ (put x).aster = s.aster ∧ (put x).lupin = s.lupin ∧ (put x).harebell = s.harebell ∧ (put x).cornflower = s.cornflower ∧ (put x).poppy = s.poppy ∧ (put x).vetch = s.vetch ∧ (put x).commit = s.commit ∧ (put x).zheda = s.zheda ∧ (put x).teasel = s.teasel ∧ (put x).cmd = s.cmd ∧ (put x).sec = s.sec ∧ (put x).now = s.now ∧ (put x).rdata = s.rdata ∧ (put x).freeIx = s.freeIx ∧ (put x).pending = s.pending ∧ (put x).mem.ddr = s.mem.ddr ∧ (put x).mem.sram = s.mem.sram := by
  unfold unitCnt at h
  (try simp only [] at h)
  (repeat' split at h) <;> first | (simp at h; done) | (cases h; simp; done)

theorem portCnt_put (s : State) (b o : Nat) (c : StatCnt) (put : StatCnt → State) (h : portCnt s b o = some (c, put)) (x : StatCnt) :
    (put x).ident = s.ident ∧ (put x).tick = s.tick ∧ (put x).world = s.world ∧ (put x).aster = s.aster ∧ (put x).lupin = s.lupin ∧ (put x).harebell = s.harebell ∧ (put x).cornflower = s.cornflower ∧ (put x).poppy = s.poppy ∧ (put x).vetch = s.vetch ∧ (put x).commit = s.commit ∧ (put x).zheda = s.zheda ∧ (put x).teasel = s.teasel ∧ (put x).bindweed = s.bindweed ∧ (put x).cowslip = s.cowslip ∧ (put x).cmd = s.cmd ∧ (put x).safety = s.safety ∧ (put x).mem = s.mem ∧ (put x).clock = s.clock ∧ (put x).sec = s.sec ∧ (put x).casc = s.casc ∧ (put x).now = s.now ∧ (put x).rdata = s.rdata ∧ (put x).freeIx = s.freeIx ∧ (put x).pending = s.pending := by
  unfold portCnt at h
  (try simp only [] at h)
  (repeat' split at h) <;> first | (simp at h; done) | (cases h; simp; done)

theorem State.cntAt_put (s : State) (off : Nat) (c : StatCnt) (put : StatCnt → State) (h : s.cntAt off = some (c, put)) (x : StatCnt) :
    (put x).ident = s.ident ∧ (put x).cornflower = s.cornflower ∧ (put x).sec = s.sec ∧ (put x).now = s.now ∧ (put x).rdata = s.rdata ∧ (put x).freeIx = s.freeIx ∧ (put x).pending = s.pending ∧ (put x).mem.ddr = s.mem.ddr ∧ (put x).mem.sram = s.mem.sram := by
  unfold State.cntAt at h
  (try simp only [] at h)
  (repeat' split at h) <;> first | (simp at h; done) | (cases h; simp; done) | (have := sysCnt_put _ _ _ _ h x; simp [this]; done) | (have := planCnt_put _ _ _ _ _ h x; simp [this]; done) | (have := portCnt_put _ _ _ _ _ h x; simp [this]; done) | (have := unitCnt_put _ _ _ _ _ h x; simp [this]; done)

theorem State.pairAt_put (s : State) (off : Nat) (c : Dword) (d : Word) (put : Word → State) (h : s.pairAt off = some (c, d, put)) (x : Word) :
    (put x).ident = s.ident ∧ (put x).aster = s.aster ∧ (put x).lupin = s.lupin ∧ (put x).harebell = s.harebell ∧ (put x).poppy = s.poppy ∧ (put x).vetch = s.vetch ∧ (put x).bindweed = s.bindweed ∧ (put x).cowslip = s.cowslip ∧ (put x).safety = s.safety ∧ (put x).clock = s.clock ∧ (put x).casc = s.casc ∧ (put x).now = s.now ∧ (put x).rdata = s.rdata ∧ (put x).freeIx = s.freeIx ∧ (put x).pending = s.pending ∧ (put x).sec.fuses = s.sec.fuses ∧ (put x).mem.ddr = s.mem.ddr ∧ (put x).mem.sram = s.mem.sram := by
  unfold State.pairAt at h
  simp only [pairRef] at h
  (repeat' split at h) <;> first | (simp at h; done) | (cases h; simp; done)

end Sys2Proof.Machine
end

