-- ==== Sys2Proof/Laws/FrameHost.lean ====
section
/-! SUPPORT. What register writes, packets and frames from outside leave unchanged. -/

set_option linter.unusedSimpArgs false
set_option linter.unusedVariables false

namespace Sys2Proof.Machine

theorem State.regAccess_proj {α : Type} (p : State → α) (s : State) (who : Master) (off : Nat) (write : Bool) (k : State → State)
    (hs : ∀ s f, p (State.onSafety s f) = p s) (hv : ∀ s m c a w e l, p (State.violate s m c a w e l) = p s)
    (ha : ∀ s w, p (State.abortAccess s w) = p s) (hk : ∀ s, p (k s) = p s) : p (s.regAccess who off write k) = p s := by
  unfold State.regAccess
  refine State.guarded_proj p s who _ write _ hs fun s => ?_
  (repeat' split) <;> simp [*]

@[simp ↓] theorem fltWrite_keeps (o : Nat) (v : Word) (s : State) :
    (fltWrite o v s).ident = s.ident ∧ (fltWrite o v s).tick = s.tick ∧ (fltWrite o v s).world = s.world ∧ (fltWrite o v s).aster = s.aster ∧ (fltWrite o v s).lupin = s.lupin ∧ (fltWrite o v s).harebell = s.harebell ∧ (fltWrite o v s).cornflower = s.cornflower ∧ (fltWrite o v s).poppy = s.poppy ∧ (fltWrite o v s).vetch = s.vetch ∧ (fltWrite o v s).commit = s.commit ∧ (fltWrite o v s).zheda = s.zheda ∧ (fltWrite o v s).teasel = s.teasel ∧ (fltWrite o v s).bindweed = s.bindweed ∧ (fltWrite o v s).cowslip = s.cowslip ∧ (fltWrite o v s).cmd = s.cmd ∧ (fltWrite o v s).mem = s.mem ∧ (fltWrite o v s).host = s.host ∧ (fltWrite o v s).sec = s.sec ∧ (fltWrite o v s).casc = s.casc ∧ (fltWrite o v s).now = s.now ∧ (fltWrite o v s).rdata = s.rdata ∧ (fltWrite o v s).freeIx = s.freeIx ∧ (fltWrite o v s).pending = s.pending := by
  unfold fltWrite
  (repeat' split) <;> simp

@[simp ↓] theorem sysWrite_keeps (o : Nat) (v : Word) (s : State) :
    (sysWrite o v s).ident = s.ident ∧ (sysWrite o v s).aster = s.aster ∧ (sysWrite o v s).lupin = s.lupin ∧ (sysWrite o v s).harebell = s.harebell ∧ (sysWrite o v s).cornflower = s.cornflower ∧ (sysWrite o v s).poppy = s.poppy ∧ (sysWrite o v s).vetch = s.vetch ∧ (sysWrite o v s).commit = s.commit ∧ (sysWrite o v s).teasel = s.teasel ∧ (sysWrite o v s).bindweed = s.bindweed ∧ (sysWrite o v s).cowslip = s.cowslip ∧ (sysWrite o v s).mem = s.mem ∧ (sysWrite o v s).host = s.host ∧ (sysWrite o v s).sec = s.sec ∧ (sysWrite o v s).casc = s.casc ∧ (sysWrite o v s).now = s.now ∧ (sysWrite o v s).rdata = s.rdata ∧ (sysWrite o v s).freeIx = s.freeIx ∧ (sysWrite o v s).pending = s.pending := by
  simp [sysWrite]

@[simp ↓] theorem memWrite_keeps (o : Nat) (v : Word) (m : MemorySt) :
    (memWrite o v m).ddr = m.ddr ∧ (memWrite o v m).sram = m.sram := by
  unfold memWrite
  (repeat' split) <;> simp

@[simp ↓] theorem ethWrite_keeps (o : Nat) (v : Word) (s : State) :
    (ethWrite o v s).ident = s.ident ∧ (ethWrite o v s).tick = s.tick ∧ (ethWrite o v s).world = s.world ∧ (ethWrite o v s).aster = s.aster ∧ (ethWrite o v s).lupin = s.lupin ∧ (ethWrite o v s).harebell = s.harebell ∧ (ethWrite o v s).cornflower = s.cornflower ∧ (ethWrite o v s).poppy = s.poppy ∧ (ethWrite o v s).vetch = s.vetch ∧ (ethWrite o v s).commit = s.commit ∧ (ethWrite o v s).zheda = s.zheda ∧ (ethWrite o v s).teasel = s.teasel ∧ (ethWrite o v s).bindweed = s.bindweed ∧ (ethWrite o v s).cowslip = s.cowslip ∧ (ethWrite o v s).cmd = s.cmd ∧ (ethWrite o v s).safety = s.safety ∧ (ethWrite o v s).mem = s.mem ∧ (ethWrite o v s).clock = s.clock ∧ (ethWrite o v s).sec = s.sec ∧ (ethWrite o v s).casc = s.casc ∧ (ethWrite o v s).now = s.now ∧ (ethWrite o v s).rdata = s.rdata ∧ (ethWrite o v s).freeIx = s.freeIx ∧ (ethWrite o v s).pending = s.pending := by
  simp [ethWrite]

@[simp ↓] theorem usbWrite_keeps (o : Nat) (v : Word) (s : State) :
    (usbWrite o v s).ident = s.ident ∧ (usbWrite o v s).tick = s.tick ∧ (usbWrite o v s).world = s.world ∧ (usbWrite o v s).aster = s.aster ∧ (usbWrite o v s).lupin = s.lupin ∧ (usbWrite o v s).harebell = s.harebell ∧ (usbWrite o v s).cornflower = s.cornflower ∧ (usbWrite o v s).poppy = s.poppy ∧ (usbWrite o v s).vetch = s.vetch ∧ (usbWrite o v s).commit = s.commit ∧ (usbWrite o v s).zheda = s.zheda ∧ (usbWrite o v s).teasel = s.teasel ∧ (usbWrite o v s).bindweed = s.bindweed ∧ (usbWrite o v s).cowslip = s.cowslip ∧ (usbWrite o v s).cmd = s.cmd ∧ (usbWrite o v s).safety = s.safety ∧ (usbWrite o v s).mem = s.mem ∧ (usbWrite o v s).clock = s.clock ∧ (usbWrite o v s).sec = s.sec ∧ (usbWrite o v s).casc = s.casc ∧ (usbWrite o v s).now = s.now ∧ (usbWrite o v s).rdata = s.rdata ∧ (usbWrite o v s).freeIx = s.freeIx ∧ (usbWrite o v s).pending = s.pending := by
  unfold usbWrite
  (repeat' split) <;> simp

@[simp ↓] theorem State.plainWrite_keeps (s : State) (off : Nat) (who : Master) (v : Word) :
    (State.plainWrite s off who v).ident = s.ident ∧ (State.plainWrite s off who v).sec = s.sec ∧ (State.plainWrite s off who v).now = s.now ∧ (State.plainWrite s off who v).rdata = s.rdata ∧ (State.plainWrite s off who v).freeIx = s.freeIx ∧ (State.plainWrite s off who v).pending = s.pending ∧ (State.plainWrite s off who v).mem.ddr = s.mem.ddr ∧ (State.plainWrite s off who v).mem.sram = s.mem.sram := by
  have aux : ∀ (f : BindweedSt → BindweedSt), (if 0x200000 ≤ off ∧ off < 0x300000 then s.onBindweed f else s).ident = s.ident ∧ (if 0x200000 ≤ off ∧ off < 0x300000 then s.onBindweed f else s).sec = s.sec ∧ (if 0x200000 ≤ off ∧ off < 0x300000 then s.onBindweed f else s).now = s.now ∧ (if 0x200000 ≤ off ∧ off < 0x300000 then s.onBindweed f else s).rdata = s.rdata ∧ (if 0x200000 ≤ off ∧ off < 0x300000 then s.onBindweed f else s).freeIx = s.freeIx ∧ (if 0x200000 ≤ off ∧ off < 0x300000 then s.onBindweed f else s).pending = s.pending ∧ (if 0x200000 ≤ off ∧ off < 0x300000 then s.onBindweed f else s).mem.ddr = s.mem.ddr ∧ (if 0x200000 ≤ off ∧ off < 0x300000 then s.onBindweed f else s).mem.sram = s.mem.sram := by
    intro f; split <;> simp
  unfold State.plainWrite
  dsimp only
  generalize off / 0x10000 = b
  iterate 22 (rcases b with _ | b; · simp)
  exact aux _

@[simp ↓] theorem counterLoReadEffect_keeps (off : Nat) (s : State) :
    (counterLoReadEffect off s).ident = s.ident ∧ (counterLoReadEffect off s).cornflower = s.cornflower ∧ (counterLoReadEffect off s).sec = s.sec ∧ (counterLoReadEffect off s).now = s.now ∧ (counterLoReadEffect off s).pending = s.pending ∧ (counterLoReadEffect off s).mem.ddr = s.mem.ddr ∧ (counterLoReadEffect off s).mem.sram = s.mem.sram := by
  unfold counterLoReadEffect
  refine ⟨?_, ?_, ?_, ?_, ?_, ?_, ?_⟩ <;>
  · first | with_reducible apply State.regAccess_proj | with_reducible apply State.regAccess_proj (fun s => s.mem.ddr) | with_reducible apply State.regAccess_proj (fun s => s.mem.sram)
    · intros; simp
    · intros; simp
    · intros; simp
    · intro u
      split
      · next h => simp [State.cntAt_put _ _ _ _ h]
      · simp

@[simp ↓] theorem latchingLoReadEffect_keeps (off time : Nat) (s : State) :
    (latchingLoReadEffect off time s).ident = s.ident ∧ (latchingLoReadEffect off time s).aster = s.aster ∧ (latchingLoReadEffect off time s).lupin = s.lupin ∧ (latchingLoReadEffect off time s).harebell = s.harebell ∧ (latchingLoReadEffect off time s).poppy = s.poppy ∧ (latchingLoReadEffect off time s).vetch = s.vetch ∧ (latchingLoReadEffect off time s).bindweed = s.bindweed ∧ (latchingLoReadEffect off time s).cowslip = s.cowslip ∧ (latchingLoReadEffect off time s).casc = s.casc ∧ (latchingLoReadEffect off time s).pending = s.pending ∧ (latchingLoReadEffect off time s).sec.fuses = s.sec.fuses ∧ (latchingLoReadEffect off time s).mem.ddr = s.mem.ddr ∧ (latchingLoReadEffect off time s).mem.sram = s.mem.sram := by
  unfold latchingLoReadEffect
  refine ⟨?_, ?_, ?_, ?_, ?_, ?_, ?_, ?_, ?_, ?_, ?_, ?_, ?_⟩ <;>
    · first | with_reducible refine Eq.trans (State.regAccess_proj _ _ _ _ _ _ ?_ ?_ ?_ ?_) ?_ | with_reducible refine Eq.trans (State.regAccess_proj (fun s => s.sec.fuses) _ _ _ _ _ ?_ ?_ ?_ ?_) ?_ | with_reducible refine Eq.trans (State.regAccess_proj (fun s => s.mem.ddr) _ _ _ _ _ ?_ ?_ ?_ ?_) ?_ | with_reducible refine Eq.trans (State.regAccess_proj (fun s => s.mem.sram) _ _ _ _ _ ?_ ?_ ?_ ?_) ?_
      · intros; simp
      · intros; simp
      · intros; simp
      · intro u
        split
        · next h => simp [State.pairAt_put _ _ _ _ _ h]
        · simp
      · simp

@[simp ↓] theorem tempPeakReadEffect_keeps (s : State) :
    (tempPeakReadEffect s).ident = s.ident ∧ (tempPeakReadEffect s).tick = s.tick ∧ (tempPeakReadEffect s).world = s.world ∧ (tempPeakReadEffect s).aster = s.aster ∧ (tempPeakReadEffect s).lupin = s.lupin ∧ (tempPeakReadEffect s).harebell = s.harebell ∧ (tempPeakReadEffect s).cornflower = s.cornflower ∧ (tempPeakReadEffect s).poppy = s.poppy ∧ (tempPeakReadEffect s).vetch = s.vetch ∧ (tempPeakReadEffect s).zheda = s.zheda ∧ (tempPeakReadEffect s).teasel = s.teasel ∧ (tempPeakReadEffect s).bindweed = s.bindweed ∧ (tempPeakReadEffect s).cowslip = s.cowslip ∧ (tempPeakReadEffect s).cmd = s.cmd ∧ (tempPeakReadEffect s).mem = s.mem ∧ (tempPeakReadEffect s).sec = s.sec ∧ (tempPeakReadEffect s).casc = s.casc ∧ (tempPeakReadEffect s).now = s.now ∧ (tempPeakReadEffect s).pending = s.pending := by
  unfold tempPeakReadEffect
  refine ⟨?_, ?_, ?_, ?_, ?_, ?_, ?_, ?_, ?_, ?_, ?_, ?_, ?_, ?_, ?_, ?_, ?_, ?_, ?_⟩ <;> (repeat' (first | with_reducible rfl | (simp; done) | (with_reducible intro _) | (with_reducible apply State.item_proj) | (with_reducible apply State.guarded_proj) | (with_reducible apply State.counterOp_proj) | (with_reducible apply State.regAccess_proj) | (with_reducible apply State.packet_proj) | (with_reducible apply State.cfgPacket_proj) | (with_reducible refine Eq.trans (foldl_proj _ _ _ _ ?_) ?_) | (with_reducible refine Eq.trans (foldl_fst_proj _ _ _ _ ?_) ?_) | (with_reducible refine Eq.trans (foldl_snd_proj _ _ _ _ ?_) ?_) | split | (simp only []; split) | (dsimp only; split)))

@[simp ↓] theorem ctgPeekSelectEffect_keeps (slot : Nat) (val : Word) (s : State) :
    (ctgPeekSelectEffect slot val s).ident = s.ident ∧ (ctgPeekSelectEffect slot val s).tick = s.tick ∧ (ctgPeekSelectEffect slot val s).world = s.world ∧ (ctgPeekSelectEffect slot val s).aster = s.aster ∧ (ctgPeekSelectEffect slot val s).lupin = s.lupin ∧ (ctgPeekSelectEffect slot val s).harebell = s.harebell ∧ (ctgPeekSelectEffect slot val s).poppy = s.poppy ∧ (ctgPeekSelectEffect slot val s).vetch = s.vetch ∧ (ctgPeekSelectEffect slot val s).commit = s.commit ∧ (ctgPeekSelectEffect slot val s).zheda = s.zheda ∧ (ctgPeekSelectEffect slot val s).teasel = s.teasel ∧ (ctgPeekSelectEffect slot val s).bindweed = s.bindweed ∧ (ctgPeekSelectEffect slot val s).cowslip = s.cowslip ∧ (ctgPeekSelectEffect slot val s).cmd = s.cmd ∧ (ctgPeekSelectEffect slot val s).safety = s.safety ∧ (ctgPeekSelectEffect slot val s).mem = s.mem ∧ (ctgPeekSelectEffect slot val s).clock = s.clock ∧ (ctgPeekSelectEffect slot val s).host = s.host ∧ (ctgPeekSelectEffect slot val s).sec = s.sec ∧ (ctgPeekSelectEffect slot val s).casc = s.casc ∧ (ctgPeekSelectEffect slot val s).now = s.now ∧ (ctgPeekSelectEffect slot val s).rdata = s.rdata ∧ (ctgPeekSelectEffect slot val s).freeIx = s.freeIx ∧ (ctgPeekSelectEffect slot val s).pending = s.pending := by
  simp [ctgPeekSelectEffect]

@[simp ↓] theorem flowRecordSelectEffect_keeps (val : Word) (s : State) :
    (flowRecordSelectEffect val s).ident = s.ident ∧ (flowRecordSelectEffect val s).tick = s.tick ∧ (flowRecordSelectEffect val s).world = s.world ∧ (flowRecordSelectEffect val s).aster = s.aster ∧ (flowRecordSelectEffect val s).lupin = s.lupin ∧ (flowRecordSelectEffect val s).harebell = s.harebell ∧ (flowRecordSelectEffect val s).cornflower = s.cornflower ∧ (flowRecordSelectEffect val s).poppy = s.poppy ∧ (flowRecordSelectEffect val s).vetch = s.vetch ∧ (flowRecordSelectEffect val s).commit = s.commit ∧ (flowRecordSelectEffect val s).zheda = s.zheda ∧ (flowRecordSelectEffect val s).bindweed = s.bindweed ∧ (flowRecordSelectEffect val s).cowslip = s.cowslip ∧ (flowRecordSelectEffect val s).cmd = s.cmd ∧ (flowRecordSelectEffect val s).safety = s.safety ∧ (flowRecordSelectEffect val s).mem = s.mem ∧ (flowRecordSelectEffect val s).clock = s.clock ∧ (flowRecordSelectEffect val s).host = s.host ∧ (flowRecordSelectEffect val s).sec = s.sec ∧ (flowRecordSelectEffect val s).casc = s.casc ∧ (flowRecordSelectEffect val s).now = s.now ∧ (flowRecordSelectEffect val s).rdata = s.rdata ∧ (flowRecordSelectEffect val s).freeIx = s.freeIx ∧ (flowRecordSelectEffect val s).pending = s.pending := by
  simp [flowRecordSelectEffect]

@[simp ↓] theorem ledgerSelectEffect_keeps (val : Word) (s : State) :
    (ledgerSelectEffect val s).ident = s.ident ∧ (ledgerSelectEffect val s).tick = s.tick ∧ (ledgerSelectEffect val s).world = s.world ∧ (ledgerSelectEffect val s).aster = s.aster ∧ (ledgerSelectEffect val s).lupin = s.lupin ∧ (ledgerSelectEffect val s).harebell = s.harebell ∧ (ledgerSelectEffect val s).cornflower = s.cornflower ∧ (ledgerSelectEffect val s).poppy = s.poppy ∧ (ledgerSelectEffect val s).vetch = s.vetch ∧ (ledgerSelectEffect val s).commit = s.commit ∧ (ledgerSelectEffect val s).zheda = s.zheda ∧ (ledgerSelectEffect val s).teasel = s.teasel ∧ (ledgerSelectEffect val s).bindweed = s.bindweed ∧ (ledgerSelectEffect val s).cowslip = s.cowslip ∧ (ledgerSelectEffect val s).cmd = s.cmd ∧ (ledgerSelectEffect val s).mem = s.mem ∧ (ledgerSelectEffect val s).clock = s.clock ∧ (ledgerSelectEffect val s).host = s.host ∧ (ledgerSelectEffect val s).sec = s.sec ∧ (ledgerSelectEffect val s).casc = s.casc ∧ (ledgerSelectEffect val s).now = s.now ∧ (ledgerSelectEffect val s).rdata = s.rdata ∧ (ledgerSelectEffect val s).freeIx = s.freeIx ∧ (ledgerSelectEffect val s).pending = s.pending := by
  simp [ledgerSelectEffect]

@[simp ↓] theorem nopEffect_keeps (h : Hdr) (s : State) :
    (nopEffect h s).ident = s.ident ∧ (nopEffect h s).tick = s.tick ∧ (nopEffect h s).world = s.world ∧ (nopEffect h s).aster = s.aster ∧ (nopEffect h s).lupin = s.lupin ∧ (nopEffect h s).harebell = s.harebell ∧ (nopEffect h s).cornflower = s.cornflower ∧ (nopEffect h s).poppy = s.poppy ∧ (nopEffect h s).vetch = s.vetch ∧ (nopEffect h s).commit = s.commit ∧ (nopEffect h s).zheda = s.zheda ∧ (nopEffect h s).teasel = s.teasel ∧ (nopEffect h s).bindweed = s.bindweed ∧ (nopEffect h s).safety = s.safety ∧ (nopEffect h s).mem = s.mem ∧ (nopEffect h s).clock = s.clock ∧ (nopEffect h s).sec = s.sec ∧ (nopEffect h s).casc = s.casc ∧ (nopEffect h s).now = s.now ∧ (nopEffect h s).rdata = s.rdata ∧ (nopEffect h s).freeIx = s.freeIx ∧ (nopEffect h s).pending = s.pending := by
  unfold nopEffect
  refine ⟨?_, ?_, ?_, ?_, ?_, ?_, ?_, ?_, ?_, ?_, ?_, ?_, ?_, ?_, ?_, ?_, ?_, ?_, ?_, ?_, ?_, ?_⟩ <;> (repeat' (first | with_reducible rfl | (simp; done) | (with_reducible intro _) | (with_reducible apply State.item_proj) | (with_reducible apply State.guarded_proj) | (with_reducible apply State.counterOp_proj) | (with_reducible apply State.regAccess_proj) | (with_reducible apply State.packet_proj) | (with_reducible apply State.cfgPacket_proj) | (with_reducible refine Eq.trans (foldl_proj _ _ _ _ ?_) ?_) | (with_reducible refine Eq.trans (foldl_fst_proj _ _ _ _ ?_) ?_) | (with_reducible refine Eq.trans (foldl_snd_proj _ _ _ _ ?_) ?_) | split | (simp only []; split) | (dsimp only; split)))

@[simp ↓] theorem devInfoEffect_keeps (h : Hdr) (raddr : Nat) (s : State) :
    (devInfoEffect h raddr s).ident = s.ident ∧ (devInfoEffect h raddr s).tick = s.tick ∧ (devInfoEffect h raddr s).world = s.world ∧ (devInfoEffect h raddr s).aster = s.aster ∧ (devInfoEffect h raddr s).lupin = s.lupin ∧ (devInfoEffect h raddr s).harebell = s.harebell ∧ (devInfoEffect h raddr s).cornflower = s.cornflower ∧ (devInfoEffect h raddr s).poppy = s.poppy ∧ (devInfoEffect h raddr s).vetch = s.vetch ∧ (devInfoEffect h raddr s).commit = s.commit ∧ (devInfoEffect h raddr s).zheda = s.zheda ∧ (devInfoEffect h raddr s).teasel = s.teasel ∧ (devInfoEffect h raddr s).bindweed = s.bindweed ∧ (devInfoEffect h raddr s).safety = s.safety ∧ (devInfoEffect h raddr s).mem = s.mem ∧ (devInfoEffect h raddr s).clock = s.clock ∧ (devInfoEffect h raddr s).sec = s.sec ∧ (devInfoEffect h raddr s).casc = s.casc ∧ (devInfoEffect h raddr s).now = s.now ∧ (devInfoEffect h raddr s).rdata = s.rdata ∧ (devInfoEffect h raddr s).freeIx = s.freeIx ∧ (devInfoEffect h raddr s).pending = s.pending := by
  unfold devInfoEffect
  refine ⟨?_, ?_, ?_, ?_, ?_, ?_, ?_, ?_, ?_, ?_, ?_, ?_, ?_, ?_, ?_, ?_, ?_, ?_, ?_, ?_, ?_, ?_⟩ <;> (repeat' (first | with_reducible rfl | (simp; done) | (with_reducible intro _) | (with_reducible apply State.item_proj) | (with_reducible apply State.guarded_proj) | (with_reducible apply State.counterOp_proj) | (with_reducible apply State.regAccess_proj) | (with_reducible apply State.packet_proj) | (with_reducible apply State.cfgPacket_proj) | (with_reducible refine Eq.trans (foldl_proj _ _ _ _ ?_) ?_) | (with_reducible refine Eq.trans (foldl_fst_proj _ _ _ _ ?_) ?_) | (with_reducible refine Eq.trans (foldl_snd_proj _ _ _ _ ?_) ?_) | split | (simp only []; split) | (dsimp only; split)))

@[simp ↓] theorem devStatusEffect_keeps (h : Hdr) (s : State) :
    (devStatusEffect h s).ident = s.ident ∧ (devStatusEffect h s).tick = s.tick ∧ (devStatusEffect h s).world = s.world ∧ (devStatusEffect h s).aster = s.aster ∧ (devStatusEffect h s).lupin = s.lupin ∧ (devStatusEffect h s).harebell = s.harebell ∧ (devStatusEffect h s).cornflower = s.cornflower ∧ (devStatusEffect h s).poppy = s.poppy ∧ (devStatusEffect h s).vetch = s.vetch ∧ (devStatusEffect h s).commit = s.commit ∧ (devStatusEffect h s).zheda = s.zheda ∧ (devStatusEffect h s).teasel = s.teasel ∧ (devStatusEffect h s).bindweed = s.bindweed ∧ (devStatusEffect h s).safety = s.safety ∧ (devStatusEffect h s).mem = s.mem ∧ (devStatusEffect h s).clock = s.clock ∧ (devStatusEffect h s).sec = s.sec ∧ (devStatusEffect h s).casc = s.casc ∧ (devStatusEffect h s).now = s.now ∧ (devStatusEffect h s).rdata = s.rdata ∧ (devStatusEffect h s).freeIx = s.freeIx ∧ (devStatusEffect h s).pending = s.pending := by
  unfold devStatusEffect
  refine ⟨?_, ?_, ?_, ?_, ?_, ?_, ?_, ?_, ?_, ?_, ?_, ?_, ?_, ?_, ?_, ?_, ?_, ?_, ?_, ?_, ?_, ?_⟩ <;> (repeat' (first | with_reducible rfl | (simp; done) | (with_reducible intro _) | (with_reducible apply State.item_proj) | (with_reducible apply State.guarded_proj) | (with_reducible apply State.counterOp_proj) | (with_reducible apply State.regAccess_proj) | (with_reducible apply State.packet_proj) | (with_reducible apply State.cfgPacket_proj) | (with_reducible refine Eq.trans (foldl_proj _ _ _ _ ?_) ?_) | (with_reducible refine Eq.trans (foldl_fst_proj _ _ _ _ ?_) ?_) | (with_reducible refine Eq.trans (foldl_snd_proj _ _ _ _ ?_) ?_) | split | (simp only []; split) | (dsimp only; split)))

@[simp ↓] theorem devFaultLogEffect_keeps (h : Hdr) (first : Word) (count raddr : Nat) (s : State) :
    (devFaultLogEffect h first count raddr s).ident = s.ident ∧ (devFaultLogEffect h first count raddr s).tick = s.tick ∧ (devFaultLogEffect h first count raddr s).world = s.world ∧ (devFaultLogEffect h first count raddr s).aster = s.aster ∧ (devFaultLogEffect h first count raddr s).lupin = s.lupin ∧ (devFaultLogEffect h first count raddr s).harebell = s.harebell ∧ (devFaultLogEffect h first count raddr s).cornflower = s.cornflower ∧ (devFaultLogEffect h first count raddr s).poppy = s.poppy ∧ (devFaultLogEffect h first count raddr s).vetch = s.vetch ∧ (devFaultLogEffect h first count raddr s).commit = s.commit ∧ (devFaultLogEffect h first count raddr s).zheda = s.zheda ∧ (devFaultLogEffect h first count raddr s).teasel = s.teasel ∧ (devFaultLogEffect h first count raddr s).bindweed = s.bindweed ∧ (devFaultLogEffect h first count raddr s).safety = s.safety ∧ (devFaultLogEffect h first count raddr s).mem = s.mem ∧ (devFaultLogEffect h first count raddr s).clock = s.clock ∧ (devFaultLogEffect h first count raddr s).sec = s.sec ∧ (devFaultLogEffect h first count raddr s).casc = s.casc ∧ (devFaultLogEffect h first count raddr s).now = s.now ∧ (devFaultLogEffect h first count raddr s).rdata = s.rdata ∧ (devFaultLogEffect h first count raddr s).freeIx = s.freeIx ∧ (devFaultLogEffect h first count raddr s).pending = s.pending := by
  unfold devFaultLogEffect
  refine ⟨?_, ?_, ?_, ?_, ?_, ?_, ?_, ?_, ?_, ?_, ?_, ?_, ?_, ?_, ?_, ?_, ?_, ?_, ?_, ?_, ?_, ?_⟩ <;> (repeat' (first | with_reducible rfl | (simp; done) | (with_reducible intro _) | (with_reducible apply State.item_proj) | (with_reducible apply State.guarded_proj) | (with_reducible apply State.counterOp_proj) | (with_reducible apply State.regAccess_proj) | (with_reducible apply State.packet_proj) | (with_reducible apply State.cfgPacket_proj) | (with_reducible refine Eq.trans (foldl_proj _ _ _ _ ?_) ?_) | (with_reducible refine Eq.trans (foldl_fst_proj _ _ _ _ ?_) ?_) | (with_reducible refine Eq.trans (foldl_snd_proj _ _ _ _ ?_) ?_) | split | (simp only []; split) | (dsimp only; split)))

@[simp ↓] theorem diagReadEffect_keeps (h : Hdr) (addr len raddr : Nat) (s : State) :
    (diagReadEffect h addr len raddr s).ident = s.ident ∧ (diagReadEffect h addr len raddr s).tick = s.tick ∧ (diagReadEffect h addr len raddr s).world = s.world ∧ (diagReadEffect h addr len raddr s).aster = s.aster ∧ (diagReadEffect h addr len raddr s).lupin = s.lupin ∧ (diagReadEffect h addr len raddr s).harebell = s.harebell ∧ (diagReadEffect h addr len raddr s).cornflower = s.cornflower ∧ (diagReadEffect h addr len raddr s).poppy = s.poppy ∧ (diagReadEffect h addr len raddr s).vetch = s.vetch ∧ (diagReadEffect h addr len raddr s).commit = s.commit ∧ (diagReadEffect h addr len raddr s).zheda = s.zheda ∧ (diagReadEffect h addr len raddr s).teasel = s.teasel ∧ (diagReadEffect h addr len raddr s).bindweed = s.bindweed ∧ (diagReadEffect h addr len raddr s).safety = s.safety ∧ (diagReadEffect h addr len raddr s).mem = s.mem ∧ (diagReadEffect h addr len raddr s).clock = s.clock ∧ (diagReadEffect h addr len raddr s).sec = s.sec ∧ (diagReadEffect h addr len raddr s).casc = s.casc ∧ (diagReadEffect h addr len raddr s).now = s.now ∧ (diagReadEffect h addr len raddr s).rdata = s.rdata ∧ (diagReadEffect h addr len raddr s).freeIx = s.freeIx ∧ (diagReadEffect h addr len raddr s).pending = s.pending := by
  unfold diagReadEffect
  refine ⟨?_, ?_, ?_, ?_, ?_, ?_, ?_, ?_, ?_, ?_, ?_, ?_, ?_, ?_, ?_, ?_, ?_, ?_, ?_, ?_, ?_, ?_⟩ <;> (repeat' (first | with_reducible rfl | (simp; done) | (with_reducible intro _) | (with_reducible apply State.item_proj) | (with_reducible apply State.guarded_proj) | (with_reducible apply State.counterOp_proj) | (with_reducible apply State.regAccess_proj) | (with_reducible apply State.packet_proj) | (with_reducible apply State.cfgPacket_proj) | (with_reducible refine Eq.trans (foldl_proj _ _ _ _ ?_) ?_) | (with_reducible refine Eq.trans (foldl_fst_proj _ _ _ _ ?_) ?_) | (with_reducible refine Eq.trans (foldl_snd_proj _ _ _ _ ?_) ?_) | split | (simp only []; split) | (dsimp only; split)))

@[simp ↓] theorem diagInjectEffect_keeps (h : Hdr) (target inst kind tick arg : Nat) (s : State) :
    (diagInjectEffect h target inst kind tick arg s).ident = s.ident ∧ (diagInjectEffect h target inst kind tick arg s).tick = s.tick ∧ (diagInjectEffect h target inst kind tick arg s).world = s.world ∧ (diagInjectEffect h target inst kind tick arg s).aster = s.aster ∧ (diagInjectEffect h target inst kind tick arg s).lupin = s.lupin ∧ (diagInjectEffect h target inst kind tick arg s).harebell = s.harebell ∧ (diagInjectEffect h target inst kind tick arg s).cornflower = s.cornflower ∧ (diagInjectEffect h target inst kind tick arg s).poppy = s.poppy ∧ (diagInjectEffect h target inst kind tick arg s).vetch = s.vetch ∧ (diagInjectEffect h target inst kind tick arg s).commit = s.commit ∧ (diagInjectEffect h target inst kind tick arg s).zheda = s.zheda ∧ (diagInjectEffect h target inst kind tick arg s).teasel = s.teasel ∧ (diagInjectEffect h target inst kind tick arg s).bindweed = s.bindweed ∧ (diagInjectEffect h target inst kind tick arg s).mem = s.mem ∧ (diagInjectEffect h target inst kind tick arg s).clock = s.clock ∧ (diagInjectEffect h target inst kind tick arg s).sec = s.sec ∧ (diagInjectEffect h target inst kind tick arg s).casc = s.casc ∧ (diagInjectEffect h target inst kind tick arg s).now = s.now ∧ (diagInjectEffect h target inst kind tick arg s).rdata = s.rdata ∧ (diagInjectEffect h target inst kind tick arg s).freeIx = s.freeIx ∧ (diagInjectEffect h target inst kind tick arg s).pending = s.pending := by
  unfold diagInjectEffect
  refine ⟨?_, ?_, ?_, ?_, ?_, ?_, ?_, ?_, ?_, ?_, ?_, ?_, ?_, ?_, ?_, ?_, ?_, ?_, ?_, ?_, ?_⟩ <;> (repeat' (first | with_reducible rfl | (simp; done) | (with_reducible intro _) | (with_reducible apply State.item_proj) | (with_reducible apply State.guarded_proj) | (with_reducible apply State.counterOp_proj) | (with_reducible apply State.regAccess_proj) | (with_reducible apply State.packet_proj) | (with_reducible apply State.cfgPacket_proj) | (with_reducible refine Eq.trans (foldl_proj _ _ _ _ ?_) ?_) | (with_reducible refine Eq.trans (foldl_fst_proj _ _ _ _ ?_) ?_) | (with_reducible refine Eq.trans (foldl_snd_proj _ _ _ _ ?_) ?_) | split | (simp only []; split) | (dsimp only; split)))

@[simp ↓] theorem cascStatusEffect_keeps (h : Hdr) (s : State) :
    (cascStatusEffect h s).ident = s.ident ∧ (cascStatusEffect h s).tick = s.tick ∧ (cascStatusEffect h s).world = s.world ∧ (cascStatusEffect h s).aster = s.aster ∧ (cascStatusEffect h s).lupin = s.lupin ∧ (cascStatusEffect h s).harebell = s.harebell ∧ (cascStatusEffect h s).cornflower = s.cornflower ∧ (cascStatusEffect h s).poppy = s.poppy ∧ (cascStatusEffect h s).vetch = s.vetch ∧ (cascStatusEffect h s).commit = s.commit ∧ (cascStatusEffect h s).zheda = s.zheda ∧ (cascStatusEffect h s).teasel = s.teasel ∧ (cascStatusEffect h s).bindweed = s.bindweed ∧ (cascStatusEffect h s).safety = s.safety ∧ (cascStatusEffect h s).mem = s.mem ∧ (cascStatusEffect h s).clock = s.clock ∧ (cascStatusEffect h s).sec = s.sec ∧ (cascStatusEffect h s).casc = s.casc ∧ (cascStatusEffect h s).now = s.now ∧ (cascStatusEffect h s).rdata = s.rdata ∧ (cascStatusEffect h s).freeIx = s.freeIx ∧ (cascStatusEffect h s).pending = s.pending := by
  unfold cascStatusEffect
  refine ⟨?_, ?_, ?_, ?_, ?_, ?_, ?_, ?_, ?_, ?_, ?_, ?_, ?_, ?_, ?_, ?_, ?_, ?_, ?_, ?_, ?_, ?_⟩ <;> (repeat' (first | with_reducible rfl | (simp; done) | (with_reducible intro _) | (with_reducible apply State.item_proj) | (with_reducible apply State.guarded_proj) | (with_reducible apply State.counterOp_proj) | (with_reducible apply State.regAccess_proj) | (with_reducible apply State.packet_proj) | (with_reducible apply State.cfgPacket_proj) | (with_reducible refine Eq.trans (foldl_proj _ _ _ _ ?_) ?_) | (with_reducible refine Eq.trans (foldl_fst_proj _ _ _ _ ?_) ?_) | (with_reducible refine Eq.trans (foldl_snd_proj _ _ _ _ ?_) ?_) | split | (simp only []; split) | (dsimp only; split)))

@[simp ↓] theorem cascMemberRemoveEffect_keeps (h : Hdr) (p : Nat) (s : State) :
    (cascMemberRemoveEffect h p s).ident = s.ident ∧ (cascMemberRemoveEffect h p s).tick = s.tick ∧ (cascMemberRemoveEffect h p s).world = s.world ∧ (cascMemberRemoveEffect h p s).aster = s.aster ∧ (cascMemberRemoveEffect h p s).lupin = s.lupin ∧ (cascMemberRemoveEffect h p s).harebell = s.harebell ∧ (cascMemberRemoveEffect h p s).cornflower = s.cornflower ∧ (cascMemberRemoveEffect h p s).poppy = s.poppy ∧ (cascMemberRemoveEffect h p s).vetch = s.vetch ∧ (cascMemberRemoveEffect h p s).commit = s.commit ∧ (cascMemberRemoveEffect h p s).zheda = s.zheda ∧ (cascMemberRemoveEffect h p s).teasel = s.teasel ∧ (cascMemberRemoveEffect h p s).bindweed = s.bindweed ∧ (cascMemberRemoveEffect h p s).safety = s.safety ∧ (cascMemberRemoveEffect h p s).mem = s.mem ∧ (cascMemberRemoveEffect h p s).clock = s.clock ∧ (cascMemberRemoveEffect h p s).sec = s.sec ∧ (cascMemberRemoveEffect h p s).now = s.now ∧ (cascMemberRemoveEffect h p s).rdata = s.rdata ∧ (cascMemberRemoveEffect h p s).freeIx = s.freeIx ∧ (cascMemberRemoveEffect h p s).pending = s.pending := by
  unfold cascMemberRemoveEffect
  refine ⟨?_, ?_, ?_, ?_, ?_, ?_, ?_, ?_, ?_, ?_, ?_, ?_, ?_, ?_, ?_, ?_, ?_, ?_, ?_, ?_, ?_⟩ <;> (repeat' (first | with_reducible rfl | (simp; done) | (with_reducible intro _) | (with_reducible apply State.item_proj) | (with_reducible apply State.guarded_proj) | (with_reducible apply State.counterOp_proj) | (with_reducible apply State.regAccess_proj) | (with_reducible apply State.packet_proj) | (with_reducible apply State.cfgPacket_proj) | (with_reducible refine Eq.trans (foldl_proj _ _ _ _ ?_) ?_) | (with_reducible refine Eq.trans (foldl_fst_proj _ _ _ _ ?_) ?_) | (with_reducible refine Eq.trans (foldl_snd_proj _ _ _ _ ?_) ?_) | split | (simp only []; split) | (dsimp only; split)))

@[simp ↓] theorem cascMemberAddEffect_keeps (h : Hdr) (p : Nat) (s : State) :
    (cascMemberAddEffect h p s).ident = s.ident ∧ (cascMemberAddEffect h p s).tick = s.tick ∧ (cascMemberAddEffect h p s).world = s.world ∧ (cascMemberAddEffect h p s).aster = s.aster ∧ (cascMemberAddEffect h p s).lupin = s.lupin ∧ (cascMemberAddEffect h p s).harebell = s.harebell ∧ (cascMemberAddEffect h p s).cornflower = s.cornflower ∧ (cascMemberAddEffect h p s).poppy = s.poppy ∧ (cascMemberAddEffect h p s).vetch = s.vetch ∧ (cascMemberAddEffect h p s).commit = s.commit ∧ (cascMemberAddEffect h p s).zheda = s.zheda ∧ (cascMemberAddEffect h p s).teasel = s.teasel ∧ (cascMemberAddEffect h p s).bindweed = s.bindweed ∧ (cascMemberAddEffect h p s).safety = s.safety ∧ (cascMemberAddEffect h p s).mem = s.mem ∧ (cascMemberAddEffect h p s).clock = s.clock ∧ (cascMemberAddEffect h p s).sec = s.sec ∧ (cascMemberAddEffect h p s).now = s.now ∧ (cascMemberAddEffect h p s).rdata = s.rdata ∧ (cascMemberAddEffect h p s).freeIx = s.freeIx ∧ (cascMemberAddEffect h p s).pending = s.pending := by
  unfold cascMemberAddEffect
  refine ⟨?_, ?_, ?_, ?_, ?_, ?_, ?_, ?_, ?_, ?_, ?_, ?_, ?_, ?_, ?_, ?_, ?_, ?_, ?_, ?_, ?_⟩ <;> (repeat' (first | with_reducible rfl | (simp; done) | (with_reducible intro _) | (with_reducible apply State.item_proj) | (with_reducible apply State.guarded_proj) | (with_reducible apply State.counterOp_proj) | (with_reducible apply State.regAccess_proj) | (with_reducible apply State.packet_proj) | (with_reducible apply State.cfgPacket_proj) | (with_reducible refine Eq.trans (foldl_proj _ _ _ _ ?_) ?_) | (with_reducible refine Eq.trans (foldl_fst_proj _ _ _ _ ?_) ?_) | (with_reducible refine Eq.trans (foldl_snd_proj _ _ _ _ ?_) ?_) | split | (simp only []; split) | (dsimp only; split)))

@[simp ↓] theorem runPacket_keeps (i : Instr) (s : State) :
    (runPacket i s).ident = s.ident ∧ (runPacket i s).now = s.now ∧ (runPacket i s).pending = s.pending ∧ (runPacket i s).sec.fuses = s.sec.fuses := by
  cases i <;> simp [runPacket, stateOf, execCascMemberAdd, execCascMemberRemove, execCascStatus, execClkSpreadSet, execConfigCommit, execConfigDiscard, execConfigLoad, execConfigRead, execConfigRollback, execConfigStore, execConfigWrite, execCtxActivate, execCtxAlloc, execCtxDeactivate, execCtxFree, execCtxGoalSet, execCtxRead, execCtxSeedSet, execCtxTreeReset, execCtxWrite, execDeepPlan, execDevFaultLog, execDevInfo, execDevReset, execDevStatus, execDiagInject, execDiagRead, execFieldRebuild, execFlowClose, execFlowFlush, execFlowOpen, execFlowPush, execFlowRead, execLongCancel, execLongResume, execLongStatus, execLongSuspend, execMemScrub, execNop, execPlanFrameRead, execPlanHandoffRead, execPlanResultRead, execPwrClusterSet, execPwrOpSet, execPwrStatus, execRearm, execReplay, execRoadmapBuild, execSecAttest, execSecFwUpdate, execSecLifecycle, execSnapLoad, execSnapPause, execSnapResume, execSnapSave, execTileRequalify, execTimerCancel, execTimerSet, execWavefrontFull, execWorldFieldRead, execWorldKeepoutClear, execWorldKeepoutSet, execWorldOcc, execWorldState, execXmssKeygen, execZhdExport]

@[simp ↓] theorem State.headRefuse_keeps (s : State) (path : Nat) (b : List Byte) (st : Status) :
    (State.headRefuse s path b st).ident = s.ident ∧ (State.headRefuse s path b st).tick = s.tick ∧ (State.headRefuse s path b st).world = s.world ∧ (State.headRefuse s path b st).aster = s.aster ∧ (State.headRefuse s path b st).lupin = s.lupin ∧ (State.headRefuse s path b st).harebell = s.harebell ∧ (State.headRefuse s path b st).cornflower = s.cornflower ∧ (State.headRefuse s path b st).poppy = s.poppy ∧ (State.headRefuse s path b st).vetch = s.vetch ∧ (State.headRefuse s path b st).commit = s.commit ∧ (State.headRefuse s path b st).zheda = s.zheda ∧ (State.headRefuse s path b st).teasel = s.teasel ∧ (State.headRefuse s path b st).bindweed = s.bindweed ∧ (State.headRefuse s path b st).safety = s.safety ∧ (State.headRefuse s path b st).mem = s.mem ∧ (State.headRefuse s path b st).clock = s.clock ∧ (State.headRefuse s path b st).sec = s.sec ∧ (State.headRefuse s path b st).casc = s.casc ∧ (State.headRefuse s path b st).now = s.now ∧ (State.headRefuse s path b st).rdata = s.rdata ∧ (State.headRefuse s path b st).freeIx = s.freeIx ∧ (State.headRefuse s path b st).pending = s.pending := by
  simp [State.headRefuse]

@[simp ↓] theorem State.runChecked_keeps (s : State) (path : Nat) (b payload : List Byte) :
    (State.runChecked s path b payload).ident = s.ident ∧ (State.runChecked s path b payload).now = s.now ∧ (State.runChecked s path b payload).pending = s.pending ∧ (State.runChecked s path b payload).sec.fuses = s.sec.fuses := by
  unfold State.runChecked
  simp only []
  (repeat' split) <;> simp

@[simp ↓] theorem State.runFrom_keeps (s : State) (path : Nat) (b payload : List Byte) :
    (State.runFrom s path b payload).ident = s.ident ∧ (State.runFrom s path b payload).now = s.now ∧ (State.runFrom s path b payload).pending = s.pending ∧ (State.runFrom s path b payload).sec.fuses = s.sec.fuses := by
  unfold State.runFrom
  (repeat' split) <;> simp

@[simp ↓] theorem State.runBytes_keeps (s : State) (path : Nat) (b inline : List Byte) :
    (State.runBytes s path b inline).ident = s.ident ∧ (State.runBytes s path b inline).now = s.now ∧ (State.runBytes s path b inline).pending = s.pending ∧ (State.runBytes s path b inline).sec.fuses = s.sec.fuses := by
  unfold State.runBytes
  (repeat' split) <;> simp

@[simp ↓] theorem State.faultRing_keeps (s : State) (r : Nat) (st : Status) (tag seq : Word) (op : Nat) :
    (State.faultRing s r st tag seq op).ident = s.ident ∧ (State.faultRing s r st tag seq op).tick = s.tick ∧ (State.faultRing s r st tag seq op).world = s.world ∧ (State.faultRing s r st tag seq op).aster = s.aster ∧ (State.faultRing s r st tag seq op).lupin = s.lupin ∧ (State.faultRing s r st tag seq op).harebell = s.harebell ∧ (State.faultRing s r st tag seq op).cornflower = s.cornflower ∧ (State.faultRing s r st tag seq op).poppy = s.poppy ∧ (State.faultRing s r st tag seq op).vetch = s.vetch ∧ (State.faultRing s r st tag seq op).commit = s.commit ∧ (State.faultRing s r st tag seq op).zheda = s.zheda ∧ (State.faultRing s r st tag seq op).teasel = s.teasel ∧ (State.faultRing s r st tag seq op).bindweed = s.bindweed ∧ (State.faultRing s r st tag seq op).safety = s.safety ∧ (State.faultRing s r st tag seq op).mem = s.mem ∧ (State.faultRing s r st tag seq op).clock = s.clock ∧ (State.faultRing s r st tag seq op).sec = s.sec ∧ (State.faultRing s r st tag seq op).casc = s.casc ∧ (State.faultRing s r st tag seq op).now = s.now ∧ (State.faultRing s r st tag seq op).rdata = s.rdata ∧ (State.faultRing s r st tag seq op).freeIx = s.freeIx ∧ (State.faultRing s r st tag seq op).pending = s.pending := by
  simp [State.faultRing]

@[simp ↓] theorem State.faultPointer_keeps (s : State) (r : Nat) :
    (State.faultPointer s r).ident = s.ident ∧ (State.faultPointer s r).tick = s.tick ∧ (State.faultPointer s r).world = s.world ∧ (State.faultPointer s r).aster = s.aster ∧ (State.faultPointer s r).lupin = s.lupin ∧ (State.faultPointer s r).harebell = s.harebell ∧ (State.faultPointer s r).cornflower = s.cornflower ∧ (State.faultPointer s r).poppy = s.poppy ∧ (State.faultPointer s r).vetch = s.vetch ∧ (State.faultPointer s r).commit = s.commit ∧ (State.faultPointer s r).zheda = s.zheda ∧ (State.faultPointer s r).teasel = s.teasel ∧ (State.faultPointer s r).bindweed = s.bindweed ∧ (State.faultPointer s r).safety = s.safety ∧ (State.faultPointer s r).mem = s.mem ∧ (State.faultPointer s r).clock = s.clock ∧ (State.faultPointer s r).sec = s.sec ∧ (State.faultPointer s r).casc = s.casc ∧ (State.faultPointer s r).now = s.now ∧ (State.faultPointer s r).rdata = s.rdata ∧ (State.faultPointer s r).pending = s.pending := by
  simp [State.faultPointer]

@[simp ↓] theorem State.takeTail_keeps (s : State) (r : Nat) (v : Nat) :
    (State.takeTail s r v).ident = s.ident ∧ (State.takeTail s r v).tick = s.tick ∧ (State.takeTail s r v).world = s.world ∧ (State.takeTail s r v).aster = s.aster ∧ (State.takeTail s r v).lupin = s.lupin ∧ (State.takeTail s r v).harebell = s.harebell ∧ (State.takeTail s r v).cornflower = s.cornflower ∧ (State.takeTail s r v).poppy = s.poppy ∧ (State.takeTail s r v).vetch = s.vetch ∧ (State.takeTail s r v).commit = s.commit ∧ (State.takeTail s r v).zheda = s.zheda ∧ (State.takeTail s r v).teasel = s.teasel ∧ (State.takeTail s r v).bindweed = s.bindweed ∧ (State.takeTail s r v).safety = s.safety ∧ (State.takeTail s r v).mem = s.mem ∧ (State.takeTail s r v).clock = s.clock ∧ (State.takeTail s r v).sec = s.sec ∧ (State.takeTail s r v).casc = s.casc ∧ (State.takeTail s r v).now = s.now ∧ (State.takeTail s r v).rdata = s.rdata ∧ (State.takeTail s r v).pending = s.pending := by
  simp [State.takeTail]

@[simp ↓] theorem State.takeHead_keeps (s : State) (r : Nat) (v : Nat) :
    (State.takeHead s r v).ident = s.ident ∧ (State.takeHead s r v).tick = s.tick ∧ (State.takeHead s r v).world = s.world ∧ (State.takeHead s r v).aster = s.aster ∧ (State.takeHead s r v).lupin = s.lupin ∧ (State.takeHead s r v).harebell = s.harebell ∧ (State.takeHead s r v).cornflower = s.cornflower ∧ (State.takeHead s r v).poppy = s.poppy ∧ (State.takeHead s r v).vetch = s.vetch ∧ (State.takeHead s r v).commit = s.commit ∧ (State.takeHead s r v).zheda = s.zheda ∧ (State.takeHead s r v).teasel = s.teasel ∧ (State.takeHead s r v).bindweed = s.bindweed ∧ (State.takeHead s r v).safety = s.safety ∧ (State.takeHead s r v).mem = s.mem ∧ (State.takeHead s r v).clock = s.clock ∧ (State.takeHead s r v).sec = s.sec ∧ (State.takeHead s r v).casc = s.casc ∧ (State.takeHead s r v).now = s.now ∧ (State.takeHead s r v).rdata = s.rdata ∧ (State.takeHead s r v).pending = s.pending := by
  simp [State.takeHead]

@[simp ↓] theorem State.serveBells_keeps (s : State) :
    (State.serveBells s).ident = s.ident ∧ (State.serveBells s).tick = s.tick ∧ (State.serveBells s).world = s.world ∧ (State.serveBells s).aster = s.aster ∧ (State.serveBells s).lupin = s.lupin ∧ (State.serveBells s).harebell = s.harebell ∧ (State.serveBells s).cornflower = s.cornflower ∧ (State.serveBells s).poppy = s.poppy ∧ (State.serveBells s).vetch = s.vetch ∧ (State.serveBells s).commit = s.commit ∧ (State.serveBells s).zheda = s.zheda ∧ (State.serveBells s).teasel = s.teasel ∧ (State.serveBells s).bindweed = s.bindweed ∧ (State.serveBells s).safety = s.safety ∧ (State.serveBells s).mem = s.mem ∧ (State.serveBells s).clock = s.clock ∧ (State.serveBells s).sec = s.sec ∧ (State.serveBells s).casc = s.casc ∧ (State.serveBells s).now = s.now ∧ (State.serveBells s).rdata = s.rdata ∧ (State.serveBells s).pending = s.pending := by
  simp [State.serveBells]

@[simp ↓] theorem State.freeWith_keeps (s : State) (c : Cpl) :
    (State.freeWith s c).ident = s.ident ∧ (State.freeWith s c).tick = s.tick ∧ (State.freeWith s c).world = s.world ∧ (State.freeWith s c).aster = s.aster ∧ (State.freeWith s c).lupin = s.lupin ∧ (State.freeWith s c).harebell = s.harebell ∧ (State.freeWith s c).cornflower = s.cornflower ∧ (State.freeWith s c).poppy = s.poppy ∧ (State.freeWith s c).vetch = s.vetch ∧ (State.freeWith s c).commit = s.commit ∧ (State.freeWith s c).zheda = s.zheda ∧ (State.freeWith s c).bindweed = s.bindweed ∧ (State.freeWith s c).safety = s.safety ∧ (State.freeWith s c).mem = s.mem ∧ (State.freeWith s c).clock = s.clock ∧ (State.freeWith s c).sec = s.sec ∧ (State.freeWith s c).casc = s.casc ∧ (State.freeWith s c).now = s.now ∧ (State.freeWith s c).rdata = s.rdata ∧ (State.freeWith s c).freeIx = s.freeIx ∧ (State.freeWith s c).pending = s.pending := by
  unfold State.freeWith
  (repeat' split) <;> simp

@[simp ↓] theorem State.flushRing_keeps (r : Nat) (n : Nat) (s : State) :
    (State.flushRing r n s).ident = s.ident ∧ (State.flushRing r n s).tick = s.tick ∧ (State.flushRing r n s).world = s.world ∧ (State.flushRing r n s).aster = s.aster ∧ (State.flushRing r n s).lupin = s.lupin ∧ (State.flushRing r n s).harebell = s.harebell ∧ (State.flushRing r n s).cornflower = s.cornflower ∧ (State.flushRing r n s).poppy = s.poppy ∧ (State.flushRing r n s).vetch = s.vetch ∧ (State.flushRing r n s).commit = s.commit ∧ (State.flushRing r n s).zheda = s.zheda ∧ (State.flushRing r n s).bindweed = s.bindweed ∧ (State.flushRing r n s).safety = s.safety ∧ (State.flushRing r n s).mem = s.mem ∧ (State.flushRing r n s).clock = s.clock ∧ (State.flushRing r n s).sec = s.sec ∧ (State.flushRing r n s).casc = s.casc ∧ (State.flushRing r n s).now = s.now ∧ (State.flushRing r n s).rdata = s.rdata ∧ (State.flushRing r n s).freeIx = s.freeIx ∧ (State.flushRing r n s).pending = s.pending := by
  induction n generalizing s with
  | zero => simp [State.flushRing]
  | succ n ih =>
    unfold State.flushRing
    simp only []
    (repeat' split) <;> simp [ih]

@[simp ↓] theorem State.flushMbox_keeps (s : State) (m : Nat) :
    (State.flushMbox s m).ident = s.ident ∧ (State.flushMbox s m).tick = s.tick ∧ (State.flushMbox s m).world = s.world ∧ (State.flushMbox s m).aster = s.aster ∧ (State.flushMbox s m).lupin = s.lupin ∧ (State.flushMbox s m).harebell = s.harebell ∧ (State.flushMbox s m).cornflower = s.cornflower ∧ (State.flushMbox s m).poppy = s.poppy ∧ (State.flushMbox s m).vetch = s.vetch ∧ (State.flushMbox s m).commit = s.commit ∧ (State.flushMbox s m).zheda = s.zheda ∧ (State.flushMbox s m).bindweed = s.bindweed ∧ (State.flushMbox s m).safety = s.safety ∧ (State.flushMbox s m).mem = s.mem ∧ (State.flushMbox s m).clock = s.clock ∧ (State.flushMbox s m).sec = s.sec ∧ (State.flushMbox s m).casc = s.casc ∧ (State.flushMbox s m).now = s.now ∧ (State.flushMbox s m).rdata = s.rdata ∧ (State.flushMbox s m).freeIx = s.freeIx ∧ (State.flushMbox s m).pending = s.pending := by
  unfold State.flushMbox
  (repeat' split) <;> simp

@[simp ↓] theorem State.freeDropped_keeps (s : State) :
    (State.freeDropped s).ident = s.ident ∧ (State.freeDropped s).tick = s.tick ∧ (State.freeDropped s).world = s.world ∧ (State.freeDropped s).aster = s.aster ∧ (State.freeDropped s).lupin = s.lupin ∧ (State.freeDropped s).harebell = s.harebell ∧ (State.freeDropped s).cornflower = s.cornflower ∧ (State.freeDropped s).poppy = s.poppy ∧ (State.freeDropped s).vetch = s.vetch ∧ (State.freeDropped s).commit = s.commit ∧ (State.freeDropped s).zheda = s.zheda ∧ (State.freeDropped s).bindweed = s.bindweed ∧ (State.freeDropped s).safety = s.safety ∧ (State.freeDropped s).mem = s.mem ∧ (State.freeDropped s).clock = s.clock ∧ (State.freeDropped s).sec = s.sec ∧ (State.freeDropped s).casc = s.casc ∧ (State.freeDropped s).now = s.now ∧ (State.freeDropped s).rdata = s.rdata ∧ (State.freeDropped s).freeIx = s.freeIx ∧ (State.freeDropped s).pending = s.pending := by
  simp [State.freeDropped]

@[simp ↓] theorem State.flush_keeps (s : State) :
    (State.flush s).ident = s.ident ∧ (State.flush s).tick = s.tick ∧ (State.flush s).world = s.world ∧ (State.flush s).aster = s.aster ∧ (State.flush s).lupin = s.lupin ∧ (State.flush s).harebell = s.harebell ∧ (State.flush s).cornflower = s.cornflower ∧ (State.flush s).poppy = s.poppy ∧ (State.flush s).vetch = s.vetch ∧ (State.flush s).commit = s.commit ∧ (State.flush s).zheda = s.zheda ∧ (State.flush s).bindweed = s.bindweed ∧ (State.flush s).safety = s.safety ∧ (State.flush s).mem = s.mem ∧ (State.flush s).clock = s.clock ∧ (State.flush s).sec = s.sec ∧ (State.flush s).casc = s.casc ∧ (State.flush s).now = s.now ∧ (State.flush s).rdata = s.rdata ∧ (State.flush s).freeIx = s.freeIx ∧ (State.flush s).pending = s.pending := by
  simp [State.flush]

theorem State.ringNext_keeps (s : State) (r : Nat) (t : State) (h : s.ringNext r = some t) :
    t.ident = s.ident ∧ t.now = s.now ∧ t.pending = s.pending ∧ t.sec.fuses = s.sec.fuses := by
  unfold State.ringNext at h
  simp only [] at h
  (repeat' split at h) <;> first | (simp at h; done) | (cases h; simp; done)

theorem State.mboxNext_keeps (s : State) (r : Nat) (t : State) (h : s.mboxNext r = some t) :
    t.ident = s.ident ∧ t.now = s.now ∧ t.pending = s.pending ∧ t.sec.fuses = s.sec.fuses := by
  unfold State.mboxNext at h
  simp only [] at h
  (repeat' split at h) <;> first | (simp at h; done) | (cases h; simp; done)

theorem State.usbNext_keeps (s : State)  (t : State) (h : s.usbNext = some t) :
    t.ident = s.ident ∧ t.now = s.now ∧ t.pending = s.pending ∧ t.sec.fuses = s.sec.fuses := by
  unfold State.usbNext at h
  simp only [] at h
  (repeat' split at h) <;> first | (simp at h; done) | (cases h; simp; done)

theorem State.pathNext_keeps (s : State) (r : Nat) (t : State) (h : s.pathNext r = some t) :
    t.ident = s.ident ∧ t.now = s.now ∧ t.pending = s.pending ∧ t.sec.fuses = s.sec.fuses := by
  unfold State.pathNext at h
  split at h
  · exact State.ringNext_keeps _ _ _ h
  split at h
  · exact State.usbNext_keeps _ _ h
  · exact State.mboxNext_keeps _ _ _ h

theorem State.turn_keeps (s : State) (r : Nat) (t : State) (h : s.turn r = some t) :
    t.ident = s.ident ∧ t.now = s.now ∧ t.pending = s.pending ∧ t.sec.fuses = s.sec.fuses := by
  unfold State.turn at h
  obtain ⟨p, -, hp⟩ := List.exists_of_findSome?_eq_some h
  cases hq : s.pathNext p with
  | none => simp [hq] at hp
  | some u =>
    simp [hq] at hp
    subst hp
    have := State.pathNext_keeps s p u hq
    simpa using this

@[simp ↓] theorem State.takeAll_keeps (n : Nat) (s : State) : (State.takeAll n s).ident = s.ident ∧ (State.takeAll n s).now = s.now ∧ (State.takeAll n s).pending = s.pending ∧ (State.takeAll n s).sec.fuses = s.sec.fuses := by
  have one : ∀ (s : State) (k : Nat), ((s.turn k).getD s).ident = s.ident ∧ ((s.turn k).getD s).now = s.now ∧ ((s.turn k).getD s).pending = s.pending ∧ ((s.turn k).getD s).sec.fuses = s.sec.fuses := by
    intro s k
    cases h : s.turn k with
    | none => simp
    | some t => exact State.turn_keeps s k t h
  induction n generalizing s with
  | zero => simp [State.takeAll]
  | succ n ih =>
    unfold State.takeAll
    simp only []
    split <;> simp [ih, one]

@[simp ↓] theorem State.serve_keeps (s : State) :
    (State.serve s).ident = s.ident ∧ (State.serve s).now = s.now ∧ (State.serve s).pending = s.pending ∧ (State.serve s).sec.fuses = s.sec.fuses := by
  simp [State.serve]

@[simp ↓] theorem State.beside_keeps (s : State) (x : Snapshot) (b : BundleSlot) :
    (State.beside s x b).ident = s.ident ∧ (State.beside s x b).harebell = s.harebell ∧ (State.beside s x b).cowslip = s.cowslip ∧ (State.beside s x b).mem = s.mem ∧ (State.beside s x b).host = s.host ∧ (State.beside s x b).sec = s.sec ∧ (State.beside s x b).now = s.now ∧ (State.beside s x b).rdata = s.rdata ∧ (State.beside s x b).freeIx = s.freeIx ∧ (State.beside s x b).pending = s.pending := by
  simp [State.beside]

@[simp ↓] theorem State.feedEntry_keeps (s : State) (e : JEntry) :
    (State.feedEntry s e).ident = s.ident ∧ (State.feedEntry s e).now = s.now ∧ (State.feedEntry s e).pending = s.pending ∧ (State.feedEntry s e).sec.fuses = s.sec.fuses := by
  unfold State.feedEntry
  (repeat' split) <;> simp

@[simp ↓] theorem State.adoptEntry_keeps (s : State) (e : JEntry) :
    (State.adoptEntry s e).ident = s.ident ∧ (State.adoptEntry s e).tick = s.tick ∧ (State.adoptEntry s e).world = s.world ∧ (State.adoptEntry s e).aster = s.aster ∧ (State.adoptEntry s e).harebell = s.harebell ∧ (State.adoptEntry s e).poppy = s.poppy ∧ (State.adoptEntry s e).vetch = s.vetch ∧ (State.adoptEntry s e).commit = s.commit ∧ (State.adoptEntry s e).zheda = s.zheda ∧ (State.adoptEntry s e).teasel = s.teasel ∧ (State.adoptEntry s e).bindweed = s.bindweed ∧ (State.adoptEntry s e).cowslip = s.cowslip ∧ (State.adoptEntry s e).cmd = s.cmd ∧ (State.adoptEntry s e).safety = s.safety ∧ (State.adoptEntry s e).mem = s.mem ∧ (State.adoptEntry s e).clock = s.clock ∧ (State.adoptEntry s e).host = s.host ∧ (State.adoptEntry s e).sec = s.sec ∧ (State.adoptEntry s e).casc = s.casc ∧ (State.adoptEntry s e).now = s.now ∧ (State.adoptEntry s e).rdata = s.rdata ∧ (State.adoptEntry s e).freeIx = s.freeIx ∧ (State.adoptEntry s e).pending = s.pending := by
  unfold State.adoptEntry
  (repeat' split) <;> simp

@[simp ↓] theorem State.allocRecorded_keeps (s : State) (live : Nat) :
    (State.allocRecorded s live).ident = s.ident ∧ (State.allocRecorded s live).tick = s.tick ∧ (State.allocRecorded s live).world = s.world ∧ (State.allocRecorded s live).aster = s.aster ∧ (State.allocRecorded s live).harebell = s.harebell ∧ (State.allocRecorded s live).cornflower = s.cornflower ∧ (State.allocRecorded s live).poppy = s.poppy ∧ (State.allocRecorded s live).vetch = s.vetch ∧ (State.allocRecorded s live).commit = s.commit ∧ (State.allocRecorded s live).teasel = s.teasel ∧ (State.allocRecorded s live).bindweed = s.bindweed ∧ (State.allocRecorded s live).cowslip = s.cowslip ∧ (State.allocRecorded s live).cmd = s.cmd ∧ (State.allocRecorded s live).safety = s.safety ∧ (State.allocRecorded s live).mem = s.mem ∧ (State.allocRecorded s live).clock = s.clock ∧ (State.allocRecorded s live).host = s.host ∧ (State.allocRecorded s live).sec = s.sec ∧ (State.allocRecorded s live).now = s.now ∧ (State.allocRecorded s live).rdata = s.rdata ∧ (State.allocRecorded s live).freeIx = s.freeIx ∧ (State.allocRecorded s live).pending = s.pending := by
  simp [State.allocRecorded]

@[simp ↓] theorem State.stepEdge_keeps (s : State) (x : StepIn) :
    (State.stepEdge s x).ident = s.ident ∧ (State.stepEdge s x).now = s.now ∧ (State.stepEdge s x).pending = s.pending ∧ (State.stepEdge s x).sec.fuses = s.sec.fuses := by
  unfold State.stepEdge
  (repeat' split) <;> simp

@[simp ↓] theorem State.stepCommit_keeps (s : State) (x : StepIn) :
    (State.stepCommit s x).ident = s.ident ∧ (State.stepCommit s x).aster = s.aster ∧ (State.stepCommit s x).lupin = s.lupin ∧ (State.stepCommit s x).cornflower = s.cornflower ∧ (State.stepCommit s x).poppy = s.poppy ∧ (State.stepCommit s x).vetch = s.vetch ∧ (State.stepCommit s x).bindweed = s.bindweed ∧ (State.stepCommit s x).cowslip = s.cowslip ∧ (State.stepCommit s x).cmd = s.cmd ∧ (State.stepCommit s x).mem = s.mem ∧ (State.stepCommit s x).sec = s.sec ∧ (State.stepCommit s x).now = s.now ∧ (State.stepCommit s x).rdata = s.rdata ∧ (State.stepCommit s x).pending = s.pending := by
  simp [State.stepCommit]

@[simp ↓] theorem State.vetFree_keeps (r : Nat) (n : Nat) (s : State) :
    (State.vetFree r n s).ident = s.ident ∧ (State.vetFree r n s).tick = s.tick ∧ (State.vetFree r n s).world = s.world ∧ (State.vetFree r n s).aster = s.aster ∧ (State.vetFree r n s).lupin = s.lupin ∧ (State.vetFree r n s).harebell = s.harebell ∧ (State.vetFree r n s).cornflower = s.cornflower ∧ (State.vetFree r n s).poppy = s.poppy ∧ (State.vetFree r n s).commit = s.commit ∧ (State.vetFree r n s).bindweed = s.bindweed ∧ (State.vetFree r n s).cowslip = s.cowslip ∧ (State.vetFree r n s).sec = s.sec ∧ (State.vetFree r n s).casc = s.casc ∧ (State.vetFree r n s).now = s.now ∧ (State.vetFree r n s).rdata = s.rdata ∧ (State.vetFree r n s).pending = s.pending ∧ (State.vetFree r n s).mem.ddr = s.mem.ddr ∧ (State.vetFree r n s).mem.sram = s.mem.sram := by
  induction n generalizing s with
  | zero => simp [State.vetFree]
  | succ n ih =>
    unfold State.vetFree
    (repeat' split) <;> simp [ih]

@[simp ↓] theorem State.vetForced_keeps (r i c : Nat) (n : Nat) (s : State) :
    (State.vetForced r i c n s).ident = s.ident ∧ (State.vetForced r i c n s).tick = s.tick ∧ (State.vetForced r i c n s).world = s.world ∧ (State.vetForced r i c n s).aster = s.aster ∧ (State.vetForced r i c n s).lupin = s.lupin ∧ (State.vetForced r i c n s).harebell = s.harebell ∧ (State.vetForced r i c n s).cornflower = s.cornflower ∧ (State.vetForced r i c n s).poppy = s.poppy ∧ (State.vetForced r i c n s).commit = s.commit ∧ (State.vetForced r i c n s).bindweed = s.bindweed ∧ (State.vetForced r i c n s).cowslip = s.cowslip ∧ (State.vetForced r i c n s).sec = s.sec ∧ (State.vetForced r i c n s).casc = s.casc ∧ (State.vetForced r i c n s).now = s.now ∧ (State.vetForced r i c n s).rdata = s.rdata ∧ (State.vetForced r i c n s).pending = s.pending ∧ (State.vetForced r i c n s).mem.ddr = s.mem.ddr ∧ (State.vetForced r i c n s).mem.sram = s.mem.sram := by
  induction n generalizing s with
  | zero => simp [State.vetForced]
  | succ n ih =>
    unfold State.vetForced
    simp only []
    (repeat' split) <;> simp [ih]

@[simp ↓] theorem State.stepVetch_keeps (x : StepIn) (n : Nat) (s : State) :
    (State.stepVetch x n s).ident = s.ident ∧ (State.stepVetch x n s).tick = s.tick ∧ (State.stepVetch x n s).world = s.world ∧ (State.stepVetch x n s).aster = s.aster ∧ (State.stepVetch x n s).lupin = s.lupin ∧ (State.stepVetch x n s).harebell = s.harebell ∧ (State.stepVetch x n s).cornflower = s.cornflower ∧ (State.stepVetch x n s).poppy = s.poppy ∧ (State.stepVetch x n s).commit = s.commit ∧ (State.stepVetch x n s).bindweed = s.bindweed ∧ (State.stepVetch x n s).cowslip = s.cowslip ∧ (State.stepVetch x n s).sec = s.sec ∧ (State.stepVetch x n s).casc = s.casc ∧ (State.stepVetch x n s).now = s.now ∧ (State.stepVetch x n s).rdata = s.rdata ∧ (State.stepVetch x n s).pending = s.pending ∧ (State.stepVetch x n s).mem.ddr = s.mem.ddr ∧ (State.stepVetch x n s).mem.sram = s.mem.sram := by
  unfold State.stepVetch
  (repeat' split) <;> simp

@[simp ↓] theorem State.afterStep_keeps (s : State) (n : Nat) (o : LongOp) (j : ReplayJob) :
    (State.afterStep s n o j).ident = s.ident ∧ (State.afterStep s n o j).tick = s.tick ∧ (State.afterStep s n o j).world = s.world ∧ (State.afterStep s n o j).aster = s.aster ∧ (State.afterStep s n o j).lupin = s.lupin ∧ (State.afterStep s n o j).harebell = s.harebell ∧ (State.afterStep s n o j).poppy = s.poppy ∧ (State.afterStep s n o j).vetch = s.vetch ∧ (State.afterStep s n o j).commit = s.commit ∧ (State.afterStep s n o j).bindweed = s.bindweed ∧ (State.afterStep s n o j).mem = s.mem ∧ (State.afterStep s n o j).clock = s.clock ∧ (State.afterStep s n o j).sec = s.sec ∧ (State.afterStep s n o j).casc = s.casc ∧ (State.afterStep s n o j).now = s.now ∧ (State.afterStep s n o j).rdata = s.rdata ∧ (State.afterStep s n o j).freeIx = s.freeIx ∧ (State.afterStep s n o j).pending = s.pending := by
  simp [State.afterStep]

@[simp ↓] theorem replayStepEffect_keeps (s : State) :
    (replayStepEffect s).ident = s.ident ∧ (replayStepEffect s).tick = s.tick ∧ (replayStepEffect s).world = s.world ∧ (replayStepEffect s).aster = s.aster ∧ (replayStepEffect s).lupin = s.lupin ∧ (replayStepEffect s).harebell = s.harebell ∧ (replayStepEffect s).poppy = s.poppy ∧ (replayStepEffect s).vetch = s.vetch ∧ (replayStepEffect s).commit = s.commit ∧ (replayStepEffect s).bindweed = s.bindweed ∧ (replayStepEffect s).mem = s.mem ∧ (replayStepEffect s).clock = s.clock ∧ (replayStepEffect s).sec = s.sec ∧ (replayStepEffect s).casc = s.casc ∧ (replayStepEffect s).now = s.now ∧ (replayStepEffect s).rdata = s.rdata ∧ (replayStepEffect s).freeIx = s.freeIx ∧ (replayStepEffect s).pending = s.pending := by
  unfold replayStepEffect
  simp only []
  (repeat' split) <;> simp

@[simp ↓] theorem State.twoMasters_keeps (s : State) :
    (State.twoMasters s).ident = s.ident ∧ (State.twoMasters s).tick = s.tick ∧ (State.twoMasters s).world = s.world ∧ (State.twoMasters s).aster = s.aster ∧ (State.twoMasters s).lupin = s.lupin ∧ (State.twoMasters s).harebell = s.harebell ∧ (State.twoMasters s).cornflower = s.cornflower ∧ (State.twoMasters s).poppy = s.poppy ∧ (State.twoMasters s).vetch = s.vetch ∧ (State.twoMasters s).commit = s.commit ∧ (State.twoMasters s).zheda = s.zheda ∧ (State.twoMasters s).teasel = s.teasel ∧ (State.twoMasters s).bindweed = s.bindweed ∧ (State.twoMasters s).cowslip = s.cowslip ∧ (State.twoMasters s).cmd = s.cmd ∧ (State.twoMasters s).mem = s.mem ∧ (State.twoMasters s).sec = s.sec ∧ (State.twoMasters s).now = s.now ∧ (State.twoMasters s).rdata = s.rdata ∧ (State.twoMasters s).pending = s.pending := by
  simp [State.twoMasters]

@[simp ↓] theorem State.isolate_keeps (s : State) :
    (State.isolate s).ident = s.ident ∧ (State.isolate s).world = s.world ∧ (State.isolate s).aster = s.aster ∧ (State.isolate s).lupin = s.lupin ∧ (State.isolate s).harebell = s.harebell ∧ (State.isolate s).cornflower = s.cornflower ∧ (State.isolate s).poppy = s.poppy ∧ (State.isolate s).vetch = s.vetch ∧ (State.isolate s).commit = s.commit ∧ (State.isolate s).zheda = s.zheda ∧ (State.isolate s).teasel = s.teasel ∧ (State.isolate s).bindweed = s.bindweed ∧ (State.isolate s).cowslip = s.cowslip ∧ (State.isolate s).cmd = s.cmd ∧ (State.isolate s).safety = s.safety ∧ (State.isolate s).mem = s.mem ∧ (State.isolate s).clock = s.clock ∧ (State.isolate s).host = s.host ∧ (State.isolate s).sec = s.sec ∧ (State.isolate s).now = s.now ∧ (State.isolate s).rdata = s.rdata ∧ (State.isolate s).freeIx = s.freeIx ∧ (State.isolate s).pending = s.pending := by
  simp [State.isolate]

@[simp ↓] theorem cascTickTimeoutEffect_keeps (time : Nat) (s : State) :
    (cascTickTimeoutEffect time s).ident = s.ident ∧ (cascTickTimeoutEffect time s).pending = s.pending ∧ (cascTickTimeoutEffect time s).sec.fuses = s.sec.fuses := by
  unfold cascTickTimeoutEffect
  (repeat' split) <;> simp

@[simp ↓] theorem State.joinStep_keeps (s : State) (r : List Byte) (es : List JEntry) :
    (State.joinStep s r es).ident = s.ident ∧ (State.joinStep s r es).tick = s.tick ∧ (State.joinStep s r es).world = s.world ∧ (State.joinStep s r es).aster = s.aster ∧ (State.joinStep s r es).lupin = s.lupin ∧ (State.joinStep s r es).harebell = s.harebell ∧ (State.joinStep s r es).cornflower = s.cornflower ∧ (State.joinStep s r es).poppy = s.poppy ∧ (State.joinStep s r es).vetch = s.vetch ∧ (State.joinStep s r es).commit = s.commit ∧ (State.joinStep s r es).zheda = s.zheda ∧ (State.joinStep s r es).teasel = s.teasel ∧ (State.joinStep s r es).bindweed = s.bindweed ∧ (State.joinStep s r es).cowslip = s.cowslip ∧ (State.joinStep s r es).cmd = s.cmd ∧ (State.joinStep s r es).safety = s.safety ∧ (State.joinStep s r es).mem = s.mem ∧ (State.joinStep s r es).clock = s.clock ∧ (State.joinStep s r es).host = s.host ∧ (State.joinStep s r es).sec = s.sec ∧ (State.joinStep s r es).now = s.now ∧ (State.joinStep s r es).rdata = s.rdata ∧ (State.joinStep s r es).freeIx = s.freeIx ∧ (State.joinStep s r es).pending = s.pending := by
  unfold State.joinStep
  simp only []
  (repeat' split) <;> simp

@[simp ↓] theorem State.tellMaster_keeps (s : State) (type : Nat) (m : CasMsg) :
    (State.tellMaster s type m).ident = s.ident ∧ (State.tellMaster s type m).tick = s.tick ∧ (State.tellMaster s type m).world = s.world ∧ (State.tellMaster s type m).aster = s.aster ∧ (State.tellMaster s type m).lupin = s.lupin ∧ (State.tellMaster s type m).harebell = s.harebell ∧ (State.tellMaster s type m).cornflower = s.cornflower ∧ (State.tellMaster s type m).poppy = s.poppy ∧ (State.tellMaster s type m).vetch = s.vetch ∧ (State.tellMaster s type m).commit = s.commit ∧ (State.tellMaster s type m).zheda = s.zheda ∧ (State.tellMaster s type m).teasel = s.teasel ∧ (State.tellMaster s type m).bindweed = s.bindweed ∧ (State.tellMaster s type m).cowslip = s.cowslip ∧ (State.tellMaster s type m).cmd = s.cmd ∧ (State.tellMaster s type m).safety = s.safety ∧ (State.tellMaster s type m).mem = s.mem ∧ (State.tellMaster s type m).clock = s.clock ∧ (State.tellMaster s type m).host = s.host ∧ (State.tellMaster s type m).sec = s.sec ∧ (State.tellMaster s type m).now = s.now ∧ (State.tellMaster s type m).rdata = s.rdata ∧ (State.tellMaster s type m).freeIx = s.freeIx ∧ (State.tellMaster s type m).pending = s.pending := by
  simp [State.tellMaster]

@[simp ↓] theorem State.enterService_keeps (s : State) (p : Nat) :
    (State.enterService s p).ident = s.ident ∧ (State.enterService s p).harebell = s.harebell ∧ (State.enterService s p).poppy = s.poppy ∧ (State.enterService s p).bindweed = s.bindweed ∧ (State.enterService s p).cowslip = s.cowslip ∧ (State.enterService s p).cmd = s.cmd ∧ (State.enterService s p).safety = s.safety ∧ (State.enterService s p).mem = s.mem ∧ (State.enterService s p).clock = s.clock ∧ (State.enterService s p).host = s.host ∧ (State.enterService s p).sec = s.sec ∧ (State.enterService s p).now = s.now ∧ (State.enterService s p).rdata = s.rdata ∧ (State.enterService s p).freeIx = s.freeIx ∧ (State.enterService s p).pending = s.pending := by
  unfold State.enterService
  (repeat' split) <;> simp

@[simp ↓] theorem State.tickFrame_keeps (s : State) (k t : Nat) :
    (State.tickFrame s k t).ident = s.ident ∧ (State.tickFrame s k t).rdata = s.rdata ∧ (State.tickFrame s k t).pending = s.pending ∧ (State.tickFrame s k t).sec.fuses = s.sec.fuses := by
  simp [State.tickFrame]

@[simp ↓] theorem State.fieldFrame_keeps (s : State) (b : List Byte) :
    (State.fieldFrame s b).ident = s.ident ∧ (State.fieldFrame s b).tick = s.tick ∧ (State.fieldFrame s b).world = s.world ∧ (State.fieldFrame s b).aster = s.aster ∧ (State.fieldFrame s b).lupin = s.lupin ∧ (State.fieldFrame s b).harebell = s.harebell ∧ (State.fieldFrame s b).cornflower = s.cornflower ∧ (State.fieldFrame s b).poppy = s.poppy ∧ (State.fieldFrame s b).vetch = s.vetch ∧ (State.fieldFrame s b).commit = s.commit ∧ (State.fieldFrame s b).zheda = s.zheda ∧ (State.fieldFrame s b).teasel = s.teasel ∧ (State.fieldFrame s b).bindweed = s.bindweed ∧ (State.fieldFrame s b).cowslip = s.cowslip ∧ (State.fieldFrame s b).cmd = s.cmd ∧ (State.fieldFrame s b).safety = s.safety ∧ (State.fieldFrame s b).mem = s.mem ∧ (State.fieldFrame s b).clock = s.clock ∧ (State.fieldFrame s b).host = s.host ∧ (State.fieldFrame s b).sec = s.sec ∧ (State.fieldFrame s b).now = s.now ∧ (State.fieldFrame s b).rdata = s.rdata ∧ (State.fieldFrame s b).freeIx = s.freeIx ∧ (State.fieldFrame s b).pending = s.pending := by
  simp [State.fieldFrame]

@[simp ↓] theorem State.takeCopy_keeps (s : State) (m : CasMsg) :
    (State.takeCopy s m).ident = s.ident ∧ (State.takeCopy s m).tick = s.tick ∧ (State.takeCopy s m).world = s.world ∧ (State.takeCopy s m).aster = s.aster ∧ (State.takeCopy s m).harebell = s.harebell ∧ (State.takeCopy s m).poppy = s.poppy ∧ (State.takeCopy s m).vetch = s.vetch ∧ (State.takeCopy s m).commit = s.commit ∧ (State.takeCopy s m).zheda = s.zheda ∧ (State.takeCopy s m).teasel = s.teasel ∧ (State.takeCopy s m).bindweed = s.bindweed ∧ (State.takeCopy s m).cowslip = s.cowslip ∧ (State.takeCopy s m).cmd = s.cmd ∧ (State.takeCopy s m).safety = s.safety ∧ (State.takeCopy s m).mem = s.mem ∧ (State.takeCopy s m).clock = s.clock ∧ (State.takeCopy s m).host = s.host ∧ (State.takeCopy s m).sec = s.sec ∧ (State.takeCopy s m).now = s.now ∧ (State.takeCopy s m).rdata = s.rdata ∧ (State.takeCopy s m).freeIx = s.freeIx ∧ (State.takeCopy s m).pending = s.pending := by
  unfold State.takeCopy
  (repeat' split) <;> simp

@[simp ↓] theorem State.stateFrame_keeps (s : State) (m : CasMsg) (tick : Nat) :
    (State.stateFrame s m tick).ident = s.ident ∧ (State.stateFrame s m tick).tick = s.tick ∧ (State.stateFrame s m tick).world = s.world ∧ (State.stateFrame s m tick).aster = s.aster ∧ (State.stateFrame s m tick).harebell = s.harebell ∧ (State.stateFrame s m tick).poppy = s.poppy ∧ (State.stateFrame s m tick).vetch = s.vetch ∧ (State.stateFrame s m tick).commit = s.commit ∧ (State.stateFrame s m tick).zheda = s.zheda ∧ (State.stateFrame s m tick).teasel = s.teasel ∧ (State.stateFrame s m tick).bindweed = s.bindweed ∧ (State.stateFrame s m tick).cowslip = s.cowslip ∧ (State.stateFrame s m tick).cmd = s.cmd ∧ (State.stateFrame s m tick).safety = s.safety ∧ (State.stateFrame s m tick).mem = s.mem ∧ (State.stateFrame s m tick).clock = s.clock ∧ (State.stateFrame s m tick).host = s.host ∧ (State.stateFrame s m tick).sec = s.sec ∧ (State.stateFrame s m tick).now = s.now ∧ (State.stateFrame s m tick).rdata = s.rdata ∧ (State.stateFrame s m tick).freeIx = s.freeIx ∧ (State.stateFrame s m tick).pending = s.pending := by
  unfold State.stateFrame
  simp only []
  (repeat' split) <;> simp

@[simp ↓] theorem State.numbered_keeps (s : State) (port p hops next : Nat) :
    (State.numbered s port p hops next).ident = s.ident ∧ (State.numbered s port p hops next).tick = s.tick ∧ (State.numbered s port p hops next).world = s.world ∧ (State.numbered s port p hops next).aster = s.aster ∧ (State.numbered s port p hops next).lupin = s.lupin ∧ (State.numbered s port p hops next).harebell = s.harebell ∧ (State.numbered s port p hops next).cornflower = s.cornflower ∧ (State.numbered s port p hops next).poppy = s.poppy ∧ (State.numbered s port p hops next).vetch = s.vetch ∧ (State.numbered s port p hops next).commit = s.commit ∧ (State.numbered s port p hops next).zheda = s.zheda ∧ (State.numbered s port p hops next).teasel = s.teasel ∧ (State.numbered s port p hops next).bindweed = s.bindweed ∧ (State.numbered s port p hops next).cowslip = s.cowslip ∧ (State.numbered s port p hops next).cmd = s.cmd ∧ (State.numbered s port p hops next).safety = s.safety ∧ (State.numbered s port p hops next).mem = s.mem ∧ (State.numbered s port p hops next).clock = s.clock ∧ (State.numbered s port p hops next).sec = s.sec ∧ (State.numbered s port p hops next).now = s.now ∧ (State.numbered s port p hops next).rdata = s.rdata ∧ (State.numbered s port p hops next).freeIx = s.freeIx ∧ (State.numbered s port p hops next).pending = s.pending := by
  simp [State.numbered]

@[simp ↓] theorem State.memberCtrl_keeps (s : State) (port : Nat) (m : CasMsg) :
    (State.memberCtrl s port m).ident = s.ident ∧ (State.memberCtrl s port m).harebell = s.harebell ∧ (State.memberCtrl s port m).poppy = s.poppy ∧ (State.memberCtrl s port m).bindweed = s.bindweed ∧ (State.memberCtrl s port m).cowslip = s.cowslip ∧ (State.memberCtrl s port m).safety = s.safety ∧ (State.memberCtrl s port m).mem = s.mem ∧ (State.memberCtrl s port m).clock = s.clock ∧ (State.memberCtrl s port m).sec = s.sec ∧ (State.memberCtrl s port m).now = s.now ∧ (State.memberCtrl s port m).rdata = s.rdata ∧ (State.memberCtrl s port m).freeIx = s.freeIx ∧ (State.memberCtrl s port m).pending = s.pending := by
  unfold State.memberCtrl
  (repeat' split) <;> simp

@[simp ↓] theorem State.masterCtrl_keeps (s : State) (p : Nat) (m : CasMsg) :
    (State.masterCtrl s p m).ident = s.ident ∧ (State.masterCtrl s p m).tick = s.tick ∧ (State.masterCtrl s p m).world = s.world ∧ (State.masterCtrl s p m).aster = s.aster ∧ (State.masterCtrl s p m).lupin = s.lupin ∧ (State.masterCtrl s p m).harebell = s.harebell ∧ (State.masterCtrl s p m).cornflower = s.cornflower ∧ (State.masterCtrl s p m).poppy = s.poppy ∧ (State.masterCtrl s p m).vetch = s.vetch ∧ (State.masterCtrl s p m).commit = s.commit ∧ (State.masterCtrl s p m).zheda = s.zheda ∧ (State.masterCtrl s p m).teasel = s.teasel ∧ (State.masterCtrl s p m).bindweed = s.bindweed ∧ (State.masterCtrl s p m).cowslip = s.cowslip ∧ (State.masterCtrl s p m).cmd = s.cmd ∧ (State.masterCtrl s p m).safety = s.safety ∧ (State.masterCtrl s p m).mem = s.mem ∧ (State.masterCtrl s p m).clock = s.clock ∧ (State.masterCtrl s p m).host = s.host ∧ (State.masterCtrl s p m).sec = s.sec ∧ (State.masterCtrl s p m).now = s.now ∧ (State.masterCtrl s p m).rdata = s.rdata ∧ (State.masterCtrl s p m).freeIx = s.freeIx ∧ (State.masterCtrl s p m).pending = s.pending := by
  unfold State.masterCtrl
  (repeat' split) <;> simp

@[simp ↓] theorem State.resultFrame_keeps (s : State) (p : Nat) (l : Tbl (Option DieRes)) :
    (State.resultFrame s p l).ident = s.ident ∧ (State.resultFrame s p l).tick = s.tick ∧ (State.resultFrame s p l).world = s.world ∧ (State.resultFrame s p l).aster = s.aster ∧ (State.resultFrame s p l).lupin = s.lupin ∧ (State.resultFrame s p l).harebell = s.harebell ∧ (State.resultFrame s p l).cornflower = s.cornflower ∧ (State.resultFrame s p l).poppy = s.poppy ∧ (State.resultFrame s p l).vetch = s.vetch ∧ (State.resultFrame s p l).commit = s.commit ∧ (State.resultFrame s p l).zheda = s.zheda ∧ (State.resultFrame s p l).teasel = s.teasel ∧ (State.resultFrame s p l).bindweed = s.bindweed ∧ (State.resultFrame s p l).cowslip = s.cowslip ∧ (State.resultFrame s p l).cmd = s.cmd ∧ (State.resultFrame s p l).safety = s.safety ∧ (State.resultFrame s p l).mem = s.mem ∧ (State.resultFrame s p l).clock = s.clock ∧ (State.resultFrame s p l).host = s.host ∧ (State.resultFrame s p l).sec = s.sec ∧ (State.resultFrame s p l).now = s.now ∧ (State.resultFrame s p l).rdata = s.rdata ∧ (State.resultFrame s p l).freeIx = s.freeIx ∧ (State.resultFrame s p l).pending = s.pending := by
  simp [State.resultFrame]

@[simp ↓] theorem State.transferDone_keeps (s : State) (port : Nat) (f : LinkFrame) (b : List Byte) :
    (State.transferDone s port f b).ident = s.ident ∧ (State.transferDone s port f b).rdata = s.rdata ∧ (State.transferDone s port f b).pending = s.pending ∧ (State.transferDone s port f b).sec.fuses = s.sec.fuses := by
  unfold State.transferDone
  simp only []
  (repeat' split) <;> simp

@[simp ↓] theorem State.takeFrame_keeps (s : State) (port : Nat) (prev : Option Half) (f : LinkFrame) :
    (State.takeFrame s port prev f).ident = s.ident ∧ (State.takeFrame s port prev f).rdata = s.rdata ∧ (State.takeFrame s port prev f).pending = s.pending ∧ (State.takeFrame s port prev f).sec.fuses = s.sec.fuses := by
  unfold State.takeFrame
  simp only []
  (repeat' split) <;> simp

@[simp ↓] theorem ulbFrameRxEffect_keeps (time port : Nat) (b : List Byte) (s : State) :
    (ulbFrameRxEffect time port b s).ident = s.ident ∧ (ulbFrameRxEffect time port b s).pending = s.pending ∧ (ulbFrameRxEffect time port b s).sec.fuses = s.sec.fuses := by
  unfold ulbFrameRxEffect
  (repeat' split) <;> simp

@[simp ↓] theorem State.found_keeps (s : State) (port hops delay : Nat) :
    (State.found s port hops delay).ident = s.ident ∧ (State.found s port hops delay).tick = s.tick ∧ (State.found s port hops delay).world = s.world ∧ (State.found s port hops delay).aster = s.aster ∧ (State.found s port hops delay).lupin = s.lupin ∧ (State.found s port hops delay).harebell = s.harebell ∧ (State.found s port hops delay).cornflower = s.cornflower ∧ (State.found s port hops delay).poppy = s.poppy ∧ (State.found s port hops delay).vetch = s.vetch ∧ (State.found s port hops delay).commit = s.commit ∧ (State.found s port hops delay).zheda = s.zheda ∧ (State.found s port hops delay).teasel = s.teasel ∧ (State.found s port hops delay).bindweed = s.bindweed ∧ (State.found s port hops delay).cowslip = s.cowslip ∧ (State.found s port hops delay).cmd = s.cmd ∧ (State.found s port hops delay).safety = s.safety ∧ (State.found s port hops delay).mem = s.mem ∧ (State.found s port hops delay).clock = s.clock ∧ (State.found s port hops delay).host = s.host ∧ (State.found s port hops delay).sec = s.sec ∧ (State.found s port hops delay).now = s.now ∧ (State.found s port hops delay).rdata = s.rdata ∧ (State.found s port hops delay).freeIx = s.freeIx ∧ (State.found s port hops delay).pending = s.pending := by
  unfold State.found
  (repeat' split) <;> simp

@[simp ↓] theorem State.tellPositions_keeps (s : State) :
    (State.tellPositions s).ident = s.ident ∧ (State.tellPositions s).tick = s.tick ∧ (State.tellPositions s).world = s.world ∧ (State.tellPositions s).aster = s.aster ∧ (State.tellPositions s).lupin = s.lupin ∧ (State.tellPositions s).harebell = s.harebell ∧ (State.tellPositions s).cornflower = s.cornflower ∧ (State.tellPositions s).poppy = s.poppy ∧ (State.tellPositions s).vetch = s.vetch ∧ (State.tellPositions s).commit = s.commit ∧ (State.tellPositions s).zheda = s.zheda ∧ (State.tellPositions s).teasel = s.teasel ∧ (State.tellPositions s).bindweed = s.bindweed ∧ (State.tellPositions s).cowslip = s.cowslip ∧ (State.tellPositions s).cmd = s.cmd ∧ (State.tellPositions s).safety = s.safety ∧ (State.tellPositions s).mem = s.mem ∧ (State.tellPositions s).clock = s.clock ∧ (State.tellPositions s).sec = s.sec ∧ (State.tellPositions s).now = s.now ∧ (State.tellPositions s).rdata = s.rdata ∧ (State.tellPositions s).freeIx = s.freeIx ∧ (State.tellPositions s).pending = s.pending := by
  simp [State.tellPositions]

@[simp ↓] theorem ulbPortTrainedEffect_keeps (port : Nat) (delays : List Nat) (ring second : Bool) (s : State) :
    (ulbPortTrainedEffect port delays ring second s).ident = s.ident ∧ (ulbPortTrainedEffect port delays ring second s).tick = s.tick ∧ (ulbPortTrainedEffect port delays ring second s).world = s.world ∧ (ulbPortTrainedEffect port delays ring second s).aster = s.aster ∧ (ulbPortTrainedEffect port delays ring second s).lupin = s.lupin ∧ (ulbPortTrainedEffect port delays ring second s).harebell = s.harebell ∧ (ulbPortTrainedEffect port delays ring second s).cornflower = s.cornflower ∧ (ulbPortTrainedEffect port delays ring second s).poppy = s.poppy ∧ (ulbPortTrainedEffect port delays ring second s).vetch = s.vetch ∧ (ulbPortTrainedEffect port delays ring second s).commit = s.commit ∧ (ulbPortTrainedEffect port delays ring second s).zheda = s.zheda ∧ (ulbPortTrainedEffect port delays ring second s).teasel = s.teasel ∧ (ulbPortTrainedEffect port delays ring second s).bindweed = s.bindweed ∧ (ulbPortTrainedEffect port delays ring second s).cowslip = s.cowslip ∧ (ulbPortTrainedEffect port delays ring second s).cmd = s.cmd ∧ (ulbPortTrainedEffect port delays ring second s).mem = s.mem ∧ (ulbPortTrainedEffect port delays ring second s).sec = s.sec ∧ (ulbPortTrainedEffect port delays ring second s).now = s.now ∧ (ulbPortTrainedEffect port delays ring second s).rdata = s.rdata ∧ (ulbPortTrainedEffect port delays ring second s).pending = s.pending := by
  simp [ulbPortTrainedEffect]

@[simp ↓] theorem ulbPortDownEffect_keeps (port : Nat) (lanes : BitVec 4) (s : State) :
    (ulbPortDownEffect port lanes s).ident = s.ident ∧ (ulbPortDownEffect port lanes s).tick = s.tick ∧ (ulbPortDownEffect port lanes s).world = s.world ∧ (ulbPortDownEffect port lanes s).aster = s.aster ∧ (ulbPortDownEffect port lanes s).lupin = s.lupin ∧ (ulbPortDownEffect port lanes s).harebell = s.harebell ∧ (ulbPortDownEffect port lanes s).cornflower = s.cornflower ∧ (ulbPortDownEffect port lanes s).poppy = s.poppy ∧ (ulbPortDownEffect port lanes s).vetch = s.vetch ∧ (ulbPortDownEffect port lanes s).commit = s.commit ∧ (ulbPortDownEffect port lanes s).zheda = s.zheda ∧ (ulbPortDownEffect port lanes s).teasel = s.teasel ∧ (ulbPortDownEffect port lanes s).bindweed = s.bindweed ∧ (ulbPortDownEffect port lanes s).cowslip = s.cowslip ∧ (ulbPortDownEffect port lanes s).cmd = s.cmd ∧ (ulbPortDownEffect port lanes s).safety = s.safety ∧ (ulbPortDownEffect port lanes s).mem = s.mem ∧ (ulbPortDownEffect port lanes s).clock = s.clock ∧ (ulbPortDownEffect port lanes s).sec = s.sec ∧ (ulbPortDownEffect port lanes s).now = s.now ∧ (ulbPortDownEffect port lanes s).rdata = s.rdata ∧ (ulbPortDownEffect port lanes s).freeIx = s.freeIx ∧ (ulbPortDownEffect port lanes s).pending = s.pending := by
  unfold ulbPortDownEffect
  simp only []
  (repeat' split) <;> simp

@[simp ↓] theorem doorbellWriteEffect_keeps (d : Nat) (who : Master) (v : Word) (s : State) :
    (doorbellWriteEffect d who v s).ident = s.ident ∧ (doorbellWriteEffect d who v s).now = s.now ∧ (doorbellWriteEffect d who v s).pending = s.pending ∧ (doorbellWriteEffect d who v s).sec.fuses = s.sec.fuses := by
  simp [doorbellWriteEffect]

@[simp ↓] theorem sqDoorbellEffect_keeps (r : Nat) (tail : Word) (s : State) :
    (sqDoorbellEffect r tail s).ident = s.ident ∧ (sqDoorbellEffect r tail s).now = s.now ∧ (sqDoorbellEffect r tail s).pending = s.pending ∧ (sqDoorbellEffect r tail s).sec.fuses = s.sec.fuses := by
  simp [sqDoorbellEffect]

@[simp ↓] theorem cqDoorbellEffect_keeps (r : Nat) (head : Word) (s : State) :
    (cqDoorbellEffect r head s).ident = s.ident ∧ (cqDoorbellEffect r head s).now = s.now ∧ (cqDoorbellEffect r head s).pending = s.pending ∧ (cqDoorbellEffect r head s).sec.fuses = s.sec.fuses := by
  simp [cqDoorbellEffect]

@[simp ↓] theorem ringCfgEffect_keeps (r : Nat) (who : Master) (cfg : Word) (s : State) :
    (ringCfgEffect r who cfg s).ident = s.ident ∧ (ringCfgEffect r who cfg s).now = s.now ∧ (ringCfgEffect r who cfg s).pending = s.pending ∧ (ringCfgEffect r who cfg s).sec.fuses = s.sec.fuses := by
  unfold ringCfgEffect
  generalize 0x1010 + r * 0x20 = a
  have key : (s.regAccess who a true fun s => s.updRing r fun g => g.cfgWrite cfg).ident = s.ident ∧ (s.regAccess who a true fun s => s.updRing r fun g => g.cfgWrite cfg).now = s.now ∧ (s.regAccess who a true fun s => s.updRing r fun g => g.cfgWrite cfg).pending = s.pending ∧ (s.regAccess who a true fun s => s.updRing r fun g => g.cfgWrite cfg).sec.fuses = s.sec.fuses := by
    refine ⟨?_, ?_, ?_, ?_⟩ <;>
    · first | with_reducible apply State.regAccess_proj | with_reducible apply State.regAccess_proj (fun s => s.sec.fuses)
      · intros; simp
      · intros; simp
      · intros; simp
      · intros; simp
  simp [key]

@[simp ↓] theorem mailboxMessageEffect_keeps (m : Nat) (who : Master) (w : MbWrite) (s : State) :
    (mailboxMessageEffect m who w s).ident = s.ident ∧ (mailboxMessageEffect m who w s).now = s.now ∧ (mailboxMessageEffect m who w s).pending = s.pending ∧ (mailboxMessageEffect m who w s).sec.fuses = s.sec.fuses := by
  simp [mailboxMessageEffect]

@[simp ↓] theorem mailboxAckEffect_keeps (m : Nat) (who : Master) (val : Word) (s : State) :
    (mailboxAckEffect m who val s).ident = s.ident ∧ (mailboxAckEffect m who val s).now = s.now ∧ (mailboxAckEffect m who val s).pending = s.pending ∧ (mailboxAckEffect m who val s).sec.fuses = s.sec.fuses := by
  simp [mailboxAckEffect]

@[simp ↓] theorem usbTransferEffect_keeps (b : List Byte) (s : State) :
    (usbTransferEffect b s).ident = s.ident ∧ (usbTransferEffect b s).now = s.now ∧ (usbTransferEffect b s).pending = s.pending ∧ (usbTransferEffect b s).sec.fuses = s.sec.fuses := by
  unfold usbTransferEffect
  (repeat' split) <;> simp

@[simp ↓] theorem State.readFailed_keeps (s : State) (what : DmaRead) :
    (State.readFailed s what).ident = s.ident ∧ (State.readFailed s what).tick = s.tick ∧ (State.readFailed s what).world = s.world ∧ (State.readFailed s what).aster = s.aster ∧ (State.readFailed s what).lupin = s.lupin ∧ (State.readFailed s what).harebell = s.harebell ∧ (State.readFailed s what).poppy = s.poppy ∧ (State.readFailed s what).vetch = s.vetch ∧ (State.readFailed s what).commit = s.commit ∧ (State.readFailed s what).bindweed = s.bindweed ∧ (State.readFailed s what).clock = s.clock ∧ (State.readFailed s what).sec = s.sec ∧ (State.readFailed s what).casc = s.casc ∧ (State.readFailed s what).now = s.now ∧ (State.readFailed s what).rdata = s.rdata ∧ (State.readFailed s what).pending = s.pending := by
  unfold State.readFailed
  (repeat' split) <;> simp

@[simp ↓] theorem dmaReadErrorEffect_keeps (addr : Dword) (what : DmaRead) (s : State) :
    (dmaReadErrorEffect addr what s).ident = s.ident ∧ (dmaReadErrorEffect addr what s).now = s.now ∧ (dmaReadErrorEffect addr what s).pending = s.pending ∧ (dmaReadErrorEffect addr what s).sec.fuses = s.sec.fuses := by
  simp [dmaReadErrorEffect]

@[simp ↓] theorem unfreezeWriteEffect_keeps (val : Word) (s : State) :
    (unfreezeWriteEffect val s).ident = s.ident ∧ (unfreezeWriteEffect val s).now = s.now ∧ (unfreezeWriteEffect val s).pending = s.pending ∧ (unfreezeWriteEffect val s).sec.fuses = s.sec.fuses := by
  simp [unfreezeWriteEffect]

@[simp ↓] theorem plainWriteEffect_keeps (off : Nat) (who : Master) (v : Word) (s : State) :
    (plainWriteEffect off who v s).ident = s.ident ∧ (plainWriteEffect off who v s).sec = s.sec ∧ (plainWriteEffect off who v s).now = s.now ∧ (plainWriteEffect off who v s).pending = s.pending ∧ (plainWriteEffect off who v s).mem.ddr = s.mem.ddr ∧ (plainWriteEffect off who v s).mem.sram = s.mem.sram := by
  unfold plainWriteEffect
  refine ⟨?_, ?_, ?_, ?_, ?_, ?_⟩ <;> (repeat' (first | with_reducible rfl | (simp; done) | (with_reducible intro _) | (with_reducible apply State.item_proj) | (with_reducible apply State.guarded_proj) | (with_reducible apply State.counterOp_proj) | (with_reducible apply State.regAccess_proj) | (with_reducible apply State.packet_proj) | (with_reducible apply State.cfgPacket_proj) | (with_reducible refine Eq.trans (foldl_proj _ _ _ _ ?_) ?_) | (with_reducible refine Eq.trans (foldl_fst_proj _ _ _ _ ?_) ?_) | (with_reducible refine Eq.trans (foldl_snd_proj _ _ _ _ ?_) ?_) | (with_reducible apply State.item_proj (fun s => s.mem.ddr)) | (with_reducible apply State.guarded_proj (fun s => s.mem.ddr)) | (with_reducible apply State.counterOp_proj (fun s => s.mem.ddr)) | (with_reducible apply State.regAccess_proj (fun s => s.mem.ddr)) | (with_reducible apply State.packet_proj (fun s => s.mem.ddr)) | (with_reducible apply State.cfgPacket_proj (fun s => s.mem.ddr)) | (with_reducible refine Eq.trans (foldl_proj  (fun s => s.mem.ddr) _ _ _ ?_) ?_) | (with_reducible refine Eq.trans (foldl_fst_proj  (fun s => s.mem.ddr) _ _ _ ?_) ?_) | (with_reducible refine Eq.trans (foldl_snd_proj  (fun s => s.mem.ddr) _ _ _ ?_) ?_) | (with_reducible apply State.item_proj (fun s => s.mem.sram)) | (with_reducible apply State.guarded_proj (fun s => s.mem.sram)) | (with_reducible apply State.counterOp_proj (fun s => s.mem.sram)) | (with_reducible apply State.regAccess_proj (fun s => s.mem.sram)) | (with_reducible apply State.packet_proj (fun s => s.mem.sram)) | (with_reducible apply State.cfgPacket_proj (fun s => s.mem.sram)) | (with_reducible refine Eq.trans (foldl_proj  (fun s => s.mem.sram) _ _ _ ?_) ?_) | (with_reducible refine Eq.trans (foldl_fst_proj  (fun s => s.mem.sram) _ _ _ ?_) ?_) | (with_reducible refine Eq.trans (foldl_snd_proj  (fun s => s.mem.sram) _ _ _ ?_) ?_) | split | (simp only []; split) | (dsimp only; split)))

@[simp ↓] theorem cowWriteEffect_keeps (o : Nat) (who : Master) (v : Word) (s : State) :
    (cowWriteEffect o who v s).ident = s.ident ∧ (cowWriteEffect o who v s).now = s.now ∧ (cowWriteEffect o who v s).pending = s.pending ∧ (cowWriteEffect o who v s).sec.fuses = s.sec.fuses := by
  unfold cowWriteEffect
  dsimp only
  generalize 0xB0000 + o = a
  (repeat' split) <;> simp

@[simp ↓] theorem bndWriteEffect_keeps (o : Nat) (who : Master) (v : Word) (s : State) :
    (bndWriteEffect o who v s).ident = s.ident ∧ (bndWriteEffect o who v s).sec = s.sec ∧ (bndWriteEffect o who v s).now = s.now ∧ (bndWriteEffect o who v s).pending = s.pending ∧ (bndWriteEffect o who v s).mem.ddr = s.mem.ddr ∧ (bndWriteEffect o who v s).mem.sram = s.mem.sram := by
  unfold bndWriteEffect
  refine ⟨?_, ?_, ?_, ?_, ?_, ?_⟩ <;> (repeat' (first | with_reducible rfl | (simp; done) | (with_reducible intro _) | (with_reducible apply State.item_proj) | (with_reducible apply State.guarded_proj) | (with_reducible apply State.counterOp_proj) | (with_reducible apply State.regAccess_proj) | (with_reducible apply State.packet_proj) | (with_reducible apply State.cfgPacket_proj) | (with_reducible refine Eq.trans (foldl_proj _ _ _ _ ?_) ?_) | (with_reducible refine Eq.trans (foldl_fst_proj _ _ _ _ ?_) ?_) | (with_reducible refine Eq.trans (foldl_snd_proj _ _ _ _ ?_) ?_) | (with_reducible apply State.item_proj (fun s => s.mem.ddr)) | (with_reducible apply State.guarded_proj (fun s => s.mem.ddr)) | (with_reducible apply State.counterOp_proj (fun s => s.mem.ddr)) | (with_reducible apply State.regAccess_proj (fun s => s.mem.ddr)) | (with_reducible apply State.packet_proj (fun s => s.mem.ddr)) | (with_reducible apply State.cfgPacket_proj (fun s => s.mem.ddr)) | (with_reducible refine Eq.trans (foldl_proj  (fun s => s.mem.ddr) _ _ _ ?_) ?_) | (with_reducible refine Eq.trans (foldl_fst_proj  (fun s => s.mem.ddr) _ _ _ ?_) ?_) | (with_reducible refine Eq.trans (foldl_snd_proj  (fun s => s.mem.ddr) _ _ _ ?_) ?_) | (with_reducible apply State.item_proj (fun s => s.mem.sram)) | (with_reducible apply State.guarded_proj (fun s => s.mem.sram)) | (with_reducible apply State.counterOp_proj (fun s => s.mem.sram)) | (with_reducible apply State.regAccess_proj (fun s => s.mem.sram)) | (with_reducible apply State.packet_proj (fun s => s.mem.sram)) | (with_reducible apply State.cfgPacket_proj (fun s => s.mem.sram)) | (with_reducible refine Eq.trans (foldl_proj  (fun s => s.mem.sram) _ _ _ ?_) ?_) | (with_reducible refine Eq.trans (foldl_fst_proj  (fun s => s.mem.sram) _ _ _ ?_) ?_) | (with_reducible refine Eq.trans (foldl_snd_proj  (fun s => s.mem.sram) _ _ _ ?_) ?_) | split | (simp only []; split) | (dsimp only; split)))

@[simp ↓] theorem registerWriteEffect_keeps (off : Nat) (who : Master) (v : Word) (s : State) :
    (registerWriteEffect off who v s).ident = s.ident ∧ (registerWriteEffect off who v s).now = s.now ∧ (registerWriteEffect off who v s).pending = s.pending ∧ (registerWriteEffect off who v s).sec.fuses = s.sec.fuses := by
  unfold registerWriteEffect
  extract_lets o
  split
  · simp
  split
  · generalize off - 0x200000 = a
    simp
  generalize off / 0x10000 = b
  iterate 18 (rcases b with _ | b; · (try simp only [Nat.zero_add, Nat.reduceAdd]); (refine ⟨?_, ?_, ?_, ?_⟩ <;> (try split) <;> first | (simp; done) | (with_reducible apply State.regAccess_proj <;> intros <;> simp; done) | (with_reducible apply State.regAccess_proj (fun s => s.sec.fuses) <;> intros <;> simp; done)))
  simp

@[simp ↓] theorem State.withFetchWord_keeps (s : State) (nbits w : Nat) :
    (State.withFetchWord s nbits w).ident = s.ident ∧ (State.withFetchWord s nbits w).tick = s.tick ∧ (State.withFetchWord s nbits w).world = s.world ∧ (State.withFetchWord s nbits w).aster = s.aster ∧ (State.withFetchWord s nbits w).lupin = s.lupin ∧ (State.withFetchWord s nbits w).harebell = s.harebell ∧ (State.withFetchWord s nbits w).cornflower = s.cornflower ∧ (State.withFetchWord s nbits w).poppy = s.poppy ∧ (State.withFetchWord s nbits w).vetch = s.vetch ∧ (State.withFetchWord s nbits w).commit = s.commit ∧ (State.withFetchWord s nbits w).zheda = s.zheda ∧ (State.withFetchWord s nbits w).teasel = s.teasel ∧ (State.withFetchWord s nbits w).bindweed = s.bindweed ∧ (State.withFetchWord s nbits w).cowslip = s.cowslip ∧ (State.withFetchWord s nbits w).cmd = s.cmd ∧ (State.withFetchWord s nbits w).safety = s.safety ∧ (State.withFetchWord s nbits w).mem = s.mem ∧ (State.withFetchWord s nbits w).clock = s.clock ∧ (State.withFetchWord s nbits w).host = s.host ∧ (State.withFetchWord s nbits w).sec = s.sec ∧ (State.withFetchWord s nbits w).casc = s.casc ∧ (State.withFetchWord s nbits w).now = s.now ∧ (State.withFetchWord s nbits w).rdata = s.rdata ∧ (State.withFetchWord s nbits w).freeIx = s.freeIx := by
  unfold State.withFetchWord
  refine ⟨?_, ?_, ?_, ?_, ?_, ?_, ?_, ?_, ?_, ?_, ?_, ?_, ?_, ?_, ?_, ?_, ?_, ?_, ?_, ?_, ?_, ?_, ?_, ?_⟩ <;> (repeat' (first | with_reducible rfl | (simp; done) | (with_reducible intro _) | (with_reducible apply State.item_proj) | (with_reducible apply State.guarded_proj) | (with_reducible apply State.counterOp_proj) | (with_reducible apply State.regAccess_proj) | (with_reducible apply State.packet_proj) | (with_reducible apply State.cfgPacket_proj) | (with_reducible refine Eq.trans (foldl_proj _ _ _ _ ?_) ?_) | (with_reducible refine Eq.trans (foldl_fst_proj _ _ _ _ ?_) ?_) | (with_reducible refine Eq.trans (foldl_snd_proj _ _ _ _ ?_) ?_) | split | (simp only []; split) | (dsimp only; split) | simp | dsimp only))

end Sys2Proof.Machine
end

