-- ==== Sys2Proof/Laws/Memory.lean ====
section
/-! SUPPORT. Laws of the sparse memories and tables: every operation keeps the canonical form; what a read answers after a write or a
clearing. -/

namespace Sys2Proof.Machine

theorem Mem.wfFrom_weaken {lo lo' : Option Nat} {m : Mem} (h : Mem.wfFrom lo m = true)
    (hl : ∀ x, lo' = some x → ∃ y, lo = some y ∧ x ≤ y) : Mem.wfFrom lo' m = true := by
  cases m with
  | nil => rfl
  | cons c t =>
    obtain ⟨k, v⟩ := c
    simp only [Mem.wfFrom, Bool.and_eq_true] at h ⊢
    refine ⟨⟨?_, h.1.2⟩, h.2⟩
    cases lo' with
    | none => rfl
    | some x =>
      obtain ⟨y, rfl, hy⟩ := hl x rfl
      have := h.1.1
      simp at this ⊢; omega

theorem Mem.write_wfFrom (m : Mem) (a : Nat) (b : Byte) (lo : Option Nat) (h : Mem.wfFrom lo m = true)
    (hl : ∀ x, lo = some x → x < a) : Mem.wfFrom lo (m.write a b) = true := by
  induction m generalizing lo with
  | nil =>
    simp only [Mem.write, Mem.consNB]
    split
    · rfl
    · next hb =>
      cases lo with
      | none => simp [Mem.wfFrom, hb]
      | some x => simp [Mem.wfFrom, hb, hl x rfl]
  | cons c t ih =>
    obtain ⟨k, v⟩ := c
    simp only [Mem.wfFrom, Bool.and_eq_true] at h
    simp only [Mem.write]
    split
    · next hk =>
      subst hk
      simp only [Mem.consNB]
      split
      · exact Mem.wfFrom_weaken h.2 fun x hx => ⟨a, rfl, Nat.le_of_lt (hl x hx)⟩
      · next hb => simp [Mem.wfFrom, hb, h.2]; exact h.1.1
    · split
      · next hlt =>
        simp only [Mem.consNB]
        split
        · simp only [Mem.wfFrom, Bool.and_eq_true]; exact h
        · next hb =>
          have h2 : v ≠ Mem.blank := by simpa using h.1.2
          cases lo with
          | none => simp [Mem.wfFrom, hb, hlt, h2, h.2]
          | some x => simp [Mem.wfFrom, hb, hlt, h2, h.2, hl x rfl]
      · next h1 h2 =>
        simp only [Mem.wfFrom, Bool.and_eq_true]
        refine ⟨h.1, ih _ h.2 ?_⟩
        intro x hx; cases hx; omega

theorem Mem.write_wf (m : Mem) (a : Nat) (b : Byte) (h : m.wf = true) : (m.write a b).wf = true :=
  Mem.write_wfFrom m a b none h (by simp)

@[simp] theorem Mem.writes_wf (m : Mem) (a : Nat) (bs : List Byte) (h : m.wf = true) : (m.writes a bs).wf = true := by
  induction bs generalizing m a with
  | nil => exact h
  | cons b t ih => exact ih _ _ (Mem.write_wf m a b h)

theorem Mem.filter_wfFrom (m : Mem) (p : Host.Cell → Bool) (lo : Option Nat) (h : Mem.wfFrom lo m = true) :
    Mem.wfFrom lo (m.filter p) = true := by
  induction m generalizing lo with
  | nil => rfl
  | cons c t ih =>
    obtain ⟨k, v⟩ := c
    simp only [Mem.wfFrom, Bool.and_eq_true] at h
    simp only [List.filter]
    split
    · simp only [Mem.wfFrom, Bool.and_eq_true]; exact ⟨h.1, ih _ h.2⟩
    · refine Mem.wfFrom_weaken (ih _ h.2) fun x hx => ⟨k, rfl, ?_⟩
      subst hx
      have := h.1.1
      simp at this; omega

@[simp] theorem Mem.clearRange_wf (m : Mem) (lo hi : Nat) (h : m.wf = true) : (m.clearRange lo hi).wf = true :=
  Mem.filter_wfFrom m _ none h

theorem Mem.ofBytes_wf (bs : List Byte) : (Mem.ofBytes bs).wf = true := Mem.writes_wf [] 0 bs rfl

@[simp] theorem Mem.wf_nil : Mem.wf [] = true := rfl

/-- Nothing stands below the first address of a canonical memory. -/
theorem Mem.read_below (m : Mem) (x : Nat) (h : Mem.wfFrom (some x) m = true) : m.read x = Mem.blank := by
  cases m with
  | nil => rfl
  | cons c t =>
    obtain ⟨k, v⟩ := c
    simp only [Mem.wfFrom, Bool.and_eq_true, decide_eq_true_eq] at h
    simp only [Mem.read]
    rw [if_neg (by omega), if_pos (by omega)]

/-- A read after a write gives the byte written at its address and what stood there at every other address. -/
theorem Mem.read_write (m : Mem) (a x : Nat) (b : Byte) (lo : Option Nat) (h : Mem.wfFrom lo m = true) :
    (m.write a b).read x = if x = a then b else m.read x := by
  induction m generalizing lo with
  | nil =>
    simp only [Mem.write, Mem.consNB]
    split
    · next hb => subst hb; simp [Mem.read]
    · simp only [Mem.read]; split <;> simp
  | cons c t ih =>
    obtain ⟨k, v⟩ := c
    simp only [Mem.wfFrom, Bool.and_eq_true] at h
    simp only [Mem.write]
    split
    · next hk =>
      subst hk
      simp only [Mem.consNB]
      split
      · next hb =>
        subst hb
        by_cases hx : x = a
        · subst hx; simp [Mem.read_below t x h.2]
        · simp only [Mem.read, hx, if_false]
          split
          · next hlt => exact Mem.read_below t x (Mem.wfFrom_weaken h.2 fun y hy => ⟨a, rfl, by cases hy; omega⟩)
          · rfl
      · simp only [Mem.read]; split <;> simp_all
    · next hak =>
      split
      · next hlt =>
        simp only [Mem.consNB]
        split
        · next hb =>
          subst hb
          by_cases hx : x = a
          · subst hx; simp [Mem.read, hak, hlt]
          · simp [hx]
        · simp only [Mem.read]
          by_cases hx : x = a
          · simp [hx]
          · simp only [hx, if_false]
            split
            · rw [if_neg (by omega), if_pos (by omega)]
            · rfl
      · next hlt =>
        simp only [Mem.read]
        by_cases hx : x = k
        · subst hx; simp; intro e; exact absurd e.symm hak
        · simp only [hx, if_false]
          split
          · next hxk => rw [if_neg (by omega)]
          · exact ih _ h.2

/-- Bytes written read back in their places, and every other address reads as before. -/
theorem Mem.read_writes (m : Mem) (a x : Nat) (bs : List Byte) (h : m.wf = true) :
    (m.writes a bs).read x = if a ≤ x ∧ x < a + bs.length then bs.getD (x - a) Mem.blank else m.read x := by
  induction bs generalizing m a with
  | nil => rw [if_neg (by simp only [List.length_nil]; omega)]; rfl
  | cons b t ih =>
    simp only [Mem.writes, List.length_cons]
    rw [ih _ _ (Mem.write_wf m a b h), Mem.read_write m a x b none h]
    by_cases h1 : x = a
    · subst h1
      rw [if_neg (by omega), if_pos rfl, if_pos (by omega)]
      simp
    · by_cases h2 : a + 1 ≤ x ∧ x < a + 1 + t.length
      · rw [if_pos h2, if_pos (by omega)]
        obtain ⟨n, hn⟩ : ∃ n, x - a = n + 1 := ⟨x - a - 1, by omega⟩
        rw [hn, show x - (a + 1) = n by omega]; simp
      · rw [if_neg h2, if_neg h1, if_neg (by omega)]

/-- A cleared range reads blank, and every other address reads as before. -/
theorem Mem.read_clearRange (m : Mem) (l u x : Nat) (lo : Option Nat) (h : Mem.wfFrom lo m = true) :
    (m.clearRange l u).read x = if l ≤ x ∧ x < u then Mem.blank else m.read x := by
  induction m generalizing lo with
  | nil => simp [Mem.clearRange, Mem.read]
  | cons c t ih =>
    obtain ⟨k, v⟩ := c
    simp only [Mem.wfFrom, Bool.and_eq_true] at h
    have h2 := ih _ h.2
    simp only [Mem.clearRange] at h2 ⊢
    simp only [List.filter]
    split
    · next hk =>
      simp only [Mem.read]
      simp only [Bool.or_eq_true, decide_eq_true_eq] at hk
      by_cases hx : x = k
      · subst hx; rw [if_pos rfl, if_neg (by omega)]; simp
      · simp only [hx, if_false]
        split
        · next hlt => simp
        · exact h2
    · next hk =>
      simp only [Bool.or_eq_false_iff, decide_eq_false_iff_not] at hk
      rw [h2]
      simp only [Mem.read]
      by_cases hr : l ≤ x ∧ x < u
      · simp [hr]
      · simp only [hr, if_false]
        rw [if_neg (by omega)]
        split
        · next hlt => exact Mem.read_below t x (Mem.wfFrom_weaken h.2 fun y hy => ⟨k, rfl, by cases hy; omega⟩)
        · rfl

/-! ### Tables -/

/-- A table answers what was put at an index, and what it held at every other. -/
theorem Tbl.find?_put {α : Type} (t : Tbl α) (i j : Nat) (x : α) :
    Tbl.find? (Tbl.put t i x) j = if j = i then some x else Tbl.find? t j := by
  induction t with
  | nil => simp only [Tbl.put, Tbl.find?]; split <;> simp
  | cons c t ih =>
    obtain ⟨k, v⟩ := c
    simp only [Tbl.put]
    split
    · next h => subst h; simp only [Tbl.find?]; split <;> rfl
    · next h =>
      split
      · simp only [Tbl.find?]
        by_cases hj : j = i
        · simp [hj]
        · simp only [hj, if_false]
          split
          · rw [if_neg (by omega), if_pos (by omega)]
          · rfl
      · simp only [Tbl.find?]
        by_cases hk : j = k
        · subst hk; simp; intro e; exact absurd e.symm h
        · simp only [hk, if_false]
          split
          · rw [if_neg (by omega)]
          · exact ih

@[simp] theorem Tbl.get_put {α : Type} (d : α) (t : Tbl α) (i j : Nat) (x : α) :
    Tbl.get d (Tbl.put t i x) j = if j = i then x else Tbl.get d t j := by
  simp only [Tbl.get, Tbl.find?_put]; split <;> rfl

@[simp] theorem Tbl.get_upd {α : Type} (d : α) (t : Tbl α) (i j : Nat) (f : α → α) :
    Tbl.get d (Tbl.upd d t i f) j = if j = i then f (Tbl.get d t i) else Tbl.get d t j := by simp [Tbl.upd]

end Sys2Proof.Machine
end

