-- ==== Sys2Proof/Laws/KeepMemory.lean ====
section
/-! SUPPORT. Every operation keeps the canonical form of the two memories. -/

set_option linter.unusedSimpArgs false
set_option linter.unusedVariables false

namespace Sys2Proof.Machine

theorem foldl_pred {α β : Type} (P : β → Prop) (f : β → α → β) (l : List α) (s : β) (h : ∀ s x, P s → P (f s x)) (hs : P s) :
    P (l.foldl f s) := by
  induction l generalizing s with
  | nil => exact hs
  | cons a t ih => exact ih _ (h _ _ hs)

@[simp ↓, simp] theorem foldl_ok {α : Type} (f : State → α → State) (l : List α) (s : State)
    (h : ∀ s x, (s.mem.ddr.wf = true ∧ s.mem.sram.wf = true) → ((f s x).mem.ddr.wf = true ∧ (f s x).mem.sram.wf = true)) (hs : (s.mem.ddr.wf = true ∧ s.mem.sram.wf = true)) : ((l.foldl f s).mem.ddr.wf = true ∧ (l.foldl f s).mem.sram.wf = true) :=
  foldl_pred (fun s => (s.mem.ddr.wf = true ∧ s.mem.sram.wf = true)) f l s h hs
@[simp ↓, simp] theorem foldl_fst_ok {α β : Type} (f : State × β → α → State × β) (l : List α) (s : State × β)
    (h : ∀ s x, (s.1.mem.ddr.wf = true ∧ s.1.mem.sram.wf = true) → ((f s x).1.mem.ddr.wf = true ∧ (f s x).1.mem.sram.wf = true)) (hs : (s.1.mem.ddr.wf = true ∧ s.1.mem.sram.wf = true)) : ((l.foldl f s).1.mem.ddr.wf = true ∧ (l.foldl f s).1.mem.sram.wf = true) :=
  foldl_pred (fun s => (s.1.mem.ddr.wf = true ∧ s.1.mem.sram.wf = true)) f l s h hs
@[simp ↓, simp] theorem foldl_snd_ok {α β : Type} (f : β × State → α → β × State) (l : List α) (s : β × State)
    (h : ∀ s x, (s.2.mem.ddr.wf = true ∧ s.2.mem.sram.wf = true) → ((f s x).2.mem.ddr.wf = true ∧ (f s x).2.mem.sram.wf = true)) (hs : (s.2.mem.ddr.wf = true ∧ s.2.mem.sram.wf = true)) : ((l.foldl f s).2.mem.ddr.wf = true ∧ (l.foldl f s).2.mem.sram.wf = true) :=
  foldl_pred (fun s => (s.2.mem.ddr.wf = true ∧ s.2.mem.sram.wf = true)) f l s h hs

variable {n : Nat}



@[simp ↓, simp] theorem foldl_later {α : Type} (f : State → α → State) (l : List α) (s : State)
    (h : ∀ s x, n ≤ s.now → n ≤ (f s x).now) (hs : n ≤ s.now) : n ≤ (l.foldl f s).now :=
  foldl_pred (fun s => n ≤ s.now) f l s h hs
@[simp ↓, simp] theorem foldl_fst_later {α β : Type} (f : State × β → α → State × β) (l : List α) (s : State × β)
    (h : ∀ s x, n ≤ s.1.now → n ≤ (f s x).1.now) (hs : n ≤ s.1.now) : n ≤ (l.foldl f s).1.now :=
  foldl_pred (fun s => n ≤ s.1.now) f l s h hs
@[simp ↓, simp] theorem foldl_snd_later {α β : Type} (f : β × State → α → β × State) (l : List α) (s : β × State)
    (h : ∀ s x, n ≤ s.2.now → n ≤ (f s x).2.now) (hs : n ≤ s.2.now) : n ≤ (l.foldl f s).2.now :=
  foldl_pred (fun s => n ≤ s.2.now) f l s h hs

@[simp ↓, simp] theorem State.guarded_ok (s : State) (who : Master) (addr : Nat) (write : Bool) (k : State → State) (hk : ∀ s, ((s).mem.ddr.wf = true ∧ (s).mem.sram.wf = true) → ((k s).mem.ddr.wf = true ∧ (k s).mem.sram.wf = true)) (hh : ((s).mem.ddr.wf = true ∧ (s).mem.sram.wf = true)) : ((State.guarded s who addr write k).mem.ddr.wf = true ∧ (State.guarded s who addr write k).mem.sram.wf = true) := by
  unfold State.guarded
  (repeat' split) <;> simp +contextual (maxDischargeDepth := 30) [hh, hk]

@[simp ↓, simp] theorem State.counterOp_ok (s : State) (o n : Nat) (who : Master) (write : Bool) (k : State → State) (hk : ∀ s, ((s).mem.ddr.wf = true ∧ (s).mem.sram.wf = true) → ((k s).mem.ddr.wf = true ∧ (k s).mem.sram.wf = true)) (hh : ((s).mem.ddr.wf = true ∧ (s).mem.sram.wf = true)) : ((State.counterOp s o n who write k).mem.ddr.wf = true ∧ (State.counterOp s o n who write k).mem.sram.wf = true) := by
  unfold State.counterOp
  (repeat' (first | with_reducible assumption | (simp +contextual (maxDischargeDepth := 30) [*, hh, hk]; done) | (with_reducible intro _) | (with_reducible apply State.guarded_ok) | (with_reducible apply foldl_ok) | (with_reducible apply foldl_fst_ok) | (with_reducible apply foldl_snd_ok) | (simp_all [Mem.writes_wf, Mem.clearRange_wf]; done) | split | (simp only []; split) | (dsimp only; split) | (dsimp only)))

@[simp ↓, simp] theorem bar2Effect_ok (off len : Nat) (data : Option (List Byte)) (err : GranErr) (s : State)  (hh : ((s).mem.ddr.wf = true ∧ (s).mem.sram.wf = true)) : ((bar2Effect off len data err s).mem.ddr.wf = true ∧ (bar2Effect off len data err s).mem.sram.wf = true) := by
  unfold bar2Effect
  simp only []
  (repeat' split) <;> simp +contextual (maxDischargeDepth := 30) [hh]

@[simp ↓, simp] theorem secureWipeDoneEffect_ok (ok : Bool) (s : State)  (hh : ((s).mem.ddr.wf = true ∧ (s).mem.sram.wf = true)) : ((secureWipeDoneEffect ok s).mem.ddr.wf = true ∧ (secureWipeDoneEffect ok s).mem.sram.wf = true) := by
  unfold secureWipeDoneEffect
  (repeat' split) <;> simp +contextual (maxDischargeDepth := 30) [hh]

@[simp ↓, simp] theorem State.packet_ok (s : State) (h : Hdr) (op : Nat) (c : Checks) (run : State → State) (hrun : ∀ s, ((s).mem.ddr.wf = true ∧ (s).mem.sram.wf = true) → ((run s).mem.ddr.wf = true ∧ (run s).mem.sram.wf = true)) (hh : ((s).mem.ddr.wf = true ∧ (s).mem.sram.wf = true)) : ((State.packet s h op c run).mem.ddr.wf = true ∧ (State.packet s h op c run).mem.sram.wf = true) := by
  unfold State.packet
  simp only []
  (repeat' split) <;> simp +contextual (maxDischargeDepth := 30) [hh, hrun]

@[simp ↓, simp] theorem State.devWrite_ok (s : State) (a : Nat) (bs : List Byte)  (hh : ((s).mem.ddr.wf = true ∧ (s).mem.sram.wf = true)) : ((State.devWrite s a bs).mem.ddr.wf = true ∧ (State.devWrite s a bs).mem.sram.wf = true) := by
  unfold State.devWrite
  (repeat' split) <;> simp +contextual (maxDischargeDepth := 30) [hh]

@[simp ↓, simp] theorem State.itemWrite_ok (s : State) (a : Nat) (bs : List Byte)  (hh : ((s).mem.ddr.wf = true ∧ (s).mem.sram.wf = true)) : ((State.itemWrite s a bs).mem.ddr.wf = true ∧ (State.itemWrite s a bs).mem.sram.wf = true) := by
  unfold State.itemWrite
  (repeat' split) <;> simp +contextual (maxDischargeDepth := 30) [hh]

@[simp ↓, simp] theorem State.item_ok (s : State) (run : State → State) (hrun : ∀ s, ((s).mem.ddr.wf = true ∧ (s).mem.sram.wf = true) → ((run s).mem.ddr.wf = true ∧ (run s).mem.sram.wf = true)) (hh : ((s).mem.ddr.wf = true ∧ (s).mem.sram.wf = true)) : ((State.item s run).mem.ddr.wf = true ∧ (State.item s run).mem.sram.wf = true) := by
  unfold State.item
  (repeat' split) <;> simp +contextual (maxDischargeDepth := 30) [hh, hrun]

@[simp ↓, simp] theorem State.endItem_ok (s : State) (n : Nat) (st : Status) (out : List Byte)  (hh : ((s).mem.ddr.wf = true ∧ (s).mem.sram.wf = true)) : ((State.endItem s n st out).mem.ddr.wf = true ∧ (State.endItem s n st out).mem.sram.wf = true) := by
  unfold State.endItem
  (repeat' split) <;> simp +contextual (maxDischargeDepth := 30) [hh]

@[simp ↓, simp] theorem State.completeItem_ok (s : State) (n : Nat) (st : Status) (out : List Byte)  (hh : ((s).mem.ddr.wf = true ∧ (s).mem.sram.wf = true)) : ((State.completeItem s n st out).mem.ddr.wf = true ∧ (State.completeItem s n st out).mem.sram.wf = true) := by
  unfold State.completeItem
  simp +contextual (maxDischargeDepth := 30) [hh]

@[simp ↓, simp] theorem flowFlushEffect_ok (h : Hdr) (f : Nat) (s : State)  (hh : ((s).mem.ddr.wf = true ∧ (s).mem.sram.wf = true)) : ((flowFlushEffect h f s).mem.ddr.wf = true ∧ (flowFlushEffect h f s).mem.sram.wf = true) := by
  unfold flowFlushEffect
  simp +contextual (maxDischargeDepth := 30) [hh]

@[simp ↓, simp] theorem State.dispatch_ok (n : Nat) (c : ServerClass) (a b d : Nat) (s : State) (hh : ((s).mem.ddr.wf = true ∧ (s).mem.sram.wf = true)) :
    ((State.dispatch n c a b d s).mem.ddr.wf = true ∧ (State.dispatch n c a b d s).mem.sram.wf = true) := by
  induction n generalizing s with
  | zero => simpa [State.dispatch] using hh
  | succ n ih =>
    unfold State.dispatch
    (repeat' split) <;> first | exact hh | (apply ih; simp [hh]; done) | (simp [hh]; done)

@[simp ↓, simp] theorem backgroundDispatchEffect_ok (c : ServerClass) (server ac len : Nat) (s : State)  (hh : ((s).mem.ddr.wf = true ∧ (s).mem.sram.wf = true)) : ((backgroundDispatchEffect c server ac len s).mem.ddr.wf = true ∧ (backgroundDispatchEffect c server ac len s).mem.sram.wf = true) := by
  unfold backgroundDispatchEffect
  (repeat' split) <;> simp +contextual (maxDischargeDepth := 30) [hh]

@[simp ↓, simp] theorem State.itemDone_ok (s : State) (r : Running) (n : Nat) (ue : Bool)  (hh : ((s).mem.ddr.wf = true ∧ (s).mem.sram.wf = true)) : ((State.itemDone s r n ue).mem.ddr.wf = true ∧ (State.itemDone s r n ue).mem.sram.wf = true) := by
  unfold State.itemDone
  (repeat' split) <;> simp +contextual (maxDischargeDepth := 30) [hh]

@[simp ↓, simp] theorem flowItemCompleteEffect_ok (c : ServerClass) (server : Nat) (ue : Bool) (s : State)  (hh : ((s).mem.ddr.wf = true ∧ (s).mem.sram.wf = true)) : ((flowItemCompleteEffect c server ue s).mem.ddr.wf = true ∧ (flowItemCompleteEffect c server ue s).mem.sram.wf = true) := by
  unfold flowItemCompleteEffect
  (repeat' split) <;> simp +contextual (maxDischargeDepth := 30) [hh]

@[simp ↓, simp] theorem backgroundSliceEndEffect_ok (c : ServerClass) (server : Nat) (last ue : Bool) (errs : List (Nat × GranErr)) (s : State)  (hh : ((s).mem.ddr.wf = true ∧ (s).mem.sram.wf = true)) : ((backgroundSliceEndEffect c server last ue errs s).mem.ddr.wf = true ∧ (backgroundSliceEndEffect c server last ue errs s).mem.sram.wf = true) := by
  unfold backgroundSliceEndEffect
  (repeat' split) <;> simp +contextual (maxDischargeDepth := 30) [hh]

@[simp ↓, simp] theorem State.putRecord_ok (s : State) (tick : Nat) (bs : List Byte)  (hh : ((s).mem.ddr.wf = true ∧ (s).mem.sram.wf = true)) : ((State.putRecord s tick bs).mem.ddr.wf = true ∧ (State.putRecord s tick bs).mem.sram.wf = true) := by
  unfold State.putRecord
  simp +contextual (maxDischargeDepth := 30) [hh]

@[simp ↓, simp] theorem State.putJournal_ok (s : State) (tick : Nat) (l : List JEntry)  (hh : ((s).mem.ddr.wf = true ∧ (s).mem.sram.wf = true)) : ((State.putJournal s tick l).mem.ddr.wf = true ∧ (State.putJournal s tick l).mem.sram.wf = true) := by
  unfold State.putJournal
  simp +contextual (maxDischargeDepth := 30) [hh]

@[simp ↓, simp] theorem zhedaRecordWriteEffect_ok (ok : Bool) (s : State)  (hh : ((s).mem.ddr.wf = true ∧ (s).mem.sram.wf = true)) : ((zhedaRecordWriteEffect ok s).mem.ddr.wf = true ∧ (zhedaRecordWriteEffect ok s).mem.sram.wf = true) := by
  unfold zhedaRecordWriteEffect
  simp only []
  (repeat' split) <;> simp +contextual (maxDischargeDepth := 30) [hh]

@[simp ↓, simp] theorem State.putCkpt_ok (s : State) (n : Nat) (x : Snapshot)  (hh : ((s).mem.ddr.wf = true ∧ (s).mem.sram.wf = true)) : ((State.putCkpt s n x).mem.ddr.wf = true ∧ (State.putCkpt s n x).mem.sram.wf = true) := by
  unfold State.putCkpt
  simp +contextual (maxDischargeDepth := 30) [hh]

@[simp ↓, simp] theorem checkpointCaptureEffect_ok (ok : Bool) (s : State)  (hh : ((s).mem.ddr.wf = true ∧ (s).mem.sram.wf = true)) : ((checkpointCaptureEffect ok s).mem.ddr.wf = true ∧ (checkpointCaptureEffect ok s).mem.sram.wf = true) := by
  unfold checkpointCaptureEffect
  (repeat' split) <;> simp +contextual (maxDischargeDepth := 30) [hh]

@[simp ↓, simp] theorem snapSaveDoneEffect_ok (s : State)  (hh : ((s).mem.ddr.wf = true ∧ (s).mem.sram.wf = true)) : ((snapSaveDoneEffect s).mem.ddr.wf = true ∧ (snapSaveDoneEffect s).mem.sram.wf = true) := by
  unfold snapSaveDoneEffect
  (repeat' split) <;> simp +contextual (maxDischargeDepth := 30) [hh]

@[simp ↓, simp] theorem State.cfgPacket_ok (s : State) (h : Hdr) (op : Nat) (c : Checks) (run : State → State) (hrun : ∀ s, ((s).mem.ddr.wf = true ∧ (s).mem.sram.wf = true) → ((run s).mem.ddr.wf = true ∧ (run s).mem.sram.wf = true)) (hh : ((s).mem.ddr.wf = true ∧ (s).mem.sram.wf = true)) : ((State.cfgPacket s h op c run).mem.ddr.wf = true ∧ (State.cfgPacket s h op c run).mem.sram.wf = true) := by
  unfold State.cfgPacket
  simp +contextual (maxDischargeDepth := 30) [hh, hrun]

@[simp ↓, simp] theorem State.endItems_ok (s : State) (st : Status) (p : PoolEntry → Bool)  (hh : ((s).mem.ddr.wf = true ∧ (s).mem.sram.wf = true)) : ((State.endItems s st p).mem.ddr.wf = true ∧ (State.endItems s st p).mem.sram.wf = true) := by
  unfold State.endItems
  simp +contextual (maxDischargeDepth := 30) [hh]

@[simp ↓, simp] theorem State.endOffLongs_ok (s : State)  (hh : ((s).mem.ddr.wf = true ∧ (s).mem.sram.wf = true)) : ((State.endOffLongs s).mem.ddr.wf = true ∧ (State.endOffLongs s).mem.sram.wf = true) := by
  unfold State.endOffLongs
  simp +contextual (maxDischargeDepth := 30) [hh]

@[simp ↓, simp] theorem State.endOff_ok (s : State)  (hh : ((s).mem.ddr.wf = true ∧ (s).mem.sram.wf = true)) : ((State.endOff s).mem.ddr.wf = true ∧ (State.endOff s).mem.sram.wf = true) := by
  unfold State.endOff
  simp +contextual (maxDischargeDepth := 30) [hh]

@[simp ↓, simp] theorem State.endUnfit_ok (s : State)  (hh : ((s).mem.ddr.wf = true ∧ (s).mem.sram.wf = true)) : ((State.endUnfit s).mem.ddr.wf = true ∧ (State.endUnfit s).mem.sram.wf = true) := by
  unfold State.endUnfit
  simp +contextual (maxDischargeDepth := 30) [hh]

@[simp ↓, simp] theorem State.switchTo_ok (s : State) (k : Nat) (x : BundleSlot)  (hh : ((s).mem.ddr.wf = true ∧ (s).mem.sram.wf = true)) : ((State.switchTo s k x).mem.ddr.wf = true ∧ (State.switchTo s k x).mem.sram.wf = true) := by
  unfold State.switchTo
  simp +contextual (maxDischargeDepth := 30) [hh]

@[simp ↓, simp] theorem State.configEdge_ok (s : State) (k : Nat)  (hh : ((s).mem.ddr.wf = true ∧ (s).mem.sram.wf = true)) : ((State.configEdge s k).mem.ddr.wf = true ∧ (State.configEdge s k).mem.sram.wf = true) := by
  unfold State.configEdge
  (repeat' split) <;> simp +contextual (maxDischargeDepth := 30) [hh]

@[simp ↓, simp] theorem State.clusterLost_ok (s : State) (c : Nat)  (hh : ((s).mem.ddr.wf = true ∧ (s).mem.sram.wf = true)) : ((State.clusterLost s c).mem.ddr.wf = true ∧ (State.clusterLost s c).mem.sram.wf = true) := by
  unfold State.clusterLost
  simp +contextual (maxDischargeDepth := 30) [hh]

@[simp ↓, simp] theorem State.setCluster_ok (s : State) (c : Nat) (d : DomState)  (hh : ((s).mem.ddr.wf = true ∧ (s).mem.sram.wf = true)) : ((State.setCluster s c d).mem.ddr.wf = true ∧ (State.setCluster s c d).mem.sram.wf = true) := by
  unfold State.setCluster
  (repeat' split) <;> simp +contextual (maxDischargeDepth := 30) [hh]

@[simp ↓, simp] theorem State.enterOp3_ok (s : State)  (hh : ((s).mem.ddr.wf = true ∧ (s).mem.sram.wf = true)) : ((State.enterOp3 s).mem.ddr.wf = true ∧ (State.enterOp3 s).mem.sram.wf = true) := by
  unfold State.enterOp3
  simp +contextual (maxDischargeDepth := 30) [hh]

@[simp ↓, simp] theorem State.opEdge_ok (s : State)  (hh : ((s).mem.ddr.wf = true ∧ (s).mem.sram.wf = true)) : ((State.opEdge s).mem.ddr.wf = true ∧ (State.opEdge s).mem.sram.wf = true) := by
  unfold State.opEdge
  (repeat' split) <;> simp +contextual (maxDischargeDepth := 30) [hh]

@[simp ↓, simp] theorem State.cleared_ok (s : State) (por : Bool) (holds : Holds) (cause : BitVec 4)  (hh : ((s).mem.ddr.wf = true ∧ (s).mem.sram.wf = true)) : ((State.cleared s por holds cause).mem.ddr.wf = true ∧ (State.cleared s por holds cause).mem.sram.wf = true) := by
  unfold State.cleared
  dsimp only
  split <;> simp

@[simp ↓, simp] theorem porAssertEffect_ok (s : State)  (hh : ((s).mem.ddr.wf = true ∧ (s).mem.sram.wf = true)) : ((porAssertEffect s).mem.ddr.wf = true ∧ (porAssertEffect s).mem.sram.wf = true) := by
  unfold porAssertEffect
  simp +contextual (maxDischargeDepth := 30) [hh]

@[simp ↓, simp] theorem sysResetEffect_ok (s : State)  (hh : ((s).mem.ddr.wf = true ∧ (s).mem.sram.wf = true)) : ((sysResetEffect s).mem.ddr.wf = true ∧ (sysResetEffect s).mem.sram.wf = true) := by
  unfold sysResetEffect
  (repeat' split) <;> simp +contextual (maxDischargeDepth := 30) [hh]

@[simp ↓, simp] theorem devResetEffect_ok (h : Hdr) (s : State)  (hh : ((s).mem.ddr.wf = true ∧ (s).mem.sram.wf = true)) : ((devResetEffect h s).mem.ddr.wf = true ∧ (devResetEffect h s).mem.sram.wf = true) := by
  unfold devResetEffect
  simp +contextual (maxDischargeDepth := 30) [hh]

@[simp ↓, simp] theorem State.commitStored_ok (s : State) (x : BundleSlot)  (hh : ((s).mem.ddr.wf = true ∧ (s).mem.sram.wf = true)) : ((State.commitStored s x).mem.ddr.wf = true ∧ (State.commitStored s x).mem.sram.wf = true) := by
  unfold State.commitStored
  simp only []
  (repeat' split) <;> simp +contextual (maxDischargeDepth := 30) [hh]

@[simp ↓, simp] theorem bootReadyEffect_ok (time : Nat) (unrepaired : List Nat) (s : State)  (hh : ((s).mem.ddr.wf = true ∧ (s).mem.sram.wf = true)) : ((bootReadyEffect time unrepaired s).mem.ddr.wf = true ∧ (bootReadyEffect time unrepaired s).mem.sram.wf = true) := by
  unfold bootReadyEffect
  simp only []
  (repeat' split) <;> simp +contextual (maxDischargeDepth := 30) [hh]

@[simp ↓, simp] theorem lifecycleFuseBlownEffect_ok (s : State)  (hh : ((s).mem.ddr.wf = true ∧ (s).mem.sram.wf = true)) : ((lifecycleFuseBlownEffect s).mem.ddr.wf = true ∧ (lifecycleFuseBlownEffect s).mem.sram.wf = true) := by
  unfold lifecycleFuseBlownEffect
  (repeat' split) <;> simp +contextual (maxDischargeDepth := 30) [hh]

@[simp ↓, simp] theorem State.forceEdge_ok (s : State) (k : Nat)  (hh : ((s).mem.ddr.wf = true ∧ (s).mem.sram.wf = true)) : ((State.forceEdge s k).mem.ddr.wf = true ∧ (State.forceEdge s k).mem.sram.wf = true) := by
  unfold State.forceEdge
  simp only []
  (repeat' split) <;> simp +contextual (maxDischargeDepth := 30) [hh]

@[simp ↓, simp] theorem State.acceptEdge_ok (s : State) (ac : Nat) (act : BitVec 2)  (hh : ((s).mem.ddr.wf = true ∧ (s).mem.sram.wf = true)) : ((State.acceptEdge s ac act).mem.ddr.wf = true ∧ (State.acceptEdge s ac act).mem.sram.wf = true) := by
  unfold State.acceptEdge
  simp +contextual (maxDischargeDepth := 30) [hh]

@[simp ↓, simp] theorem State.edge_ok (s : State) (ac : Nat) (act : BitVec 2)  (hh : ((s).mem.ddr.wf = true ∧ (s).mem.sram.wf = true)) : ((State.edge s ac act).mem.ddr.wf = true ∧ (State.edge s ac act).mem.sram.wf = true) := by
  unfold State.edge
  (repeat' split) <;> simp +contextual (maxDischargeDepth := 30) [hh]

@[simp ↓, simp] theorem internalTickEdgeEffect_ok (e : Edge) (s : State)  (hh : ((s).mem.ddr.wf = true ∧ (s).mem.sram.wf = true)) : ((internalTickEdgeEffect e s).mem.ddr.wf = true ∧ (internalTickEdgeEffect e s).mem.sram.wf = true) := by
  unfold internalTickEdgeEffect
  simp only []
  (repeat' split) <;> simp +contextual (maxDischargeDepth := 30) [hh]

@[simp ↓, simp] theorem tickInEdgeEffect_ok (e : Edge) (s : State)  (hh : ((s).mem.ddr.wf = true ∧ (s).mem.sram.wf = true)) : ((tickInEdgeEffect e s).mem.ddr.wf = true ∧ (tickInEdgeEffect e s).mem.sram.wf = true) := by
  unfold tickInEdgeEffect
  simp only []
  (repeat' split) <;> simp +contextual (maxDischargeDepth := 30) [hh]

@[simp ↓, simp] theorem holdoverEdgeEffect_ok (e : Edge) (s : State)  (hh : ((s).mem.ddr.wf = true ∧ (s).mem.sram.wf = true)) : ((holdoverEdgeEffect e s).mem.ddr.wf = true ∧ (holdoverEdgeEffect e s).mem.sram.wf = true) := by
  unfold holdoverEdgeEffect
  simp only []
  (repeat' split) <;> simp +contextual (maxDischargeDepth := 30) [hh]

@[simp ↓, simp] theorem ptpTickEdgeEffect_ok (e : Edge) (s : State)  (hh : ((s).mem.ddr.wf = true ∧ (s).mem.sram.wf = true)) : ((ptpTickEdgeEffect e s).mem.ddr.wf = true ∧ (ptpTickEdgeEffect e s).mem.sram.wf = true) := by
  unfold ptpTickEdgeEffect
  simp only []
  (repeat' split) <;> simp +contextual (maxDischargeDepth := 30) [hh]

@[simp ↓, simp] theorem State.memberEdge_ok (s : State) (ac k t : Nat)  (hh : ((s).mem.ddr.wf = true ∧ (s).mem.sram.wf = true)) : ((State.memberEdge s ac k t).mem.ddr.wf = true ∧ (State.memberEdge s ac k t).mem.sram.wf = true) := by
  unfold State.memberEdge
  simp +contextual (maxDischargeDepth := 30) [hh]

@[simp ↓, simp] theorem State.dropSlice_ok (s : State) (r : Running)  (hh : ((s).mem.ddr.wf = true ∧ (s).mem.sram.wf = true)) : ((State.dropSlice s r).mem.ddr.wf = true ∧ (State.dropSlice s r).mem.sram.wf = true) := by
  unfold State.dropSlice
  (repeat' split) <;> simp +contextual (maxDischargeDepth := 30) [hh]

@[simp ↓, simp] theorem State.startDomainReset_ok (s : State) (d : Nat)  (hh : ((s).mem.ddr.wf = true ∧ (s).mem.sram.wf = true)) : ((State.startDomainReset s d).mem.ddr.wf = true ∧ (State.startDomainReset s d).mem.sram.wf = true) := by
  unfold State.startDomainReset
  simp +contextual (maxDischargeDepth := 30) [hh]

@[simp ↓, simp] theorem clkDomainResetEffect_ok (who : Master) (val : Word) (s : State)  (hh : ((s).mem.ddr.wf = true ∧ (s).mem.sram.wf = true)) : ((clkDomainResetEffect who val s).mem.ddr.wf = true ∧ (clkDomainResetEffect who val s).mem.sram.wf = true) := by
  unfold clkDomainResetEffect
  (repeat' split) <;> simp +contextual (maxDischargeDepth := 30) [hh]

@[simp ↓, simp] theorem pwrClusterSetEffect_ok (h : Hdr) (mask st : Nat) (s : State)  (hh : ((s).mem.ddr.wf = true ∧ (s).mem.sram.wf = true)) : ((pwrClusterSetEffect h mask st s).mem.ddr.wf = true ∧ (pwrClusterSetEffect h mask st s).mem.sram.wf = true) := by
  unfold pwrClusterSetEffect
  simp +contextual (maxDischargeDepth := 30) [hh]

@[simp ↓, simp] theorem thermalSampleEffect_ok (temps : List Int) (s : State)  (hh : ((s).mem.ddr.wf = true ∧ (s).mem.sram.wf = true)) : ((thermalSampleEffect temps s).mem.ddr.wf = true ∧ (thermalSampleEffect temps s).mem.sram.wf = true) := by
  unfold thermalSampleEffect
  simp only []
  (repeat' split) <;> simp +contextual (maxDischargeDepth := 30) [hh]

@[simp ↓, simp] theorem supplyExcursionEffect_ok (glitch : Bool) (s : State)  (hh : ((s).mem.ddr.wf = true ∧ (s).mem.sram.wf = true)) : ((supplyExcursionEffect glitch s).mem.ddr.wf = true ∧ (supplyExcursionEffect glitch s).mem.sram.wf = true) := by
  unfold supplyExcursionEffect
  (repeat' split) <;> simp +contextual (maxDischargeDepth := 30) [hh]

@[simp ↓, simp] theorem State.regAccess_ok (s : State) (who : Master) (off : Nat) (write : Bool) (k : State → State) (hk : ∀ s, ((s).mem.ddr.wf = true ∧ (s).mem.sram.wf = true) → ((k s).mem.ddr.wf = true ∧ (k s).mem.sram.wf = true)) (hh : ((s).mem.ddr.wf = true ∧ (s).mem.sram.wf = true)) : ((State.regAccess s who off write k).mem.ddr.wf = true ∧ (State.regAccess s who off write k).mem.sram.wf = true) := by
  unfold State.regAccess
  (repeat' (first | with_reducible assumption | (simp +contextual (maxDischargeDepth := 30) [*, hh, hk]; done) | (with_reducible intro _) | (with_reducible apply State.guarded_ok) | (with_reducible apply State.counterOp_ok) | (with_reducible apply State.item_ok) | (with_reducible apply State.packet_ok) | (with_reducible apply State.cfgPacket_ok) | (with_reducible apply foldl_ok) | (with_reducible apply foldl_fst_ok) | (with_reducible apply foldl_snd_ok) | (simp_all [Mem.writes_wf, Mem.clearRange_wf]; done) | split | (simp only []; split) | (dsimp only; split) | (dsimp only)))

@[simp ↓, simp] theorem runPacket_ok (i : Instr) (s : State)  (hh : ((s).mem.ddr.wf = true ∧ (s).mem.sram.wf = true)) : ((runPacket i s).mem.ddr.wf = true ∧ (runPacket i s).mem.sram.wf = true) := by
  cases i <;> simp [runPacket, stateOf, hh, execCascMemberAdd, execCascMemberRemove, execCascStatus, execClkSpreadSet, execConfigCommit, execConfigDiscard, execConfigLoad, execConfigRead, execConfigRollback, execConfigStore, execConfigWrite, execCtxActivate, execCtxAlloc, execCtxDeactivate, execCtxFree, execCtxGoalSet, execCtxRead, execCtxSeedSet, execCtxTreeReset, execCtxWrite, execDeepPlan, execDevFaultLog, execDevInfo, execDevReset, execDevStatus, execDiagInject, execDiagRead, execFieldRebuild, execFlowClose, execFlowFlush, execFlowOpen, execFlowPush, execFlowRead, execLongCancel, execLongResume, execLongStatus, execLongSuspend, execMemScrub, execNop, execPlanFrameRead, execPlanHandoffRead, execPlanResultRead, execPwrClusterSet, execPwrOpSet, execPwrStatus, execRearm, execReplay, execRoadmapBuild, execSecAttest, execSecFwUpdate, execSecLifecycle, execSnapLoad, execSnapPause, execSnapResume, execSnapSave, execTileRequalify, execTimerCancel, execTimerSet, execWavefrontFull, execWorldFieldRead, execWorldKeepoutClear, execWorldKeepoutSet, execWorldOcc, execWorldState, execXmssKeygen, execZhdExport]

@[simp ↓, simp] theorem State.runChecked_ok (s : State) (path : Nat) (b payload : List Byte)  (hh : ((s).mem.ddr.wf = true ∧ (s).mem.sram.wf = true)) : ((State.runChecked s path b payload).mem.ddr.wf = true ∧ (State.runChecked s path b payload).mem.sram.wf = true) := by
  unfold State.runChecked
  simp only []
  (repeat' split) <;> simp +contextual (maxDischargeDepth := 30) [hh]

@[simp ↓, simp] theorem State.runFrom_ok (s : State) (path : Nat) (b payload : List Byte)  (hh : ((s).mem.ddr.wf = true ∧ (s).mem.sram.wf = true)) : ((State.runFrom s path b payload).mem.ddr.wf = true ∧ (State.runFrom s path b payload).mem.sram.wf = true) := by
  unfold State.runFrom
  simp only []
  (repeat' split) <;> simp +contextual (maxDischargeDepth := 30) [hh]

@[simp ↓, simp] theorem State.runBytes_ok (s : State) (path : Nat) (b inline : List Byte)  (hh : ((s).mem.ddr.wf = true ∧ (s).mem.sram.wf = true)) : ((State.runBytes s path b inline).mem.ddr.wf = true ∧ (State.runBytes s path b inline).mem.sram.wf = true) := by
  unfold State.runBytes
  (repeat' split) <;> simp +contextual (maxDischargeDepth := 30) [hh]

theorem State.ringNext_ok (s : State) (r : Nat) (t : State) (h : s.ringNext r = some t) (hh : ((s).mem.ddr.wf = true ∧ (s).mem.sram.wf = true)) :
    ((t).mem.ddr.wf = true ∧ (t).mem.sram.wf = true) := by
  unfold State.ringNext at h
  simp only [] at h
  (repeat' split at h) <;> first | (simp at h; done) | (cases h; simp [hh]; done)

theorem State.mboxNext_ok (s : State) (r : Nat) (t : State) (h : s.mboxNext r = some t) (hh : ((s).mem.ddr.wf = true ∧ (s).mem.sram.wf = true)) :
    ((t).mem.ddr.wf = true ∧ (t).mem.sram.wf = true) := by
  unfold State.mboxNext at h
  simp only [] at h
  (repeat' split at h) <;> first | (simp at h; done) | (cases h; simp [hh]; done)

theorem State.usbNext_ok (s : State)  (t : State) (h : s.usbNext = some t) (hh : ((s).mem.ddr.wf = true ∧ (s).mem.sram.wf = true)) :
    ((t).mem.ddr.wf = true ∧ (t).mem.sram.wf = true) := by
  unfold State.usbNext at h
  simp only [] at h
  (repeat' split at h) <;> first | (simp at h; done) | (cases h; simp [hh]; done)

theorem State.pathNext_ok (s : State) (r : Nat) (t : State) (h : s.pathNext r = some t) (hh : ((s).mem.ddr.wf = true ∧ (s).mem.sram.wf = true)) :
    ((t).mem.ddr.wf = true ∧ (t).mem.sram.wf = true) := by
  unfold State.pathNext at h
  split at h
  · exact State.ringNext_ok _ _ _ h hh
  split at h
  · exact State.usbNext_ok _ _ h hh
  · exact State.mboxNext_ok _ _ _ h hh

theorem State.turn_ok (s : State) (r : Nat) (t : State) (h : s.turn r = some t) (hh : ((s).mem.ddr.wf = true ∧ (s).mem.sram.wf = true)) :
    ((t).mem.ddr.wf = true ∧ (t).mem.sram.wf = true) := by
  unfold State.turn at h
  obtain ⟨p, -, hp⟩ := List.exists_of_findSome?_eq_some h
  cases hq : s.pathNext p with
  | none => simp [hq] at hp
  | some u =>
    simp [hq] at hp
    subst hp
    have := State.pathNext_ok s p u hq hh
    simpa using this

@[simp ↓, simp] theorem State.takeAll_ok (n : Nat) (s : State) (hh : ((s).mem.ddr.wf = true ∧ (s).mem.sram.wf = true)) : ((State.takeAll n s).mem.ddr.wf = true ∧ (State.takeAll n s).mem.sram.wf = true) := by
  have one : ∀ (s : State) (k : Nat), ((s).mem.ddr.wf = true ∧ (s).mem.sram.wf = true) → (((s.turn k).getD s).mem.ddr.wf = true ∧ ((s.turn k).getD s).mem.sram.wf = true) := by
    intro s k hh
    cases h : s.turn k with
    | none => exact hh
    | some t => exact State.turn_ok s k t h hh
  induction n generalizing s with
  | zero => simpa [State.takeAll] using hh
  | succ n ih =>
    unfold State.takeAll
    have f : ∀ u : State, ((u).mem.ddr.wf = true ∧ (u).mem.sram.wf = true) → ((u.flush).mem.ddr.wf = true ∧ (u.flush).mem.sram.wf = true) := by intro u h; simpa using h
    simp only []
    split
    · exact f _ (one _ _ (f _ (one _ _ (f _ (one _ _ hh)))))
    · exact ih _ (f _ (one _ _ (f _ (one _ _ (f _ (one _ _ hh))))))

@[simp ↓, simp] theorem State.serve_ok (s : State)  (hh : ((s).mem.ddr.wf = true ∧ (s).mem.sram.wf = true)) : ((State.serve s).mem.ddr.wf = true ∧ (State.serve s).mem.sram.wf = true) := by
  unfold State.serve
  simp +contextual (maxDischargeDepth := 30) [hh]

@[simp ↓, simp] theorem State.feedEntry_ok (s : State) (e : JEntry)  (hh : ((s).mem.ddr.wf = true ∧ (s).mem.sram.wf = true)) : ((State.feedEntry s e).mem.ddr.wf = true ∧ (State.feedEntry s e).mem.sram.wf = true) := by
  unfold State.feedEntry
  (repeat' split) <;> simp +contextual (maxDischargeDepth := 30) [hh]

@[simp ↓, simp] theorem State.stepEdge_ok (s : State) (x : StepIn)  (hh : ((s).mem.ddr.wf = true ∧ (s).mem.sram.wf = true)) : ((State.stepEdge s x).mem.ddr.wf = true ∧ (State.stepEdge s x).mem.sram.wf = true) := by
  unfold State.stepEdge
  (repeat' split) <;> simp +contextual (maxDischargeDepth := 30) [hh]

@[simp ↓, simp] theorem State.whole_ok (s : State) (cut : Option Nat) (name : ItemName) (run : State → State) (hrun : ∀ s, ((s).mem.ddr.wf = true ∧ (s).mem.sram.wf = true) → ((run s).mem.ddr.wf = true ∧ (run s).mem.sram.wf = true)) (hh : ((s).mem.ddr.wf = true ∧ (s).mem.sram.wf = true)) : ((State.whole s cut name run).mem.ddr.wf = true ∧ (State.whole s cut name run).mem.sram.wf = true) := by
  unfold State.whole
  (repeat' split) <;> simp +contextual (maxDischargeDepth := 30) [hh, hrun]

@[simp ↓, simp] theorem State.eachSlot_ok (s : State) (run : Nat → State → State) (hrun : ∀ m s, ((s).mem.ddr.wf = true ∧ (s).mem.sram.wf = true) → ((run m s).mem.ddr.wf = true ∧ (run m s).mem.sram.wf = true)) (hh : ((s).mem.ddr.wf = true ∧ (s).mem.sram.wf = true)) : ((State.eachSlot s run).mem.ddr.wf = true ∧ (State.eachSlot s run).mem.sram.wf = true) := by
  unfold State.eachSlot
  simp +contextual (maxDischargeDepth := 30) [hh, hrun]

@[simp ↓, simp] theorem cascTickTimeoutEffect_ok (time : Nat) (s : State)  (hh : ((s).mem.ddr.wf = true ∧ (s).mem.sram.wf = true)) : ((cascTickTimeoutEffect time s).mem.ddr.wf = true ∧ (cascTickTimeoutEffect time s).mem.sram.wf = true) := by
  unfold cascTickTimeoutEffect
  simp only []
  (repeat' split) <;> simp +contextual (maxDischargeDepth := 30) [hh]

@[simp ↓, simp] theorem State.tickFrame_ok (s : State) (k t : Nat)  (hh : ((s).mem.ddr.wf = true ∧ (s).mem.sram.wf = true)) : ((State.tickFrame s k t).mem.ddr.wf = true ∧ (State.tickFrame s k t).mem.sram.wf = true) := by
  unfold State.tickFrame
  simp +contextual (maxDischargeDepth := 30) [hh]

@[simp ↓, simp] theorem State.transferDone_ok (s : State) (port : Nat) (f : LinkFrame) (b : List Byte)  (hh : ((s).mem.ddr.wf = true ∧ (s).mem.sram.wf = true)) : ((State.transferDone s port f b).mem.ddr.wf = true ∧ (State.transferDone s port f b).mem.sram.wf = true) := by
  unfold State.transferDone
  simp only []
  (repeat' split) <;> simp +contextual (maxDischargeDepth := 30) [hh]

@[simp ↓, simp] theorem State.takeFrame_ok (s : State) (port : Nat) (prev : Option Half) (f : LinkFrame)  (hh : ((s).mem.ddr.wf = true ∧ (s).mem.sram.wf = true)) : ((State.takeFrame s port prev f).mem.ddr.wf = true ∧ (State.takeFrame s port prev f).mem.sram.wf = true) := by
  unfold State.takeFrame
  simp only []
  (repeat' split) <;> simp +contextual (maxDischargeDepth := 30) [hh]

@[simp ↓, simp] theorem ulbFrameRxEffect_ok (time port : Nat) (b : List Byte) (s : State)  (hh : ((s).mem.ddr.wf = true ∧ (s).mem.sram.wf = true)) : ((ulbFrameRxEffect time port b s).mem.ddr.wf = true ∧ (ulbFrameRxEffect time port b s).mem.sram.wf = true) := by
  unfold ulbFrameRxEffect
  simp only []
  (repeat' split) <;> simp +contextual (maxDischargeDepth := 30) [hh]

@[simp ↓, simp] theorem doorbellWriteEffect_ok (d : Nat) (who : Master) (v : Word) (s : State)  (hh : ((s).mem.ddr.wf = true ∧ (s).mem.sram.wf = true)) : ((doorbellWriteEffect d who v s).mem.ddr.wf = true ∧ (doorbellWriteEffect d who v s).mem.sram.wf = true) := by
  unfold doorbellWriteEffect
  simp +contextual (maxDischargeDepth := 30) [hh]

@[simp ↓, simp] theorem sqDoorbellEffect_ok (r : Nat) (tail : Word) (s : State)  (hh : ((s).mem.ddr.wf = true ∧ (s).mem.sram.wf = true)) : ((sqDoorbellEffect r tail s).mem.ddr.wf = true ∧ (sqDoorbellEffect r tail s).mem.sram.wf = true) := by
  unfold sqDoorbellEffect
  simp +contextual (maxDischargeDepth := 30) [hh]

@[simp ↓, simp] theorem cqDoorbellEffect_ok (r : Nat) (head : Word) (s : State)  (hh : ((s).mem.ddr.wf = true ∧ (s).mem.sram.wf = true)) : ((cqDoorbellEffect r head s).mem.ddr.wf = true ∧ (cqDoorbellEffect r head s).mem.sram.wf = true) := by
  unfold cqDoorbellEffect
  simp +contextual (maxDischargeDepth := 30) [hh]

@[simp ↓, simp] theorem ringCfgEffect_ok (r : Nat) (who : Master) (cfg : Word) (s : State)  (hh : ((s).mem.ddr.wf = true ∧ (s).mem.sram.wf = true)) : ((ringCfgEffect r who cfg s).mem.ddr.wf = true ∧ (ringCfgEffect r who cfg s).mem.sram.wf = true) := by
  unfold ringCfgEffect
  simp +contextual (maxDischargeDepth := 30) [hh]

@[simp ↓, simp] theorem mailboxMessageEffect_ok (m : Nat) (who : Master) (w : MbWrite) (s : State)  (hh : ((s).mem.ddr.wf = true ∧ (s).mem.sram.wf = true)) : ((mailboxMessageEffect m who w s).mem.ddr.wf = true ∧ (mailboxMessageEffect m who w s).mem.sram.wf = true) := by
  unfold mailboxMessageEffect
  simp +contextual (maxDischargeDepth := 30) [hh]

@[simp ↓, simp] theorem mailboxAckEffect_ok (m : Nat) (who : Master) (val : Word) (s : State)  (hh : ((s).mem.ddr.wf = true ∧ (s).mem.sram.wf = true)) : ((mailboxAckEffect m who val s).mem.ddr.wf = true ∧ (mailboxAckEffect m who val s).mem.sram.wf = true) := by
  unfold mailboxAckEffect
  simp +contextual (maxDischargeDepth := 30) [hh]

@[simp ↓, simp] theorem usbTransferEffect_ok (b : List Byte) (s : State)  (hh : ((s).mem.ddr.wf = true ∧ (s).mem.sram.wf = true)) : ((usbTransferEffect b s).mem.ddr.wf = true ∧ (usbTransferEffect b s).mem.sram.wf = true) := by
  unfold usbTransferEffect
  (repeat' split) <;> simp +contextual (maxDischargeDepth := 30) [hh]

@[simp ↓, simp] theorem State.readFailed_ok (s : State) (what : DmaRead)  (hh : ((s).mem.ddr.wf = true ∧ (s).mem.sram.wf = true)) : ((State.readFailed s what).mem.ddr.wf = true ∧ (State.readFailed s what).mem.sram.wf = true) := by
  unfold State.readFailed
  (repeat' split) <;> simp +contextual (maxDischargeDepth := 30) [hh]

@[simp ↓, simp] theorem dmaReadErrorEffect_ok (addr : Dword) (what : DmaRead) (s : State)  (hh : ((s).mem.ddr.wf = true ∧ (s).mem.sram.wf = true)) : ((dmaReadErrorEffect addr what s).mem.ddr.wf = true ∧ (dmaReadErrorEffect addr what s).mem.sram.wf = true) := by
  unfold dmaReadErrorEffect
  simp +contextual (maxDischargeDepth := 30) [hh]

@[simp ↓, simp] theorem unfreezeWriteEffect_ok (val : Word) (s : State)  (hh : ((s).mem.ddr.wf = true ∧ (s).mem.sram.wf = true)) : ((unfreezeWriteEffect val s).mem.ddr.wf = true ∧ (unfreezeWriteEffect val s).mem.sram.wf = true) := by
  unfold unfreezeWriteEffect
  simp +contextual (maxDischargeDepth := 30) [hh]

@[simp ↓, simp] theorem cowWriteEffect_ok (o : Nat) (who : Master) (v : Word) (s : State)  (hh : ((s).mem.ddr.wf = true ∧ (s).mem.sram.wf = true)) : ((cowWriteEffect o who v s).mem.ddr.wf = true ∧ (cowWriteEffect o who v s).mem.sram.wf = true) := by
  unfold cowWriteEffect
  dsimp only
  generalize 0xB0000 + o = a
  (repeat' split) <;> simp [hh]

@[simp ↓, simp] theorem registerWriteEffect_ok (off : Nat) (who : Master) (v : Word) (s : State)  (hh : ((s).mem.ddr.wf = true ∧ (s).mem.sram.wf = true)) : ((registerWriteEffect off who v s).mem.ddr.wf = true ∧ (registerWriteEffect off who v s).mem.sram.wf = true) := by
  have acc : ∀ (u : State) (who : Master) (a : Nat) (k : State → State), (∀ s, (k s).mem.ddr = s.mem.ddr ∧ (k s).mem.sram = s.mem.sram) →
      (u.regAccess who a true k).mem.ddr = u.mem.ddr ∧ (u.regAccess who a true k).mem.sram = u.mem.sram := by
    intro u who a k hk
    constructor
    · apply State.regAccess_proj (fun s => s.mem.ddr) <;> intros <;> simp [hk]
    · apply State.regAccess_proj (fun s => s.mem.sram) <;> intros <;> simp [hk]
  unfold registerWriteEffect
  extract_lets o
  split
  · simp [hh]
  split
  · generalize off - 0x200000 = a
    simp [hh]
  generalize off / 0x10000 = b
  iterate 18 (rcases b with _ | b; · (try simp only [Nat.zero_add, Nat.reduceAdd]); ((try split) <;> first | (simp [hh]; done) | (simp [acc, hh]; done) | (apply State.regAccess_ok <;> intros <;> simp [*]; done)))
  simp [hh]

end Sys2Proof.Machine
end

