-- ==== Sys2Proof/Laws/KeepTime.lean ====
section
/-! SUPPORT. No operation sets the time back. -/

set_option linter.unusedSimpArgs false
set_option linter.unusedVariables false

namespace Sys2Proof.Machine

@[simp ↓, simp] theorem State.advance_later (tm : Nat) (s : State) (t : Nat)  (hh : tm ≤ (s).now) : tm ≤ (State.advance s t).now := by
  simp [State.advance]; omega

@[simp ↓, simp] theorem State.guarded_later (tm : Nat) (s : State) (who : Master) (addr : Nat) (write : Bool) (k : State → State) (hk : ∀ s, tm ≤ (s).now → tm ≤ (k s).now) (hh : tm ≤ (s).now) : tm ≤ (State.guarded s who addr write k).now := by
  unfold State.guarded
  (repeat' split) <;> simp +contextual (maxDischargeDepth := 30) [hh, hk]

@[simp ↓, simp] theorem State.counterOp_later (tm : Nat) (s : State) (o n : Nat) (who : Master) (write : Bool) (k : State → State) (hk : ∀ s, tm ≤ (s).now → tm ≤ (k s).now) (hh : tm ≤ (s).now) : tm ≤ (State.counterOp s o n who write k).now := by
  unfold State.counterOp
  (repeat' (first | with_reducible assumption | (simp +contextual (maxDischargeDepth := 30) [*, hh, hk]; done) | (with_reducible intro _) | (with_reducible apply State.guarded_later) | (with_reducible apply foldl_later) | (with_reducible apply foldl_fst_later) | (with_reducible apply foldl_snd_later) | (simp [*]; omega) | split | (simp only []; split) | (dsimp only; split) | (dsimp only)))

@[simp ↓, simp] theorem State.packet_later (tm : Nat) (s : State) (h : Hdr) (op : Nat) (c : Checks) (run : State → State) (hrun : ∀ s, tm ≤ (s).now → tm ≤ (run s).now) (hh : tm ≤ (s).now) : tm ≤ (State.packet s h op c run).now := by
  unfold State.packet
  simp only []
  (repeat' split) <;> simp +contextual (maxDischargeDepth := 30) [hh, hrun]

@[simp ↓, simp] theorem State.item_later (tm : Nat) (s : State) (run : State → State) (hrun : ∀ s, tm ≤ (s).now → tm ≤ (run s).now) (hh : tm ≤ (s).now) : tm ≤ (State.item s run).now := by
  unfold State.item
  (repeat' split) <;> simp +contextual (maxDischargeDepth := 30) [hh, hrun]

@[simp ↓, simp] theorem egressSelectEffect_later (tm : Nat) (time : Nat) (s : State)  (hh : tm ≤ (s).now) : tm ≤ (egressSelectEffect time s).now := by
  unfold egressSelectEffect
  simp +contextual (maxDischargeDepth := 30) [hh]

@[simp ↓, simp] theorem egressGateOpenEffect_later (tm : Nat) (p time : Nat) (s : State)  (hh : tm ≤ (s).now) : tm ≤ (egressGateOpenEffect p time s).now := by
  unfold egressGateOpenEffect
  simp +contextual (maxDischargeDepth := 30) [hh]

@[simp ↓, simp] theorem ethFrameRxEffect_later (tm : Nat) (time p : Nat) (fcsOk : Bool) (b : List Byte) (room : Bool) (s : State)  (hh : tm ≤ (s).now) : tm ≤ (ethFrameRxEffect time p fcsOk b room s).now := by
  unfold ethFrameRxEffect
  simp +contextual (maxDischargeDepth := 30) [hh]

@[simp ↓, simp] theorem estopActiveEffect_later (tm : Nat) (time : Nat) (s : State)  (hh : tm ≤ (s).now) : tm ≤ (estopActiveEffect time s).now := by
  unfold estopActiveEffect
  simp +contextual (maxDischargeDepth := 30) [hh]

@[simp ↓, simp] theorem estopInactiveEffect_later (tm : Nat) (time : Nat) (s : State)  (hh : tm ≤ (s).now) : tm ≤ (estopInactiveEffect time s).now := by
  unfold estopInactiveEffect
  simp +contextual (maxDischargeDepth := 30) [hh]

@[simp ↓, simp] theorem estopRearmReadyEffect_later (tm : Nat) (time : Nat) (s : State)  (hh : tm ≤ (s).now) : tm ≤ (estopRearmReadyEffect time s).now := by
  unfold estopRearmReadyEffect
  (repeat' split) <;> simp +contextual (maxDischargeDepth := 30) [hh]

@[simp ↓, simp] theorem State.cfgPacket_later (tm : Nat) (s : State) (h : Hdr) (op : Nat) (c : Checks) (run : State → State) (hrun : ∀ s, tm ≤ (s).now → tm ≤ (run s).now) (hh : tm ≤ (s).now) : tm ≤ (State.cfgPacket s h op c run).now := by
  unfold State.cfgPacket
  simp +contextual (maxDischargeDepth := 30) [hh, hrun]

@[simp ↓, simp] theorem porReleaseEffect_later (tm : Nat) (time : Nat) (st : Straps) (ok : Bool) (s : State)  (hh : tm ≤ (s).now) : tm ≤ (porReleaseEffect time st ok s).now := by
  unfold porReleaseEffect
  (repeat' split) <;> simp +contextual (maxDischargeDepth := 30) [hh]

@[simp ↓, simp] theorem bootReadyEffect_later (tm : Nat) (time : Nat) (unrepaired : List Nat) (s : State)  (hh : tm ≤ (s).now) : tm ≤ (bootReadyEffect time unrepaired s).now := by
  unfold bootReadyEffect
  simp only []
  (repeat' split) <;> simp +contextual (maxDischargeDepth := 30) [hh]

@[simp ↓, simp] theorem internalTickEdgeEffect_later (tm : Nat) (e : Edge) (s : State)  (hh : tm ≤ (s).now) : tm ≤ (internalTickEdgeEffect e s).now := by
  unfold internalTickEdgeEffect
  simp +contextual (maxDischargeDepth := 30) [hh]

@[simp ↓, simp] theorem tickInEdgeEffect_later (tm : Nat) (e : Edge) (s : State)  (hh : tm ≤ (s).now) : tm ≤ (tickInEdgeEffect e s).now := by
  unfold tickInEdgeEffect
  simp +contextual (maxDischargeDepth := 30) [hh]

@[simp ↓, simp] theorem holdoverEdgeEffect_later (tm : Nat) (e : Edge) (s : State)  (hh : tm ≤ (s).now) : tm ≤ (holdoverEdgeEffect e s).now := by
  unfold holdoverEdgeEffect
  simp only []
  (repeat' split) <;> simp +contextual (maxDischargeDepth := 30) [hh]

@[simp ↓, simp] theorem ptpTickEdgeEffect_later (tm : Nat) (e : Edge) (s : State)  (hh : tm ≤ (s).now) : tm ≤ (ptpTickEdgeEffect e s).now := by
  unfold ptpTickEdgeEffect
  simp +contextual (maxDischargeDepth := 30) [hh]

@[simp ↓, simp] theorem ptpSyncEffect_later (tm : Nat) (time port : Nat) (offset : Int) (s : State)  (hh : tm ≤ (s).now) : tm ≤ (ptpSyncEffect time port offset s).now := by
  unfold ptpSyncEffect
  simp +contextual (maxDischargeDepth := 30) [hh]

@[simp ↓, simp] theorem bestMasterEffect_later (tm : Nat) (time : Nat) (gm : Bool) (s : State)  (hh : tm ≤ (s).now) : tm ≤ (bestMasterEffect time gm s).now := by
  unfold bestMasterEffect
  simp +contextual (maxDischargeDepth := 30) [hh]

@[simp ↓, simp] theorem xtalWindowEffect_later (tm : Nat) (time count : Nat) (s : State)  (hh : tm ≤ (s).now) : tm ≤ (xtalWindowEffect time count s).now := by
  unfold xtalWindowEffect
  simp +contextual (maxDischargeDepth := 30) [hh]

@[simp ↓, simp] theorem xtalTimeoutEffect_later (tm : Nat) (time : Nat) (refclk : Bool) (s : State)  (hh : tm ≤ (s).now) : tm ≤ (xtalTimeoutEffect time refclk s).now := by
  unfold xtalTimeoutEffect
  simp +contextual (maxDischargeDepth := 30) [hh]

@[simp ↓, simp] theorem State.regAccess_later (tm : Nat) (s : State) (who : Master) (off : Nat) (write : Bool) (k : State → State) (hk : ∀ s, tm ≤ (s).now → tm ≤ (k s).now) (hh : tm ≤ (s).now) : tm ≤ (State.regAccess s who off write k).now := by
  unfold State.regAccess
  (repeat' (first | with_reducible assumption | (simp +contextual (maxDischargeDepth := 30) [*, hh, hk]; done) | (with_reducible intro _) | (with_reducible apply State.guarded_later) | (with_reducible apply State.counterOp_later) | (with_reducible apply State.item_later) | (with_reducible apply State.packet_later) | (with_reducible apply State.cfgPacket_later) | (with_reducible apply foldl_later) | (with_reducible apply foldl_fst_later) | (with_reducible apply foldl_snd_later) | (simp [*]; omega) | split | (simp only []; split) | (dsimp only; split) | (dsimp only)))

@[simp ↓, simp] theorem latchingLoReadEffect_later (tm : Nat) (off time : Nat) (s : State)  (hh : tm ≤ (s).now) : tm ≤ (latchingLoReadEffect off time s).now := by
  unfold latchingLoReadEffect
  apply State.regAccess_later
  · intro u hu
    split
    · next c d put h => simp [State.pairAt_put _ _ _ _ _ h, hu]
    · simpa using hu
  · simp [hh]

@[simp ↓, simp] theorem State.whole_later (tm : Nat) (s : State) (cut : Option Nat) (name : ItemName) (run : State → State) (hrun : ∀ s, tm ≤ (s).now → tm ≤ (run s).now) (hh : tm ≤ (s).now) : tm ≤ (State.whole s cut name run).now := by
  unfold State.whole
  (repeat' split) <;> simp +contextual (maxDischargeDepth := 30) [hh, hrun]

@[simp ↓, simp] theorem State.eachSlot_later (tm : Nat) (s : State) (run : Nat → State → State) (hrun : ∀ m s, tm ≤ (s).now → tm ≤ (run m s).now) (hh : tm ≤ (s).now) : tm ≤ (State.eachSlot s run).now := by
  unfold State.eachSlot
  simp +contextual (maxDischargeDepth := 30) [hh, hrun]

@[simp ↓, simp] theorem cascTickTimeoutEffect_later (tm : Nat) (time : Nat) (s : State)  (hh : tm ≤ (s).now) : tm ≤ (cascTickTimeoutEffect time s).now := by
  unfold cascTickTimeoutEffect
  simp +contextual (maxDischargeDepth := 30) [hh]

@[simp ↓, simp] theorem State.tickFrame_later (tm : Nat) (s : State) (k t : Nat)  (hh : tm ≤ (s).now) : tm ≤ (State.tickFrame s k t).now := by
  unfold State.tickFrame
  simp +contextual (maxDischargeDepth := 30) [hh]

@[simp ↓, simp] theorem State.transferDone_later (tm : Nat) (s : State) (port : Nat) (f : LinkFrame) (b : List Byte)  (hh : tm ≤ (s).now) : tm ≤ (State.transferDone s port f b).now := by
  unfold State.transferDone
  simp only []
  (repeat' split) <;> simp +contextual (maxDischargeDepth := 30) [hh]

@[simp ↓, simp] theorem State.takeFrame_later (tm : Nat) (s : State) (port : Nat) (prev : Option Half) (f : LinkFrame)  (hh : tm ≤ (s).now) : tm ≤ (State.takeFrame s port prev f).now := by
  unfold State.takeFrame
  (repeat' (first | with_reducible assumption | (simp +contextual (maxDischargeDepth := 30) [*, hh]; done) | (with_reducible intro _) | (with_reducible apply State.guarded_later) | (with_reducible apply State.counterOp_later) | (with_reducible apply State.regAccess_later) | (with_reducible apply State.item_later) | (with_reducible apply State.packet_later) | (with_reducible apply State.cfgPacket_later) | (with_reducible apply foldl_later) | (with_reducible apply foldl_fst_later) | (with_reducible apply foldl_snd_later) | (simp [*]; omega) | split | (simp only []; split) | (dsimp only; split) | (dsimp only)))

@[simp ↓, simp] theorem ulbFrameRxEffect_later (tm : Nat) (time port : Nat) (b : List Byte) (s : State)  (hh : tm ≤ (s).now) : tm ≤ (ulbFrameRxEffect time port b s).now := by
  unfold ulbFrameRxEffect
  have a : tm ≤ (s.advance time).now := by simp [hh]
  generalize s.advance time = u at a ⊢
  dsimp only
  (repeat' split) <;> first | (simp [a]; done) | (simp; apply State.takeFrame_later; simp [a]; done)

end Sys2Proof.Machine
end

