-- ==== Sys2Proof/Laws/Packet.lean ====
section
/-! SUPPORT. The gate of a command packet, once: what a packet does that is not taken, fails a check, or passes them all; and
the completion that answers it. -/

set_option linter.unusedSimpArgs false

namespace Sys2Proof.Machine

/-- A packet not taken changes nothing. -/
theorem State.packet_untaken {s : State} {h : Hdr} {op : Nat} {c : Checks} {run : State → State} (ht : s.takes h = false) :
    s.packet h op c run = s := by simp [State.packet, ht]
/-- Nor does a CONFIG packet. -/
theorem State.cfg_untaken {s : State} {h : Hdr} {op : Nat} {c : Checks} {run : State → State} (ht : s.takes h = false) :
    s.cfgPacket h op c run = s := by simp [State.cfgPacket, State.packet_untaken ht, ht]

/-- A packet that fails a check is answered by one final completion. -/
theorem State.packet_refused {s : State} {h : Hdr} {op : Nat} {c : Checks} {run : State → State} {st : Status}
    (ht : s.takes h = true) (hr : Request.refusal ⟨h, op, c⟩ s = some st) :
    s.packet h op c run = s.answered h op st := by
  unfold Request.refusal at hr
  simp only at hr
  have e1 : (s.updRing h.ring fun g => { g with opened := g.opened + 1 }).casc = s.casc := rfl
  have e2 : (s.updRing h.ring fun g => { g with opened := g.opened + 1 }).resetting = s.resetting := rfl
  unfold State.packet State.answered State.taken State.refuse
  simp only [ht, Bool.not_true, Bool.false_eq_true, if_false, e1, e2]
  split at hr <;> rename_i h1
  · cases hr; rw [if_pos h1]
  · rw [if_neg h1]
    split at hr <;> rename_i h2
    · cases hr; rw [if_pos h2]
    · rw [if_neg h2]
      split at hr <;> rename_i h3
      · cases hr; rw [if_pos h3]
      · rw [if_neg h3]
        split at hr <;> rename_i h4
        · cases hr; rw [if_pos h4]
        · rw [if_neg h4, hr]

/-- A CONFIG packet refused sets REJECTED beside it. -/
theorem State.cfg_refused {s : State} {h : Hdr} {op : Nat} {c : Checks} {run : State → State} {st : Status}
    (ht : s.takes h = true) (ha : c.auth = true) (ho : (opDomains op).any s.resetting = false)
    (hr : Request.refusal ⟨h, op, c⟩ s = some st) :
    s.cfgPacket h op c run = (s.answered h op st).rejected := by
  unfold State.cfgPacket
  rw [State.packet_refused ht hr]
  have : (!c.param || (s.casc.memberInService && memberRefused op) || c.state.isSome) = true := by
    unfold Request.refusal at hr
    simp only [ha, ho] at hr
    cases hp : c.param <;> simp_all
    split at hr <;> simp_all
  simp [ht, this]

/-- A packet that passes every check runs. -/
theorem State.packet_accepts {s : State} {h : Hdr} {op : Nat} {c : Checks} {run : State → State}
    (ht : s.takes h = true) (hr : Request.refusal ⟨h, op, c⟩ s = none) :
    s.packet h op c run = run (s.taken h) := by
  unfold Request.refusal at hr
  simp only at hr
  have e1 : (s.updRing h.ring fun g => { g with opened := g.opened + 1 }).casc = s.casc := rfl
  have e2 : (s.updRing h.ring fun g => { g with opened := g.opened + 1 }).resetting = s.resetting := rfl
  unfold State.packet State.taken State.refuse
  simp only [ht, Bool.not_true, Bool.false_eq_true, if_false, e1, e2]
  split at hr <;> rename_i h1
  · cases hr
  · rw [if_neg h1]
    split at hr <;> rename_i h2
    · cases hr
    · rw [if_neg h2]
      split at hr <;> rename_i h3
      · cases hr
      · rw [if_neg h3]
        split at hr <;> rename_i h4
        · cases hr
        · rw [if_neg h4, hr]

/-- So does a CONFIG packet. -/
theorem State.cfg_accepts {s : State} {h : Hdr} {op : Nat} {c : Checks} {run : State → State}
    (ht : s.takes h = true) (hr : Request.refusal ⟨h, op, c⟩ s = none) :
    s.cfgPacket h op c run = run (s.taken h) := by
  unfold State.cfgPacket
  rw [State.packet_accepts ht hr]
  have : (!c.param || (s.casc.memberInService && memberRefused op) || c.state.isSome) = false := by
    unfold Request.refusal at hr
    simp only at hr
    (repeat' split at hr) <;> simp_all
  simp [this]

/-- What `accepts` says of a packet. -/
theorem accepts_spec {c : Instr} {s : State} {r : Request} (hr : request c s = some r) (h : accepts c s = true) :
    s.takes r.hdr = true ∧ r.refusal s = none := by
  unfold accepts at h
  rw [hr] at h
  simpa using h

/-- Reading a ring after one is set. -/
theorem State.ring_setRing (s : State) (r q : Nat) (g : Ring) : (s.setRing r g).ring q = if q = r then g else s.ring q := by
  simp [State.ring, State.setRing]

theorem toLe_length (n v : Nat) : (toLe n v).length = n := by
  induction n generalizing v with
  | zero => rfl
  | succ n ih => simp [toLe, ih]

/-- A completion has 32 bytes. -/
theorem Cpl.bytes_length (c : Cpl) (p : Bool) : (c.bytes p).length = 32 := by
  simp [Cpl.bytes, toLe_length]

/-- An interrupt leaves host memory as it is. -/
theorem State.interrupt_mem (s : State) (v c : Nat) : (s.interrupt v c).host.mem = s.host.mem := by
  simp only [State.interrupt, State.onHost, HostSt.usbEvent, HostSt.msix]
  (repeat' split) <;> rfl

/-- An interrupt leaves the rings as they are. -/
theorem State.ring_interrupt (s : State) (v c r : Nat) : (s.interrupt v c).ring r = s.ring r := rfl

end Sys2Proof.Machine
end

