-- ==== Sys2Proof/WellFormed.lean ====
section
/-! DEFINITION. Well-formed commands: operands inside the widths and lengths that the table of operations and the
frame layouts give them. A well-formed command may still be answered ST_BAD_PARAM: that is the device's own check. -/

namespace Sys2Proof

open Sys2Proof.Machine

/-- A packet header whose path exists (13 Table 13-1, with Primrose's mailboxes 32 to 35 as 96 to 99, log entry 46) and
whose CTX is a context number (13 Table 13-2). -/
def Machine.Hdr.ok (h : Hdr) : Bool := (decide (h.ring ≤ 80) || (decide (96 ≤ h.ring) && decide (h.ring ≤ 99))) && decide (h.ctx < 1024)

/-- An error of the memories inside the ranges of Table 15-9. -/
def ItemFault.ok (m : ItemFault) : Bool := m.conflicts.all fun c => decide (c.memory < 16) && decide (c.core < 256) && decide (c.bank < 256)

/-- Whether a command's operands lie in their ranges. -/
def Instr.wellFormed : Instr → Bool
  | .internalTickEdge _ => true
  | .tickInEdge _ => true
  | .holdoverEdge _ => true
  | .ptpTickEdge _ => true
  | .commitCheckJob _ _ => true
  | .decisionItem => true
  | .egressSelect _ => true
  | .egressGateOpen _ _ => true
  | .egressGateClose _ => true
  | .trajFrameSent _ _ => true
  | .contextLoad m => m.ok
  | .collisionPhase m flips => m.ok && flips.all fun f => decide (f.1 < 72)
  | .rosterTagReject _ _ => true
  | .occupancyPredictor m => m.ok
  | .cornflowerTransform => true
  | .wavefrontRings => true
  | .fieldAssembly => true
  | .fieldBroadcast bad => bad.all fun p => decide (p.1 < 72) && decide (p.2 < 4)
  | .clusterSelection m => m.ok
  | .dieMerge m => m.ok
  | .cascadeMerge => true
  | .critic _ m => m.ok
  | .reRank _ => true
  | .vetchFeasibility _ m => m.ok
  | .vetchIteration _ m => m.ok
  | .vetchStop _ m => m.ok
  | .vetchWindowCut _ => true
  | .proposalNetwork _ m => m.ok
  | .handoff m => m.ok
  | .backgroundDispatch _ _ _ _ => true
  | .backgroundSliceEnd _ _ _ _ _ => true
  | .flowItemComplete _ _ _ => true
  | .testSliceStart _ _ => true
  | .testSliceEnd _ _ => true
  | .coverageExceeded _ => true
  | .zhedaRecordWrite _ => true
  | .checkpointCapture _ => true
  | .replayStep => true
  | .peekComplete _ => true
  | .estopActive _ => true
  | .estopInactive _ => true
  | .estopRearmReady _ => true
  | .syncLost _ => true
  | .ptpSyncRx _ _ _ => true
  | .ethFrameRx _ _ _ _ _ => true
  | .ulbFrameRx _ _ _ => true
  | .ulbPortTrained _ _ _ _ => true
  | .ulbPortDown _ _ => true
  | .cascTickTimeout _ => true
  | .sqDoorbell _ _ => true
  | .cqDoorbell _ _ => true
  | .ringEnable _ _ => true
  | .mailboxCommit _ _ (.whole bs) => bs.length == 64
  | .mailboxCommit _ _ (.last _) => true
  | .mailboxStageWrite _ _ _ _ => true
  | .mailboxAck _ _ _ => true
  | .doorbellWrite _ _ _ => true
  | .doorbellServiceRead _ _ => true
  | .counterValue _ _ _ => true
  | .counterAdd _ _ _ => true
  | .counterSub _ _ _ => true
  | .counterFetchInc _ _ => true
  | .counterAttr _ _ _ => true
  | .coreStallTimeout _ _ => true
  | .watchArm _ _ _ => true
  | .firedRead _ => true
  | .counterLoRead _ => true
  | .latchingLoRead _ _ => true
  | .tempPeakRead => true
  | .fsPeekStart _ _ => true
  | .ctgPeekSelect _ _ => true
  | .flowRecordSelect _ => true
  | .ledgerSelect _ => true
  | .thiUnfreeze _ => true
  | .clkDomainReset _ _ => true
  | .bar2WindowSelect _ => true
  | .msixVectorUnmask _ => true
  | .registerWrite _ _ _ => true
  | .bar2Access _ len (some d) _ => d.length == len
  | .bar2Access _ _ none _ => true
  | .pcieRequestRx _ => true
  | .thistleViolation _ _ _ _ _ _ => true
  | .dmaReadError _ _ => true
  | .perstAssert => true
  | .functionLevelReset => true
  | .pcieLinkDown => true
  | .powerStateChange _ => true
  | .usbCommandTransfer _ => true
  | .usbBusReset => true
  | .usbSuspend => true
  | .usbRecoveryImage _ => true
  | .porRelease _ _ _ => true
  | .porAssert => true
  | .sysReset => true
  | .bootReady _ _ => true
  | .bootFail _ => true
  | .xtalWindow _ _ => true
  | .xtalTimeout _ _ => true
  | .pllLossOfLock _ => true
  | .sparePllLocked _ => true
  | .clockMonitorWindow _ _ => true
  | .domainResetDone _ => true
  | .regulatorInRegulation _ => true
  | .avsTimeout => true
  | .pmbusAlert => true
  | .thermalSample temps => temps.length == 8
  | .supplyExcursion _ => true
  | .vddAonLow => true
  | .tamperDetect _ => true
  | .secureWipeDone _ => true
  | .scrubGranule _ _ => true
  | .nop h => h.ok
  | .devInfo h _ => h.ok
  | .devStatus h => h.ok
  | .devFaultLog h _ _ _ => h.ok
  | .devReset h => h.ok
  | .configWrite h _ bytes => h.ok && decide (bytes.length ≤ 4088)
  | .configLoad h _ _ _ _ digest => h.ok && digest.length == 32
  | .configLoadDone => true
  | .configCommit h _ => h.ok
  | .configStagingDone _ => true
  | .configRollback h _ => h.ok
  | .configRead h _ _ _ _ => h.ok
  | .configDiscard h => h.ok
  | .configStore h => h.ok
  | .ctxAlloc h _ _ => h.ok
  | .ctxFree h => h.ok
  | .ctxActivate h => h.ok
  | .ctxDeactivate h => h.ok
  | .ctxWrite h _ bytes => h.ok && decide (bytes.length ≤ 3776)
  | .ctxRead h _ _ _ _ => h.ok
  | .ctxSeedSet h _ => h.ok
  | .ctxGoalSet h boxes => h.ok && decide (boxes.length ≤ 255)
  | .ctxTreeReset h => h.ok
  | .worldOcc h _ => h.ok
  | .worldState h _ => h.ok
  | .worldKeepoutSet h _ _ _ => h.ok
  | .worldKeepoutClear h _ => h.ok
  | .worldFieldRead h _ => h.ok
  | .planFrameRead h _ _ => h.ok
  | .planResultRead h _ _ => h.ok
  | .planHandoffRead h _ _ => h.ok
  | .rearm h => h.ok
  | .flowOpen h _ _ _ _ _ _ _ => h.ok
  | .flowPush h _ items => h.ok && decide (items.length ≤ 255) && items.all fun i => i.length == 64
  | .flowClose h _ => h.ok
  | .flowFlush h _ => h.ok
  | .flowRead h _ => h.ok
  | .timerSet h _ _ _ => h.ok
  | .timerCancel h _ => h.ok
  | .longStatus h _ => h.ok
  | .longSuspend h _ => h.ok
  | .longResume h _ _ => h.ok
  | .longCancel h _ => h.ok
  | .roadmapBuild h _ _ => h.ok
  | .wavefrontFull h => h.ok
  | .deepPlan h _ _ _ _ => h.ok
  | .fieldRebuild h _ _ => h.ok
  | .memScrub h _ _ => h.ok
  | .tileRequalify h _ => h.ok
  | .snapPause h => h.ok
  | .snapResume h => h.ok
  | .snapSave h _ _ _ => h.ok
  | .snapLoad h _ _ _ => h.ok
  | .replay h _ _ _ _ _ _ _ probes => h.ok && decide (probes.length ≤ 255)
  | .zhdExport h _ _ _ _ => h.ok
  | .diagRead h _ _ _ => h.ok
  | .diagInject h _ _ _ _ _ => h.ok
  | .secAttest h nonce _ _ => h.ok && nonce.length == 32
  | .secLifecycle h _ _ => h.ok
  | .secFwUpdate h _ _ => h.ok
  | .xmssKeygen h _ => h.ok
  | .cascStatus h => h.ok
  | .cascMemberRemove h _ => h.ok
  | .cascMemberAdd h _ => h.ok
  | .pwrOpSet h _ => h.ok
  | .clkSpreadSet h _ _ => h.ok
  | .pwrClusterSet h _ _ => h.ok
  | .pwrStatus h => h.ok
  | .supplyRecovered => true
  | .sysResetRelease => true
  | .perstRelease => true
  | .pcieLinkUp _ _ => true
  | .usbConnect _ => true
  | .usbResume => true
  | .bestMasterChange _ _ => true
  | .ethLossOfSignal _ _ _ => true
  | .configStoreDone _ => true
  | .snapSaveDone => true
  | .attestReportDone => true
  | .lifecycleFuseBlown => true
  | .fwUpdateProgrammed _ => true

end Sys2Proof
end

