-- ==== Sys2Proof/Tests/Slice0.lean ====
section
/-! SUPPORT. Own tests: the checks of well-formedness, small runs of one step, and for each statement a state and operands that
meet its hypotheses, clause by clause. -/

namespace Sys2Proof.Tests

set_option Elab.async false

open Sys2Proof Sys2Proof.Machine

/-! ### Small states -/

/-- A header on the host mailbox path 64. -/
def hm : Hdr := { ring := 64, tag := 7, seq := 1 }

/-- A header on ring 3 for context 1. -/
def h3 : Hdr := { ring := 3, tag := 9, seq := 1 }

/-- The device after a boot: no hold, ready. -/
def on : State := State.reset.onClock fun c => { c with
  ready := true
  holds := ⟨false, false, false, false⟩
  xtalOk := true
  step := 6
  doms := List.replicate 9 .on }

/-- The same with ring 3 enabled. -/
def ringed : State := (on.updRing 3 fun g => { g with
  en := true
  cqBase := 0x10000 }).onHost fun h => { h with dlActive := true, perst := false }

/-- A record within every range, for a model of no joints: 32 way-points, 64 spheres, 4 knots. -/
def recA : CtxRec :=
  [(0x040, [32, 64, 4, 0] ++ toLe 4 50000), (0x058, [1, 0, 0, 0, 1, 0]), (0x5D0, [64, 0, 0, 0, 0, 1]),
    (0x60C, toLe 4 0x3F800000), (0x61C, [8, 20]), (0x620, toLe 4 0x3F800000 ++ toLe 4 0x3F800000 ++ toLe 4 1)].foldl
    (fun (m : Mem) (w : Nat × List Byte) => Mem.writes m w.1 w.2) []

/-- A small bundle that the device accepts, with one robot model. -/
def bunA : Bundle := { golden := List.replicate 4096 0, models := [{ defaults := recA, shapes := [{}] }] }

/-- That bundle in a slot. -/
def slotA : BundleSlot := { gen := 5, bytes := [], length := 64, bundle := bunA, digest := [] }

/-- A header for context 1 on the host mailbox path. -/
def hc : Hdr := { ring := 64, ctx := 1 }

/-- The device with that bundle active and context 1 live. -/
def live : State := ((on.onCmd fun c => { c with active := some slotA }).setCtx 1 { state := .idle, inForce := recA, pend := recA })

/-! ### Witnesses -/

theorem wit_StepRunsFront : (on.setPending []).pending = [] := rfl

theorem wit_QueueIsFifo : ∃ t, (on.setPending [.perstRelease]).pending = [.perstRelease] ∧
    step (on.setPending [.perstRelease]) = .next t := ⟨_, rfl, rfl⟩

theorem wit_TimeNeverRunsBack : ∃ t, step (on.setPending [.estopActive 9]) = .next t := ⟨_, rfl⟩

theorem wit_StepKeepsMemoryForm : ∃ t, (on.mem.ddr.wf = true ∧ on.mem.sram.wf = true) ∧
    step (on.setPending [.perstRelease]) = .next t := ⟨_, ⟨rfl, rfl⟩, rfl⟩

theorem wit_FusesAreOneWay : ∃ t, (0 ≤ on.sec.fuses.lifecycle ∧ 0 ≤ on.sec.fuses.rollback) ∧
    step (on.setPending [.perstRelease]) = .next t := ⟨_, ⟨by decide, by decide⟩, rfl⟩

theorem wit_TickFrame :
    (∃ t, family .cascadeMerge = .tickWork ∧ exec .cascadeMerge on = .next t ∧ Part.host ∉ mayChange .cascadeMerge) ∧
    (∃ t, family (.estopActive 5) = .outside ∧ exec (.estopActive 5) on = .next t ∧
      Part.world ∉ mayChange (.estopActive 5)) := ⟨⟨_, rfl, rfl, by decide⟩, ⟨_, rfl, rfl, by decide⟩⟩

theorem wit_AccessFrame :
    (∃ t, family (.firedRead 0) = .sync ∧ exec (.firedRead 0) on = .next t ∧ Part.host ∉ mayChange (.firedRead 0)) ∧
    (∃ t, family .tempPeakRead = .register ∧ exec .tempPeakRead on = .next t ∧ Part.world ∉ mayChange .tempPeakRead) :=
  ⟨⟨_, rfl, rfl, by decide⟩, ⟨_, rfl, rfl, by decide⟩⟩

theorem wit_BoardFrame : ∃ t, family .perstRelease = .board ∧ exec .perstRelease on = .next t ∧
    Part.tick ∉ mayChange .perstRelease := ⟨_, rfl, rfl, by decide⟩

theorem wit_PacketFrame : ∃ t, family (.nop hm) = .packet ∧ exec (.nop hm) on = .next t ∧
    Part.world ∉ mayChange (.nop hm) := ⟨_, rfl, rfl, by decide⟩

theorem wit_UntakenPacketChangesNothing : ∃ r, request (.nop h3) on = some r ∧ on.takes r.hdr = false :=
  ⟨_, rfl, by decide⟩

theorem wit_FailedCheckAnswersItsStatus : ∃ r, request (.ctxAlloc hm 2 0) on = some r ∧ on.takes r.hdr = true ∧
    r.refusal on = some .badParam := ⟨_, rfl, by decide, by decide⟩

theorem wit_FinalCompletionOnRing : h3.ring < 64 ∧ quietDrop h3 0x0100 .ok = false ∧ ringed.host.mem.wf = true ∧
    (ringed.ring 3).en = true ∧ ringed.host.up = true ∧ (ringed.ring 3).held = [] ∧ (ringed.ring 3).full = false ∧
    ringed.pathFrozen 3 = false := by decide

theorem wit_CompletionWaitsForRoom : quietDrop h3 0x0100 .ok = false ∧
    ((ringed.updRing 3 fun g => { g with cqTail := 15 }).ring 3).en = true ∧ ringed.host.up = true ∧
    ((ringed.updRing 3 fun g => { g with cqTail := 15 }).ring 3).full = true := by decide

/-- A queued long operation in handle slot 0. -/
def opA : LongOp := { handle := 0, hdr := hm, opcode := 0x0714, work := .memScrub 0 64 0 0 }

def withOp (st : LongState) : State := on.onCmd fun c => { c with longs := [(0, { opA with state := st })] }

/-- A state of many held results. -/
def holding : State := (((live.onHost fun h => { h with egress := [(0, ⟨1, [], 0, none⟩)] }).updPopSlot 0 fun x => { x with
  result := some {} }).updVetSlot 0 fun v => { v with handoff := some {} }).updStore 0 fun f => { f with valid := true }

theorem wit_ReadCommandsReply :
    accepts (.nop hm) on = true ∧ accepts (.devStatus hm) on = true ∧ accepts (.flowRead hm 5) on = true ∧
    accepts (.cascStatus hm) on = true ∧ accepts (.pwrStatus hm) on = true ∧
    (accepts (.longStatus hm 0) (withOp .queued) = true ∧ (withOp .queued).longAt 0 = some opA) ∧
    accepts (.devInfo hm 0x1000) on = true ∧ accepts (.ctxRead hc 1 0x40 16 0) live = true ∧
    (accepts (.planFrameRead hm 0 0x1000) holding = true ∧
      Tbl.find? holding.host.egress 0 = some ⟨1, [], 0, none⟩) ∧
    accepts (.diagRead hm 0x1010000000 4 0) on = true ∧ accepts (.devFaultLog hm 0 1 0x1000) on = true ∧
    (accepts (.configRead hm 0 0 64 0x1000) live = true ∧ (live.cmd.slotNo 0).isSome = true) ∧
    (accepts (.worldFieldRead hm 0x1000) holding = true ∧ holding.heldField.isSome = true) ∧
    (accepts (.planResultRead hm 0 0x1000) holding = true ∧ (holding.popSlot 0).result = some {}) ∧
    (accepts (.planHandoffRead hm 0 0x1000) holding = true ∧ (holding.vetSlot 0).handoff = some {}) ∧
    accepts (.zhdExport hm 0 1 0 0x1000) on = true := by decide +kernel

theorem wit_ConfigCommandsAct :
    accepts (.configWrite hm 0 [1]) on = true ∧ accepts (.configLoad hm 5 1 0 64 []) on = true ∧
    accepts (.configCommit hm 5) (live.onCmd fun c => { c with staged := some slotA }) = true ∧
    accepts (.configRollback hm 5) (live.onCmd fun c => { c with previous := some slotA }) = true ∧
    accepts (.configDiscard hm) on = true ∧
    (accepts (.configStore hm) live = true ∧ live.cmd.active.isSome = true) := by decide +kernel

theorem wit_ContextAndWorldCommands :
    accepts (.ctxAlloc hm 1 0) on = true ∧ accepts (.ctxFree hc) live = true ∧ accepts (.ctxActivate hc) live = true ∧
    accepts (.ctxDeactivate hc) live = true ∧ accepts (.ctxWrite hc 0x5D0 [128]) live = true ∧
    accepts (.ctxSeedSet hc 9) live = true ∧ accepts (.ctxGoalSet hc []) live = true ∧
    accepts (.ctxTreeReset hc) live = true ∧ accepts (.worldOcc hm (List.replicate 20 0)) on = true ∧
    accepts (.worldState hm (List.replicate 20 0)) on = true ∧ accepts (.worldKeepoutSet hm 63 0 {}) on = true ∧
    accepts (.worldKeepoutClear hm 255) on = true ∧
    accepts (.rearm hm) (on.setNow 20000000) = true := by decide +kernel

/-- Flow 2 open with credit for one item; flow 3 refuses beyond its credit. -/
def flows : State := (live.updFlow 2 fun f => { f with state := .opened, qlimit := 1 }).updFlow 3 fun f => { f with
  state := .opened, refuse := true, qlimit := 1 }

/-- A row item for context 1: kind 3, an empty row with the depth given. -/
def rowOf (depth : Nat) : List Byte := [3, 0, 1, 0] ++ List.replicate 20 0 ++ List.replicate 12 0 ++ toLe 4 depth ++
  List.replicate 24 0

theorem wit_FlowAndTimerCommands :
    accepts (.flowOpen hm 1 0 0 1 0 0 4) on = true ∧ accepts (.flowClose hm 2) flows = true ∧
    accepts (.flowFlush hm 2) flows = true ∧
    (accepts (.timerSet hm 9 1 24575) on = true ∧ 0 < on.teasel.delayRoom 2) ∧
    (accepts (.timerSet hm 9 0 63) (on.onTeasel fun t => { t with dlCap := [4096, 4096, 0, 0] }) = true ∧
      (on.onTeasel fun t => { t with dlCap := [4096, 4096, 0, 0] }).teasel.delayRoom 2 = 0) ∧
    accepts (.timerCancel hm 4) (on.onTeasel fun t => t.delayPut 2 9 (.timer 4 false 0)) = true := by decide +kernel

/-- Flow 2's open state with 64 pushes held. -/
def crowded : State := flows.onTeasel fun t => { t with heldPushes := List.replicate 64 ⟨hm, 2, []⟩ }

/-- A row item longer than a row may be. -/
def longRow : List Byte := [3, 0, 1, 0] ++ List.replicate 20 0 ++ List.replicate 8 0 ++ toLe 4 262145 ++ toLe 4 8 ++
  List.replicate 24 0

theorem wit_FlowPushFollowsCredit :
    (accepts (.flowPush hm 2 [rowOf 8]) flows = true ∧ [rowOf 8].any flows.rowTooLong = false ∧
      ([rowOf 8].any fun b => (flows.servers (itemClass b)).isEmpty) = false ∧ [rowOf 8].length ≤ flows.credit 2) ∧
    (accepts (.flowPush hm 3 [rowOf 8, rowOf 1024]) flows = true ∧ flows.credit 3 < 2 ∧ (flows.flow 3).refuse = true) ∧
    (accepts (.flowPush hm 2 [rowOf 8, rowOf 1]) crowded = true ∧ crowded.credit 2 < 2 ∧
      (crowded.flow 2).refuse = false ∧ 64 ≤ crowded.teasel.heldPushes.length) ∧
    (accepts (.flowPush hm 2 [rowOf 8, rowOf 1]) flows = true ∧ flows.credit 2 < 2 ∧
      flows.teasel.heldPushes.length < 64) := by decide +kernel

theorem wit_LongRowRefusedBeforeQueueing :
    flows.takes hm = true ∧ flows.resetting 29 = false ∧ (flows.flow 2).state = .opened ∧
    ([longRow].all (flows.itemOk hm) = true ∧ [longRow].any flows.rowTooLong = true) ∧
    (itemKind (rowOf 0) = 3 ∧ rowDepth (flows.itemArgs (rowOf 0)) = 0) ∧
    1024 < rowDepth (flows.itemArgs (rowOf 1025)) := by decide +kernel

theorem wit_LongControlsFollowStates :
    (accepts (.longSuspend hm 0) (withOp .queued) = true ∧ (withOp .queued).longAt 0 = some { opA with state := .queued }) ∧
    (accepts (.longSuspend hm 0) (withOp .running) = true) ∧
    (accepts (.longResume hm 0 9) (withOp .suspendPending) = true) ∧
    (accepts (.longResume hm 0 0) (withOp .suspended) = true) ∧
    (0 < ((withOp .suspended).teasel.delayDrop 1 (.longOp 0)).delayRoom 1) ∧
    (accepts (.longCancel hm 0) (withOp .queued) = true ∧ accepts (.longCancel hm 0) (withOp .suspended) = true) ∧
    (accepts (.longCancel hm 0) (withOp .running) = true ∧ accepts (.longCancel hm 0) (withOp .suspendPending) = true) := by
  decide +kernel

/-- A snapshot of tick 5 for the configuration in force. -/
def snapA : Snapshot := { k := 5, cfgDigest := List.replicate 32 0 }

/-- A paused device with that snapshot in slot 0 and the record of tick 5. -/
def parkedDev : State := on.onZheda fun z => { z with
  run := .paused
  ckpts := [(0, snapA)]
  records := [{ tick := 5, bytes := [] }] }

/-- A device that has declared tile 5 failed, `n` times. -/
def failedTile (n : Nat) : State := (on.updTile 5 fun y => { y with role := .failed }).onSec fun p => { p with
  nvm := { p.nvm with ledger := [(256 + 5, { declared := n })] } }

/-- Every long-operation slot in use. -/
def longsTaken : State := live.onCmd fun c => { c with longs := (List.range 64).map fun n => (n, { opA with handle := n }) }

theorem wit_LongOperationsStart :
    accepts (.roadmapBuild hc 16777216 0) live = true ∧
    accepts (.wavefrontFull hc) (live.setCtx 1 { state := .idle, slot := some 0 }) = true ∧
    (accepts (.deepPlan hc 64 8 0 0x1000) live = true ∧ accepts (.deepPlan hc 16777216 1024 0 0x1000) live = true) ∧
    accepts (.fieldRebuild hm ⟨2560, -2560, 0⟩ 0x1000) on = true ∧ accepts (.memScrub hm 0x77FFFFFFF 1) on = true ∧
    accepts (.xmssKeygen hm 0x1000) (on.onSec fun p => { p with fuses := { p.fuses with lifecycle := 0 } }) = true ∧
    (accepts (.tileRequalify hm 5) (failedTile 3) = true ∧
      (Tbl.get ({} : LedgerEntry) (failedTile 3).sec.nvm.ledger (256 + 5)).declared < 4) ∧
    (accepts (.tileRequalify hm 5) (failedTile 4) = true ∧
      4 ≤ (Tbl.get ({} : LedgerEntry) (failedTile 4).sec.nvm.ledger (256 + 5)).declared) ∧
    (accepts (.replay hm 0 0 0 0 5 0 0x1000 []) parkedDev = true ∧ (parkedDev.imageAt 0 0 0).isSome = true) ∧
    ((request (.memScrub hm 0 64) longsTaken).isSome = true ∧ opClass 0x0714 = .long ∧ longsTaken.takes hm = true ∧
      longsTaken.longsFull = true ∧ (opDomains 0x0714).any longsTaken.resetting = false) := by decide +kernel

theorem wit_SnapshotCommandsAct :
    accepts (.snapPause hm) on = true ∧
    (accepts (.snapResume hm) (on.onZheda fun z => { z with run := .pausing, pauser := some hm }) = true) ∧
    (accepts (.snapResume hm) parkedDev = true ∧ parkedDev.zheda.run ≠ .pausing) ∧
    accepts (.snapSave hm 0 3 0) parkedDev = true ∧
    (accepts (.snapLoad hm 0 0 0) parkedDev = true ∧ (parkedDev.imageAt 0 0 0).isSome = true) := by decide +kernel

/-- A master with position 7 joining and position 1 in service. -/
def mastering : State := on.onCasc fun c => { c with members := [(1, { state := .inService, present := true }),
  (7, { state := .joining, present := true, digest := some (List.replicate 32 0) })] }

theorem wit_SystemCommandsAct :
    accepts (.diagInject hm 1 71 2 0 0) (on.onSec fun p => { p with fuses := { p.fuses with lifecycle := 1 } }) = true ∧
    accepts (.devReset hm) on = true ∧
    (accepts (.cascMemberRemove hm 7) mastering = true ∧
      (Tbl.get ({} : Member) mastering.casc.members 7).state = .joining) ∧
    (accepts (.cascMemberRemove hm 1) mastering = true ∧
      (Tbl.get ({} : Member) mastering.casc.members 1).state ≠ .joining) ∧
    accepts (.cascMemberAdd hm 7) mastering = true ∧
    (accepts (.pwrOpSet hm 3) on = true ∧ on.clock.freeSpare = some 8) ∧
    (accepts (.clkSpreadSet hm 20 63) on = true ∧ accepts (.clkSpreadSet hm 0 30) on = true) := by decide +kernel

/-- A part with an identity key and lifecycle `n`. -/
def keyed (n : Nat) : State := on.onSec fun p => { p with
  fuses := { p.fuses with lifecycle := n }
  nvm := { p.nvm with cert := some [], seeds := some [] } }

theorem wit_SecurityCommandsAct :
    (∃ u, accepts (.secAttest hm (List.replicate 32 0) 0x1000 true) (keyed 2) = true ∧
      ((keyed 2).taken hm).reserve true = (some 0, u)) ∧
    (∃ u, accepts (.secAttest hm (List.replicate 32 0) 0x1000 false) (keyed 2) = true ∧
      ((keyed 2).taken hm).reserve false = (none, u)) ∧
    accepts (.secLifecycle hm 2 []) (keyed 1) = true ∧
    accepts (.secFwUpdate hm 0 5840) on = true :=
  ⟨⟨_, by decide +kernel, rfl⟩, ⟨_, by decide +kernel, rfl⟩, by decide +kernel, by decide +kernel⟩

theorem wit_GradeERefusesOP0 : (on.onIdent fun i => { i with fusedGrade := 1 }).ident.fusedGrade = 1 ∧
    (on.onIdent fun i => { i with fusedGrade := 1 }).takes hm = true := by decide

/-- The device in OP3. -/
def parkedOp3 : State := on.onClock fun c => { c with op := 3 }

theorem wit_ClusterSetOnlyInOP3 :
    (on.takes hm = true ∧ (15 : Byte).toNat < 16 ∧ (2 : Byte).toNat < 3 ∧ on.clock.op ≠ 3) ∧
    (parkedOp3.takes hm = true ∧ parkedOp3.clock.op = 3 ∧ parkedOp3.mem.sram.wf = true ∧
      parkedOp3.clock.doms.length = 9) := by decide

/-! #### Ticks -/

/-- The live device with SYS_TICK_CFG.SRC `src`, its last edge at 1,000,000 ns, in holdover or not. -/
def clocked (src : BitVec 2) (hold : Bool) : State := live.onTick fun t => { t with
  src := src, lastEdge := some 1000000, holdover := hold, lastTickIn := some 1000000, tickInRun := 3 }

theorem wit_FastTickInEdgeIgnored :
    (clocked 1 false).edgesRun = true ∧ (clocked 1 false).tick.src = 1 ∧ (clocked 1 false).tick.holdover = false ∧
    (clocked 1 false).tick.lastEdge = some 1000000 ∧
    2 * (1499999 - 1000000) < (clocked 1 false).tick.periodUs * 1000 ∧
    (clocked 1 false).tick.periodUs * 1000 ≤ 2 * (1500000 - 1000000) := by decide

theorem wit_EdgeNumbersTheTick : live.zheda.run = .live := by decide

theorem wit_OtherEdgesAccepted :
    ((clocked 0 false).edgesRun = true ∧ (clocked 0 false).tick.src = 0) ∧
    ((clocked 2 false).edgesRun = true ∧ (clocked 2 false).tick.src = 2 ∧
      (clocked 2 false).tick.early 1500000 = false) ∧
    ((clocked 1 true).edgesRun = true ∧ (clocked 1 true).tick.holdover = true ∧
      (clocked 1 true).tick.periodUs * 1000 ≤ 2000000 - 1000000) ∧
    ((clocked 1 false).edgesRun = true ∧ 3 * (clocked 1 false).tick.periodUs * 1000 ≤ 2 * (2500000 - 1000000)) ∧
    ((clocked 1 true).tick.qualifies 2000000 = true ∧ (clocked 1 true).tick.tickInRun = 3 ∧
      (clocked 1 true).tick.acE ≤ 900000) := by decide +kernel

/-- A bundle with a predictor and a critic. -/
def bunB : Bundle := { bunA with predictor := some {}, critic := some {} }

/-- A running tick 8 with context 1 in slot 0. -/
def ticking : State := (((live.onCmd fun c => { c with active := some { slotA with bundle := bunB } }).onTick fun t => { t with
  num := { val := 8 }
  prog := { t.prog with running := true } }).onTeasel fun t => { t with
    fg := [(0, { ctx := 1, drain := false, model := 0, goals := 0, seed := 0, gen := 0, rec' := recA })] })

/-- A hand-off of tick 7 with one valid entry. -/
def handA : HandOff := { ctx := 1, slot := 0, state := .plan, tick := 7, entries := [{ valid := true, index := 0 }] }

/-- The tick with that hand-off in. -/
def handed : State := ticking.updVetSlot 0 fun v => { v with handoff := some handA }

theorem wit_CommitJobRecordsItsChecks :
    handed.running = true ∧ handed.casc.memberInService = false ∧ handed.tick.prog.decided = false ∧
    (handed.fgSlot 0).isSome = true ∧ handed.handoffIn 0 = some handA ∧ handed.jobTile 0 0 = some 0 ∧
    handA.entries[0]? = some { valid := true, index := 0 } ∧ handA.stale = false := by decide +kernel

/-- The tick after its decision. -/
def decidedTick : State := ticking.updProg fun p => { p with decided := true }

theorem wit_DecisionMadeOnce :
    (ticking.running = true ∧ ticking.casc.memberInService = false ∧ ticking.tick.prog.decided = false) ∧
    decidedTick.tick.prog.decided = true := by decide +kernel

/-- A frame of slot 0 that port 1 still sends and port 0 has sent. -/
def frameA : QueuedFrame := { slot := 0, frame := { ctx := 1 }, todo := [1], sent := true, counter := some 4 }

/-- Its destination, on both ports. -/
def destA : EthDest := { ports := 3 }

/-- The tick inside its egress window. -/
def sending : State := ((decidedTick.onCommit fun c => { c with selected := true, frames := [frameA] }).onHost fun h => { h with
  ctxMap := [(1, 0)], dests := [(0, destA)]
  ports := [{ gate := true }, { gate := true }] })

theorem wit_EgressWindow :
    (decidedTick.running = true ∧ decidedTick.tick.prog.decided = true ∧ decidedTick.commit.selected = false) ∧
    ((sending.commit.frames.find? fun q => q.slot == (0 : Fin 16).val) = some frameA ∧
      sending.host.destOf frameA.frame.ctx = some destA ∧ sending.up = true ∧ sending.sendsNow frameA 1 = true ∧
      frameA.counter = some 4 ∧ frameA.sent = true) := by decide +kernel

/-- Tile 71 failed, its ghost logged or not. -/
def ghostly (logged : Bool) : State := on.updTile 71 fun y => { y with role := .failed, ghostLogged := logged }

theorem wit_TickItemsAct :
    (ticking.running = true ∧ ticking.casc.memberInService = false ∧ ({} : ItemFault).uncorrectable = none) ∧
    ((ticking.fgFault {}).flipStores []).goldSetup = none ∧
    ((ghostly true).safety.tile 71).role = .failed ∧ ((ghostly true).safety.tile 71).ghostLogged = true ∧
    ((ghostly false).safety.tile 71).ghostLogged = false ∧
    ((on.safety.tile 71).role ≠ .failed ∧ 1 = (on.safety.rots.getD (71 / 18) {}).gen) ∧
    (0 ≠ (on.safety.rots.getD (17 / 18) {}).gen ∧ (on.safety.tile 0).serves = some 0) := by decide +kernel

/-- The tick after its transform, with rings switched on. -/
def transformed : State := ticking.onWorld fun w => { w with coarse := some [] }

theorem wit_WorldStageItems : ticking.bundle = some bunB ∧ transformed.bundle = some bunB ∧
    (ticking.running = true ∧ ticking.casc.memberInService = false ∧
      bunB.predictor = some {} ∧ ticking.astersRun = true) ∧
    ((ticking.onWorld fun w => { w with pred := some [] }).transformRuns bunB = true ∧
      ticking.transformRuns bunB = false) ∧
    (transformed.running = true ∧ transformed.zheda.ctl.wfEn = true ∧
      transformed.coarseNow = some [] ∧ transformed.cornflower.failedMask = 0) ∧
    transformed.world.coarse = some [] ∧
    (ticking.tick.prog.bcastDone = false ∧ ticking.fieldToSend = none) ∧
    (((ticking.onWorld fun w => { w with built := some {} }).updProg fun p => { p with assembled := true }).fieldToSend =
      some {}) := ⟨rfl, rfl, by decide +kernel⟩

/-- The tick after a merge of slot 0, with scores. -/
def mergedTick : State := ticking.updPopSlot 0 fun y => { y with merged := some {}, scores := some [] }

theorem wit_SelectionStageItems :
    (ticking.running = true ∧ ({} : ItemFault).uncorrectable = none) ∧
    ((ticking.onCasc fun c => { c with members := [(1, { state := .inService, present := true })] }).leads = true) ∧
    (mergedTick.running = true ∧ (mergedTick.bundle.bind (·.critic)) = some {} ∧ (mergedTick.fgSlot 0).isSome = true ∧
      (mergedTick.popSlot 0).merged = some {} ∧ mergedTick.astersRun = true ∧ (mergedTick.popSlot 0).scores = some []) := by
  decide +kernel

/-! #### Vetch, background work, tests, records -/

/-- The running tick 8 with slot 0's Vetch work in a phase, its die result of this tick published. -/
def vetting (p : VetPhase) : State := (((ticking.updVetSlot 0 fun v => { v with
  phase := p, refRank := some 7, work := List.replicate 8 ({} : HEntry) }).updPopSlot 0 fun y => { y with
    valid := true, result := some { tick := 8 } }).updTrace fun t => { t with nonrepro := true }).onTick fun t => { t with
      acE := 900000 }

/-- The tick with a proposal graph in the robot model. -/
def proposing : State := ticking.onCmd fun c => { c with active := some { slotA with bundle := { bunB with
  models := [{ defaults := recA, shapes := [{}], proposal := some {} }] } } }

theorem wit_VetchItems :
    ((vetting .idle).running = true ∧ ((vetting .idle).vetFg 0).isSome = true ∧ ((vetting .idle).vetSlot 0).phase = .idle ∧
      (vetting .idle).vetTurn 0 = true ∧
      (((vetting .idle).fgFault {}).fresh.2.vetResult 0).isSome = true) ∧
    ((vetting .refining).running = true ∧ ((vetting .refining).vetFg 0).isSome = true ∧
      ((vetting .refining).vetSlot 0).phase = .refining ∧ ((vetting .refining).vetSlot 0).refRank = some 7 ∧
      ((vetting .refining).vetSlot 0).work[7]? = some ({} : HEntry)) ∧
    ((vetting .stopping).running = true ∧ ((vetting .stopping).vetFg 0).isSome = true ∧
      ((vetting .stopping).vetSlot 0).phase = .stopping) ∧
    ((vetting .refining).zheda.trace.nonrepro = true ∧ (vetting .stopping).zheda.trace.nonrepro = true) ∧
    (proposing.running = true ∧ ((proposing.fgSlot 0).bind fun f => (proposing.entryOf f.model).proposal) = some {} ∧
      (proposing.fgFault {}).astersRun = true) ∧
    (ticking.tick.prog.handedOff = false ∧ ticking.casc.memberInService = false) ∧
    ((ticking.onCasc fun c => { c with memberInService := true }).running = true) ∧
    (ticking.updProg fun p => { p with handedOff := true }).tick.prog.handedOff = true := by decide +kernel

/-- A live device with a long operation queued for the command processors. -/
def longWaits : State := live.onCmd fun c => { c with longs := [(0, { opA with work := .memScrub 0 64 0 0 })] }

/-- A query item for context 1 that is ready on flow 2. -/
def itemWaits : State := (flows.updFlow 2 fun f => { f with waiting := [0], queued := 1 }).onTeasel fun t => { t with
  pool := [(0, { flow := 2, seq := 0, bytes := rowOf 8, place := .waiting, release := some 0 })] }

/-- A device whose server 0 of a class runs some work. -/
def runs (c : ServerClass) (w : BgWork) : State := itemWaits.onTeasel fun t => { t with
  running := [{ cls := c, server := 0, work := w, start := 0, len := 64 }] }

theorem wit_BackgroundSlices :
    (live.up = true ∧ live.teasel.bgEn = true ∧ live.zheda.run ≠ .replay ∧ live.serverFree .eng 63 = true ∧
      ((live.reachAc 1000).bestChoice .eng 1004 64).isNone = true) ∧
    (longWaits.serverFree .cp 1 = true ∧
      ((longWaits.reachAc 1000).bestChoice .cp 1004 64).map (·.work) = some (.long 0) ∧
      ((longWaits.reachAc 1000).longAt 0).isSome = true) ∧
    (itemWaits.serverFree .pop 0 = true ∧
      ((itemWaits.reachAc 1000).bestChoice .pop 1004 64).map (·.work) = some (.flow 0) ∧
      ((itemWaits.reachAc 1000).poolEntry 0).isSome = true ∧
      ((itemWaits.reachAc 1000).ctx (itemCtx (rowOf 8))).state ≠ .free) ∧
    (runs .pop (.flow 0)).serverFree .pop 0 = false ∧
    (((runs .pop (.flow 0)).runningOn .pop 0).map (·.work) = some (.flow 0) ∧
      ((runs .cp (.long 0)).runningOn .cp 0).map (·.work) = some (.long 0) ∧
      ((runs .cp (.firmware 3)).runningOn .cp 0).map (·.work) = some (.firmware 3)) := by decide +kernel

/-- A device on which test unit `u` runs a slice. -/
def testRuns (u : Nat) : State := on.onSafety fun f => { f with testing := [⟨u, 0, 64⟩] }

/-- Coverage of unit 92 and of tile 71 in excess. -/
def uncovered : State := (on.onTick fun t => { t with num := { val := 0x4000 } }).onSafety fun f => { f with
  cov := [(92, { startTick := some 0 })] }

theorem wit_TestSlices :
    (on.up = true ∧ on.testable (.cov 92) = true ∧ on.unitBusy (testNum (.cov 92)) = false ∧
      on.testFits (testNum (.cov 92)) 0 = true) ∧
    ((on.onSafety fun f => { f with vetTest := 95 }).testable .vetSpare = true) ∧
    (((testRuns 92).safety.testing.any fun t => t.unit == testNum (.cov 92)) = true ∧
      (testRuns 92).safety.failNext ((testRuns 92).testId (testNum (.cov 92))).1
        ((testRuns 92).testId (testNum (.cov 92))).2 = none) ∧
    ((testRuns 171).safety.testing.any fun t => t.unit == testNum (.tile 71)) = true ∧
    ((testRuns 200).safety.testing.any fun t => t.unit == testNum .vetSpare) = true ∧
    ((Tbl.get {} uncovered.safety.cov 92).startTick = some 0 ∧ uncovered.safety.covUnit.toNat < uncovered.tickNo - 0 ∧
      (Tbl.get {} uncovered.safety.cov 92).late = false) ∧
    ((uncovered.safety.tile 71).role ≠ .failed ∧ (uncovered.safety.tile 71).covLogged = false ∧
      uncovered.safety.covTile.toNat < uncovered.tickNo - (uncovered.safety.tile 71).covTick) := by decide +kernel

/-- A replay from snapshot A up to tick 6. -/
def jobA : ReplayJob := { snap := snapA, target := 6, next := 5, fromHost := false, inputAddr := 0, raddr := 0x1000, probes := [] }

/-- A device that replays it, with the given record of tick 5. -/
def replaying (bytes : List Byte) : State := (live.onZheda fun z => { z with
  run := .replay, records := [{ tick := 5, bytes := bytes }] }).onCmd fun c => { c with
    active := some { slotA with digest := List.replicate 32 0 }
    longs := [(0, { opA with opcode := 0x0804, work := .replay jobA, state := .running })] }

/-- A record whose entry digests are those of no entries. -/
def quietRec : List Byte := List.replicate 128 0 ++ entryDigest (fun y => decide (y ≤ 2)) [] ++ entryDigest (fun y => y == 3) [] ++
  entryDigest (fun y => decide (4 ≤ y)) []

theorem wit_TraceItems_replay :
    ((replaying []).replayOp.isSome = true ∧ (replaying []).up = true ∧ (replaying []).zheda.run = .replay) ∧
    ((replaying []).replayInput jobA.fromHost jobA.inputAddr jobA.snap.k 6).isNone = true ∧
    (((replaying []).replayInput jobA.fromHost jobA.inputAddr jobA.snap.k jobA.next).isSome = true ∧
      entriesMatch [] [] = false) ∧
    (entriesMatch quietRec [] = true ∧
      ((replaying quietRec).bundleOf ((quietRec.drop 64).take 32)).isSome = true ∧
      ((replaying quietRec).bundleOf jobA.snap.cfgDigest).isSome = true ∧ jobA.next ≠ jobA.target) := by decide +kernel

/-- A device with a record to write and a checkpoint to store. -/
def tracing : State := on.onZheda fun z => { z with prevTrace := some { tick := 7 }, capture := some ⟨snapA, 5⟩ }

theorem wit_TraceItems :
    (tracing.up = true ∧ tracing.zheda.prevTrace = some { tick := 7 } ∧ tracing.zheda.capture = some ⟨snapA, 5⟩) ∧
    (((on.updStore 71 fun f => { f with peekBusy := true }).store 71).peekBusy = true ∧
      ((on.updStore 71 fun f => { f with peekBusy := true }).store 71).bcast = false) ∧
    ((on.onCmd fun c => { c with saving := some ⟨hm, snapA, some 3, 0⟩ }).cmd.saving = some ⟨hm, snapA, some 3, 0⟩) ∧
    ((on.onCmd fun c => { c with saving := some ⟨hm, snapA, none, 0x1000⟩ }).cmd.saving =
      some ⟨hm, snapA, none, 0x1000⟩) := by decide +kernel

/-! #### The outside world -/

/-- The pin low, or last low at 0. -/
def pinLow : State := on.onCommit fun c => { c with estopActive := true }

theorem wit_EstopPinLatchesAtOnce :
    (on.clock.holds.por = false ∧ on.commit.estopActive = false) ∧
    (pinLow.clock.holds.por = false ∧ pinLow.commit.estopActive = true) ∧
    (on.commit.estopActive = false ∧ on.commit.lastLow + 10000000 ≤ 10000000) := by decide

/-- A frame that every port takes. -/
def goodFrame : List Byte := List.replicate 12 0 ++ [0x88, 0xB5, 1, 0, 0, 1] ++ toLe 4 20 ++ toLe 4 0 ++ toLe 4 20 ++
  List.replicate 30 0

theorem wit_NetworkEventsAct :
    (on.host.xtalOut = false ∧ (on.host.ports.getD (0 : Fin 2) {}).en = true ∧
      on.host.stepNs.toNat < (-(on.host.stepNs.toNat : Int) - 1).natAbs) ∧
    ((on.host.stepNs.toNat : Int).natAbs ≤ on.host.stepNs.toNat ∧
      (on.host.lockNs.toNat : Int).natAbs ≤ on.host.lockNs.toNat ∧
      3 ≤ (on.onHost fun h => { h with goodSyncs := 3 }).host.goodSyncs ∧ on.host.gm = false) ∧
    on.host.profileE2E = false ∧
    (on.up = true ∧ (on.host.ports.getD (1 : Fin 2) {}).en = true ∧
      (true && (ethParts goodFrame).etherType == 0x88F7) = false ∧ on.casc.memberInService = false ∧
      (on.host.ports.getD (1 : Fin 2) {}).passes false goodFrame = false ∧
      (on.host.ports.getD (1 : Fin 2) {}).passes true goodFrame = true ∧ (on.master 13).frozen = false) := by decide +kernel

/-- A member at position 2 with both ports trained. -/
def chained : State := (on.onClock fun c => { c with cascRole := false }).onCasc fun c => { c with
  position := 2, memberInService := true, lastTick := some 0, ports := [{ trained := true }, { trained := true }] }

/-- A STATE frame from the master to position `dst` with `hops` left. -/
def linkTo (dst hops : Nat) : List Byte := [9, 0, BitVec.ofNat 8 dst, BitVec.ofNat 8 hops] ++ List.replicate 12 0

theorem wit_CascadePortsAct :
    (chained.up = true ∧ (chained.casc.port (0 : Fin 2)).trained = true ∧
      (chained.clock.cascRole && (linkFrameOf (linkTo 3 1)).src == 0 && (linkFrameOf (linkTo 3 1)).crcOk) = false) ∧
    (chained.goesOn (linkFrameOf (linkTo 3 1)) = true ∧ chained.isTarget (linkFrameOf (linkTo 3 1)) = false) ∧
    (chained.goesOn (linkFrameOf (linkTo 2 0)) = false ∧ chained.isTarget (linkFrameOf (linkTo 2 0)) = true ∧
      chained.takesType (linkFrameOf (linkTo 2 0)) = true ∧ (chained.master 14).frozen = false) ∧
    (chained.goesOn (linkFrameOf (linkTo 3 0)) = false ∧ chained.isTarget (linkFrameOf (linkTo 3 0)) = false) ∧
    (chained.clock.xtalFail = false ∧ chained.clock.cascRole = false) ∧
    (on.up = true ∧ on.clock.xtalFail = false ∧ on.clock.cascRole = true) ∧
    (chained.casc.memberInService = true ∧ chained.casc.lastTick = some 0 ∧
      3 * chained.tick.periodUs * 1000 ≤ 2 * (max chained.now 1500000 - 0)) := by decide +kernel

/-! #### Rings, doorbells, mailboxes, counters -/

theorem wit_DoorbellsRingsMailboxes :
    (reaches ringed .host = true ∧ bellWriter (127 : Fin 256) .host = true ∧ bellWriter (128 : Fin 256) .host = false) ∧
    (reaches ringed (bellReceiver (255 : Fin 256)) = true ∧ Master.host ≠ bellReceiver (255 : Fin 256)) ∧
    (ringed.regOk (0x1010 + (0 : Fin 64) * 0x20) = true ∧ ringed.regOk (0x1010 + (63 : Fin 64) * 0x20) = true) ∧
    (ringed.mboxCause (0 : Fin 64) .host = none ∧ (List.replicate 64 (0 : Byte)).length = 64 ∧
      ringed.mboxCause (63 : Fin 64) .host = some 1) ∧
    (ringed.domOn (mboxDomain (0 : Fin 64)) = true ∧ (2 : Word).getLsbD 1 = true ∧
      mboxReceiver (0 : Fin 64) .pairA = true ∧ mboxReceiver (0 : Fin 64) .host = false) := by decide +kernel

/-- The counters with pair 0 on counters 0x1000 and 0x1FFF. -/
def paired : State := ringed.onBindweed fun b => { b with
  pairs := [(0, { enabled := true, prod := 0x1000, cons := 0x1FFF, bufs := 4 })]
  ctrs := [(0x1001, { seqMode := true })] }

theorem wit_CounterOperations :
    (counts paired .host (0x1FFE : Fin 24576) = true ∧ paired.bindweed.pairOf (0x1FFE : Fin 24576) = none ∧
      (paired.bindweed.ctr (0x1FFE : Fin 24576)).seqMode = false) ∧
    (counts paired .host (0x1000 : Fin 24576) = true ∧ (paired.bindweed.pairOf (0x1000 : Fin 24576)).isSome = true) ∧
    (counts paired .pairA (0x5FFF : Fin 24576) = true) ∧
    (counts paired .host (0x1001 : Fin 24576) = true ∧ (paired.bindweed.ctr (0x1001 : Fin 24576)).seqMode = true) := by
  decide +kernel

theorem wit_CounterArithmetic :
    ({} : Counter).seqMode = false ∧ ({ seqMode := true } : Counter).seqMode = true ∧
    (∃ p, paired.bindweed.pairOf 0x1000 = some (0, p) ∧ p.prod = 0x1000) ∧
    (∃ p, paired.bindweed.pairOf 0x1FFF = some (0, p) ∧ p.prod ≠ 0x1FFF) :=
  ⟨rfl, rfl, ⟨_, rfl, rfl⟩, ⟨_, rfl, by decide⟩⟩

/-- Watch 2047 armed, an ADD stalled on the die's counters. -/
def watching : State := paired.onBindweed fun b => { b with
  watches := [(2047, { armed := true })], stalls := [(0, [⟨0x1000, 1, .host⟩])] }

theorem wit_WatchesAndStalls :
    (reaches watching .host = true ∧ (Master.host != .host || decide (watching.bindweed.hostFirst.toNat ≤ 1536)) = true ∧
      (watching.bindweed.hostFirst.toNat ≤ 2047)) ∧
    ((0x80000000 : Word).getLsbD 31 = true ∧ (Tbl.get ({} : Watch) watching.bindweed.watches 2047).armed = true) ∧
    (watchRefused watching.bindweed 1536 { counter := 0 } = true ∧
      watchRefused watching.bindweed 1536 { counter := 0x1000 } = false) ∧
    (Tbl.get [] watching.bindweed.stalls (0 : Fin 5))[0]? = some ⟨0x1000, 1, .host⟩ := by decide +kernel

/-! #### Registers, windows, the host link -/

/-- Master `m` frozen by its violation 1. -/
def frozenM (m : Nat) : State := ringed.onSafety fun f => { f with masters := [(m, { frozen := true, vseq := 1 })] }

theorem wit_RegisterAccessesWithEffect :
    (opens ringed .host 0x20024 false = true ∧ (ringed.cntAt 0x20024).isSome = true) ∧
    (opens (ringed.advance 5) .host 0x108 false = true ∧ ((ringed.advance 5).pairAt 0x108).isSome = true) ∧
    opens ringed .host 0x10000C false = true ∧
    (opens ringed .host (0x2002C + (71 : Fin 72) * 0x40) true = true ∧ (ringed.store 71).bcast = false ∧
      ((ringed.updStore 71 fun x => { x with bcast := true }).store 71).bcast = true) ∧
    opens ringed .host (0x50118 + (15 : Fin 16) * 0x20) true = true ∧ opens ringed .host 0xA0080 true = true ∧
    opens ringed .host 0xC0300 true = true ∧
    ((frozenM 14).host.up = true ∧ fldN (0x000E0001 : Word) 16 16 = 14 ∧ ((frozenM 14).master 14).frozen = true ∧
      ((frozenM 14).master 14).releaseAtEdge = false ∧ ((frozenM 14).master 14).vseq = fld (0x000E0001 : Word) 0 16 ∧
      (frozenM 14).foregroundMaster 14 = false ∧ ((frozenM 14).master 14).vseq ≠ fld (0x000E0002 : Word) 0 16) ∧
    (((frozenM 5).master 5).frozen = true ∧ (frozenM 5).foregroundMaster 5 = true) ∧
    (Master.pairA ≠ .host ∧ opens ringed .pairA 0xF0030 true = true) ∧ opens ringed .host 0xF0030 true = true ∧
    reaches ringed .host = true := by decide +kernel

theorem wit_RegisterWrites :
    (actsBeyond 0x30000 = false ∧ opens ringed .host 0x30000 true = true) ∧
    (actsBeyond 0x20000 = false ∧ reaches ringed .host = true ∧ windowBreach .host 0x20000 true = none ∧
      (ringed.onClock fun c => { c with doms := c.doms.set 3 .off }).regOk 0x20000 = false ∧
      reaches (ringed.onClock fun c => { c with doms := c.doms.set 3 .off }) .host = true) := by decide +kernel

/-- BAR2 on window 0 or window 7. -/
def windowed (n : BitVec 3) : State := ringed.onMem fun m => { m with bar2Sel := n }

theorem wit_Bar2Accesses :
    reaches ringed .host = true ∧
    (reaches (windowed 7) .host = true ∧ 0x780000000 < (windowed 7).bar2Addr 0x7FFFFFFF + 2) ∧
    ((windowed 7).bar2Addr 0x7FFFFFFF + 1 ≤ 0x780000000 ∧
      (hostWindow ((windowed 7).bar2Addr 0x7FFFFFFF)).isSome = true) ∧
    ((windowed 0).mem.ddr.wf = true ∧ (windowed 0).bar2Addr 0x20000000 + [(1 : Byte)].length ≤ 0x780000000 ∧
      hostWindow ((windowed 0).bar2Addr 0x20000000) = some true) := by decide +kernel

theorem wit_PcieRequestsAndViolations :
    ((frozenM 14).master 14).frozen = true ∧ ((frozenM 14).master 13).frozen = false ∧ (12 : Nat) ≠ (13 : Fin 15).val := by
  decide +kernel

/-- A USB port in service. -/
def plugged : State := on.onHost fun h => { h with usbEn := true, usbConnected := true, usbSuspended := false }

/-- A device that waits in ROM recovery. -/
def rescue : State := plugged.onClock fun c => { c with ready := false, recovery := true }

theorem wit_LinkAndUsbEvents :
    ((on.onHost fun h => { h with perst := false }).host.perst = false ∧
      (on.onHost fun h => { h with perst := true }).host.perst = true) ∧
    (plugged.host.usbEn = true ∧ plugged.host.usbConnected = true ∧ plugged.host.usbSuspended = false ∧
      (plugged.master 1).frozen = false ∧ (List.replicate 32 (0 : Byte)).length = 32 + hdrLen (List.replicate 32 0) ∧
      (List.replicate 31 (0 : Byte)).length < 32) ∧
    plugged.clock.usbOff = false ∧
    (rescue.clock.ready = false ∧ rescue.clock.holds.any = false ∧ rescue.host.usbConnected = true ∧
      (rescue.clock.recovery || rescue.clock.bootSrc == 2) = true) := by decide +kernel

/-! #### Jobs, tamper, clocks, boot -/

/-- A device with a configuration job. -/
def jobbing (p : CfgPhase) : State := on.onCmd fun c => { c with phase := p }

/-- A device whose Primrose works on something. -/
def securing (w : SecWork) : State := on.onSec fun p => { p with cmds := [⟨hm, w, 0⟩] }

theorem wit_JobsEnd :
    ((jobbing (.loading hm 5 none 64 [])).cmd.phase = .loading hm 5 none 64 [] ∧ on.pathFrozen hm.ring = false) ∧
    ((jobbing (.staging hm 5)).cmd.phase = .staging hm 5 ∧ (jobbing (.staging hm 5)).zheda.run ≠ .replay) ∧
    ((on.onCmd fun c => { c with storing := some (hm, slotA) }).cmd.storing.isSome = true) ∧
    ((securing (.attest [] 0)).sec.cmds = [⟨hm, .attest [] 0, 0⟩] ∧ ((securing (.attest [] 0)).master 4).frozen = false) ∧
    (securing (.lifecycle 3)).sec.cmds = [⟨hm, .lifecycle 3, 0⟩] ∧
    (securing (.fwUpdate {} false)).sec.cmds = [⟨hm, .fwUpdate {} false, 0⟩] := by decide

theorem wit_TamperWipesSecureRegion :
    ((8 : BitVec 4) &&& ~~~on.clock.tamperSrc ≠ 0 ∧ on.clock.holds.por = false ∧ 2 ≤ on.clock.step) ∧
    ((on.onMem fun m => { m with secure := .wiping }).mem.secure = .wiping ∧
      (on.onMem fun m => { m with secure := .wiping }).mem.sram.wf = true) ∧ on.mem.secure ≠ .wiping := by decide

/-- The device before its crystal counts. -/
def early : State := on.onClock fun c => { c with xtalOk := false }

theorem wit_ClockAndPowerEvents :
    (early.clock.holds.por = false ∧ early.clock.xtalOk = false ∧ early.clock.xtalFail = false) ∧
    (on.clock.holds.any = false ∧ on.clock.ready = true ∧ on.clock.pllFailed.contains (7 : Fin 10).val = false ∧
      firstIx (· == (7 : Fin 10).val) on.clock.pllMap = some 7 ∧
      ({ on.clock with
        pllFailed := on.clock.pllFailed ++ [7]
        pllLocked := on.clock.pllLocked.filter (· != 7) } : ClockSt).freeSpare = some 8) ∧
    (on.onClock fun c => { c with repairs := [⟨7, 9⟩] }).clock.repairs.find? (fun r => r.spare == (9 : Fin 10).val) =
      some ⟨7, 9⟩ ∧
    ((on.onClock fun c => { c with domains := [(61, { idleWindows := 1 })] }).monitored (61 : Fin 64) = true ∧
      (Tbl.get {} (on.onClock fun c => { c with domains := [(61, { idleWindows := 1 })] }).clock.domains
        (61 : Fin 64)).idleWindows = 1) ∧
    (Tbl.get {} (on.onClock fun c => { c with domains := [(63, { resetting := true })] }).clock.domains
      (63 : Fin 64)).resetting = true ∧
    ((0 : Half).toNat = on.clock.targetMv ∧ (1 : Half).toNat ≠ on.clock.targetMv) ∧
    (on.onClock fun c => { c with lowering := true }).clock.lowering = true ∧
    (4 * (on.clock.shutC : Int) ≤ tMax (List.replicate 8 420) ∧ (List.replicate 8 (420 : Int)).length = 8 ∧
      tMax (List.replicate 8 379) < 4 * (on.clock.critC : Int) ∧
      tMax (List.replicate 8 379) < 4 * (on.clock.shutC : Int) ∧ on.clock.thermCrit = false) ∧
    on.clock.holds.supply = false ∧
    ((on.onClock fun c => { c with holds := { c.holds with supply := true } }).clock.holds.supply = true ∧
      on.clock.step ≠ 1) ∧
    (on.mem.scrubEn = true ∧ on.mem.scrubPos * 256 + 256 < ddrEnd ∧
      ddrEnd ≤ (on.onMem fun m => { m with scrubPos := ddrEnd / 256 - 1 }).mem.scrubPos * 256 + 256) := by decide +kernel

/-- A firmware image with an empty body. -/
def imgA : FwImage := { header := [1, 0] ++ List.replicate 14 0 ++ shake256 [] ++ List.replicate 5792 0, body := [] }

/-- A device that waits for the end of its boot, image A in its flash and its key in slot 0. -/
def booting : State := ((early.onClock fun c => { c with ready := false, xtalOk := true }).onSec fun p => { p with
  nor := { p.nor with image := some imgA }
  fuses := { p.fuses with keyDigests := [shake256 imgA.augonKey] } })

/-- It can boot where the open signature check accepts its image (log entry 11). -/
theorem wit_ResetAndBoot_image (hv : Config.xmssVerify imgA.augonKey (imgA.header.take 200) imgA.augonSig = true) :
    booting.bootable = true ∧ booting.bootImage = some imgA := by
  have h1 : (imgA.header.length != 5840 || leAt imgA.header 0 2 != 1 || decide (0x2000000 < imgA.length) ||
    decide (64 < imgA.rollback)) = false := by decide +kernel
  have h2 : (booting.sec.fuses.keyDigests[imgA.keySlot]? != some (shake256 imgA.augonKey) ||
    booting.sec.fuses.revoked.getLsbD imgA.keySlot) = false := by decide +kernel
  have h3 : (imgA.body.length != imgA.length || imgA.digest != shake256 imgA.body) = false := by decide +kernel
  have h4 : ¬ imgA.rollback < booting.sec.fuses.rollback := by decide +kernel
  have hb : booting.bootImage = some imgA := rfl
  have hv' : verifyImage booting.sec.fuses booting.sec.nvm.owner imgA = 0 := by
    have ho : booting.sec.nvm.owner = none := rfl
    simp only [verifyImage, h1, h2, h3, hv, ho, h4, Bool.not_true, Bool.false_eq_true, if_false]
  refine ⟨?_, hb⟩
  simp only [State.bootable, hb, hv']
  rfl

theorem wit_ResetAndBoot :
    on.clock.holds.por = false ∧ State.reset.clock.holds.por = true ∧
    (booting.clock.ready = false ∧ booting.clock.holds.any = false ∧ (4 : Fin 5) ≠ 0) := by decide

/-- A bundle whose tick program does not fit its period. -/
def bunC : Bundle := { bunA with periodUs := 1 }

/-- The device with that bundle about to become active. -/
def committing : State := (live.onCmd fun c => { c with
  phase := .switchPending, staged := some { slotA with bundle := bunC } })

/-- The same at a rollback. -/
def rolling : State := (live.onCmd fun c => { c with
  rollback := true, previous := some { slotA with bundle := bunC } })

theorem wit_CommitWaitGuardsItsSetting :
    (committing.takes hm = true ∧ committing.cmd.committing = true ∧ committing.cmd.staged.isSome = true) ∧
    (rolling.takes hm = true ∧ rolling.cmd.rollback = true ∧ rolling.cmd.previous.isSome = true) ∧
    (programFits bunC.program bunC.periodUs bunC.emitUs bunC.qMax
        ⟨(2 : Byte).toNat, committing.clock.spreadDepth, committing.clock.xtalFail⟩ = false ∧
      committing.clock.op ≠ 3 ∧
      programFits bunC.program bunC.periodUs bunC.emitUs bunC.qMax
        ⟨committing.clock.op, (20 : Byte).toNat, committing.clock.xtalFail⟩ = false) ∧
    (parkedDev.takes hm = true ∧ parkedDev.zheda.run ≠ .live ∧ (1 : Byte).toNat ≤ 1) := by decide +kernel

/-! ### Well-formedness: each check refuses an ill-formed command -/

theorem test_hdr_ring : Instr.wellFormed (.nop { ring := 81 }) = false := by decide
theorem test_hdr_ctx : Instr.wellFormed (.nop { ring := 64, ctx := 1024 }) = false := by decide
theorem test_hdr_good : Instr.wellFormed (.nop { ring := 99, ctx := 1023 }) = true := by decide
theorem test_fault_memory : Instr.wellFormed (.contextLoad { conflicts := [⟨16, 0, 0, 0, 0⟩] }) = false := by decide
theorem test_fault_core : Instr.wellFormed (.dieMerge { conflicts := [⟨0, 256, 0, 0, 0⟩] }) = false := by decide
theorem test_fault_bank : Instr.wellFormed (.handoff { conflicts := [⟨0, 0, 256, 0, 0⟩] }) = false := by decide
theorem test_flip_tile : Instr.wellFormed (.collisionPhase {} [(72, ⟨0, 0, 0⟩)]) = false := by decide
theorem test_broadcast_tile : Instr.wellFormed (.fieldBroadcast [(72, 0)]) = false := by decide
theorem test_broadcast_replica : Instr.wellFormed (.fieldBroadcast [(0, 4)]) = false := by decide
theorem test_mailbox_short : Instr.wellFormed (.mailboxCommit 0 .host (.whole [])) = false := by decide
theorem test_bar2_length : Instr.wellFormed (.bar2Access 0 4 (some [1]) .clean) = false := by decide
theorem test_sensor_count : Instr.wellFormed (.thermalSample [0]) = false := by decide
theorem test_config_chunk : Instr.wellFormed (.configWrite hm 0 (List.replicate 4089 0)) = false := by decide +kernel
theorem test_config_digest : Instr.wellFormed (.configLoad hm 0 0 0 0 []) = false := by decide
theorem test_ctx_write : Instr.wellFormed (.ctxWrite hm 0 (List.replicate 3777 0)) = false := by decide +kernel
theorem test_goal_boxes : Instr.wellFormed (.ctxGoalSet hm (List.replicate 256 {})) = false := by decide +kernel
theorem test_push_items : Instr.wellFormed (.flowPush hm 0 (List.replicate 256 [])) = false := by decide +kernel
theorem test_push_item_length : Instr.wellFormed (.flowPush hm 0 [[]]) = false := by decide
theorem test_replay_probes : Instr.wellFormed (.replay hm 0 0 0 0 0 0 0 (List.replicate 256 ⟨0, 0, 0, 0, 0, 0⟩)) = false := by
  decide +kernel
theorem test_nonce_length : Instr.wellFormed (.secAttest hm [] 0 true) = false := by decide

/-! ### Small runs -/

/-- The state a command leaves. -/
def after (c : Instr) (s : State) : State := match exec c s with
  | .next t => t
  | _ => s

/-- The table gives no row bits: no word spells a command. -/
theorem test_no_words : decodeTableWord 32 0xFFFFFFFF = none := by decide

/-- The queue's front runs first (the model's queue). -/
theorem test_queue_order : (match step (on.setPending [.perstRelease, .usbSuspend]) with
  | .next t => t.pending
  | _ => []) = [.usbSuspend] := by decide +kernel

/-- R13: an edge 0.4 periods after the last is ignored and counted. -/
theorem test_fast_edge : ((after (.tickInEdge ⟨1400000, 0⟩) (clocked 1 false)).tick.fastCnt.val,
    (after (.tickInEdge ⟨1400000, 0⟩) (clocked 1 false)).tick.num.val) = (1, 0) := by decide +kernel

/-- R295: a SAT counter stops at its maximum and marks itself. -/
theorem test_counter_saturates : ((after (.counterAdd 0x1001 .host 2) ((after (.counterValue 0x1001 .host 0xFFFFFFFF)
    ringed))).bindweed.ctr 0x1001) = { value := 0xFFFFFFFF, sat := true, seqMode := false } := by decide +kernel

/-- A CORE pair of cluster 0: 4 buffers between counters 0x2000 and 0x2001. -/
def corePair : State := on.onBindweed fun b => { b with
  pairs := [(0, { enabled := true, prod := 0x2000, cons := 0x2001, bufs := 4 })]
  ctrs := [(0x2000, { seqMode := true }), (0x2001, { seqMode := true })] }

/-- R300: an ADD beyond the pair's buffers stalls and leaves the counter; one up to them is applied. -/
theorem test_pair_stalls : ((after (.counterAdd 0x2000 .pairA 5) corePair).bindweed.ctr 0x2000).value = 0 ∧
    (Tbl.get [] (after (.counterAdd 0x2000 .pairA 5) corePair).bindweed.stalls 1).length = 1 ∧
    ((after (.counterAdd 0x2000 .pairA 4) corePair).bindweed.ctr 0x2000).value = 4 := by decide +kernel

/-- R312: a second ring of a pending doorbell is counted. -/
theorem test_bell_coalesces : (Tbl.get {} (after (.doorbellWrite 128 .teasel 2) (after (.doorbellWrite 128 .teasel 1)
    on)).cowslip.bells 128) = { value := 2, pending := true, coalesced := 1 } := by decide +kernel

/-- R242: ESTOP_N low latches the stop. -/
theorem test_estop_latches : (after (.estopActive 7) on).commit.estopLatch = true := by decide +kernel

/-- R393: the last byte of BAR2 window 7 that exists reads, the next does not. -/
theorem test_bar2_top : (after (.bar2Access 0x7FFFFFFF 1 none .clean) (windowed 7)).rdata.length = 1 ∧
    (after (.bar2Access 0x80000000 1 none .clean) (windowed 7)).rdata.length = 0 := by decide +kernel

/-- R418: SYS_RST_N resets with cause 2 and keeps the fuses. -/
theorem test_sys_reset : (after .sysReset on).clock.rstCause = 2 ∧ (after .sysReset on).clock.ready = false := by
  decide +kernel

/-- R331: a long operation takes the lowest handle slot, with use count 1. -/
theorem test_long_handle : ((after (.memScrub hm 0 64) on).cmd.longs.head?.map fun e => (e.1, e.2.handle)) = some (0, 64) := by
  decide +kernel

/-- R325: a completion goes to the ring's completion queue and moves its tail. -/
theorem test_completion_posted : ((after (.nop h3) ringed).ring 3).cqTail = 1 := by decide +kernel

/-- Table 1-5 registers after reset: SYS_ID. -/
theorem test_part_number : (State.reset.peekReg 0).toNat / 0x10000 = 0xD064 ∨ (State.reset.peekReg 0).toNat % 0x10000 = 0xD064 := by
  decide +kernel

end Sys2Proof.Tests
end

section
/-! The grade of the part and the points it may be set to (00 R4, R5). -/

namespace Sys2Proof.Machine

/-- Check 5 comes first (R324): a request with a bad field is refused for that, whatever the later checks say. -/
theorem Request.refusal_of_param_false {r : Request} {s : State} (hp : r.checks.param = false) :
    r.refusal s = some .badParam := by
  simp [Request.refusal, hp]

/-- The fused grade alone makes a part grade E, at either level of the strap (R4). -/
theorem IdSt.effE_of_fusedGrade {i : IdSt} (hg : i.fusedGrade = 1) : i.effE = true := by
  simp [IdSt.effE, hg]

/-- OP0 is no valid point while the effective grade is E, whether fused or strapped (R4, R5, R410). -/
theorem exec_pwrOpSet_zero_of_effE {h : Hdr} {s : State} (ht : s.takes h = true) (he : s.ident.effE = true) :
    exec (.pwrOpSet h 0) s = .next (s.answered h 0x0C00 .badParam) := by
  change Host.Outcome.next (pwrOpSetEffect h 0 s) = _
  rw [pwrOpSetEffect, State.packet_refused ht (Request.refusal_of_param_false (by simp [he]))]

/-- Settles O27: a part fused grade E has effective grade E, so OP0 fails check 5. -/
theorem gradeERefusesOP0 : Obligations.GradeERefusesOP0 := by
  intro h s hg ht
  exact exec_pwrOpSet_zero_of_effE ht (IdSt.effE_of_fusedGrade hg)

end Sys2Proof.Machine
end

section
/-! Rising edges of TICK_IN while it is the source and the device is not in holdover (01 R13). -/

namespace Sys2Proof.Machine

/-- Time alone changes nothing that says whether an edge can come. -/
@[simp] theorem State.advance_edgesRun (s : State) (time : Nat) : (s.advance time).edgesRun = s.edgesRun := rfl

/-- After an accepted edge, the edges nearer to it than half a period are the early ones. -/
theorem TickSt.early_iff {t : TickSt} {prev now : Nat} (hprev : t.lastEdge = some prev) :
    t.early now = true ↔ 2 * (now - prev) < t.periodUs * 1000 := by
  simp [TickSt.early, TickSt.since, hprev]

/-- The source's own edge outside holdover: noted either way, then counted as fast or taken as a tick edge. -/
theorem tickInEdgeEffect_of_source (e : Edge) {s : State} (hrun : s.edgesRun = true) (hsrc : s.tick.src = 1)
    (hhold : s.tick.holdover = false) :
    tickInEdgeEffect e s =
      if s.tick.early e.time then
        ((s.advance e.time).onTick fun t => { t with lastTickIn := some e.time }).onTick TickSt.fast
      else ((s.advance e.time).onTick fun t => { t with lastTickIn := some e.time }).edge e.ac 1 := by
  simp [tickInEdgeEffect, hrun, hsrc, hhold]

/-- Settles O29: the distance to the last accepted edge alone decides between the two ways of `tickInEdgeEffect_of_source`. -/
theorem fastTickInEdgeIgnored : Obligations.FastTickInEdgeIgnored := by
  intro e prev s hrun hsrc hhold hprev
  have heff := tickInEdgeEffect_of_source e hrun hsrc hhold
  have hexec : exec (.tickInEdge e) s = .next (tickInEdgeEffect e s).serve := rfl
  constructor
  · intro hnear
    rw [hexec, heff, if_pos ((TickSt.early_iff hprev).mpr hnear)]
    rfl
  · intro hfar
    have hlate : ¬ s.tick.early e.time = true := by
      rw [TickSt.early_iff hprev]
      omega
    rw [hexec, heff, if_neg hlate]

end Sys2Proof.Machine
end

section
/-! Pushes of rows that Poppy does not select: too long, or of no depth (07 R202). -/

namespace Sys2Proof.Machine

/-- A SELECT or UNIQUE item whose depth is not 1 to 1,024 has a bad field (R202). -/
theorem State.itemOk_of_badDepth {s : State} {h : Hdr} {b : List Byte} (hkind : itemKind b = 3 ∨ itemKind b = 4)
    (hdepth : rowDepth (s.itemArgs b) = 0 ∨ 1024 < rowDepth (s.itemArgs b)) : s.itemOk h b = false := by
  have hkindB : (itemKind b != 3 && itemKind b != 4) = false := by
    rcases hkind with hk | hk <;> simp [hk]
  have hdepthB : (decide (1 ≤ rowDepth (s.itemArgs b)) && decide (rowDepth (s.itemArgs b) ≤ 1024)) = false := by
    rw [Bool.and_eq_false_iff, decide_eq_false_iff_not, decide_eq_false_iff_not]
    omega
  simp only [State.itemOk, hkindB, hdepthB, Bool.or_false, Bool.and_false, Bool.false_and]

/-- FLOW_PUSH has no check of its own beyond its fields: it needs Teasel's clock domain alone (16 R407), and a cascade
member in service takes it (19 R470). -/
theorem Request.refusal_flowPush_of_param {h : Hdr} {p : Bool} {s : State} (hp : p = true)
    (hteasel : s.resetting 29 = false) : Request.refusal ⟨h, 0x0601, { param := p }⟩ s = none := by
  have hdoms : opDomains 0x0601 = [29] := by decide
  have hmember : memberRefused 0x0601 = false := by decide
  simp [Request.refusal, hp, hdoms, hteasel, hmember]

/-- A push with a bad field in an item is refused for that (R324). -/
theorem exec_flowPush_of_badItem {h : Hdr} {f : Word} {items : List (List Byte)} {s : State} (ht : s.takes h = true)
    (hbad : items.all (s.itemOk h) = false) : exec (.flowPush h f items) s = .next (s.answered h 0x0601 .badParam) := by
  change Host.Outcome.next (flowPushEffect h f.toNat items s) = _
  rw [flowPushEffect, State.packet_refused ht (Request.refusal_of_param_false (by simp [hbad]))]

/-- A push to an open flow whose items are good but for a row too long ends there: the row's mark and the one completion
(R202). Neither the servers nor the credit nor the fit of its slices is looked at. -/
theorem exec_flowPush_of_rowTooLong {h : Hdr} {f : Word} {items : List (List Byte)} {s : State} (ht : s.takes h = true)
    (hteasel : s.resetting 29 = false) (hflow : f.toNat < 0x40000) (hsome : 1 ≤ items.length) (hmost : items.length ≤ 16)
    (hopen : (s.flow f.toNat).state = .opened) (hok : items.all (s.itemOk h) = true)
    (hlong : items.any s.rowTooLong = true) :
    exec (.flowPush h f items) s = .next (((s.taken h).onPoppy fun p => { p with rowRefused := true }).final h 0x0601
      .rowTooLong) := by
  have hfields : (decide (f.toNat < 0x40000) && decide (1 ≤ items.length) && decide (items.length ≤ 16) &&
      (s.flow f.toNat).state == .opened && items.all (s.itemOk h) &&
      (items.any s.rowTooLong || items.all s.itemFits)) = true := by
    rw [decide_eq_true hflow, decide_eq_true hsome, decide_eq_true hmost, hopen, hok, hlong]
    rfl
  change Host.Outcome.next (flowPushEffect h f.toNat items s) = _
  rw [flowPushEffect, State.packet_accepts ht (Request.refusal_flowPush_of_param hfields hteasel), if_pos hlong]

/-- Settles O21: a row too long meets its own answer before anything is queued, a bad depth fails check 5. -/
theorem longRowRefusedBeforeQueueing : Obligations.LongRowRefusedBeforeQueueing := by
  intro h f items s ht hteasel hflow hsome hmost hopen
  constructor
  · exact exec_flowPush_of_rowTooLong ht hteasel hflow hsome hmost hopen
  · intro b hb hkind hdepth
    have hbad : items.all (s.itemOk h) = false :=
      List.all_eq_false.mpr ⟨b, hb, by simp [State.itemOk_of_badDepth hkind hdepth]⟩
    exact exec_flowPush_of_badItem ht hbad

end Sys2Proof.Machine
end

section
/-! What waits for a tick edge guards the setting, and what does not run live guards the bundles (13 R340). -/

namespace Sys2Proof.Machine

/-- The bundle of a waiting commit or rollback is among those that must pass R31. -/
theorem State.mem_r31Bundles_of_waits {s : State} {b : BundleSlot}
    (hwait : (s.cmd.committing = true ∧ s.cmd.staged = some b) ∨ (s.cmd.rollback = true ∧ s.cmd.previous = some b)) :
    b.bundle ∈ s.r31Bundles := by
  rcases hwait with ⟨hcommit, hstaged⟩ | ⟨hrollback, hprevious⟩
  · simp [State.r31Bundles, hcommit, hstaged]
  · simp [State.r31Bundles, hrollback, hprevious]

/-- One such bundle that does not fit one running setting fails R31 for the whole request. -/
theorem State.passR31_eq_false {s : State} {b : Bundle} {r : RateSetting} {set : List RateSetting}
    (hb : b ∈ s.r31Bundles) (hr : r ∈ set) (hop : r.op ≠ 3)
    (hfit : programFits b.program b.periodUs b.emitUs b.qMax r = false) : s.passR31 set = false := by
  have hbad : b.fits31 b.program (set.filter fun x => x.op != 3) = false :=
    List.all_eq_false.mpr ⟨r, List.mem_filter.mpr ⟨hr, by simp [hop]⟩, by simp [hfit]⟩
  exact List.all_eq_false.mpr ⟨b, hb, by simp [hbad]⟩

/-- PWR_OP_SET to a running point is refused where a bundle fails R31 there at the depth in force (R31, R411). -/
theorem exec_pwrOpSet_of_unfit {h : Hdr} {p : Byte} {b : Bundle} {s : State} (ht : s.takes h = true)
    (hb : b ∈ s.r31Bundles) (hp : p.toNat ≠ 3)
    (hfit : programFits b.program b.periodUs b.emitUs b.qMax ⟨p.toNat, s.clock.spreadDepth, s.clock.xtalFail⟩ = false) :
    exec (.pwrOpSet h p) s = .next (s.answered h 0x0C00 .badParam) := by
  have hpass : s.passR31 (s.opSettings p.toNat) = false :=
    State.passR31_eq_false hb (by simp [State.opSettings]) hp hfit
  change Host.Outcome.next (pwrOpSetEffect h p.toNat s) = _
  rw [pwrOpSetEffect, State.packet_refused ht (Request.refusal_of_param_false (by simp [hpass]))]

/-- CLK_SPREAD_SET at a running point is refused where a bundle fails R31 there at the depth requested (R31, R408). -/
theorem exec_clkSpreadSet_of_unfit {h : Hdr} {depth rate : Byte} {b : Bundle} {s : State} (ht : s.takes h = true)
    (hb : b ∈ s.r31Bundles) (hop : s.clock.op ≠ 3)
    (hfit : programFits b.program b.periodUs b.emitUs b.qMax ⟨s.clock.op, depth.toNat, s.clock.xtalFail⟩ = false) :
    exec (.clkSpreadSet h depth rate) s = .next (s.answered h 0x0C01 .badParam) := by
  have hpass : s.passR31 ((s.clock.op :: (s.clock.change.map (·.target)).toList).map fun o =>
      ⟨o, depth.toNat, s.clock.xtalFail⟩) = false :=
    State.passR31_eq_false hb List.mem_cons_self hop hfit
  change Host.Outcome.next (clkSpreadSetEffect h depth.toNat rate.toNat s) = _
  rw [clkSpreadSetEffect, State.packet_refused ht (Request.refusal_of_param_false (by rw [hpass, Bool.and_false]))]

/-- Outside LIVE no bundle may be loaded, committed or rolled back (R340). -/
theorem State.cfgLive_eq_false {s : State} (hrun : s.zheda.run ≠ .live) : s.cfgLive = false := by
  simp [State.cfgLive, hrun]

/-- A CONFIG packet with good fields that the run state refuses with ST_BUSY is answered so, REJECTED beside it: group 0x02
needs no further clock domain, and a cascade member in service refuses with the same code (R324, 19 R470). -/
theorem State.cfgPacket_busy {s : State} {h : Hdr} {op : Nat} {c : Checks} {run : State → State} (ht : s.takes h = true)
    (hparam : c.param = true) (hauth : c.auth = true) (hdoms : opDomains op = []) (hstate : c.state = some .busy) :
    s.cfgPacket h op c run = (s.answered h op .busy).rejected := by
  have hrunning : (opDomains op).any s.resetting = false := by rw [hdoms]; rfl
  have hrefusal : Request.refusal ⟨h, op, c⟩ s = some .busy := by
    simp [Request.refusal, hparam, hauth, hrunning, hstate]
  exact State.cfg_refused ht hauth hrunning hrefusal

/-- CONFIG_LOAD with good fields outside LIVE: the load over USB takes the chunks alone (R330). -/
theorem exec_configLoad_of_notLive {h : Hdr} {gen : Word} {source : Byte} {addr : Dword} {len : Word} {digest : List Byte}
    {s : State} (ht : s.takes h = true) (hrun : s.zheda.run ≠ .live) (hsource : source.toNat ≤ 1)
    (husb : h.ring = 80 → source = 1 ∧ addr = 0) :
    exec (.configLoad h gen source addr len digest) s = .next (s.answered h 0x0201 .busy).rejected := by
  have hfields : (decide (source.toNat ≤ 1) && (h.ring != 80 || (source.toNat == 1 && addr.toNat == 0))) = true := by
    by_cases hring : h.ring = 80
    · obtain ⟨rfl, rfl⟩ := husb hring
      simp
    · simp [hsource, hring]
  change Host.Outcome.next (configLoadEffect h gen.toNat source.toNat addr.toNat len.toNat digest s) = _
  rw [configLoadEffect, State.cfgPacket_busy ht hfields rfl (by decide) (by simp [State.cfgLive_eq_false hrun])]

theorem State.commitRefusal_of_notLive {s : State} (hrun : s.zheda.run ≠ .live) (gen : Nat) :
    s.commitRefusal gen = some .busy := by
  simp [State.commitRefusal, State.cfgLive_eq_false hrun]

theorem State.rollbackRefusal_of_notLive {s : State} (hrun : s.zheda.run ≠ .live) (gen : Nat) :
    s.rollbackRefusal gen = some .busy := by
  simp [State.rollbackRefusal, State.cfgLive_eq_false hrun]

/-- Settles O58: the waiting bundle is one of those R31 is asked of, and the run state is the first thing the three CONFIG
commands ask after their fields. -/
theorem commitWaitGuardsItsSetting : Obligations.CommitWaitGuardsItsSetting := by
  constructor
  · intro h b s ht hwait
    have hb := State.mem_r31Bundles_of_waits hwait
    constructor
    · intro p hp hfit
      exact exec_pwrOpSet_of_unfit ht hb (Nat.ne_of_lt hp) hfit
    · intro depth rate hop hfit
      exact exec_clkSpreadSet_of_unfit ht hb hop hfit
  · intro h s ht hrun
    refine ⟨fun gen source addr len digest hsource husb => exec_configLoad_of_notLive ht hrun hsource husb,
      fun gen => ?_, fun gen => ?_⟩
    · exact congrArg Host.Outcome.next
        (State.cfgPacket_busy ht rfl rfl (by decide) (State.commitRefusal_of_notLive hrun gen.toNat))
    · exact congrArg Host.Outcome.next
        (State.cfgPacket_busy ht rfl rfl (by decide) (State.rollbackRefusal_of_notLive hrun gen.toNat))

end Sys2Proof.Machine
end

section
/-! Host accesses through BAR2 and the register that chooses its window (15 R393). -/

namespace Sys2Proof.Machine

/-- What keeps the host out is its link and a frozen host ingress, master 0, and nothing else (R360). -/
theorem reaches_host_iff {s : State} : reaches s .host = true ↔ s.host.up = true ∧ (s.master 0).frozen = false := by
  simp [reaches, Master.num]

/-- A host access that reaches the device is served, be it a read or a write (R360). -/
theorem State.guarded_of_reaches_host {s : State} (hreach : reaches s .host = true) (addr : Nat) (write : Bool)
    (k : State → State) : s.guarded .host addr write k = k s := by
  obtain ⟨hup, hfrozen⟩ := reaches_host_iff.mp hreach
  simp [State.guarded, Master.num, hup, hfrozen]

/-- An access that ends past the end of usable LPDDR5X is answered Completer Abort, whatever the window and the granule
(R393). -/
theorem bar2Effect_of_pastEnd {s : State} {off len : Nat} (hreach : reaches s .host = true)
    (hpast : ddrEnd < s.bar2Addr off + len) (data : Option (List Byte)) (err : GranErr) :
    bar2Effect off len data err s = s.abortAccess data.isSome := by
  obtain ⟨hup, hfrozen⟩ := reaches_host_iff.mp hreach
  simp [bar2Effect, hup, hfrozen, hpast]

/-- A read of a clean granule in either window answers the bytes there and changes nothing else (R393, Table 15-3). -/
theorem bar2Effect_read_of_window {s : State} {off len : Nat} (hreach : reaches s .host = true)
    (hfits : s.bar2Addr off + len ≤ ddrEnd) (hwindow : (hostWindow (s.bar2Addr off)).isSome = true) :
    bar2Effect off len none .clean s =
      s.setRdata (wordsOf ((List.range len).map fun i => s.ddrByte (s.bar2Addr off + i))) := by
  obtain ⟨hup, hfrozen⟩ := reaches_host_iff.mp hreach
  obtain ⟨writable, hwritable⟩ := Option.isSome_iff_exists.mp hwindow
  simp [bar2Effect, hup, hfrozen, Nat.not_lt.mpr hfits, hwritable, State.granule]

/-- A write to a clean granule in the bundle-placed region stores its bytes from the device address up (Table 15-3). -/
theorem bar2Effect_write_of_window {s : State} {off len : Nat} (hreach : reaches s .host = true)
    (hfits : s.bar2Addr off + len ≤ ddrEnd) (hwindow : hostWindow (s.bar2Addr off) = some true) (bs : List Byte) :
    bar2Effect off len (some bs) .clean s = s.onMem fun m => { m with ddr := m.ddr.writes (s.bar2Addr off) bs } := by
  obtain ⟨hup, hfrozen⟩ := reaches_host_iff.mp hreach
  simp [bar2Effect, hup, hfrozen, Nat.not_lt.mpr hfits, hwindow, State.granule]

/-- Each byte written reads back at its place. -/
theorem Mem.read_writes_inside {m : Mem} (hwf : m.wf = true) (a : Nat) {bs : List Byte} {i : Nat} (hi : i < bs.length) :
    (m.writes a bs).read (a + i) = bs.getD i Mem.blank := by
  rw [Mem.read_writes m a (a + i) bs hwf, if_pos (by omega), Nat.add_sub_cancel_left]

/-- Outside the bytes written every address reads as before. -/
theorem Mem.read_writes_outside {m : Mem} (hwf : m.wf = true) {a x : Nat} {bs : List Byte}
    (hx : x < a ∨ a + bs.length ≤ x) : (m.writes a bs).read x = m.read x := by
  rw [Mem.read_writes m a x bs hwf, if_neg (by omega)]

/-- Settles O51: the address alone decides between Completer Abort and the window, and an open window's access is one read
or one `Mem.writes` at the device address. -/
theorem bar2Accesses : Obligations.Bar2Accesses := by
  refine ⟨fun off s => rfl, ?select, ?pastEnd, ?read, ?write⟩
  case select =>
    intro v s hreach
    exact ⟨_, congrArg Host.Outcome.next (State.guarded_of_reaches_host hreach _ _ _), rfl⟩
  case pastEnd =>
    intro off len data err s hreach hpast
    exact congrArg Host.Outcome.next (bar2Effect_of_pastEnd hreach hpast data err)
  case read =>
    intro off len s hreach hfits hwindow
    exact congrArg Host.Outcome.next (bar2Effect_read_of_window hreach hfits hwindow)
  case write =>
    intro off bs s hreach hwf hfits hwindow
    refine ⟨_, congrArg Host.Outcome.next (bar2Effect_write_of_window hreach hfits hwindow bs), ?_, ?_, rfl⟩
    · exact fun i hi => Mem.read_writes_inside hwf _ hi
    · exact fun a ha => Mem.read_writes_outside hwf ha

end Sys2Proof.Machine
end

section
/-! Power states of the cluster domains, and what a cluster switched off has lost (12 R307; 15 R370, R385; 16 R415). -/

namespace Sys2Proof.Machine

/-! ### Reading lists, memories and tables -/

theorem setAt_eq_set {α : Type} (l : List α) (i : Nat) (x : α) : setAt l i x = l.set i x := by
  induction l generalizing i with
  | nil => rfl
  | cons y ys ih =>
    cases i with
    | zero => rfl
    | succ i => exact congrArg (y :: ·) (ih i)

/-- Where no cell is listed a memory reads blank, whether it is in its canonical form or not. -/
theorem Mem.read_of_unlisted {m : Mem} {a : Nat} (h : ∀ e ∈ m, e.1 ≠ a) : m.read a = Mem.blank := by
  induction m with
  | nil => rfl
  | cons e m ih =>
    have htail := ih fun e' he' => h e' (List.mem_cons_of_mem e he')
    simp [Mem.read, (h e List.mem_cons_self).symm, htail]

/-- What a table answers is one of its entries or the default. -/
theorem Tbl.get_eq_default_or_mem {α : Type} (d : α) (t : Tbl α) (i : Nat) :
    Tbl.get d t i = d ∨ (i, Tbl.get d t i) ∈ t := by
  induction t with
  | nil => exact .inl rfl
  | cons e t ih =>
    obtain ⟨k, v⟩ := e
    by_cases hk : i = k
    · subst hk
      simp [Tbl.get, Tbl.find?]
    · by_cases hlt : i < k
      · simp [Tbl.get, Tbl.find?, hk, hlt]
      · have hget : Tbl.get d ((k, v) :: t) i = Tbl.get d t i := by simp [Tbl.get, Tbl.find?, hk, hlt]
        rw [hget]
        exact ih.imp_right (List.mem_cons_of_mem _)

/-- An idempotent update at offsets from a base, in turn: the entries at these offsets are updated, once in effect, and no
other. -/
theorem Tbl.get_foldl_upd {α : Type} (d : α) (f : α → α) (hf : ∀ x, f (f x) = f x) (base : Nat) (l : List Nat)
    (t : Tbl α) (j : Nat) :
    Tbl.get d (l.foldl (fun t i => Tbl.upd d t (base + i) f) t) j =
      if ∃ i ∈ l, j = base + i then f (Tbl.get d t j) else Tbl.get d t j := by
  induction l generalizing t with
  | nil => simp
  | cons i l ih =>
    rw [List.foldl_cons, ih, Tbl.get_upd]
    by_cases hhead : j = base + i
    · subst hhead
      simp [hf]
    · simp [hhead]

/-! ### What switching a cluster off does, part by part -/

/-- A Field Store that lost its contents. -/
def FieldStore.emptied (x : FieldStore) : FieldStore := { x with
  valid := false
  img := []
  flips := [] }

@[simp] theorem State.deliver_ctrs (s : State) (w : Nat) (x : Watch) (off : Bool) (v : Word) :
    (s.deliver w x off v).bindweed.ctrs = s.bindweed.ctrs := by
  unfold State.deliver
  (repeat' split) <;> simp

@[simp] theorem State.fireWatch_ctrs (s : State) (w : Nat) (off : Bool) (v : Word) :
    (s.fireWatch w off v).bindweed.ctrs = s.bindweed.ctrs := by
  simp [State.fireWatch]

/-- The watches that fire change no counter, so the unit's counters alone go (R307). -/
theorem State.unitOff_ctrs (s : State) (u : Nat) :
    (s.unitOff u).bindweed.ctrs = s.bindweed.ctrs.filter fun e => !(counterUnit e.1 == u) := by
  simp only [State.unitOff, State.onBindweed_bindweed]
  rw [foldl_proj (fun s => s.bindweed.ctrs) (fun s (e : Nat × Watch) => s.fireWatch e.1 true 0) _ _
    fun s e => s.fireWatch_ctrs e.1 true 0]

variable (s : State) (c : Nat)

theorem State.clusterLost_built :
    (s.clusterLost c).world.built = s.world.built.map fun f => { f with lost := f.lost ++ [c] } := by
  simp [State.clusterLost]

theorem State.clusterLost_stores :
    (s.clusterLost c).world.stores =
      (List.range 18).foldl (fun t i => Tbl.upd {} t (18 * c + i) FieldStore.emptied) s.world.stores := by
  simp [State.clusterLost]
  rfl

theorem State.clusterLost_slots :
    (s.clusterLost c).cornflower.slots = s.cornflower.slots.map fun e => (e.1, { e.2 with
      lost0 := e.2.lost0 ++ [c]
      lost1 := e.2.lost1 ++ [c] }) := by
  simp [State.clusterLost]

theorem State.clusterLost_live :
    (s.clusterLost c).harebell.live = s.harebell.live.filter fun r => r.engine / 16 != c := by
  simp [State.clusterLost]

theorem State.clusterLost_sram :
    (s.clusterLost c).mem.sram =
      (s.mem.sram.clearRange (0x1010000000 + c * 0x1000000) (0x1010000000 + (c + 1) * 0x1000000)).clearRange
        (0x1020000000 + c * 0x800000) (0x1020000000 + (c + 1) * 0x800000) := by
  simp [State.clusterLost]

theorem State.clusterLost_ctrs :
    (s.clusterLost c).bindweed.ctrs = s.bindweed.ctrs.filter fun e => !(counterUnit e.1 == 1 + c) := by
  simp [State.clusterLost, State.unitOff_ctrs]

/-! ### The contents of a cluster, lost -/

/-- Nothing of cluster `c` is held any more. Memory, counters, live records and grids are said by what is listed, not by what
is read, so that a further removal keeps them whatever the order of the lists. -/
structure State.ClusterBlank (c : Nat) (s : State) : Prop where
  built : ∀ f, s.world.built = some f → c ∈ f.lost
  stores : ∀ t, 18 * c ≤ t → t < 18 * c + 18 → (Tbl.get {} s.world.stores t).img = []
  slots : ∀ e ∈ s.cornflower.slots, c ∈ e.2.lost0 ∧ c ∈ e.2.lost1
  live : ∀ r ∈ s.harebell.live, r.engine / 16 ≠ c
  clusterMem : ∀ e ∈ s.mem.sram, ¬ (0x1010000000 + c * 0x1000000 ≤ e.1 ∧ e.1 < 0x1010000000 + (c + 1) * 0x1000000)
  coreMem : ∀ e ∈ s.mem.sram, ¬ (0x1020000000 + c * 0x800000 ≤ e.1 ∧ e.1 < 0x1020000000 + (c + 1) * 0x800000)
  ctrs : ∀ e ∈ s.bindweed.ctrs, counterUnit e.1 ≠ 1 + c

variable {s c}

/-- What is listed after a range is cleared was listed before, outside the range. -/
theorem Mem.mem_clearRange {m : Mem} {lo hi : Nat} {e : Host.Cell} :
    e ∈ m.clearRange lo hi ↔ e ∈ m ∧ ¬ (lo ≤ e.1 ∧ e.1 < hi) := by
  simp only [Mem.clearRange, List.mem_filter, Bool.or_eq_true, decide_eq_true_eq]
  exact and_congr_right fun _ => by omega

/-- The cluster switched off is blank (R385, R415, R307). -/
theorem State.clusterLost_blank (s : State) (c : Nat) : (s.clusterLost c).ClusterBlank c where
  built := by
    intro f hf
    rw [State.clusterLost_built, Option.map_eq_some_iff] at hf
    obtain ⟨g, -, rfl⟩ := hf
    simp
  stores := by
    intro t hlo hhi
    have hin : ∃ i ∈ List.range 18, t = 18 * c + i := ⟨t - 18 * c, List.mem_range.mpr (by omega), by omega⟩
    rw [State.clusterLost_stores, Tbl.get_foldl_upd {} FieldStore.emptied fun _ => rfl, if_pos hin]
    rfl
  slots := by
    intro e he
    rw [State.clusterLost_slots, List.mem_map] at he
    obtain ⟨e, -, rfl⟩ := he
    simp
  live := by
    intro r hr
    rw [State.clusterLost_live, List.mem_filter] at hr
    simpa using hr.2
  clusterMem := by
    intro e he
    rw [State.clusterLost_sram, Mem.mem_clearRange, Mem.mem_clearRange] at he
    obtain ⟨⟨-, hcluster⟩, -⟩ := he
    exact hcluster
  coreMem := by
    intro e he
    rw [State.clusterLost_sram, Mem.mem_clearRange] at he
    exact he.2
  ctrs := by
    intro e he
    rw [State.clusterLost_ctrs, List.mem_filter] at he
    simpa using he.2

/-- A blank cluster stays blank when a cluster, itself or another, is switched off. -/
theorem State.ClusterBlank.clusterLost (hblank : s.ClusterBlank c) (c' : Nat) : (s.clusterLost c').ClusterBlank c where
  built := by
    intro f hf
    rw [State.clusterLost_built, Option.map_eq_some_iff] at hf
    obtain ⟨g, hg, rfl⟩ := hf
    exact List.mem_append_left _ (hblank.built g hg)
  stores := by
    intro t hlo hhi
    rw [State.clusterLost_stores, Tbl.get_foldl_upd {} FieldStore.emptied fun _ => rfl]
    split
    · rfl
    · exact hblank.stores t hlo hhi
  slots := by
    intro e he
    rw [State.clusterLost_slots, List.mem_map] at he
    obtain ⟨e, he, rfl⟩ := he
    obtain ⟨hlost0, hlost1⟩ := hblank.slots e he
    exact ⟨List.mem_append_left _ hlost0, List.mem_append_left _ hlost1⟩
  live := by
    intro r hr
    rw [State.clusterLost_live] at hr
    exact hblank.live r (List.mem_filter.mp hr).1
  clusterMem := by
    intro e he
    rw [State.clusterLost_sram, Mem.mem_clearRange, Mem.mem_clearRange] at he
    exact hblank.clusterMem e he.1.1
  coreMem := by
    intro e he
    rw [State.clusterLost_sram, Mem.mem_clearRange, Mem.mem_clearRange] at he
    exact hblank.coreMem e he.1.1
  ctrs := by
    intro e he
    rw [State.clusterLost_ctrs] at he
    exact hblank.ctrs e (List.mem_filter.mp he).1

/-- The clock state alone says nothing of what a cluster holds. -/
theorem State.ClusterBlank.onClock (hblank : s.ClusterBlank c) (f : ClockSt → ClockSt) : (s.onClock f).ClusterBlank c :=
  ⟨hblank.built, hblank.stores, hblank.slots, hblank.live, hblank.clusterMem, hblank.coreMem, hblank.ctrs⟩

/-- The power domain of a cluster switched off holds nothing (R415). -/
theorem State.setCluster_off_blank (s : State) (c : Nat) : (s.setCluster c .off).ClusterBlank c := by
  unfold State.setCluster
  rw [if_pos rfl]
  exact (s.clusterLost_blank c).onClock _

theorem State.ClusterBlank.setCluster_off (hblank : s.ClusterBlank c) (c' : Nat) :
    (s.setCluster c' .off).ClusterBlank c := by
  unfold State.setCluster
  rw [if_pos rfl]
  exact (hblank.clusterLost c').onClock _

/-- Clusters switched off one after another are all blank in the end. -/
theorem State.foldl_setCluster_off_blank {l : List Nat} (hc : c ∈ l) (s : State) :
    (l.foldl (fun s c => s.setCluster c .off) s).ClusterBlank c := by
  induction l generalizing s with
  | nil => cases hc
  | cons c' l ih =>
    rcases List.mem_cons.mp hc with rfl | htail
    · rw [List.foldl_cons]
      exact foldl_pred (State.ClusterBlank c) _ _ _ (fun _ c' hblank => hblank.setCluster_off c') (s.setCluster_off_blank c)
    · exact ih htail _

/-! ### The power states of the domains -/

theorem State.setCluster_doms (s : State) (c : Nat) (d : DomState) :
    (s.setCluster c d).clock.doms = s.clock.doms.set (3 + c) d := by
  unfold State.setCluster
  split <;> simp [setAt_eq_set]

/-- Each cluster of the list has its domain in the new state, every other domain stays. -/
theorem State.foldl_setCluster_doms (d : DomState) (l : List Nat) (s : State)
    (hlen : ∀ c ∈ l, 3 + c < s.clock.doms.length) (c : Nat) :
    (l.foldl (fun s c => s.setCluster c d) s).clock.doms[3 + c]? = if c ∈ l then some d else s.clock.doms[3 + c]? := by
  induction l generalizing s with
  | nil => simp
  | cons c' l ih =>
    have hdoms := s.setCluster_doms c' d
    have hlen' : ∀ c ∈ l, 3 + c < (s.setCluster c' d).clock.doms.length := by
      intro c hc
      simpa [hdoms] using hlen c (List.mem_cons_of_mem _ hc)
    rw [List.foldl_cons, ih _ hlen', hdoms]
    by_cases hhead : c = c'
    · subst hhead
      simp [hlen c List.mem_cons_self]
    · have hpos : 3 + c' ≠ 3 + c := by omega
      simp [hhead, List.getElem?_set_ne hpos]

/-! ### The addresses of a cluster (Table 15-1) -/

theorem State.devByte?_of_clusterMem {a : Nat} (hc : c < 4) (hlo : 0x1010000000 + c * 0x1000000 ≤ a)
    (hhi : a < 0x1010000000 + (c + 1) * 0x1000000) :
    s.devByte? a = some (s.clusterByte c (a - 0x1010000000 - c * 0x1000000)) := by
  have hplain : sramPlain a = some a := by
    simp only [sramPlain, Bool.and_eq_true, decide_eq_true_eq]
    rw [if_neg (by omega), if_neg (by omega), if_pos (by omega), Nat.mod_eq_of_lt (by omega)]
    exact congrArg some (by omega)
  have hquot : (a - 0x1010000000) / 0x1000000 = c := by omega
  have hrem : a % 0x1000000 = a - 0x1010000000 - c * 0x1000000 := by omega
  simp only [State.devByte?, ddrEnd, hplain, Option.map_some]
  rw [if_neg (by omega), if_neg (by omega), if_pos (by omega), hquot, hrem]

theorem State.devByte?_of_coreMem {a : Nat} (hc : c < 4) (hlo : 0x1020000000 + c * 0x800000 ≤ a)
    (hhi : a < 0x1020000000 + (c + 1) * 0x800000) :
    s.devByte? a = some (s.coreByte ((a - 0x1020000000) / 0x200000) (a % 0x200000)) := by
  have hplain : sramPlain a = some a := by
    simp only [sramPlain, Bool.and_eq_true, decide_eq_true_eq]
    rw [if_neg (by omega), if_neg (by omega), if_neg (by omega), if_pos (by omega), Nat.mod_eq_of_lt (by omega)]
    exact congrArg some (by omega)
  simp only [State.devByte?, ddrEnd, hplain, Option.map_some]
  rw [if_neg (by omega), if_neg (by omega), if_neg (by omega), if_pos (by omega)]

theorem State.devByte?_of_fieldStore {t a : Nat} (ht : t < 72) (hlo : 0x1040000000 + t * 0x400000 ≤ a)
    (hhi : a < 0x1040000000 + (t + 1) * 0x400000) :
    s.devByte? a = some (s.storeByte t (a % 0x100000)) := by
  have hplain : sramPlain a = some a := by
    simp only [sramPlain, Bool.and_eq_true, decide_eq_true_eq]
    rw [if_neg (by omega), if_neg (by omega), if_neg (by omega), if_neg (by omega), if_pos (by omega)]
  have hquot : (a - 0x1040000000) / 0x400000 = t := by omega
  simp only [State.devByte?, ddrEnd, hplain, Option.map_some]
  rw [if_neg (by omega), if_neg (by omega), if_neg (by omega), if_neg (by omega), hquot]

/-! ### A blank cluster as the debug window and the counters show it -/

theorem State.ClusterBlank.ctr (hblank : s.ClusterBlank c) {n : Nat} (hn : counterUnit n = 1 + c) :
    s.bindweed.ctr n = {} := by
  rcases Tbl.get_eq_default_or_mem ({} : Counter) s.bindweed.ctrs n with hdefault | hmem
  · exact hdefault
  · exact absurd hn (hblank.ctrs _ hmem)

theorem State.ClusterBlank.clusterByte (hblank : s.ClusterBlank c) {o : Nat} (ho : o < 0x1000000) :
    s.clusterByte c o = 0 := by
  unfold State.clusterByte
  by_cases hfield : o < 0x100000
  · rw [if_pos hfield]
    split
    next f hf => exact if_pos (hblank.built f hf)
    next => rfl
  rw [if_neg hfield]
  by_cases hgrid : o < 0x500000
  · rw [if_pos hgrid]
    have hslot := Tbl.get_eq_default_or_mem ({} : CflSlot) s.cornflower.slots ((o - 0x100000) / 0x40000)
    generalize Tbl.get ({} : CflSlot) s.cornflower.slots ((o - 0x100000) / 0x40000) = x at hslot ⊢
    rcases hslot with rfl | hmem
    · have hzero : ∀ i : Nat, (toLe 2 0)[i]?.getD 0 = 0 := by
        intro i
        rcases i with _ | _ | i <;> rfl
      simpa using hzero (o % 2)
    · obtain ⟨hlost0, hlost1⟩ := hblank.slots _ hmem
      by_cases hfirst : (o - 0x100000) % 0x40000 < 0x20000
      · simp [hfirst, hlost0]
      · simp [hfirst, hlost1]
  · rw [if_neg hgrid]
    exact Mem.read_of_unlisted fun e he hat => hblank.clusterMem e he (by omega)

/-- An engine of a core has no live record where the core's cluster is blank. -/
theorem State.ClusterBlank.live_of_core (hblank : s.ClusterBlank c) {n e : Nat} (hn : n / 4 = c) (he : e < 4) (k : Nat) :
    (s.harebell.live.filter fun r => r.engine == 4 * n + e)[k]? = none := by
  have hnil : (s.harebell.live.filter fun r => r.engine == 4 * n + e) = [] := by
    refine List.filter_eq_nil_iff.mpr fun r hr heng => hblank.live r hr ?_
    rw [beq_iff_eq] at heng
    omega
  simp [hnil]

theorem State.ClusterBlank.coreByte (hblank : s.ClusterBlank c) {n o : Nat} (hn : n / 4 = c) (ho : o < 0x200000)
    (hbitmap : 0x7F800 ≤ o → o < 0x80000 → s.teasel.inSlot' ((o - 0x7F800) / 0x80) = none) : s.coreByte n o = 0 := by
  have hraw : Mem.read s.mem.sram (0x1020000000 + n * 0x200000 + o) = 0 :=
    Mem.read_of_unlisted fun e he hat => hblank.coreMem e he (by omega)
  unfold State.coreByte
  by_cases hroadmap : 0x7F800 ≤ o ∧ o < 0x80000
  · simp [hroadmap, hbitmap hroadmap.1 hroadmap.2]
  by_cases hresult : 0x80000 ≤ o
  · have hbelow : ¬ o < 0x80000 := by omega
    simp only [hresult, hbelow, decide_false, Bool.and_false, Bool.false_eq_true, if_false, if_true]
    generalize s.lupin.liveTotal / (64 * s.casc.count) = ne
    split
    next hrecord =>
      rw [hblank.live_of_core hn (Nat.div_lt_of_lt_mul (by omega))]
    next hrecord =>
      split
      next hsummary =>
        rw [hblank.live_of_core hn (Nat.div_lt_of_lt_mul (by omega))]
      next => exact hraw
  · simp [hroadmap, hresult, hraw]

theorem State.ClusterBlank.storeByte (hblank : s.ClusterBlank c) {t : Nat} (hlo : 18 * c ≤ t) (hhi : t < 18 * c + 18)
    (o : Nat) : s.storeByte t o = 0 := by
  rw [State.storeByte, hblank.stores t hlo hhi]
  rfl

/-- Every byte of a blank cluster reads zero in the debug window (R385). -/
theorem State.ClusterBlank.devByte?_eq_zero (hblank : s.ClusterBlank c) (hc : c < 4) {a : Nat} (ha : clusterByteOf s c a)
    {b : Byte} (hb : s.devByte? a = some b) : b = 0 := by
  suffices hzero : s.devByte? a = some 0 from Option.some.inj (hb.symm.trans hzero)
  rcases ha with ⟨hlo, hhi⟩ | ⟨⟨hlo, hhi⟩, hbitmap⟩ | ⟨t, htlo, hthi, hlo, hhi⟩
  · rw [State.devByte?_of_clusterMem hc hlo hhi, hblank.clusterByte (by omega)]
  · rw [State.devByte?_of_coreMem hc hlo hhi, hblank.coreByte (by omega) (by omega) hbitmap]
  · rw [State.devByte?_of_fieldStore (by omega) hlo hhi, hblank.storeByte htlo hthi]

/-! ### PWR_CLUSTER_SET (R415) -/

/-- The clusters of a mask, in the order in which the command sets them. -/
def clustersOf (mask : Nat) : List Nat := (List.range 4).filter fun c => mask / 2 ^ c % 2 == 1

theorem mem_clustersOf {mask : Nat} : c ∈ clustersOf mask ↔ c < 4 ∧ mask.testBit c = true := by
  simp [clustersOf, Nat.testBit_eq_decide_div_mod_eq]

/-- With a good mask and a good state the operating point alone decides whether the command is refused: it needs no clock
domain of its own, and a cascade member in service takes it. -/
theorem Request.refusal_pwrClusterSet {h : Hdr} {p : Bool} {st : Option Status} {s : State} (hp : p = true) :
    Request.refusal ⟨h, 0x0C02, { param := p, state := st }⟩ s = st := by
  have hdoms : opDomains 0x0C02 = [] := by decide
  have hmember : memberRefused 0x0C02 = false := by decide
  simp [Request.refusal, hp, hdoms, hmember]

section
variable {h : Hdr} {mask st : Byte} (ht : s.takes h = true) (hmask : mask.toNat < 16) (hst : st.toNat < 3)
include ht hmask hst

theorem exec_pwrClusterSet_outsideOP3 (hop : s.clock.op ≠ 3) :
    exec (.pwrClusterSet h mask st) s = .next (s.answered h 0x0C02 .busy) := by
  change Host.Outcome.next (pwrClusterSetEffect h mask.toNat st.toNat s) = _
  rw [pwrClusterSetEffect, State.packet_refused ht]
  rw [Request.refusal_pwrClusterSet (by simp [hmask, hst]), if_pos (by simp [hop])]

theorem exec_pwrClusterSet_inOP3 (hop : s.clock.op = 3) :
    exec (.pwrClusterSet h mask st) s = .next
      (((clustersOf mask.toNat).foldl (fun s c => s.setCluster c (clusterState st.toNat)) (s.taken h)).final h 0x0C02
        .ok) := by
  change Host.Outcome.next (pwrClusterSetEffect h mask.toNat st.toNat s) = _
  rw [pwrClusterSetEffect, State.packet_accepts ht]
  · rfl
  · rw [Request.refusal_pwrClusterSet (by simp [hmask, hst]), if_neg (by simp [hop])]

end

/-- Settles O28: outside OP3 the state check refuses; in OP3 each cluster of the mask is set in turn, and one switched off
stays blank through the rest of them. -/
theorem clusterSetOnlyInOP3 : Obligations.ClusterSetOnlyInOP3 := by
  refine ⟨fun h mask st s ht hmask hst hop => exec_pwrClusterSet_outsideOP3 ht hmask hst hop, ?_⟩
  intro h mask st s ht hmask hst hop _ hlen
  have hroom : ∀ c ∈ clustersOf mask.toNat, 3 + c < (s.taken h).clock.doms.length := by
    intro c hc
    obtain ⟨hc4, -⟩ := mem_clustersOf.mp hc
    change 3 + c < s.clock.doms.length
    omega
  have hdoms := State.foldl_setCluster_doms (clusterState st.toNat) (clustersOf mask.toNat) (s.taken h) hroom
  refine ⟨_, exec_pwrClusterSet_inOP3 ht hmask hst hop, ?set, ?off, ?rest⟩
  case set =>
    intro c hc hbit
    rw [hdoms, if_pos (mem_clustersOf.mpr ⟨hc, hbit⟩)]
    rfl
  case off =>
    intro c hc hbit hoff
    have hstate : clusterState st.toNat = .off := by rw [hoff]; rfl
    rw [hstate]
    have hblank := State.foldl_setCluster_off_blank (mem_clustersOf.mpr ⟨hc, hbit⟩) (s.taken h)
    exact ⟨fun a b ha hb => hblank.devByte?_eq_zero hc ha hb, fun n hn => hblank.ctr hn⟩
  case rest =>
    intro c hc hbit
    rw [hdoms, if_neg (by simp [mem_clustersOf, hbit])]
    rfl

end Sys2Proof.Machine
end

section
/-! What a step changes and what it keeps: the frames of the families of commands, the queue, device time, the memories and the
fuses. -/

namespace Sys2Proof.Machine

/-! ### Frames of the guards that accesses come through -/

section
variable {p : Part} {s t u : State}

theorem Part.kept_refl : p.kept s s := by
  cases p <;> rfl

theorem Part.kept_trans (hst : p.kept s t) (htu : p.kept t u) : p.kept s u := by
  cases p <;> exact Eq.trans htu hst

@[simp] theorem mem_allBut {l : List Part} : p ∈ allBut l ↔ p ∉ l := by
  cases p <;> simp [allBut, Part.all]

/-- A request held at the guard of a frozen master is noted in Thistle's state alone (R360). -/
theorem State.guarded_kept {who : Master} {addr : Nat} {write : Bool} {k : State → State} (hp : p ≠ .safety)
    (hk : p.kept s (k s)) : p.kept s (s.guarded who addr write k) := by
  have hheld : ∀ f, p.kept s (s.onSafety f) := by
    intro f
    cases p <;> first | exact absurd rfl hp | rfl
  unfold State.guarded
  repeat' split
  all_goals first | exact Part.kept_refl | exact hk | exact hheld _

/-- An operation that a counter's unit refuses is noted with the counters, and a read of it answers no word (R298, R313). -/
theorem State.counterOp_kept {o n : Nat} {who : Master} {write : Bool} {k : State → State}
    (hp : p ∉ [.bindweed, .safety, .rdata]) (hk : p.kept s (k s)) : p.kept s (s.counterOp o n who write k) := by
  simp only [List.mem_cons, List.not_mem_nil, or_false, not_or] at hp
  obtain ⟨hbindweed, hsafety, hrdata⟩ := hp
  have hb : ∀ u f, p.kept s u → p.kept s (u.onBindweed f) := by
    intro u f hu
    cases p <;> first | exact absurd rfl hbindweed | exact hu
  have hr : ∀ u x, p.kept s u → p.kept s (u.setRdata x) := by
    intro u x hu
    cases p <;> first | exact absurd rfl hrdata | exact hu
  unfold State.counterOp
  refine State.guarded_kept hsafety ?_
  dsimp only
  repeat' split
  · exact hb _ _ Part.kept_refl
  · exact hr _ _ Part.kept_refl
  · exact hb _ _ Part.kept_refl
  · exact hr _ _ (hb _ _ Part.kept_refl)
  · exact hk

/-- An access that a window does not open is a violation, and the host is answered Completer Abort (R359, R372). -/
theorem State.regAccess_kept {who : Master} {off : Nat} {write : Bool} {k : State → State}
    (hp : p ∉ [.commit, .safety, .clock, .host, .rdata, .freeIx]) (hk : p.kept s (k s)) :
    p.kept s (s.regAccess who off write k) := by
  have hviolate : ∀ m c a, p.kept s (s.violate m c a write false 1) := by
    intro m c a
    cases p <;> dsimp only [Part.kept] <;> simp at hp ⊢
  have habort : ∀ u, p.kept s u → p.kept s (u.abortAccess write) := by
    intro u hu
    refine Part.kept_trans hu ?_
    cases p <;> dsimp only [Part.kept] <;> simp at hp ⊢
  unfold State.regAccess
  refine State.guarded_kept (by rintro rfl; simp at hp) ?_
  dsimp only
  repeat' split
  · exact habort _ (hviolate _ _ _)
  · exact hviolate _ _ _
  · exact hk
  · exact habort _ Part.kept_refl
  · exact Part.kept_refl

end

/-! ### Frames of the families -/

section
variable {c : Instr} {s t : State} {p : Part}

theorem exec_tickWork_frame (hf : family c = .tickWork) (h : exec c s = .next t) (hp : p ∉ mayChange c) : p.kept s t := by
  cases c <;> cases hf
  all_goals
    rw [← Host.Outcome.next.inj h]
    dsimp only [mayChange] at hp
    cases p <;> dsimp only [Part.kept] <;> simp at hp ⊢

theorem exec_outside_frame (hf : family c = .outside) (h : exec c s = .next t) (hp : p ∉ mayChange c) : p.kept s t := by
  cases c <;> cases hf
  all_goals
    rw [← Host.Outcome.next.inj h]
    dsimp only [mayChange] at hp
    cases p <;> dsimp only [Part.kept] <;> simp at hp ⊢

theorem exec_sync_frame (hf : family c = .sync) (h : exec c s = .next t) (hp : p ∉ mayChange c) : p.kept s t := by
  cases c <;> cases hf
  all_goals
    rw [← Host.Outcome.next.inj h]
    dsimp only [mayChange] at hp
  case counterAdd n who x =>
    refine State.counterOp_kept (fun hin => hp ?_) ?_
    · revert hin
      cases p <;> decide
    · cases p <;> dsimp only [Part.kept] <;> simp at hp ⊢
  case watchArm w who cfg =>
    refine State.guarded_kept (by rintro rfl; simp at hp) ?_
    cases p <;> dsimp only [Part.kept] <;> simp at hp ⊢
  case firedRead i =>
    refine State.guarded_kept (by rintro rfl; simp at hp) ?_
    cases p <;> dsimp only [Part.kept] <;> simp at hp ⊢
  all_goals cases p <;> dsimp only [Part.kept] <;> simp at hp ⊢

theorem exec_register_frame (hf : family c = .register) (h : exec c s = .next t) (hp : p ∉ mayChange c) : p.kept s t := by
  cases c <;> cases hf
  all_goals
    rw [← Host.Outcome.next.inj h]
    dsimp only [mayChange] at hp
  case fsPeekStart | ctgPeekSelect | flowRecordSelect | ledgerSelect | clkDomainReset =>
    refine State.regAccess_kept (fun hin => hp ?_) ?_
    · revert hin
      cases p <;> decide
    · cases p <;> dsimp only [Part.kept] <;> simp at hp ⊢
  case bar2WindowSelect =>
    refine State.guarded_kept (by rintro rfl; simp at hp) ?_
    cases p <;> dsimp only [Part.kept] <;> simp at hp ⊢
  all_goals cases p <;> dsimp only [Part.kept] <;> simp at hp ⊢

theorem exec_board_frame (hf : family c = .board) (h : exec c s = .next t) (hp : p ∉ mayChange c) : p.kept s t := by
  cases c <;> cases hf
  all_goals
    rw [← Host.Outcome.next.inj h]
    dsimp only [mayChange] at hp
    cases p <;> dsimp only [Part.kept] <;> simp at hp ⊢

theorem exec_packet_frame (hf : family c = .packet) (h : exec c s = .next t) (hp : p ∉ mayChange c) : p.kept s t := by
  cases c <;> cases hf
  all_goals
    rw [← Host.Outcome.next.inj h]
    dsimp only [mayChange] at hp
    cases p <;> dsimp only [Part.kept] <;> simp at hp ⊢

/-- Every command leaves the parts unchanged that `mayChange` does not list for it. -/
theorem exec_frame (h : exec c s = .next t) (hp : p ∉ mayChange c) : p.kept s t := by
  cases hf : family c with
  | tickWork => exact exec_tickWork_frame hf h hp
  | outside => exact exec_outside_frame hf h hp
  | sync => exact exec_sync_frame hf h hp
  | register => exact exec_register_frame hf h hp
  | board => exact exec_board_frame hf h hp
  | packet => exact exec_packet_frame hf h hp

end

/-- Settles O8. -/
theorem tickFrame : Obligations.TickFrame :=
  ⟨fun _ _ _ _ => exec_tickWork_frame, fun _ _ _ _ => exec_outside_frame⟩

/-- Settles O9. -/
theorem accessFrame : Obligations.AccessFrame :=
  ⟨fun _ _ _ _ => exec_sync_frame, fun _ _ _ _ => exec_register_frame⟩

/-- Settles O10. -/
theorem boardFrame : Obligations.BoardFrame := fun _ _ _ _ => exec_board_frame

/-- Settles O11. -/
theorem packetFrame : Obligations.PacketFrame := fun _ _ _ _ => exec_packet_frame

/-! ### From commands to steps -/

section
variable {c : Instr} {rest : List Instr} {s t : State}

theorem step_setPending_cons (c : Instr) (rest : List Instr) (s : State) :
    step (s.setPending (c :: rest)) = exec c (s.setPending rest) := rfl

theorem step_of_pending_cons (hpending : s.pending = c :: rest) : step s = exec c (s.setPending rest) := by
  simp [step, hpending]

theorem step_of_pending_nil (hpending : s.pending = []) : step s = .next s := by
  simp [step, hpending]

/-- A step idles or runs the command at the front: what idling keeps and every command keeps, a step keeps. -/
theorem step_induction {motive : State → State → Prop} (hidle : ∀ s, motive s s)
    (hexec : ∀ c rest s t, exec c (s.setPending rest) = .next t → motive s t) (h : step s = .next t) : motive s t := by
  cases hpending : s.pending with
  | nil =>
    rw [step_of_pending_nil hpending] at h
    cases h
    exact hidle s
  | cons c rest => exact hexec c rest s t (step_of_pending_cons hpending ▸ h)

theorem exec_answers (c : Instr) (s : State) : ∃ t, exec c s = .next t := by
  cases c <;> exact ⟨_, rfl⟩

end

/-- Settles O1. -/
theorem stepRunsFront : Obligations.StepRunsFront :=
  ⟨step_setPending_cons, fun _ => step_of_pending_nil⟩

/-- Settles O3: every row of the dispatch answers a next state. -/
theorem everyStepAnswers : Obligations.EveryStepAnswers := by
  intro s
  cases hpending : s.pending with
  | nil => exact ⟨s, step_of_pending_nil hpending⟩
  | cons c rest => exact step_of_pending_cons hpending ▸ exec_answers c (s.setPending rest)

/-- No command may change the queue. -/
theorem pending_notMem_mayChange (c : Instr) : Part.pending ∉ mayChange c := by
  cases c <;> dsimp only [mayChange] <;> simp

/-- Settles O2: the queue is in the frame of every command. -/
theorem queueIsFifo : Obligations.QueueIsFifo := by
  intro s t c rest hpending h
  rw [step_of_pending_cons hpending] at h
  exact exec_frame h (pending_notMem_mayChange c)

/-! ### Device time -/

/-- A command that may change the time sets it forward; the others have it in their frame. -/
theorem exec_now_le {c : Instr} {s t : State} (h : exec c s = .next t) : s.now ≤ t.now := by
  by_cases hp : Part.now ∈ mayChange c
  · cases c
    all_goals
      rw [← Host.Outcome.next.inj h]
      dsimp only [mayChange] at hp
      simp at hp ⊢
  · exact Nat.le_of_eq (exec_frame h hp).symm

/-- Settles O4. -/
theorem timeNeverRunsBack : Obligations.TimeNeverRunsBack := by
  intro s t
  exact step_induction (motive := fun s t => s.now ≤ t.now) (fun s => Nat.le_refl _) fun c rest s t => exec_now_le

/-! ### The form of the memories -/

/-- LPDDR5X and SRAM are in canonical form. -/
def State.MemForm (s : State) : Prop := s.mem.ddr.wf = true ∧ s.mem.sram.wf = true

/-- A command that may write a memory keeps its form; the others have both memories in their frame. -/
theorem exec_memForm {c : Instr} {s t : State} (h : exec c s = .next t) (hform : s.MemForm) : t.MemForm := by
  by_cases hp : Part.ddr ∈ mayChange c ∨ Part.sram ∈ mayChange c
  · unfold State.MemForm at hform ⊢
    cases c
    all_goals
      rw [← Host.Outcome.next.inj h]
      dsimp only [mayChange] at hp
      simp at hp
    case clkDomainReset who val =>
      exact State.regAccess_ok _ _ _ _ _ (fun u hu => clkDomainResetEffect_ok who val u hu) hform
    all_goals simp [hform]
  · obtain ⟨hddr, hsram⟩ := not_or.mp hp
    have hddrKept : t.mem.ddr = s.mem.ddr := exec_frame h hddr
    have hsramKept : t.mem.sram = s.mem.sram := exec_frame h hsram
    exact ⟨hddrKept ▸ hform.1, hsramKept ▸ hform.2⟩

/-- Settles O5: the form does not depend on the queue, and every command keeps it. -/
theorem stepKeepsMemoryForm : Obligations.StepKeepsMemoryForm := by
  intro s t hform h
  revert hform
  exact step_induction (motive := fun s t => s.MemForm → t.MemForm) (fun s hs => hs)
    (fun c rest s t hexec hs => exec_memForm hexec hs) h

/-- Settles O6: both memories are empty at reset. -/
theorem resetMemoryForm : Obligations.ResetMemoryForm := ⟨rfl, rfl⟩

/-! ### Fuses -/

/-- Neither fuse counter of `g` is below that of `f`. -/
def Fuses.NotBelow (f g : Fuses) : Prop := f.lifecycle ≤ g.lifecycle ∧ f.rollback ≤ g.rollback

theorem bootReadyEffect_fuses_notBelow (time : Nat) (unrepaired : List Nat) (s : State) :
    s.sec.fuses.NotBelow (bootReadyEffect time unrepaired s).sec.fuses := by
  unfold bootReadyEffect Fuses.NotBelow
  simp only []
  repeat' split
  all_goals simp [Nat.le_max_left]

theorem lifecycleFuseBlownEffect_fuses_notBelow (s : State) :
    s.sec.fuses.NotBelow (lifecycleFuseBlownEffect s).sec.fuses := by
  unfold lifecycleFuseBlownEffect Fuses.NotBelow
  repeat' split
  all_goals simp [Nat.le_max_left]

/-- The end of a boot and a blown lifecycle fuse raise a counter to a maximum; nothing else touches the fuses. -/
theorem exec_fuses_notBelow {c : Instr} {s t : State} (h : exec c s = .next t) : s.sec.fuses.NotBelow t.sec.fuses := by
  by_cases hp : Part.fuses ∈ mayChange c
  · cases c
    case bootReady time unrepaired => exact Host.Outcome.next.inj h ▸ bootReadyEffect_fuses_notBelow time unrepaired s
    case lifecycleFuseBlown => exact Host.Outcome.next.inj h ▸ lifecycleFuseBlownEffect_fuses_notBelow s
    all_goals
      dsimp only [mayChange] at hp
      simp at hp
  · have hkept : t.sec.fuses = s.sec.fuses := exec_frame h hp
    exact hkept ▸ ⟨Nat.le_refl _, Nat.le_refl _⟩

/-- Settles O7. -/
theorem fusesAreOneWay : Obligations.FusesAreOneWay := by
  intro lifecycle rollback s t hlow h
  have hstep : s.sec.fuses.NotBelow t.sec.fuses :=
    step_induction (motive := fun s t => s.sec.fuses.NotBelow t.sec.fuses) (fun s => ⟨Nat.le_refl _, Nat.le_refl _⟩)
      (fun c rest s t => exec_fuses_notBelow) h
  exact ⟨Nat.le_trans hlow.1 hstep.1, Nat.le_trans hlow.2 hstep.2⟩

/-! ### Registers at reset -/

/-- Settles O59. -/
theorem resetValues : Obligations.ResetValues := by
  unfold Obligations.ResetValues
  decide

end Sys2Proof.Machine
end

section
/-! The gate of the command packets over all of them: untaken, refused, accepted (13 R318 to R326, Table 13-3). -/

namespace Sys2Proof.Machine

/-- How a command comes through the gate of its packet: as any packet does, as the CONFIG commands do that set REJECTED
when they are refused (R340), or as SEC_LIFECYCLE does, which renews the nonce whatever it answers (18 R451). -/
inductive Gate (c : Instr) (s : State) (r : Request) : Prop where
  | plain (run : State → State) (hexec : exec c s = .next (s.packet r.hdr r.op r.checks run))
      (hafter : ∀ t, afterRefusal c t = t)
  | config (run : State → State) (hexec : exec c s = .next (s.cfgPacket r.hdr r.op r.checks run))
      (hafter : ∀ t, afterRefusal c t = t.rejected) (hauth : r.checks.auth = true)
      (hdomains : opDomains r.op = [])
  | lifecycle (run : State → State) (hexec : exec c s = .next
      (if s.takes r.hdr then (s.packet r.hdr r.op r.checks run).freshNonce else s.packet r.hdr r.op r.checks run))
      (hafter : ∀ t, afterRefusal c t = t.freshNonce)

section
variable {c : Instr} {s : State} {r : Request}

/-- Every command that makes a request comes through one of the three gates, with the checks of its request. -/
theorem gate_of_request (hr : request c s = some r) : Gate c s r := by
  cases c <;> cases hr
  case configLoad | configCommit | configRollback => exact .config _ rfl (fun _ => rfl) rfl (by dsimp only; decide)
  case secLifecycle => exact .lifecycle _ rfl fun _ => rfl
  case devFaultLog | planFrameRead | planResultRead | planHandoffRead | flowPush | tileRequalify | snapLoad | zhdExport |
      diagRead | cascMemberAdd | clkSpreadSet =>
    apply Gate.plain (hafter := fun _ => rfl)
    dsimp only [exec, execDevFaultLog, execPlanFrameRead, execPlanResultRead, execPlanHandoffRead, execFlowPush,
      execTileRequalify, execSnapLoad, execZhdExport, execDiagRead, execCascMemberAdd, execClkSpreadSet,
      devFaultLogEffect, planFrameReadEffect, planResultReadEffect, planHandoffReadEffect, flowPushEffect,
      tileRequalifyEffect, snapLoadEffect, zhdExportEffect, diagReadEffect, cascMemberAddEffect, clkSpreadSetEffect]
  case roadmapBuild | wavefrontFull | deepPlan | fieldRebuild | memScrub | xmssKeygen =>
    apply Gate.plain (hafter := fun _ => rfl)
    dsimp only [exec, execRoadmapBuild, execWavefrontFull, execDeepPlan, execFieldRebuild, execMemScrub, execXmssKeygen,
      roadmapBuildEffect, wavefrontFullEffect, deepPlanEffect, fieldRebuildEffect, memScrubEffect, xmssKeygenEffect,
      State.longPacket]
  case replay =>
    apply Gate.plain (hafter := fun _ => rfl)
    dsimp only [exec, execReplay, replayEffect]
    rfl
  all_goals exact .plain _ rfl fun _ => rfl

/-- An accepted command that comes through the plain gate runs on the state with its packet counted as open. -/
theorem exec_of_accepts {run : State → State} (hr : request c s = some r)
    (hexec : exec c s = .next (s.packet r.hdr r.op r.checks run)) (ha : accepts c s = true) :
    exec c s = .next (run (s.taken r.hdr)) := by
  obtain ⟨htakes, hchecks⟩ := accepts_spec hr ha
  rw [hexec, State.packet_accepts htakes hchecks]

/-- So does a CONFIG command that may be rejected. -/
theorem exec_of_accepts_config {run : State → State} (hr : request c s = some r)
    (hexec : exec c s = .next (s.cfgPacket r.hdr r.op r.checks run)) (ha : accepts c s = true) :
    exec c s = .next (run (s.taken r.hdr)) := by
  obtain ⟨htakes, hchecks⟩ := accepts_spec hr ha
  rw [hexec, State.cfg_accepts htakes hchecks]

end

/-- Settles O12: at every gate the path is asked first. -/
theorem untakenPacketChangesNothing : Obligations.UntakenPacketChangesNothing := by
  intro c s r hr htakes
  cases gate_of_request hr with
  | plain run hexec => rw [hexec, State.packet_untaken htakes]
  | config run hexec => rw [hexec, State.cfg_untaken htakes]
  | lifecycle run hexec => rw [hexec, State.packet_untaken htakes, htakes, if_neg Bool.false_ne_true]

/-- Settles O13: the gates differ in what a refusal leaves beside its completion. -/
theorem failedCheckAnswersItsStatus : Obligations.FailedCheckAnswersItsStatus := by
  intro c s r st hr htakes hrefusal
  cases gate_of_request hr with
  | plain run hexec hafter => rw [hexec, State.packet_refused htakes hrefusal, hafter]
  | config run hexec hafter hauth hdomains =>
    rw [hexec, State.cfg_refused htakes hauth (by rw [hdomains]; rfl) hrefusal, hafter]
  | lifecycle run hexec hafter =>
    rw [hexec, State.packet_refused htakes hrefusal, hafter, if_pos htakes]

end Sys2Proof.Machine
end

section
/-! The command packets that read: what they answer, and where the answer goes (12 R309; 13 R329, Table 13-7). -/

namespace Sys2Proof.Machine

section
variable {c : Instr} {s : State} {h : Hdr}

/-- An accepted packet has good fields. -/
theorem accepts_param {r : Request} (hr : request c s = some r) (ha : accepts c s = true) : r.checks.param = true := by
  obtain ⟨-, hnone⟩ := accepts_spec hr ha
  cases hparam : r.checks.param with
  | true => rfl
  | false =>
    rw [Request.refusal_of_param_false hparam] at hnone
    cases hnone

/-- The reply of a command goes where R309 and R329 put it. -/
theorem State.finalReply_eq_replied (s : State) (h : Hdr) (op raddr : Nat) (reply data : List Byte) :
    s.finalReply h op raddr reply data = replied s h op raddr reply data := by
  have hplace : inPlace h raddr = true ↔ ¬ (h.ring < 64 ∨ raddr ≠ 0) := by
    simp [inPlace]
  unfold State.finalReply replied
  by_cases hin : inPlace h raddr = true
  · rw [if_pos hin, if_neg (hplace.mp hin)]
  · rw [if_neg hin, if_pos (Decidable.not_not.mp (mt hplace.mpr hin))]

end

section
variable {s : State} {h : Hdr}

theorem exec_longStatus_of_accepts {handle : Half} {o : LongOp} (ha : accepts (.longStatus h handle) s = true)
    (ho : s.longAt (handle.toNat % 64) = some o) :
    exec (.longStatus h handle) s = .next (s.answered h 0x0700 .ok
      ([BitVec.ofNat 8 o.state.code, 0] ++ toLe 2 o.opcode ++ toLe 4 o.slices ++ [BitVec.ofNat 8 o.hdr.ring, 0, 0, 0])) := by
  have ho' : (s.taken h).longAt (handle.toNat % 64) = some o := ho
  rw [exec_of_accepts rfl rfl ha]
  simp only [ho']
  rfl

theorem exec_devInfo_of_accepts {raddr : Dword} (ha : accepts (.devInfo h raddr) s = true) :
    exec (.devInfo h raddr) s = .next (replied (s.taken h) h 0x0101 raddr.toNat (s.taken h).devInfo []) := by
  rw [exec_of_accepts rfl rfl ha, State.finalReply_eq_replied]

theorem exec_ctxRead_of_accepts {copy : Byte} {off : Half} {len : Word} {raddr : Dword}
    (ha : accepts (.ctxRead h copy off len raddr) s = true) :
    exec (.ctxRead h copy off len raddr) s = .next (replied (s.taken h) h 0x0305 raddr.toNat
      ((List.range len.toNat).map fun i => (s.ctx h.ctx).byteAt (copy.toNat == 1) (off.toNat + i)) (word4 len.toNat)) := by
  rw [exec_of_accepts rfl rfl ha, State.finalReply_eq_replied]
  rfl

theorem exec_planFrameRead_of_accepts {slot : Byte} {raddr : Dword} {e : EgressEntry}
    (ha : accepts (.planFrameRead h slot raddr) s = true) (he : Tbl.find? s.host.egress slot.toNat = some e) :
    exec (.planFrameRead h slot raddr) s = .next (replied (s.taken h) h 0x0500 raddr.toNat e.protectedBytes
      (toLe 4 e.protectedBytes.length)) := by
  obtain ⟨htakes, hchecks⟩ := accepts_spec rfl ha
  change Host.Outcome.next (planFrameReadEffect h slot.toNat raddr.toNat s) = _
  dsimp only [planFrameReadEffect]
  rw [State.packet_accepts htakes hchecks, State.finalReply_eq_replied, he]
  rfl

/-- The check of LEN bounds what the model reads at once (R373). -/
theorem exec_diagRead_of_accepts {addr : Dword} {len : Word} {raddr : Dword}
    (ha : accepts (.diagRead h addr len raddr) s = true) :
    exec (.diagRead h addr len raddr) s = .next (replied (s.taken h) h 0x0900 raddr.toNat
      ((List.range len.toNat).map fun i => (s.diagByte? (addr.toNat + i)).getD 0) []) := by
  obtain ⟨htakes, hchecks⟩ := accepts_spec rfl ha
  have hlen : len.toNat ≤ 4096 := by
    have hparam := accepts_param rfl ha
    simp only [Bool.and_eq_true, decide_eq_true_eq] at hparam
    exact hparam.1.1
  change Host.Outcome.next (diagReadEffect h addr.toNat len.toNat raddr.toNat s) = _
  dsimp only [diagReadEffect]
  rw [State.packet_accepts htakes hchecks, State.finalReply_eq_replied, Nat.min_eq_left hlen, List.map_map]
  rfl

theorem exec_devFaultLog_of_accepts {first count : Word} {raddr : Dword}
    (ha : accepts (.devFaultLog h first count raddr) s = true) :
    exec (.devFaultLog h first count raddr) s = .next (replied (s.pended h 0x0103) h 0x0103 raddr.toNat
      ((s.safety.entries first count.toNat).flatMap FaultEntry.bytes)
      (toLe 4 (s.safety.entries first count.toNat).length)) := by
  obtain ⟨htakes, hchecks⟩ := accepts_spec rfl ha
  change Host.Outcome.next (devFaultLogEffect h first count.toNat raddr.toNat s) = _
  dsimp only [devFaultLogEffect]
  rw [State.packet_accepts htakes hchecks, State.finalReply_eq_replied]
  rfl

theorem exec_configRead_of_accepts {n : Byte} {off len : Word} {raddr : Dword} {b : BundleSlot}
    (ha : accepts (.configRead h n off len raddr) s = true) (hb : s.cmd.slotNo n.toNat = some b) :
    exec (.configRead h n off len raddr) s = .next (replied (s.pended h 0x0204) h 0x0204 raddr.toNat
      (b.bytes.reads off.toNat len.toNat) (toLe 4 len.toNat)) := by
  have hb' : (s.taken h).cmd.slotNo n.toNat = some b := hb
  rw [exec_of_accepts rfl rfl ha]
  simp only [hb', State.finalReply_eq_replied]
  rfl

theorem exec_worldFieldRead_of_accepts {raddr : Dword} {f : BuiltField}
    (ha : accepts (.worldFieldRead h raddr) s = true) (hf : s.heldField = some f) :
    exec (.worldFieldRead h raddr) s = .next (replied (s.pended h 0x0404) h 0x0404 raddr.toNat
      (f.img.reads 0 imageBytes) (toLe 8 f.version ++ toLe 4 f.crc.toNat)) := by
  have hf' : (s.taken h).heldField = some f := hf
  rw [exec_of_accepts rfl rfl ha]
  simp only [hf', State.finalReply_eq_replied]
  rfl

theorem exec_planResultRead_of_accepts {slot : Byte} {raddr : Dword} {d : DieRes}
    (ha : accepts (.planResultRead h slot raddr) s = true) (hd : (s.popSlot slot.toNat).result = some d) :
    exec (.planResultRead h slot raddr) s = .next (replied (s.pended h 0x0501) h 0x0501 raddr.toNat d.bytes
      (toLe 4 d.bytes.length)) := by
  obtain ⟨htakes, hchecks⟩ := accepts_spec rfl ha
  change Host.Outcome.next (planResultReadEffect h slot.toNat raddr.toNat s) = _
  dsimp only [planResultReadEffect]
  rw [State.packet_accepts htakes hchecks, State.finalReply_eq_replied, hd]
  rfl

theorem exec_planHandoffRead_of_accepts {slot : Byte} {raddr : Dword} {x : HandOff}
    (ha : accepts (.planHandoffRead h slot raddr) s = true) (hx : (s.vetSlot slot.toNat).handoff = some x) :
    exec (.planHandoffRead h slot raddr) s = .next (replied (s.pended h 0x0502) h 0x0502 raddr.toNat
      ((List.range 0x5040).map x.byte) (toLe 4 0x5040)) := by
  obtain ⟨htakes, hchecks⟩ := accepts_spec rfl ha
  change Host.Outcome.next (planHandoffReadEffect h slot.toNat raddr.toNat s) = _
  dsimp only [planHandoffReadEffect]
  rw [State.packet_accepts htakes hchecks, State.finalReply_eq_replied, hx]
  rfl

theorem exec_zhdExport_of_accepts {first : Dword} {count : Word} {journal : Byte} {raddr : Dword}
    (ha : accepts (.zhdExport h first count journal raddr) s = true) :
    exec (.zhdExport h first count journal raddr) s = .next (replied (s.pended h 0x0805) h 0x0805 raddr.toNat
      (s.zheda.exported first.toNat count.toNat (journal.toNat == 1))
      (toLe 4 (s.zheda.exported first.toNat count.toNat (journal.toNat == 1)).length)) := by
  obtain ⟨htakes, hchecks⟩ := accepts_spec rfl ha
  change Host.Outcome.next (zhdExportEffect h first.toNat count.toNat journal.toNat raddr.toNat s) = _
  dsimp only [zhdExportEffect]
  rw [State.packet_accepts htakes hchecks, State.finalReply_eq_replied]
  rfl

end

/-- Settles O16: the short reads answer at the gate; the others reply through `State.finalReply_eq_replied`. -/
theorem readCommandsReply : Obligations.ReadCommandsReply :=
  ⟨fun _ _ ha => (exec_of_accepts rfl rfl ha).trans rfl,
    fun _ _ ha => (exec_of_accepts rfl rfl ha).trans rfl,
    fun _ _ _ ha => (exec_of_accepts rfl rfl ha).trans rfl,
    fun _ _ ha => (exec_of_accepts rfl rfl ha).trans rfl,
    fun _ _ ha => (exec_of_accepts rfl rfl ha).trans rfl,
    fun _ _ _ _ => exec_longStatus_of_accepts,
    fun _ _ _ => exec_devInfo_of_accepts,
    fun _ _ _ _ _ _ => exec_ctxRead_of_accepts,
    fun _ _ _ _ _ => exec_planFrameRead_of_accepts,
    fun _ _ _ _ _ => exec_diagRead_of_accepts,
    fun _ _ _ _ _ => exec_devFaultLog_of_accepts,
    fun _ _ _ _ _ _ _ => exec_configRead_of_accepts,
    fun _ _ _ _ => exec_worldFieldRead_of_accepts,
    fun _ _ _ _ _ => exec_planResultRead_of_accepts,
    fun _ _ _ _ _ => exec_planHandoffRead_of_accepts,
    fun _ _ _ _ _ _ => exec_zhdExport_of_accepts⟩

end Sys2Proof.Machine
end

section
/-! The command packets on bundles, contexts, the world, flows and timers (13 R335 to R339; 11 R115, R279, R284, R287, R289; 02 R61,
R62; 09 R244). -/

namespace Sys2Proof.Machine

section
variable {s : State} {h : Hdr}

/-! ### Bundles and contexts -/

theorem exec_configStore_of_accepts {b : BundleSlot} (ha : accepts (.configStore h) s = true) (hb : s.cmd.active = some b) :
    exec (.configStore h) s = .next ((s.pended h 0x0206).onCmd fun c => { c with storing := some (h, b) }) := by
  have hb' : (s.taken h).cmd.active = some b := hb
  rw [exec_of_accepts rfl rfl ha]
  simp only [hb']
  rfl

end

/-- Settles O17: each runs behind its gate, the three that may be rejected behind the CONFIG gate. -/
theorem configCommandsAct : Obligations.ConfigCommandsAct :=
  ⟨fun _ _ _ _ ha => (exec_of_accepts rfl rfl ha).trans rfl,
    fun _ _ _ _ _ _ _ ha => (exec_of_accepts_config rfl rfl ha).trans rfl,
    fun _ _ _ ha => (exec_of_accepts_config rfl rfl ha).trans rfl,
    fun _ _ _ ha => (exec_of_accepts_config rfl rfl ha).trans rfl,
    fun _ _ ha => (exec_of_accepts rfl rfl ha).trans rfl,
    fun _ _ _ => exec_configStore_of_accepts⟩

/-- Settles O18. -/
theorem contextAndWorldCommands : Obligations.ContextAndWorldCommands :=
  ⟨fun _ _ _ _ ha => (exec_of_accepts rfl rfl ha).trans rfl,
    fun _ _ ha => (exec_of_accepts rfl rfl ha).trans rfl,
    fun _ _ ha => (exec_of_accepts rfl rfl ha).trans rfl,
    fun _ _ ha => (exec_of_accepts rfl rfl ha).trans rfl,
    fun _ _ _ _ ha => (exec_of_accepts rfl rfl ha).trans rfl,
    fun _ _ _ ha => (exec_of_accepts rfl rfl ha).trans rfl,
    fun _ _ _ ha => (exec_of_accepts rfl rfl ha).trans rfl,
    fun _ _ ha => (exec_of_accepts rfl rfl ha).trans rfl,
    fun _ _ _ ha => (exec_of_accepts rfl rfl ha).trans rfl,
    fun _ _ _ ha => (exec_of_accepts rfl rfl ha).trans rfl,
    fun _ _ _ _ _ ha => (exec_of_accepts rfl rfl ha).trans rfl,
    fun _ _ _ ha => (exec_of_accepts rfl rfl ha).trans rfl,
    fun _ _ ha => (exec_of_accepts rfl rfl ha).trans rfl⟩

/-! ### Flows and timers -/

section
variable {s : State} {h : Hdr}

/-- TIMER_SET asks for room in delay list 2 and nothing else (R278). -/
theorem exec_timerSet_of_accepts {due : Dword} {dest : Byte} {arg : Half} (ha : accepts (.timerSet h due dest arg) s = true) :
    exec (.timerSet h due dest arg) s = .next
      (if s.teasel.delayRoom 2 = 0 then ((s.taken h).onTeasel TeaselSt.delayRefused).final h 0x0605 .queueFull
      else ((s.taken h).onTeasel fun t =>
        { (t.delayPut 2 due.toNat (.timer t.timerNext (dest.toNat == 1) arg.toNat)) with
          timerNext := (t.timerNext + 1) % 2 ^ 32 }).final h 0x0605 .ok (toLe 4 s.teasel.timerNext)) :=
  (exec_of_accepts rfl rfl ha).trans rfl

/-- FLOW_PUSH of rows not too long whose servers are in service: the credit, the policy and the number of held pushes decide,
in that order (R284). -/
theorem exec_flowPush_of_accepts {f : Word} {items : List (List Byte)} (ha : accepts (.flowPush h f items) s = true)
    (hshort : items.any s.rowTooLong = false) (hserved : (items.any fun b => (s.servers (itemClass b)).isEmpty) = false) :
    exec (.flowPush h f items) s = .next
      (if items.length ≤ s.credit f.toNat then (s.taken h).takePush h f.toNat items
      else if (s.flow f.toNat).refuse then (s.taken h).pushFull h false
      else if 64 ≤ s.teasel.heldPushes.length then s.answered h 0x0601 .busy
      else (s.pended h 0x0601).onTeasel fun t => { t with heldPushes := t.heldPushes ++ [⟨h, f.toNat, items⟩] }) := by
  obtain ⟨htakes, hchecks⟩ := accepts_spec rfl ha
  have hserved' : (items.any fun b => ((s.taken h).servers (itemClass b)).isEmpty) = false := hserved
  change Host.Outcome.next (flowPushEffect h f.toNat items s) = _
  dsimp only [flowPushEffect]
  rw [State.packet_accepts htakes hchecks, hshort, if_neg Bool.false_ne_true, hserved', if_neg Bool.false_ne_true]
  rfl

end

/-- Settles O19. -/
theorem flowAndTimerCommands : Obligations.FlowAndTimerCommands :=
  ⟨fun _ _ _ _ _ _ _ _ _ ha => (exec_of_accepts rfl rfl ha).trans rfl,
    fun _ _ _ ha => (exec_of_accepts rfl rfl ha).trans rfl,
    fun _ _ _ ha => (exec_of_accepts rfl rfl ha).trans rfl,
    fun _ _ _ _ _ ha hroom => by rw [exec_timerSet_of_accepts ha, if_neg (Nat.ne_of_gt hroom)],
    fun _ _ _ _ _ ha hfull => by rw [exec_timerSet_of_accepts ha, if_pos hfull],
    fun _ _ _ ha => (exec_of_accepts rfl rfl ha).trans rfl⟩

/-- Settles O20: the four answers of `exec_flowPush_of_accepts`. -/
theorem flowPushFollowsCredit : Obligations.FlowPushFollowsCredit := by
  intro h f items s ha hshort hserved
  rw [exec_flowPush_of_accepts ha hshort hserved]
  refine ⟨fun hcredit => ?_, fun hcredit hrefuse => ?_, fun hcredit hhold hmany => ?_, fun hcredit hhold hfew => ?_⟩
  · rw [if_pos hcredit]
  · rw [if_neg (Nat.not_le.mpr hcredit), if_pos hrefuse]
  · rw [if_neg (Nat.not_le.mpr hcredit), if_neg (by simp [hhold]), if_pos hmany]
  · rw [if_neg (Nat.not_le.mpr hcredit), if_neg (by simp [hhold]), if_neg (Nat.not_le.mpr hfew)]

end Sys2Proof.Machine
end

section
/-! Final completions on the rings (13 R322, R325, Table 13-4). -/

namespace Sys2Proof.Machine

/-- The completion that ends a packet on its path. -/
def finalCpl (h : Hdr) (op : Nat) (st : Status) (data : List Byte) : Cpl :=
  { ring := h.ring, final := true, status := st, tag := h.tag, seq := h.seq, opcode := op, data := data }

theorem finalCpl_bytes (h : Hdr) (op : Nat) (st : Status) (data : List Byte) (phase : Bool) :
    (finalCpl h op st data).bytes phase = finalEntry h op st data phase := by
  cases phase <;> rfl

section
variable {s : State} {h : Hdr} {op : Nat} {st : Status} {data : List Byte}

/-- On a ring a final completion that QUIET does not leave out is posted there, and its packet is no longer open. -/
theorem State.final_of_ring (hring : h.ring < 64) (hpost : quietDrop h op st = false) :
    s.final h op st data = (s.postRing h.ring (finalCpl h op st data)).closeOne h.ring := by
  simp [State.final, hpost, State.post, hring, finalCpl]

theorem State.ring_closeOne (s : State) (r q : Nat) :
    (s.closeOne r).ring q = if q = r then { s.ring r with opened := (s.ring r).opened - 1 } else s.ring q := by
  simp only [State.closeOne, State.updRing, State.ring_setRing]

theorem State.closeOne_host (s : State) (r : Nat) : (s.closeOne r).host = s.host := rfl

/-- A completion that the ring takes moves its tail (R322). -/
theorem State.ring_writeCpl (s : State) (r q : Nat) (c : Cpl) :
    (s.writeCpl r c).ring q = if q = r then (s.ring r).push else s.ring q := by
  unfold State.writeCpl
  dsimp only
  split
  · rw [State.ring_interrupt, State.ring_setRing]
    rfl
  · rw [State.ring_setRing]
    rfl

theorem State.writeCpl_mem (s : State) (r : Nat) (c : Cpl) (hup : s.host.up = true) :
    (s.writeCpl r c).host.mem =
      s.host.mem.writes (ringBase (s.ring r).cqBase + (s.ring r).cqTail * 32) (c.bytes (s.ring r).phase) := by
  have hwritten : ∀ a bs, (s.hostWrite a bs).host.mem = s.host.mem.writes a bs := by
    intro a bs
    simp [State.hostWrite, HostSt.wr, hup]
  unfold State.writeCpl
  dsimp only
  split
  · rw [State.interrupt_mem]
    exact hwritten _ _
  · exact hwritten _ _

end

/-- Settles O14: the entry is written at the tail by `State.writeCpl`, which interrupts leave as it is. -/
theorem finalCompletionOnRing : Obligations.FinalCompletionOnRing := by
  intro s h op st data hring hpost hwf hen hup hheld hroom hthawed g t base
  have hposted : s.postRing h.ring (finalCpl h op st data) = s.writeCpl h.ring (finalCpl h op st data) := by
    simp [State.postRing, hen, hup, hheld, hroom, hthawed]
  have ht : t = (s.writeCpl h.ring (finalCpl h op st data)).closeOne h.ring := by
    rw [← hposted]
    exact State.final_of_ring hring hpost
  have hmem : t.host.mem = s.host.mem.writes base (finalEntry h op st data g.phase) := by
    rw [ht, State.closeOne_host, State.writeCpl_mem _ _ _ hup, finalCpl_bytes]
    rfl
  have hlength : (finalEntry h op st data g.phase).length = 32 := by
    rw [← finalCpl_bytes, Cpl.bytes_length]
  have hread := fun a => Mem.read_writes s.host.mem base a (finalEntry h op st data g.phase) hwf
  have hown : t.ring h.ring = { g.push with opened := g.opened - 1 } := by
    rw [ht, State.ring_closeOne, if_pos rfl, State.ring_writeCpl, if_pos rfl]
    rfl
  refine ⟨fun i hi => ?entry, fun a ha => ?others, ?newTail, ?newPhase, ?newOpened, fun r hr => ?rings⟩
  case entry =>
    rw [hmem, hread, if_pos (by omega), Nat.add_sub_cancel_left]
    rfl
  case others => rw [hmem, hread, if_neg (by omega)]
  case newTail => rw [hown]; rfl
  case newPhase => rw [hown]; rfl
  case newOpened => rw [hown]
  case rings => rw [ht, State.ring_closeOne, if_neg hr, State.ring_writeCpl, if_neg hr]

/-- Settles O15: the completion joins those the ring holds, and the ring is marked full. -/
theorem completionWaitsForRoom : Obligations.CompletionWaitsForRoom := by
  intro s h op st data hring hpost hen hup hfull t
  have hposted : s.postRing h.ring (finalCpl h op st data) = s.setRing h.ring { s.ring h.ring with
      held := (s.ring h.ring).held ++ [finalCpl h op st data], cqFull := true } := by
    simp [State.postRing, hen, hup, hfull]
  have ht : t = (s.postRing h.ring (finalCpl h op st data)).closeOne h.ring := State.final_of_ring hring hpost
  rw [hposted] at ht
  have hown : t.ring h.ring = { s.ring h.ring with
      held := (s.ring h.ring).held ++ [finalCpl h op st data], cqFull := true, opened := (s.ring h.ring).opened - 1 } := by
    rw [ht, State.ring_closeOne, if_pos rfl, State.ring_setRing, if_pos rfl]
  refine ⟨?_, ?_, finalCpl h op st data, ?_, finalCpl_bytes h op st data⟩
  · rw [ht]; rfl
  · rw [hown]
  · rw [hown]

end Sys2Proof.Machine
end

section
/-! The command packets on long operations, snapshots, the system and security (10 R255 to R261; 13 R331, R332; 14 R366; 16 R408, R410,
R418; 18 R451, R455, R460; 19 R479, R480). -/

namespace Sys2Proof.Machine

/-! ### What a completion leaves of the long operations -/

section
variable (s : State) (h : Hdr) (op : Nat) (st : Status)

theorem State.post_longs (c : Cpl) : (s.post c).cmd.longs = s.cmd.longs := by
  unfold State.post State.postRing State.postMbox State.postUsb State.fillMbox State.writeCpl
  simp only []
  repeat' split
  all_goals rfl

theorem State.final_longs (data mb : List Byte) : (s.final h op st data mb).cmd.longs = s.cmd.longs := by
  unfold State.final
  dsimp only
  split
  · rfl
  · exact State.post_longs s _

/-- A final completion leaves every long operation where it is. -/
theorem State.answered_longAt (data : List Byte) (n : Nat) : (s.answered h op st data).longAt n = s.longAt n := by
  unfold State.longAt State.answered
  rw [State.final_longs]
  rfl

end

section
variable {s : State} {h : Hdr}

/-! ### LONG_SUSPEND, LONG_RESUME, LONG_CANCEL (R332, Table 13-8) -/

section
variable {hd : Half} {o : LongOp}

theorem exec_longSuspend_of_accepts (ho : s.longAt (hd.toNat % 64) = some o)
    (ha : accepts (.longSuspend h hd) s = true) :
    exec (.longSuspend h hd) s = .next (match o.state with
      | .queued => ((s.answered h 0x0701 .ok).setLong (hd.toNat % 64) { o with state := .suspended }).interimLong o .suspended
      | .running => (s.answered h 0x0701 .ok).setLong (hd.toNat % 64) { o with state := .suspendPending }
      | _ => s.answered h 0x0701 .ok) := by
  have ho' : ((s.taken h).final h 0x0701 .ok).longAt (hd.toNat % 64) = some o :=
    (State.answered_longAt s h 0x0701 .ok [] _).trans ho
  rw [exec_of_accepts rfl rfl ha]
  simp only [ho']
  rfl

theorem exec_longResume_of_accepts {tick : Dword} (ho : s.longAt (hd.toNat % 64) = some o)
    (ha : accepts (.longResume h hd tick) s = true) :
    exec (.longResume h hd tick) s = .next (
      if o.state = .suspendPending then ((s.taken h).setLong (hd.toNat % 64) { o with state := .running }).final h 0x0702 .ok
      else if tick.toNat = 0 then
        (((s.taken h).onTeasel fun t => t.delayDrop 1 (.longOp hd.toNat)).setLong (hd.toNat % 64)
          { o with state := .queued, delayed := false }).final h 0x0702 .ok
      else if (s.teasel.delayDrop 1 (.longOp hd.toNat)).delayRoom 1 = 0 then
        ((s.taken h).onTeasel TeaselSt.delayRefused).final h 0x0702 .queueFull
      else (((s.taken h).onTeasel fun t =>
        (t.delayDrop 1 (.longOp hd.toNat)).delayPut 1 tick.toNat (.longOp hd.toNat)).setLong (hd.toNat % 64)
          { o with delayed := true }).final h 0x0702 .ok) := by
  have ho' : (s.taken h).longAt (hd.toNat % 64) = some o := ho
  rw [exec_of_accepts rfl rfl ha]
  simp only [ho']
  rfl

theorem exec_longCancel_of_accepts (ho : s.longAt (hd.toNat % 64) = some o)
    (ha : accepts (.longCancel h hd) s = true) :
    exec (.longCancel h hd) s = .next (
      if o.state = .queued || o.state = .suspended then (s.answered h 0x0703 .ok).endLong (hd.toNat % 64) .cancelled
      else (s.answered h 0x0703 .ok).setLong (hd.toNat % 64) { o with state := .cancelPending }) := by
  have ho' : ((s.taken h).final h 0x0703 .ok).longAt (hd.toNat % 64) = some o :=
    (State.answered_longAt s h 0x0703 .ok [] _).trans ho
  rw [exec_of_accepts rfl rfl ha]
  simp only [ho']
  rfl

end

/-- Settles O22: the state of the operation chooses the branch. -/
theorem longControlsFollowStates : Obligations.LongControlsFollowStates := by
  intro h hd o s ho
  refine ⟨fun ha => ⟨fun hq => ?_, fun hr => ?_⟩, fun tick ha => ⟨fun hp => ?_, fun hsus h0 => ?_, fun hsus h0 hroom => ?_⟩,
    fun ha => ⟨fun hq => ?_, fun hr => ?_⟩⟩
  · rw [exec_longSuspend_of_accepts ho ha, hq]
  · rw [exec_longSuspend_of_accepts ho ha, hr]
  · rw [exec_longResume_of_accepts ho ha, if_pos hp]
  · rw [exec_longResume_of_accepts ho ha, if_neg (by simp [hsus]), if_pos (by simp [h0])]
  · have htick : ¬ tick.toNat = 0 := fun heq => h0 (BitVec.eq_of_toNat_eq heq)
    rw [exec_longResume_of_accepts ho ha, if_neg (by simp [hsus]), if_neg htick, if_neg (Nat.ne_of_gt hroom)]
  · rw [exec_longCancel_of_accepts ho ha, if_pos (by simpa using hq)]
  · rw [exec_longCancel_of_accepts ho ha, if_neg (by rcases hr with hr | hr <;> simp [hr])]

/-! ### Snapshots -/

theorem exec_snapResume_of_accepts (ha : accepts (.snapResume h) s = true) :
    exec (.snapResume h) s = .next (
      if s.zheda.run = .pausing then
        (match s.zheda.pauser with
          | some q => ((s.taken h).onZheda fun z => { z with run := .live, pauser := none }).final q 0x0800 .cancelled
          | none => (s.taken h).onZheda fun z => { z with run := .live, pauser := none }).final h 0x0801 .ok
      else (((s.taken h).onTick fun t => { t with
          num := { t.num with val := BitVec.ofNat 64 ((s.zheda.snapIn.map fun x => x.k - 1).getD s.tickNo) }
          lastEdge := some s.now }).onZheda fun z => { z with resumedAt := some s.now }).final h 0x0801 .ok) :=
  (exec_of_accepts rfl rfl ha).trans rfl

theorem exec_snapLoad_of_accepts {src slot : Byte} {addr : Dword} {x : Snapshot}
    (ha : accepts (.snapLoad h src slot addr) s = true) (hx : s.imageAt src.toNat slot.toNat addr.toNat = some x) :
    exec (.snapLoad h src slot addr) s = .next ((((s.pended h 0x0803).restore x).onZheda fun z => { z with
      loaded := true, snapIn := some x, current := some x }).final h 0x0803 .ok) := by
  obtain ⟨htakes, hchecks⟩ := accepts_spec rfl ha
  change Host.Outcome.next (snapLoadEffect h src.toNat slot.toNat addr.toNat s) = _
  dsimp only [snapLoadEffect]
  rw [State.packet_accepts htakes hchecks]
  simp only [hx]
  rfl

/-- Settles O24. -/
theorem snapshotCommandsAct : Obligations.SnapshotCommandsAct := by
  refine ⟨fun h s ha => (exec_of_accepts rfl rfl ha).trans rfl, fun h q s ha hrun hq => ?_, fun h s ha hrun => ?_,
    fun h dest slot addr s ha => (exec_of_accepts rfl rfl ha).trans rfl, fun h src slot addr x s => exec_snapLoad_of_accepts⟩
  · rw [exec_snapResume_of_accepts ha, if_pos hrun, hq]
  · rw [exec_snapResume_of_accepts ha, if_neg hrun]

/-! ### The system -/

theorem exec_cascMemberRemove_of_accepts {p : Byte} (ha : accepts (.cascMemberRemove h p) s = true) :
    exec (.cascMemberRemove h p) s = .next (((s.taken h).onCasc fun c =>
      if (Tbl.get ({} : Member) c.members p.toNat).state == .joining then { c with
        members := Tbl.upd {} c.members p.toNat fun m => { m with state := .removed, synced := false, snapAt := none } }
      else { c with removals := c.removals ++ [p.toNat] }).final h 0x0B01 .ok) :=
  (exec_of_accepts rfl rfl ha).trans rfl

theorem exec_cascMemberAdd_of_accepts {p : Byte} (ha : accepts (.cascMemberAdd h p) s = true) :
    exec (.cascMemberAdd h p) s = .next (((s.taken h).onCasc fun c => { c with
      members := Tbl.upd {} c.members p.toNat fun m =>
        if m.state == .inService || m.state == .joining then m
        else { m with state := .joining, synced := false, snapAt := none } }).final h 0x0B02 .ok) := by
  obtain ⟨htakes, hchecks⟩ := accepts_spec rfl ha
  change Host.Outcome.next (cascMemberAddEffect h p.toNat s) = _
  dsimp only [cascMemberAddEffect]
  rw [State.packet_accepts htakes hchecks]

theorem exec_pwrOpSet_of_accepts {p : Byte} {spare : Nat} (ha : accepts (.pwrOpSet h p) s = true)
    (hspare : s.clock.freeSpare = some spare) :
    exec (.pwrOpSet h p) s = .next (((s.taken h).onClock fun c => { c with
      change := some { target := p.toNat, raising := decide (arithMhz s.clock.op < arithMhz p.toNat), spare := spare }
      opTarget := p.toNat
      targetMv := if arithMhz s.clock.op < arithMhz p.toNat then opMillivolts p.toNat else c.targetMv }).final h 0x0C00
      .ok) := by
  have hop : (s.taken h).clock = s.clock := rfl
  rw [exec_of_accepts rfl rfl ha]
  simp only [hop, hspare, Option.getD_some, decide_eq_true_eq]

theorem exec_clkSpreadSet_of_accepts {depth rate : Byte} (ha : accepts (.clkSpreadSet h depth rate) s = true) :
    exec (.clkSpreadSet h depth rate) s = .next (((s.taken h).onClock fun c => { c with
      spreadWaiting := some (depth.toNat, rate.toNat) }).final h 0x0C01 .ok) := by
  obtain ⟨htakes, hchecks⟩ := accepts_spec rfl ha
  change Host.Outcome.next (clkSpreadSetEffect h depth.toNat rate.toNat s) = _
  dsimp only [clkSpreadSetEffect]
  rw [State.packet_accepts htakes hchecks]

/-- Settles O25. -/
theorem systemCommandsAct : Obligations.SystemCommandsAct := by
  refine ⟨fun h target inst kind tick arg s ha => (exec_of_accepts rfl rfl ha).trans rfl,
    fun h s ha => (exec_of_accepts rfl rfl ha).trans rfl, fun h p s ha => ⟨fun hjoin => ?_, fun hother => ?_⟩,
    fun h p s => exec_cascMemberAdd_of_accepts, fun h p spare s => exec_pwrOpSet_of_accepts,
    fun h depth rate s => exec_clkSpreadSet_of_accepts⟩
  · rw [exec_cascMemberRemove_of_accepts ha]
    have hjoin' : (Tbl.get ({} : Member) (s.taken h).casc.members p.toNat).state = .joining := hjoin
    simp only [State.onCasc, hjoin', beq_self_eq_true, if_true]
  · rw [exec_cascMemberRemove_of_accepts ha]
    have hother' : ((Tbl.get ({} : Member) (s.taken h).casc.members p.toNat).state == .joining) = false :=
      beq_eq_false_iff_ne.mpr hother
    simp only [State.onCasc, hother', Bool.false_eq_true, if_false]

/-! ### Security -/

theorem exec_secAttest_of_accepts {nonce : List Byte} {raddr : Dword} {nvmOk : Bool}
    (ha : accepts (.secAttest h nonce raddr nvmOk) s = true) :
    exec (.secAttest h nonce raddr nvmOk) s = .next (match (s.taken h).reserve nvmOk with
      | (none, u) => u.final h 0x0A00 .authFail
      | (some i, u) => (u.interim h 0x0A00 .pending).onSec fun p => { p with
          cmds := p.cmds ++ [⟨h, .attest nonce raddr.toNat, i⟩] }) := by
  obtain ⟨htakes, hchecks⟩ := accepts_spec rfl ha
  change Host.Outcome.next (secAttestEffect h nonce raddr.toNat nvmOk s) = _
  dsimp only [secAttestEffect]
  rw [State.packet_accepts htakes hchecks]
  rfl

theorem State.taken_ddrByte (a : Nat) : (s.taken h).ddrByte a = s.ddrByte a := by
  have hmem : (s.taken h).mem = s.mem := rfl
  have hbundle (n : Nat) : (s.taken h).bundleByte n = s.bundleByte n := rfl
  simp only [State.ddrByte, hmem, hbundle]

theorem exec_secFwUpdate_of_accepts {addr : Dword} {len : Word} (ha : accepts (.secFwUpdate h addr len) s = true) :
    exec (.secFwUpdate h addr len) s = .next ((s.pended h 0x0A02).takeImage
      ⟨h, .fwUpdate (FwImage.ofBytes (s.ddrBytes addr.toNat len.toNat)) false, 0⟩
      (FwImage.ofBytes (s.ddrBytes addr.toNat len.toNat))) := by
  obtain ⟨htakes, hchecks⟩ := accepts_spec rfl ha
  have hbytes : (s.taken h).ddrBytes addr.toNat len.toNat = s.ddrBytes addr.toNat len.toNat := by
    simp only [State.ddrBytes, State.taken_ddrByte]
  change Host.Outcome.next (secFwUpdateEffect h addr.toNat len.toNat s) = _
  dsimp only [secFwUpdateEffect]
  rw [State.packet_accepts htakes hchecks, hbytes]
  rfl

theorem exec_secLifecycle_of_accepts {target : Byte} {token : List Byte}
    (ha : accepts (.secLifecycle h target token) s = true) :
    exec (.secLifecycle h target token) s = .next ((((s.pended h 0x0A01).endSec).onSec fun p => { p with
      nvm := p.nvm.transition target.toNat token, cmds := [⟨h, .lifecycle target.toNat, 0⟩] }).wipeSecure.freshNonce) := by
  obtain ⟨htakes, hchecks⟩ := accepts_spec rfl ha
  change Host.Outcome.next (secLifecycleEffect h target.toNat token s) = _
  dsimp only [secLifecycleEffect]
  rw [if_pos htakes, State.packet_accepts htakes hchecks]
  rfl

/-- Settles O26. -/
theorem securityCommandsAct : Obligations.SecurityCommandsAct := by
  refine ⟨fun h nonce raddr nvmOk i u s ha hres => ?_, fun h nonce raddr nvmOk u s ha hres => ?_,
    fun h target token s => exec_secLifecycle_of_accepts, fun h addr len s => exec_secFwUpdate_of_accepts⟩
  · rw [exec_secAttest_of_accepts ha, hres]
  · rw [exec_secAttest_of_accepts ha, hres]

end

end Sys2Proof.Machine
end

section
/-!
## Starting a long operation: the refusal of the 65th

WAVEFRONT_FULL has two refusals by state: ST_DOMAIN_OFF without a Cornflower server, and ST_BUSY with every handle in use.
The model answers the first of them where both hold, so "with every handle in use the answer is ST_BUSY" fails.
-/

namespace Sys2Proof.Machine

/-- Context 0 live, operating point 3 (no Cornflower server), and a long operation in every one of the 64 slots. The reply
mailbox of path 96 is full, so that a completion is held as it is. -/
def longsFullNoCornflower : State :=
  ((((State.reset.onClock fun c => { c with op := 3, holds := ⟨false, false, false, false⟩ }).setCtx 0 { state := .idle }).onCmd
    fun c => { c with longs := (List.range 64).map fun n =>
      (n, { handle := n, hdr := { ring := 96 }, opcode := 0x0714, work := .wavefront }) })).setMbox 36 { full := true }

/-- The statuses of the completions that wait for mailbox 36. -/
def State.heldStatuses (s : State) : List Status := (Tbl.get [] s.cmd.mbHeld 36).map (·.status)

/-- The header of a packet from Primrose's first path, for context 0. -/
def primroseHdr : Hdr := { ring := 96 }

/-- The request of WAVEFRONT_FULL in that state. -/
def wavefrontRequest : Request := longAsk longsFullNoCornflower primroseHdr 0x0711
  { param := longsFullNoCornflower.ctxLive primroseHdr,
    state := if (longsFullNoCornflower.servers .cfl).isEmpty then some .domainOff
      else if (longsFullNoCornflower.ctx primroseHdr.ctx).slot.isSome then none else some .busy }

theorem request_wavefrontFull_longsFull :
    request (.wavefrontFull primroseHdr) longsFullNoCornflower = some wavefrontRequest :=
  rfl

theorem wavefrontRequest_refusal : wavefrontRequest.refusal longsFullNoCornflower = some .domainOff := by
  decide +kernel

/-- The answers ST_DOMAIN_OFF and ST_BUSY leave different states. -/
theorem answered_domainOff_ne_busy :
    longsFullNoCornflower.answered primroseHdr 0x0711 .domainOff ≠ longsFullNoCornflower.answered primroseHdr 0x0711 .busy := by
  intro heq
  have hne : (longsFullNoCornflower.answered primroseHdr 0x0711 .domainOff).heldStatuses ≠
      (longsFullNoCornflower.answered primroseHdr 0x0711 .busy).heldStatuses := by decide +kernel
  exact hne (congrArg State.heldStatuses heq)

/-- Refutes O23: with every handle in use and no Cornflower server, WAVEFRONT_FULL answers ST_DOMAIN_OFF, not ST_BUSY. -/
theorem not_longOperationsStart : ¬ Obligations.LongOperationsStart := by
  rintro ⟨-, -, -, -, -, -, -, -, hbusy⟩
  have htakes : longsFullNoCornflower.takes primroseHdr = true := by decide +kernel
  have hanswer := failedCheckAnswersItsStatus (.wavefrontFull primroseHdr) longsFullNoCornflower wavefrontRequest .domainOff
    request_wavefrontFull_longsFull htakes wavefrontRequest_refusal
  have hbusy' := hbusy (.wavefrontFull primroseHdr) longsFullNoCornflower wavefrontRequest request_wavefrontFull_longsFull
    rfl htakes (by decide +kernel) (by decide +kernel) rfl (by decide +kernel)
  exact answered_domainOff_ne_busy (Host.Outcome.next.inj (hanswer.symm.trans hbusy'))

end Sys2Proof.Machine
end

section
/-!
## Tick edges (01 R11 to R16)

The number, the edge and the source of a tick are written at its edge by `TickSt.count` and by nothing before or after it in
the edge: the lemmas `…_tickMark` say so for the parts of an edge that change the tick part at all.
-/

namespace Sys2Proof.Machine

variable {s : State}

/-! ### What does not touch the number, the edge and the source -/

@[simp] theorem State.updProg_tickMark (f : TickProgress → TickProgress) :
    (s.updProg f).tick.num = s.tick.num ∧ (s.updProg f).tick.lastEdge = s.tick.lastEdge ∧
      (s.updProg f).tick.activeSrc = s.tick.activeSrc := ⟨rfl, rfl, rfl⟩

@[simp] theorem State.startBcast_tickMark :
    s.startBcast.tick.num = s.tick.num ∧ s.startBcast.tick.lastEdge = s.tick.lastEdge ∧
      s.startBcast.tick.activeSrc = s.tick.activeSrc := by
  have hfold (u : State) : ((List.range 72).foldl (fun s t => if s.receives t then
      s.updStore t fun f => { f with bcast := true, valid := false } else s) u).tick = u.tick :=
    foldl_proj _ _ _ _ fun x t => by split <;> simp
  unfold State.startBcast
  split
  · exact ⟨rfl, rfl, rfl⟩
  · simp only [hfold, State.updProg_tickMark, and_self]

@[simp] theorem State.reachAc_tickMark (ac : Nat) :
    (s.reachAc ac).tick.num = s.tick.num ∧ (s.reachAc ac).tick.lastEdge = s.tick.lastEdge ∧
      (s.reachAc ac).tick.activeSrc = s.tick.activeSrc := by
  dsimp only [State.reachAc]
  split <;> simp

@[simp] theorem State.truncate_tickMark (ac : Nat) :
    (s.truncate ac).tick.num = s.tick.num ∧ (s.truncate ac).tick.lastEdge = s.tick.lastEdge ∧
      (s.truncate ac).tick.activeSrc = s.tick.activeSrc := by
  dsimp only [State.truncate]
  split <;> simp

@[simp] theorem State.stopTick_tickMark (ac : Nat) :
    (s.stopTick ac).tick.num = s.tick.num ∧ (s.stopTick ac).tick.lastEdge = s.tick.lastEdge ∧
      (s.stopTick ac).tick.activeSrc = s.tick.activeSrc := by
  unfold State.stopTick
  split <;> simp

@[simp] theorem State.loadBundle_tickMark (old : Option Bundle) (x : BundleSlot) :
    (s.loadBundle old x).tick.num = s.tick.num ∧ (s.loadBundle old x).tick.lastEdge = s.tick.lastEdge ∧
      (s.loadBundle old x).tick.activeSrc = s.tick.activeSrc := ⟨rfl, rfl, rfl⟩

@[simp] theorem State.switchTo_tickMark (k : Nat) (x : BundleSlot) :
    (s.switchTo k x).tick.num = s.tick.num ∧ (s.switchTo k x).tick.lastEdge = s.tick.lastEdge ∧
      (s.switchTo k x).tick.activeSrc = s.tick.activeSrc := by
  simp [State.switchTo]

@[simp] theorem State.configEdge_tickMark (k : Nat) :
    (s.configEdge k).tick.num = s.tick.num ∧ (s.configEdge k).tick.lastEdge = s.tick.lastEdge ∧
      (s.configEdge k).tick.activeSrc = s.tick.activeSrc := by
  unfold State.configEdge
  split <;> simp

@[simp] theorem State.forceEdge_tickMark (k : Nat) :
    (s.forceEdge k).tick.num = s.tick.num ∧ (s.forceEdge k).tick.lastEdge = s.tick.lastEdge ∧
      (s.forceEdge k).tick.activeSrc = s.tick.activeSrc := by
  dsimp only [State.forceEdge]
  split <;> simp

@[simp] theorem State.rebudget_tickMark :
    s.rebudget.tick.num = s.tick.num ∧ s.rebudget.tick.lastEdge = s.tick.lastEdge ∧
      s.rebudget.tick.activeSrc = s.tick.activeSrc := by
  unfold State.rebudget
  split <;> exact ⟨rfl, rfl, rfl⟩

@[simp] theorem State.throttleEdge_tickMark :
    s.throttleEdge.tick.num = s.tick.num ∧ s.throttleEdge.tick.lastEdge = s.tick.lastEdge ∧
      s.throttleEdge.tick.activeSrc = s.tick.activeSrc := ⟨rfl, rfl, rfl⟩

@[simp] theorem State.planEdge_tickMark (k : Nat) :
    (s.planEdge k).tick.num = s.tick.num ∧ (s.planEdge k).tick.lastEdge = s.tick.lastEdge ∧
      (s.planEdge k).tick.activeSrc = s.tick.activeSrc := by
  simp [State.planEdge]

@[simp] theorem State.beginTick_tickMark (k : Nat) (p : TickProgress) :
    (s.beginTick k p).tick.num = s.tick.num ∧ (s.beginTick k p).tick.lastEdge = s.tick.lastEdge ∧
      (s.beginTick k p).tick.activeSrc = s.tick.activeSrc := by
  dsimp only [State.beginTick]
  split <;> simp

/-! ### The edge -/

/-- An accepted edge counts the tick on, at this instant and for this source. -/
theorem State.acceptEdge_tickMark (ac : Nat) (src : BitVec 2) :
    (s.acceptEdge ac src).tick.num.val = s.tick.num.val + 1 ∧ (s.acceptEdge ac src).tick.lastEdge = some s.now ∧
      (s.acceptEdge ac src).tick.activeSrc = src := by
  have hnum : BitVec.ofNat 64 (s.tickNo + 1) = s.tick.num.val + 1 := by
    simp [State.tickNo, BitVec.ofNat_add]
  simp [State.acceptEdge, TickSt.count, hnum]

theorem State.edge_of_live (ac : Nat) (src : BitVec 2) (hlive : s.zheda.run = .live) :
    s.edge ac src = s.acceptEdge ac src := by
  simp only [State.edge, hlive]

/-- Settles O30. -/
theorem edgeNumbersTheTick : Obligations.EdgeNumbersTheTick := by
  intro s ac src hlive
  rw [State.edge_of_live ac src hlive]
  exact State.acceptEdge_tickMark ac src

/-! ### The sources -/

variable {e : Edge}

theorem internalTickEdgeEffect_of_source (hrun : s.edgesRun = true) (hsrc : s.tick.src = 0) :
    internalTickEdgeEffect e s = (s.advance e.time).edge e.ac 0 := by
  simp [internalTickEdgeEffect, hrun, hsrc]

theorem ptpTickEdgeEffect_of_source (hrun : s.edgesRun = true) (hsrc : s.tick.src = 2)
    (hlate : s.tick.early e.time = false) : ptpTickEdgeEffect e s = (s.advance e.time).edge e.ac 2 := by
  simp [ptpTickEdgeEffect, hrun, hsrc, hlate]

theorem TickSt.since_of_lastEdge {t : TickSt} {prev : Nat} (hprev : t.lastEdge = some prev) (now : Nat) :
    t.since now = some (now - prev) := by
  simp [TickSt.since, hprev]

/-- Further edges of holdover come a period apart. -/
theorem holdoverEdgeEffect_of_holdover {prev : Nat} (hrun : s.edgesRun = true) (hsrc : s.tick.src = 1)
    (hprev : s.tick.lastEdge = some prev) (hhold : s.tick.holdover = true)
    (hperiod : s.tick.periodUs * 1000 ≤ e.time - prev) :
    holdoverEdgeEffect e s = (s.advance e.time).edge e.ac 0 := by
  simp [holdoverEdgeEffect, hrun, hsrc, hhold, TickSt.since_of_lastEdge hprev, hperiod]

/-- Holdover begins 1.5 periods after the last accepted edge. -/
theorem holdoverEdgeEffect_enters {prev : Nat} (hrun : s.edgesRun = true) (hsrc : s.tick.src = 1)
    (hprev : s.tick.lastEdge = some prev) (hhold : s.tick.holdover = false)
    (hlost : 3 * s.tick.periodUs * 1000 ≤ 2 * (e.time - prev)) :
    holdoverEdgeEffect e s = ((s.advance e.time).onTick fun t => { t with
      holdover := true, tickInRun := 0, lostF := true }).edge e.ac 0 := by
  simp [holdoverEdgeEffect, hrun, hsrc, hhold, TickSt.since_of_lastEdge hprev, hlost]

/-- The fourth qualifying edge in a row ends holdover. -/
theorem tickInEdgeEffect_of_fourth (hrun : s.edgesRun = true) (hsrc : s.tick.src = 1) (hhold : s.tick.holdover = true)
    (hqual : s.tick.qualifies e.time = true) (hthree : s.tick.tickInRun = 3) (hac : s.tick.acE ≤ e.ac) :
    tickInEdgeEffect e s = ((s.advance e.time).onTick fun t => { t with
      tickInRun := 0, lastTickIn := some e.time, holdover := false }).edge e.ac 1 := by
  simp [tickInEdgeEffect, hrun, hsrc, hhold, hqual, hthree, hac]
  rfl

/-- Settles O31. -/
theorem otherEdgesAccepted : Obligations.OtherEdgesAccepted := by
  refine ⟨fun e s hrun hsrc => ?_, fun e s hrun hsrc hlate => ?_, fun e prev s hrun hsrc hprev hhold hperiod => ?_,
    fun e prev s hrun hsrc hprev hhold hlost => ?_, fun e s hrun hsrc hhold hqual hthree hac => ?_⟩
  · change Host.Outcome.next (internalTickEdgeEffect e s).serve = _
    rw [internalTickEdgeEffect_of_source hrun hsrc]
  · change Host.Outcome.next (ptpTickEdgeEffect e s).serve = _
    rw [ptpTickEdgeEffect_of_source hrun hsrc hlate]
  · change Host.Outcome.next (holdoverEdgeEffect e s).serve = _
    rw [holdoverEdgeEffect_of_holdover hrun hsrc hprev hhold hperiod]
  · change Host.Outcome.next (holdoverEdgeEffect e s).serve = _
    rw [holdoverEdgeEffect_enters hrun hsrc hprev hhold hlost]
  · change Host.Outcome.next (tickInEdgeEffect e s).serve = _
    rw [tickInEdgeEffect_of_fourth hrun hsrc hhold hqual hthree hac]

end Sys2Proof.Machine
end

section
/-!
## Commit checks and egress (09 R228 to R239, 17 R438)
-/

namespace Sys2Proof.Machine

variable {s : State}

/-- In a running tick an item acts. -/
theorem State.item_of_running {run : State → State} (hrun : s.running = true) : s.item run = run s :=
  if_pos hrun

/-- Settles O32. -/
theorem commitJobRecordsItsChecks : Obligations.CommitJobRecordsItsChecks := by
  intro slot rank f h t e s hrun hmember hdecided hslot hhand htile hentry hvalid hstale
  change Host.Outcome.next (commitCheckJobEffect slot rank s) = _
  simp only [commitCheckJobEffect, State.item_of_running hrun, hmember, hdecided, hslot, hhand, htile, hentry, hvalid,
    hstale, Bool.or_self, Bool.not_true, Bool.false_eq_true, if_false]

/-! ### Egress -/

theorem egressSelectEffect_of_decided {time : Nat} (hrun : s.running = true) (hdecided : s.tick.prog.decided = true)
    (hselected : s.commit.selected = false) :
    egressSelectEffect time s = s.commit.frames.foldl State.selectFrame
      ((((s.advance time).onCommit fun c => { c with selected := true }).updTrace fun t => { t with
        estopEgress := s.commit.estopLatch })) := by
  have hacts : ¬ (!(s.advance time).running || !(s.advance time).tick.prog.decided || (s.advance time).commit.selected) =
      true := by
    change ¬ (!s.running || !s.tick.prog.decided || s.commit.selected) = true
    simp [hrun, hdecided, hselected]
  dsimp only [egressSelectEffect]
  rw [if_neg hacts]
  rfl

/-- A copy of a frame that has gone out on the other port goes out under the same counter. -/
theorem trajFrameSentEffect_of_sent {n p : Nat} {q : QueuedFrame} {d : EthDest} {c : Half}
    (hframe : (s.commit.frames.find? fun q => q.slot == n) = some q) (hdest : s.host.destOf q.frame.ctx = some d)
    (hup : s.up = true) (hsends : s.sendsNow q p = true) (hcounter : q.counter = some c) (hsent : q.sent = true) :
    trajFrameSentEffect n p s = (s.updFrame n fun y => { y with
        sent := true, counter := some c, todo := y.todo.filter (· != p) }).onHost fun h => { h with
      wire := h.wire ++ wireFrames p d (chunks (s.host.partSize d) q.frame.bytes.length q.frame.bytes)
        q.frame.bytes.length q.frame.ctx c.toNat s.txInstant
      ports := modAt (fun x => { x with
        txCnt := x.txCnt.add (chunks (s.host.partSize d) q.frame.bytes.length q.frame.bytes).length }) h.ports p
      egress := Tbl.upd { ctx := 0, payload := [], time := 0, counter := none } h.egress n fun x => { x with
        counter := some c } } := by
  simp only [trajFrameSentEffect, hframe, hdest, hup, hsends, hcounter, hsent, Bool.not_true, Bool.or_self,
    Bool.false_eq_true, if_false]

/-- Settles O34. -/
theorem egressWindow : Obligations.EgressWindow := by
  refine ⟨fun time s hrun hdecided hselected => ?_, fun port time s => rfl, fun port s => ⟨_, rfl, rfl, rfl, rfl⟩,
    fun slot port q d c s hframe hdest hup hsends hcounter hsent => ?_⟩
  · change Host.Outcome.next (egressSelectEffect time s) = _
    rw [egressSelectEffect_of_decided hrun hdecided hselected]
  · change Host.Outcome.next (trajFrameSentEffect slot port s) = _
    rw [trajFrameSentEffect_of_sent hframe hdest hup hsends hcounter hsent]

end Sys2Proof.Machine
end

section
/-!
## Context load, collision phase and roster tags (04 R115, 05 R160 to R163, 14 R354)
-/

namespace Sys2Proof.Machine

variable {s : State}

/-! ### What the end of the collision phase leaves -/

@[simp] theorem State.tileUncorrectable_records (t n : Nat) :
    (s.tileUncorrectable t n).harebell.live = s.harebell.live ∧
      (s.tileUncorrectable t n).harebell.golden = s.harebell.golden := by
  unfold State.tileUncorrectable
  split <;> simp

@[simp] theorem State.tileCorrected_records (t n : Nat) :
    (s.tileCorrected t n).harebell.live = s.harebell.live ∧
      (s.tileCorrected t n).harebell.golden = s.harebell.golden := by
  dsimp only [State.tileCorrected]
  split
  · exact ⟨rfl, rfl⟩
  · split
    · split <;> simp
    · simp

@[simp] theorem State.tileCounts_records (live : List Evald) (gold : List GoldRun) (t : Nat) :
    (s.tileCounts live gold t).harebell.live = s.harebell.live ∧
      (s.tileCounts live gold t).harebell.golden = s.harebell.golden := by
  dsimp only [State.tileCounts]
  split <;> simp

/-- The counts of the tiles leave the records of the phase. -/
theorem State.foldl_tileCounts_records (live : List Evald) (gold : List GoldRun) (l : List Nat) :
    (l.foldl (fun s t => s.tileCounts live gold t) s).harebell.live = s.harebell.live ∧
      (l.foldl (fun s t => s.tileCounts live gold t) s).harebell.golden = s.harebell.golden :=
  ⟨foldl_proj (fun s => s.harebell.live) _ _ _ fun _ _ => State.tileCounts_records _ _ _ |>.1,
    foldl_proj (fun s => s.harebell.golden) _ _ _ fun _ _ => State.tileCounts_records _ _ _ |>.2⟩

/-- The golden results of a phase: none without a golden set-up. -/
def State.goldResults (s : State) : List GoldenRes :=
  match s.goldSetup with
  | some g => ((s.goldSetup.map s.goldRuns).getD []).map (s.goldRes g)
  | none => []

theorem State.goldResults_of_none (h : s.goldSetup = none) : s.goldResults = [] := by
  simp only [State.goldResults, h]

/-- The collision phase writes the live records and the golden results; what follows them in the phase leaves them. -/
theorem collisionPhaseEffect_records (m : ItemFault) (flips : List (Nat × FsFlip)) (hrun : s.running = true) :
    (collisionPhaseEffect m flips s).harebell.live =
        ((s.fgFault m).flipStores flips).liveEvals.map ((s.fgFault m).flipStores flips).liveRec ∧
      (collisionPhaseEffect m flips s).harebell.golden = ((s.fgFault m).flipStores flips).goldResults := by
  rw [collisionPhaseEffect, State.item_of_running hrun]
  dsimp only
  generalize (s.fgFault m).flipStores flips = u
  simp only [State.foldl_tileCounts_records, State.goldResults]
  cases u.goldSetup with
  | none =>
    dsimp only
    constructor <;> (repeat' split) <;> simp
  | some g =>
    dsimp only
    constructor <;> (repeat' split) <;> simp

/-! ### The items -/

/-- In a running tick of a device that is no member, a context load without a memory error loads every slot. -/
theorem contextLoadEffect_of_running {m : ItemFault} (hrun : s.running = true) (hmember : s.casc.memberInService = false)
    (hue : m.uncorrectable = none) :
    contextLoadEffect m s = ((s.fgFault m).teasel.fg.foldl
      (fun s (e : Nat × FgSlot) => s.loadSlot e.1 e.2) (s.fgFault m)).updProg fun p => { p with loaded := true } := by
  have hmember' : (s.fgFault m).casc.memberInService = false := by simpa using hmember
  simp only [contextLoadEffect, State.item_of_running hrun, hmember', hue, Option.isSome_none, Bool.false_eq_true, if_false]

section
variable {t : Nat} {gen : Half}

theorem rosterTagRejectEffect_of_failed (hrole : (s.safety.tile t).role = .failed) :
    rosterTagRejectEffect t gen s =
      if (s.safety.tile t).ghostLogged then s.onSafety fun f => { f with ghostCnt := f.ghostCnt.incr, ghostF := true }
      else ((s.onSafety fun f => { f with ghostCnt := f.ghostCnt.incr, ghostF := true }).updTile t fun y =>
        { y with ghostLogged := true }).logFault 1 t 0x0104 0 := by
  simp only [rosterTagRejectEffect, hrole, if_true]

theorem rosterTagRejectEffect_of_matching (hrole : (s.safety.tile t).role ≠ .failed)
    (hgen : gen = (s.safety.rots.getD (t / 18) {}).gen) : rosterTagRejectEffect t gen s = s := by
  simp only [rosterTagRejectEffect, if_neg hrole, if_pos hgen]

/-- The stale tag of a tile counted, and the engine that the tile serves, if any, out of the tick. -/
def SafetySt.staleTag (f : SafetySt) (t : Nat) : SafetySt := { f with
  tagCnt := f.tagCnt.incr
  maskNow := match (f.tile t).serves with
    | some p => if 16 * (t / 18) + p ∈ f.maskNow then f.maskNow else f.maskNow ++ [16 * (t / 18) + p]
    | none => f.maskNow }

theorem SafetySt.mem_staleTag_maskNow {f : SafetySt} {p : Nat} (h : (f.tile t).serves = some p) :
    16 * (t / 18) + p ∈ (f.staleTag t).maskNow := by
  simp only [SafetySt.staleTag, h]
  split
  · assumption
  · simp

theorem rosterTagRejectEffect_of_stale (hrole : (s.safety.tile t).role ≠ .failed)
    (hgen : gen ≠ (s.safety.rots.getD (t / 18) {}).gen) :
    rosterTagRejectEffect t gen s = (s.onSafety fun f => f.staleTag t).tileFails t 0x0103 := by
  simp only [rosterTagRejectEffect, if_neg hrole, if_neg hgen]
  rfl

end

/-- Settles O35. -/
theorem tickItemsAct : Obligations.TickItemsAct := by
  refine ⟨fun m s hrun hmember hue => ?_, fun m flips s hrun => ⟨collisionPhaseEffect m flips s, rfl, ?_, fun hnone => ?_⟩,
    fun tile gen s => ⟨fun hrole hlogged => ?_, fun hrole hlogged => ?_, fun hrole hgen => ?_, fun hrole hgen =>
      ⟨s.onSafety fun f => f.staleTag tile, ?_, rfl, fun p => SafetySt.mem_staleTag_maskNow⟩⟩⟩
  · change Host.Outcome.next (contextLoadEffect m s) = _
    rw [contextLoadEffect_of_running hrun hmember hue]
  · exact (collisionPhaseEffect_records m flips hrun).1
  · rw [(collisionPhaseEffect_records m flips hrun).2, State.goldResults_of_none hnone]
  · change Host.Outcome.next (rosterTagRejectEffect tile gen s) = _
    rw [rosterTagRejectEffect_of_failed hrole, if_pos hlogged]
  · change Host.Outcome.next (rosterTagRejectEffect tile gen s) = _
    rw [rosterTagRejectEffect_of_failed hrole, if_neg (by simp [hlogged])]
  · change Host.Outcome.next (rosterTagRejectEffect tile gen s) = _
    rw [rosterTagRejectEffect_of_matching hrole hgen]
  · change Host.Outcome.next (rosterTagRejectEffect tile gen s) = _
    rw [rosterTagRejectEffect_of_stale hrole hgen]

end Sys2Proof.Machine
end

section
/-!
## The selection stage (07 R186 to R196, 14 R349, 03 R102, R103, 19 R477)
-/

namespace Sys2Proof.Machine

variable {s : State}

/-! ### What the parts leave -/

@[simp] theorem State.logFault_masks (cls inst code sev : Nat) (inj : Bool) :
    (s.logFault cls inst code sev inj).safety.exclMask = s.safety.exclMask ∧
      (s.logFault cls inst code sev inj).safety.maskNow = s.safety.maskNow := by
  simp [State.logFault, State.logEntry]

/-- An access that met nothing in the memories leaves nothing. -/
@[simp] theorem State.fgFault_clean : s.fgFault {} = s := rfl

@[simp] theorem State.popSlot_updPopSlot_same (n : Nat) (f : PopSlot → PopSlot) :
    (s.updPopSlot n f).popSlot n = f (s.popSlot n) := by
  simp [State.popSlot, State.updPopSlot]

/-! ### The items -/

/-- Cluster selection selects every planned slot from a state whose mask is final and whose length is that of the selection. -/
theorem clusterSelectionEffect_of_running {m : ItemFault} (hrun : s.running = true) (hue : m.uncorrectable = none) :
    ∃ u : State, clusterSelectionEffect m s = u.planSlots.foldl (fun s (e : Nat × FgSlot) => s.selectSlot e.1 e.2) u ∧
      u.safety.exclMask = (s.fgFault m).safety.maskNow ∧ u.poppy.lenSel = u.selLen := by
  rw [clusterSelectionEffect, State.item_of_running hrun]
  dsimp only
  simp only [hue, Option.isSome_none, Bool.false_eq_true, if_false]
  refine ⟨_, rfl, ?_, rfl⟩
  simp only [State.onPoppy_safety]
  split <;> simp

theorem dieMergeEffect_of_running {m : ItemFault} {u : State} (hrun : s.running = true) (hue : m.uncorrectable = none)
    (hu : u = ((s.fgFault m).onCasc fun c => { c with ownResults := [] }).planSlots.foldl
      (fun s (e : Nat × FgSlot) => s.mergeSlot e.1 e.2) ((s.fgFault m).onCasc fun c => { c with ownResults := [] })) :
    dieMergeEffect m s = u.castMaster 5 (.result (u.planSlots.map fun (e : Nat × FgSlot) =>
      (e.1, Tbl.find? u.casc.ownResults e.1))) := by
  subst hu
  simp only [dieMergeEffect, State.item_of_running hrun, hue, Option.isSome_none, Bool.false_eq_true, if_false]

theorem cascadeMergeEffect_of_leads (hrun : s.running = true) (hleads : s.leads = true) :
    cascadeMergeEffect s = s.planSlots.foldl (fun s (e : Nat × FgSlot) => s.cascadeSlot e.1 e.2) s := by
  simp only [cascadeMergeEffect, State.item_of_running hrun, hleads, if_true]

/-- A critic item that completes keeps the scores of its slot. -/
theorem criticEffect_scores {n : Nat} {c : Critic} {f : FgSlot} {d : DieRes} (hrun : s.running = true)
    (hcritic : (s.bundle.bind (·.critic)) = some c) (hslot : s.fgSlot n = some f) (hmerged : (s.popSlot n).merged = some d)
    (harrays : s.astersRun = true) : ((criticEffect n {} s).popSlot n).scores = some (s.criticScores n f c d).1 := by
  simp [criticEffect, State.item_of_running hrun, hcritic, hslot, hmerged, harrays]

theorem reRankEffect_of_scores {n : Nat} {c : Critic} {d : DieRes} {sc : List Word} (hrun : s.running = true)
    (hcritic : (s.bundle.bind (·.critic)) = some c) (hmerged : (s.popSlot n).merged = some d)
    (hscores : (s.popSlot n).scores = some sc) :
    reRankEffect n s = (s.publish n (d.rerank (d.entries.zipIdx.map fun (e : PEntry × Nat) =>
      (criticKey c.shift e.1.cost (sc.getD e.2 0)).1))).updPopSlot n fun y => { y with merged := none, scores := none } := by
  simp only [reRankEffect, State.item_of_running hrun, hcritic, hmerged, hscores]

/-- Settles O37. -/
theorem selectionStageItems : Obligations.SelectionStageItems := by
  refine ⟨fun m s hrun hue => ?_, fun m s hrun hue => ⟨_, rfl, ?_⟩, fun s hrun hleads => ?_,
    fun slot c f d s hrun hcritic hslot hmerged harrays =>
      ⟨criticEffect slot {} s, rfl, criticEffect_scores hrun hcritic hslot hmerged harrays⟩,
    fun slot c d sc s hrun hcritic hmerged hscores => ?_⟩
  · obtain ⟨u, heff, hmask, hlen⟩ := clusterSelectionEffect_of_running hrun hue
    exact ⟨u, clusterSelectionEffect m s, rfl, heff, hmask, hlen⟩
  · change Host.Outcome.next (dieMergeEffect m s) = _
    rw [dieMergeEffect_of_running hrun hue rfl]
  · change Host.Outcome.next (cascadeMergeEffect s) = _
    rw [cascadeMergeEffect_of_leads hrun hleads]
  · change Host.Outcome.next (reRankEffect slot s) = _
    rw [reRankEffect_of_scores hrun hcritic hmerged hscores]

end Sys2Proof.Machine
end

section
/-!
## Vetch, the proposal network and the hand-off (08 R205 to R225, 03 R100, R101)
-/

namespace Sys2Proof.Machine

variable {s : State}

/-! ### Lists -/

theorem modAt_length {α : Type} (f : α → α) (l : List α) (i : Nat) : (modAt f l i).length = l.length := by
  induction l generalizing i with
  | nil => rfl
  | cons x xs ih => cases i <;> simp [modAt, ih]

/-- A change that leaves what a search tests leaves what it finds. -/
theorem firstIx_modAt {α : Type} (p : α → Bool) (f : α → α) (hf : ∀ x, p (f x) = p x) (l : List α) (i : Nat) :
    firstIx p (modAt f l i) = firstIx p l := by
  induction l generalizing i with
  | nil => rfl
  | cons x xs ih => cases i <;> simp [modAt, firstIx, hf, ih]

/-! ### What the parts of the items do to their slot -/

@[simp] theorem State.vetSlot_updVetSlot_same (n : Nat) (f : VetSlot → VetSlot) :
    (s.updVetSlot n f).vetSlot n = f (s.vetSlot n) := by
  simp [State.vetSlot, State.updVetSlot]

@[simp] theorem State.vetSlot_fgFault (n : Nat) (m : ItemFault) : (s.fgFault m).vetSlot n = s.vetSlot n := by
  simp [State.vetSlot]

@[simp] theorem State.vetLen_fgFault (n : Nat) (f : FgSlot) (m : ItemFault) :
    (s.fgFault m).vetLen n f = s.vetLen n f := by
  simp [State.vetLen, State.entryOf, State.bundle]

/-- The choice between another iteration and the stop item changes the phase alone. -/
theorem State.vetNext_slot (n : Nat) (f : FgSlot) : ∃ p : VetPhase, (s.vetNext n f).vetSlot n = { s.vetSlot n with phase := p } :=
  ⟨_, State.vetSlot_updVetSlot_same _ _⟩

theorem State.vetNext_phase_of_none {n : Nat} (f : FgSlot) (h : (s.vetSlot n).refRank = none) :
    ((s.vetNext n f).vetSlot n).phase = .stopping := by
  simp [State.vetNext, h]

/-- The work of a slot after its feasibility check: the eight entries, the first feasible one with its cost. -/
def State.feasWork (s : State) (f : FgSlot) (es : List HEntry) : List HEntry :=
  match firstIx HEntry.dynOk es with
  | some i => modAt (s.vetCost0 f) es i
  | none => es

theorem State.feasWork_length (f : FgSlot) (es : List HEntry) : (s.feasWork f es).length = es.length := by
  unfold State.feasWork
  split
  · exact modAt_length _ _ _
  · rfl

theorem State.firstIx_feasWork (f : FgSlot) (es : List HEntry) :
    firstIx HEntry.dynOk (s.feasWork f es) = firstIx HEntry.dynOk es := by
  unfold State.feasWork
  split
  · exact firstIx_modAt _ (s.vetCost0 f) (fun _ => rfl) _ _
  · rfl

/-! ### The items -/

section
variable {n : Nat} {f : FgSlot} {m : ItemFault}

theorem vetchFeasibilityEffect_of_turn {d : DieRes} (hrun : s.running = true) (hfg : s.vetFg n = some f)
    (hidle : (s.vetSlot n).phase = .idle) (hturn : s.vetTurn n = true) (hue : m.uncorrectable = none)
    (hres : (s.fgFault m).fresh.2.vetResult n = some d) :
    ∃ (u : State) (es : List HEntry), es.length = 8 ∧ vetchFeasibilityEffect n m s = u.vetNext n f ∧
      (u.vetSlot n).work = (s.fgFault m).fresh.2.feasWork f es ∧ (u.vetSlot n).refRank = firstIx HEntry.dynOk es ∧
      (u.vetSlot n).itersTried = 0 := by
  rw [vetchFeasibilityEffect, State.item_of_running hrun]
  simp only [hfg, hidle, hturn, hue, hres, bne_self_eq_false, Bool.not_true, Bool.or_self, Bool.false_eq_true, if_false,
    Option.isSome_none]
  refine ⟨_, (List.range 8).map ((s.fgFault m).fresh.2.vetEntry n f d ((s.fgFault m).fresh.1.setWidth 32)), by simp, rfl,
    ?_, ?_, ?_⟩ <;> rw [State.vetSlot_updVetSlot_same]
  rfl

@[simp] theorem VetchSt.pivots_slots (v : VetchSt) (k : Nat) : (v.pivots k).slots = v.slots := by
  unfold VetchSt.pivots
  split <;> rfl

/-- An iteration writes one entry and the counts of its slot; what it finds decides the phase alone. -/
theorem State.vetIterate_slot (r : Nat) (e : HEntry) : ∃ (e' : HEntry) (p : VetPhase),
    (s.vetIterate n f r e).vetSlot n = { s.vetSlot n with
      work := (s.vetSlot n).work.set r e'
      itersTried := (s.vetSlot n).itersTried + 1
      nextAc := (s.vetSlot n).nextAc + (s.vetLen n f).lIt
      phase := p } := by
  dsimp only [State.vetIterate]
  split
  · split
    · exact ⟨_, .stopping, by rw [State.vetSlot_updVetSlot_same, State.vetSlot_updVetSlot_same]; simp [State.vetSlot]; rfl⟩
    · obtain ⟨p, hp⟩ := State.vetNext_slot (s := _) n f
      exact ⟨_, p, by rw [hp, State.vetSlot_updVetSlot_same]; simp [State.vetSlot]; rfl⟩
  · exact ⟨_, .stopping, by rw [State.vetSlot_updVetSlot_same, State.vetSlot_updVetSlot_same]; simp [State.vetSlot]; rfl⟩
  · exact ⟨_, .stopping, by rw [State.vetSlot_updVetSlot_same, State.vetSlot_updVetSlot_same]; simp [State.vetSlot]; rfl⟩

theorem vetchIterationEffect_of_refining {r : Nat} {e : HEntry} (hrun : s.running = true) (hfg : s.vetFg n = some f)
    (hphase : (s.vetSlot n).phase = .refining) (hrank : (s.vetSlot n).refRank = some r)
    (hentry : (s.vetSlot n).work[r]? = some e) (hue : m.uncorrectable = none) :
    vetchIterationEffect n m s = (s.fgFault m).vetIterate n f r e := by
  simp [vetchIterationEffect, State.item_of_running hrun, hfg, hphase, hrank, hentry, hue]

theorem vetchStopEffect_slot (hrun : s.running = true) (hfg : s.vetFg n = some f)
    (hphase : (s.vetSlot n).phase = .stopping) (hue : m.uncorrectable = none) :
    ((vetchStopEffect n m s).vetSlot n).phase = .done ∧
      ((vetchStopEffect n m s).vetSlot n).work = (s.vetSlot n).work.map ((s.fgFault m).vetStopEntry f) := by
  simp [vetchStopEffect, State.item_of_running hrun, hfg, hphase, hue]

theorem vetchWindowCutEffect_of_marked (hrun : s.running = true) (hfg : (s.vetFg n).isSome = true)
    (hmarked : s.zheda.trace.nonrepro = true) :
    ((s.vetSlot n).phase = .refining → vetchWindowCutEffect n s = (s.onVetch VetchSt.cut).updVetSlot n fun v => { v with
        cutNow := v.itersTried + 1
        phase := .stopping }) ∧
      ((s.vetSlot n).phase = .stopping → vetchWindowCutEffect n s =
        (s.onVetch VetchSt.cut).updVetSlot n fun v => { v with phase := .cut }) := by
  have hmeets : ¬ ((s.vetFg n).isNone || !s.zheda.trace.nonrepro) = true := by
    simp [hmarked, Option.isSome_iff_ne_none.mp hfg]
  constructor <;> intro hphase <;>
    simp only [vetchWindowCutEffect, State.item_of_running hrun, if_neg hmeets, hphase]

/-- A proposal item that completes writes its context's buffer for the next tick. -/
theorem proposalNetworkEffect_mixes {g : Graph} (hrun : s.running = true) (hslot : s.fgSlot n = some f)
    (hnet : (s.entryOf f.model).proposal = some g) (hue : m.uncorrectable = none)
    (harrays : (s.fgFault m).astersRun = true) :
    Tbl.find? (proposalNetworkEffect n m s).aster.mixes (f.ctx * 2 + (s.tickNo + 1) % 2) = some { valid := true, data :=
      (g.eval { seed := f.seed, base := 0xA0100000, tick := s.tickNo }
        [(0, fp32Tensor (Config.features (Mem.reads f.rec' 0x800 256)
          (((s.stateNow f.ctx).map RobotState.words).getD [])))]).1.words } := by
  have hstate : (s.fgFault m).stateNow f.ctx = s.stateNow f.ctx := by simp [State.stateNow, State.input]
  have htick : (s.fgFault m).tickNo = s.tickNo := by simp [State.tickNo]
  simp [proposalNetworkEffect, State.item_of_running hrun, hslot, hnet, hue, harrays, Tbl.find?_put, hstate, htick]

end

/-! ### The hand-off -/

theorem handoffEffect_of_member {m : ItemFault} (hrun : s.running = true) (hfresh : s.tick.prog.handedOff = false)
    (hmember : s.casc.memberInService = true) :
    handoffEffect m s = (s.updProg fun p => { p with handedOff := true }).castMaster 6 s.memberStatus := by
  simp only [handoffEffect, State.item_of_running hrun, hfresh, hmember, Bool.false_eq_true, if_false, if_true]

theorem handoffEffect_of_planner {m : ItemFault} (hrun : s.running = true) (hfresh : s.tick.prog.handedOff = false)
    (hmember : s.casc.memberInService = false) :
    ∃ u : State, handoffEffect m s = (u.updProg fun p => { p with handedOff := true }).castAll 7 (.handoff u.handoffCopies) ∧
      u.tick = (s.fgFault m).tick := by
  simp only [handoffEffect, State.item_of_running hrun, hfresh, hmember, Bool.false_eq_true, if_false]
  exact ⟨_, rfl, by simp⟩

theorem handoffEffect_of_handedOff {m : ItemFault} (hdone : s.tick.prog.handedOff = true) : handoffEffect m s = s := by
  simp only [handoffEffect, State.item, hdone, if_true, ite_self]

/-- Settles O38. -/
theorem vetchItems : Obligations.VetchItems := by
  refine ⟨fun slot f d m s hrun hfg hidle hturn hue hres => ?_, fun slot f r e m s hrun hfg hphase hrank hentry hue => ?_,
    fun slot f m s hrun hfg hphase hue => ⟨vetchStopEffect slot m s, rfl, vetchStopEffect_slot hrun hfg hphase hue⟩,
    fun slot s hrun hfg hmarked => ?_,
    fun slot f g m s hrun hslot hnet hue harrays =>
      ⟨proposalNetworkEffect slot m s, rfl, proposalNetworkEffect_mixes hrun hslot hnet hue harrays⟩,
    fun m s hrun hfresh => ⟨fun hmember => ?_, fun hmember => ?_⟩, fun m s hdone => ?_⟩
  · obtain ⟨u, es, hlen, heff, hwork, hbest, htried⟩ := vetchFeasibilityEffect_of_turn hrun hfg hidle hturn hue hres
    obtain ⟨p, hp⟩ := u.vetNext_slot slot f
    refine ⟨u.vetNext slot f, congrArg Host.Outcome.next heff, ?_, ?_, ?_, fun hnone => ?_⟩
    · rw [hp, hwork, State.feasWork_length, hlen]
    · rw [hp, hwork, State.firstIx_feasWork, hbest]
    · rw [hp, htried]
    · rw [hp] at hnone
      exact State.vetNext_phase_of_none f hnone
  · obtain ⟨e', p, hslot⟩ := (s.fgFault m).vetIterate_slot (n := slot) (f := f) r e
    rw [State.vetSlot_fgFault, State.vetLen_fgFault] at hslot
    refine ⟨(s.fgFault m).vetIterate slot f r e, e',
      congrArg Host.Outcome.next (vetchIterationEffect_of_refining hrun hfg hphase hrank hentry hue), ?_, ?_, ?_⟩ <;>
      rw [hslot]
  · exact ⟨fun hphase => congrArg Host.Outcome.next ((vetchWindowCutEffect_of_marked hrun hfg hmarked).1 hphase),
      fun hphase => congrArg Host.Outcome.next ((vetchWindowCutEffect_of_marked hrun hfg hmarked).2 hphase)⟩
  · exact congrArg Host.Outcome.next (handoffEffect_of_member hrun hfresh hmember)
  · obtain ⟨u, heff, htick⟩ := handoffEffect_of_planner (m := m) hrun hfresh hmember
    exact ⟨u, congrArg Host.Outcome.next heff, htick⟩
  · exact congrArg Host.Outcome.next (handoffEffect_of_handedOff hdone)

end Sys2Proof.Machine
end

section
/-!
## Background slices, field tests, records and replay (11 R272 to R286, 14 R352 to R358, 10 R261 to R266)
-/

namespace Sys2Proof.Machine

variable {s : State}

/-! ### Background slices -/

section
variable {c : ServerClass} {server ac len n : Nat} {x : Choice}

/-- A free server in a device that runs background work gets the choice made after the items that the instant ends. -/
theorem backgroundDispatchEffect_of_free (hup : s.up = true) (hbg : s.teasel.bgEn = true) (hrun : s.zheda.run ≠ .replay)
    (hfree : s.serverFree c server = true) :
    backgroundDispatchEffect c server ac len s =
      State.dispatch (s.teasel.pool.length + 1) c server (ac + 4) len (s.reachAc ac) := by
  simp only [backgroundDispatchEffect, hup, hbg, hfree, bne_iff_ne.mpr hrun, Bool.and_self, if_true]

theorem backgroundDispatchEffect_of_busy (hbusy : s.serverFree c server = false) :
    backgroundDispatchEffect c server ac len s = s := by
  simp only [backgroundDispatchEffect, hbusy, Bool.and_false, Bool.false_eq_true, if_false]

theorem State.dispatch_of_none {fuel : Nat} (hbest : s.bestChoice c ac len = none) :
    State.dispatch (fuel + 1) c server ac len s = s := by
  simp only [State.dispatch, hbest]

theorem State.dispatch_of_long {fuel : Nat} {o : LongOp} (hbest : s.bestChoice c ac len = some x)
    (hwork : x.work = .long n) (hop : s.longAt n = some o) :
    State.dispatch (fuel + 1) c server ac len s = (s.onTeasel fun t => { t with
      running := t.running ++ [{ cls := c, server := server, work := .long n, start := ac, len := x.len }] }).sliceStarts n o := by
  simp only [State.dispatch, hbest, hwork, hop]

theorem State.dispatch_of_flow {fuel : Nat} {e : PoolEntry} (hbest : s.bestChoice c ac len = some x)
    (hwork : x.work = .flow n) (hentry : s.poolEntry n = some e) (hctx : (s.ctx (itemCtx e.bytes)).state ≠ .free) :
    State.dispatch (fuel + 1) c server ac len s = s.startItem c server ac x.len n e := by
  simp only [State.dispatch, hbest, hwork, hentry, beq_eq_false_iff_ne.mpr hctx, Bool.false_eq_true, if_false]

theorem flowItemCompleteEffect_of_flow {ue : Bool} {r : Running} (hr : s.runningOn c server = some r)
    (hwork : r.work = .flow n) : flowItemCompleteEffect c server ue s = s.itemDone r n ue := by
  simp only [flowItemCompleteEffect, hr, hwork]

end

/-- Settles O39. -/
theorem backgroundSlices : Obligations.BackgroundSlices := by
  refine ⟨fun c server ac len s hup hbg hrun hfree => ?_, fun c server ac len s hbusy => ?_,
    fun c server last ue errs r n s hr => ?_⟩
  · change (_ → Host.Outcome.next (backgroundDispatchEffect c server ac len s) = _) ∧
      (∀ x n o, _ → _ → _ → Host.Outcome.next (backgroundDispatchEffect c server ac len s) = _) ∧
      (∀ x n e, _ → _ → _ → _ → Host.Outcome.next (backgroundDispatchEffect c server ac len s) = _)
    rw [backgroundDispatchEffect_of_free hup hbg hrun hfree]
    exact ⟨fun hnone => congrArg _ (State.dispatch_of_none hnone),
      fun x n o hbest hwork hop => congrArg _ (State.dispatch_of_long hbest hwork hop),
      fun x n e hbest hwork hentry hctx => congrArg _ (State.dispatch_of_flow hbest hwork hentry hctx)⟩
  · exact congrArg Host.Outcome.next (backgroundDispatchEffect_of_busy hbusy)
  · have hexec : exec (.backgroundSliceEnd c server last ue errs) s =
        .next (backgroundSliceEndEffect c server last ue errs s).serve := rfl
    have hcomplete : exec (.flowItemComplete c server ue) s = .next (flowItemCompleteEffect c server ue s).serve := rfl
    rw [hexec, hcomplete]
    refine ⟨fun hwork hlast hue => ?_, fun hwork hend => ?_, fun hwork => ?_, fun hwork => ?_, fun hwork => ?_⟩
    · simp only [backgroundSliceEndEffect, hr, hwork, hlast, hue, Bool.or_self, Bool.false_eq_true, if_false]
    · simp only [backgroundSliceEndEffect, hr, hwork, hend, if_true]
    · simp only [backgroundSliceEndEffect, hr, hwork]
    · simp only [backgroundSliceEndEffect, hr, hwork]
    · rw [flowItemCompleteEffect_of_flow hr hwork]

/-! ### Field tests -/

theorem testSliceStartEffect_testing {u : TestUnit} {ac : Nat} (hup : s.up = true) (htest : s.testable u = true)
    (hbusy : s.unitBusy (testNum u) = false) (hfits : s.testFits (testNum u) ac = true) :
    (testSliceStartEffect u ac s).safety.testing =
      (s.reachAc ac).safety.testing ++ [⟨testNum u, ac, (testShape (testNum u)).1⟩] := by
  have hstarts : (s.up && s.testable u && !s.unitBusy (testNum u) && s.testFits (testNum u) ac) = true := by
    simp [hup, htest, hbusy, hfits]
  dsimp only [testSliceStartEffect]
  rw [if_pos hstarts]
  (repeat' split) <;> rfl

/-- The slice of a unit ended, before what its result changes. -/
def State.sliceOver (s : State) (u : TestUnit) : State :=
  s.onSafety fun f => { f with testing := f.testing.filter fun t => t.unit != testNum u }

section
variable {u : TestUnit} {r : TestResult}

/-- A slice that ran and that no injection fails: its own result decides. -/
theorem testSliceEndEffect_of_testing (hran : (s.safety.testing.any fun t => t.unit == testNum u) = true)
    (hinj : s.safety.failNext (s.testId (testNum u)).1 (s.testId (testNum u)).2 = none) :
    testSliceEndEffect u r s = match u with
      | .cov c => if r == .pass then (s.sliceOver u).covPasses c
        else (if c.val < 29 then (s.sliceOver u).wear (s.testId (testNum u)).1 (s.testId (testNum u)).2 fun l =>
            { l with testsFailed := l.testsFailed + 1 } else s.sliceOver u).covFails c
          (match r with | .failAster f => some f | _ => none) false
      | .tile t => (s.sliceOver u).tileSlice t (r == .pass) false
      | .vetSpare => (s.sliceOver u).vetSlice (r == .pass) false := by
  simp only [testSliceEndEffect, hran, hinj, Bool.not_true, Bool.false_eq_true, if_false, Option.isNone_none, Bool.and_true,
    Option.isSome_none, Bool.false_and]
  cases u <;> cases r <;> rfl

end

/-- The limit of a pass or a tile passed: the flag, and one log entry. -/
def State.coverageLate (s : State) (n : Nat) : State :=
  (s.onSafety fun f => { f with covF := true }).logFault (s.testId n).1 (s.testId n).2 0x0111 0

theorem coverageExceededEffect_of_cov {c : Fin 93} {k : Nat} (hstart : (Tbl.get {} s.safety.cov c).startTick = some k)
    (hlimit : s.safety.covUnit.toNat < s.tickNo - k) (hlate : (Tbl.get {} s.safety.cov c).late = false) :
    coverageExceededEffect (.cov c) s = (s.coverageLate c).onSafety fun f => { f with
      cov := Tbl.upd {} f.cov c fun x => { x with late := true } } := by
  simp only [coverageExceededEffect, testNum, hstart, hlimit, hlate, if_true, Bool.false_eq_true, if_false]
  rfl

theorem coverageExceededEffect_of_tile {n : Fin 72} (hrole : (s.safety.tile n).role ≠ .failed)
    (hlogged : (s.safety.tile n).covLogged = false)
    (hlimit : s.safety.covTile.toNat < s.tickNo - (s.safety.tile n).covTick) :
    coverageExceededEffect (.tile n) s = (s.coverageLate (100 + n)).updTile n fun y => { y with covLogged := true } := by
  simp only [coverageExceededEffect, testNum, bne_iff_ne.mpr hrole, hlogged, hlimit, decide_true, Bool.and_self, if_true,
    Bool.false_eq_true, if_false]
  rfl

/-- Settles O40. -/
theorem testSlices : Obligations.TestSlices := by
  refine ⟨fun u ac s hup htest hbusy hfits =>
      ⟨testSliceStartEffect u ac s, rfl, testSliceStartEffect_testing hup htest hbusy hfits⟩,
    fun u r s hran hinj => ?_, fun c k s hstart hlimit hlate => ?_, fun n s hrole hlogged hlimit => ?_⟩
  · have hexec : exec (.testSliceEnd u r) s = .next (testSliceEndEffect u r s).serve := rfl
    rw [hexec, testSliceEndEffect_of_testing hran hinj]
    refine ⟨fun c hu hpass => ?_, fun c hu hfail => ?_, fun t hu hr => ?_, fun hu hr => ?_⟩
    · subst hu hpass
      rfl
    · subst hu hfail
      rfl
    · subst hu
      rfl
    · subst hu
      rfl
  · exact congrArg Host.Outcome.next (coverageExceededEffect_of_cov hstart hlimit hlate)
  · exact congrArg Host.Outcome.next (coverageExceededEffect_of_tile hrole hlogged hlimit)

/-! ### Records, checkpoints and replay -/

/-- Moving REACH leaves the rings, the checkpoints and what waits. -/
@[simp] theorem ZhedaSt.reachUpdate_rings (z : ZhedaSt) :
    z.reachUpdate.records = z.records ∧ z.reachUpdate.last = z.last ∧ z.reachUpdate.prevTrace = z.prevTrace ∧
      z.reachUpdate.ckpts = z.ckpts := by
  dsimp only [ZhedaSt.reachUpdate]
  split <;> exact ⟨rfl, rfl, rfl, rfl⟩

theorem zhedaRecordWriteEffect_lost {x : TickTrace} (hup : s.up = true) (hprev : s.zheda.prevTrace = some x) :
    zhedaRecordWriteEffect false s = s.onZheda ZhedaSt.gapped := by
  simp [zhedaRecordWriteEffect, hup, hprev]

theorem zhedaRecordWriteEffect_written {x : TickTrace} (hup : s.up = true) (hprev : s.zheda.prevTrace = some x) :
    (zhedaRecordWriteEffect true s).zheda.prevTrace = none ∧
      (zhedaRecordWriteEffect true s).zheda.last.val = BitVec.ofNat 64 x.tick ∧
      ∃ r ∈ (zhedaRecordWriteEffect true s).zheda.records, r.tick = x.tick ∧
        r.bytes = x.record s.zheda.records.getLast? s.zheda.fw s.ident.profile.toNat := by
  simp only [zhedaRecordWriteEffect, hup, hprev, Bool.not_true, Bool.false_eq_true, if_false]
  refine ⟨?_, ?_, ?_⟩ <;> split <;> simp [State.putJournal, State.putRecord]

theorem checkpointCaptureEffect_abandoned {x : Capture} (hup : s.up = true) (hcapture : s.zheda.capture = some x) :
    checkpointCaptureEffect false s = s.onZheda ZhedaSt.abandon := by
  simp [checkpointCaptureEffect, hup, hcapture]

theorem checkpointCaptureEffect_taken {x : Capture} (hup : s.up = true) (hcapture : s.zheda.capture = some x) :
    (checkpointCaptureEffect true s).zheda.capture = none ∧ (checkpointCaptureEffect true s).zheda.ckptDone = true ∧
      Tbl.find? (checkpointCaptureEffect true s).zheda.ckpts s.zheda.oldestSlot = some x.snap := by
  simp [checkpointCaptureEffect, hup, hcapture, State.putCkpt, State.updTrace, Tbl.find?_put]

/-- Where the replay is due a step. -/
theorem replay_due (hup : s.up = true) (hrun : s.zheda.run = .replay) : (!s.up || s.zheda.run != .replay) = false := by
  simp [hup, hrun]

/-- Settles O41. -/
theorem traceItems : Obligations.TraceItems := by
  refine ⟨fun x s hup hprev => ⟨?_, zhedaRecordWriteEffect true s, rfl, zhedaRecordWriteEffect_written hup hprev⟩,
    fun x s hup hcapture => ⟨?_, checkpointCaptureEffect true s, rfl, checkpointCaptureEffect_taken hup hcapture⟩,
    fun n o j s hop hup hrun => ?_, fun n s hbusy hbcast => ?_, fun j s hsaving => ?_⟩
  · exact congrArg Host.Outcome.next (zhedaRecordWriteEffect_lost hup hprev)
  · exact congrArg Host.Outcome.next (checkpointCaptureEffect_abandoned hup hcapture)
  · have hexec : exec .replayStep s = .next (replayStepEffect s).serve := rfl
    have hdue := replay_due hup hrun
    rw [hexec]
    refine ⟨fun hnone => ?_, fun r es hinput => ⟨fun hdiffer => ?_, fun x b c hmatch hx hc hb hnext => ?_⟩⟩
    · simp only [replayStepEffect, hop, hdue, hnone, Bool.false_eq_true, if_false]
    · simp only [replayStepEffect, hop, hdue, hinput, hdiffer, Bool.false_eq_true, if_false, Bool.not_false, if_true]
    · subst hx
      simp only [replayStepEffect, hop, hdue, hinput, hmatch, hc, hb, hnext, Bool.not_true, Bool.false_eq_true, if_false]
  · change Host.Outcome.next (peekCompleteEffect n s) = _
    rw [peekCompleteEffect, if_pos (by simp [hbusy, hbcast])]
  · have hexec : exec .snapSaveDone s = .next (snapSaveDoneEffect s).serve := rfl
    rw [hexec]
    refine ⟨fun n hslot => ?_, fun hslot => ?_⟩ <;> simp only [snapSaveDoneEffect, hsaving, hslot]

end Sys2Proof.Machine
end

section
/-!
## The E-stop pin and the network (09 R242 to R244, 17 R432 to R442)
-/

namespace Sys2Proof.Machine

variable {s : State} {time : Nat}

/-! ### The E-stop pin -/

theorem estopActiveEffect_of_inactive (hpor : s.clock.holds.por = false) (hpin : s.commit.estopActive = false) :
    estopActiveEffect time s = (s.advance time).onCommit fun c => { c with
      estopActive := true
      lastLow := max s.now time
      estopLatch := true
      estopSeen := true
      estopCnt := c.estopCnt.incr
      rearm := false } := by
  dsimp only [estopActiveEffect]
  rw [if_neg (by simp [hpor])]
  simp [State.onCommit, hpin, State.advance]

theorem estopActiveEffect_of_active (hpor : s.clock.holds.por = false) (hpin : s.commit.estopActive = true) :
    estopActiveEffect time s = (s.advance time).onCommit fun c => { c with lastLow := max s.now time } := by
  have hpin' : (s.advance time).commit.estopActive = true := hpin
  dsimp only [estopActiveEffect]
  rw [if_neg (by simp [hpor])]
  simp only [State.onCommit, hpin', Bool.not_true, Bool.or_false, if_true, Bool.and_true]
  rw [← hpin']
  rfl

/-- Settles O42. -/
theorem estopPinLatchesAtOnce : Obligations.EstopPinLatchesAtOnce := by
  refine ⟨fun time s hpor hpin => ?_, fun time s hpor hpin => ?_, fun time s hpin => ?_, fun time s hpin hhigh => ?_⟩
  · exact congrArg Host.Outcome.next (estopActiveEffect_of_inactive hpor hpin)
  · exact congrArg Host.Outcome.next (estopActiveEffect_of_active hpor hpin)
  · have hpin' : (s.advance time).commit.estopActive = true := hpin
    change Host.Outcome.next (estopInactiveEffect time s) = _
    dsimp only [estopInactiveEffect]
    rw [if_pos hpin']
    rfl
  · change Host.Outcome.next (estopRearmReadyEffect time s) = _
    rw [estopRearmReadyEffect, if_neg (by simp [hpin, hhigh])]

/-! ### Synchronised time -/

section
variable {p : Nat} {offset : Int}

/-- A Sync that passes STEP_NS steps the timer by its offset, and synchronisation is lost. -/
theorem ptpSyncEffect_steps (hxtal : s.host.xtalOut = false) (hen : (s.host.ports.getD p {}).en = true)
    (hstep : s.host.stepNs.toNat < offset.natAbs) :
    ptpSyncEffect time p offset s = (((s.advance time).onHost fun h => { h with
      ptpOffset := offset
      slavePort := p == 1
      ptpBase := ((s.host.ptpAt (max s.now time) : Int) - offset).toNat
      ptpSince := max s.now time
      stepped := true }).loseSync) := by
  have hxtal' : (s.advance time).host.xtalOut = false := hxtal
  have hen' : ((s.advance time).host.ports.getD p {}).en = true := hen
  have hstep' : (s.advance time).host.stepNs.toNat < offset.natAbs := hstep
  dsimp only [ptpSyncEffect]
  rw [if_neg (by simp only [hxtal', hen']; decide), if_pos hstep']
  rfl

/-- The run of Syncs within LOCK_NS after one more. -/
def HostSt.goodRun (h : HostSt) (offset : Int) : Nat :=
  if offset.natAbs ≤ h.lockNs.toNat then min 4 (h.goodSyncs + 1) else 0

/-- A Sync within STEP_NS: what the servo takes, and the lock that the fourth good one in a row gives. -/
theorem ptpSyncEffect_follows (hxtal : s.host.xtalOut = false) (hen : (s.host.ports.getD p {}).en = true)
    (hstep : offset.natAbs ≤ s.host.stepNs.toNat) :
    ∃ u : State, u.host.ptpOffset = offset ∧ u.host.goodSyncs = s.host.goodRun offset ∧ u.host.gm = s.host.gm ∧
      ptpSyncEffect time p offset s =
        if s.host.goodRun offset = 4 && !(s.host.gm && !s.host.profileE2E && !s.host.gmOk) then u.gainSync else u := by
  have hxtal' : (s.advance time).host.xtalOut = false := hxtal
  have hen' : ((s.advance time).host.ports.getD p {}).en = true := hen
  have hstep' : ¬ (s.advance time).host.stepNs.toNat < offset.natAbs := Nat.not_lt.mpr hstep
  have hhost : (s.advance time).host = s.host := rfl
  have hgood : (if offset.natAbs ≤ s.host.lockNs.toNat then min 4 (s.host.goodSyncs + 1) else 0) = s.host.goodRun offset := rfl
  dsimp only [ptpSyncEffect, State.fresh]
  rw [if_neg (by simp only [hxtal', hen']; decide), if_neg hstep', hhost, hgood]
  refine ⟨_, ?_, ?_, ?_, rfl⟩ <;> rfl

end

theorem bestMasterEffect_eq (gm : Bool) :
    bestMasterEffect time gm s =
      if gm && !s.host.profileE2E then
        if s.host.gmOk && !s.host.xtalOut then ((s.advance time).onHost fun h => { h with gm := gm }).gainSync
        else ((s.advance time).onHost fun h => { h with gm := gm }).loseSync
      else (s.advance time).onHost fun h => { h with gm := gm } := rfl

/-! ### Frames -/

section
variable {p : Nat} {fcsOk room : Bool} {bs : List Byte}

/-- A frame of an enabled port that is no PTP message is counted; the filters, the room and Thistle decide what becomes of it. -/
theorem ethFrameRxEffect_of_enabled (hup : s.up = true) (hen : (s.host.ports.getD p {}).en = true)
    (hxtal : s.host.xtalOut = false) (hptp : (fcsOk && (ethParts bs).etherType == 0x88F7) = false)
    (hmember : s.casc.memberInService = false) :
    ethFrameRxEffect time p fcsOk bs room s =
      let u := (s.advance time).updPort p fun x => { x with rxCnt := x.rxCnt.incr }
      if !(s.host.ports.getD p {}).passes fcsOk bs then u.updPort p fun x => { x with rxDropCnt := x.rxDropCnt.incr }
      else if !room then (u.updPort p fun x => { x with rxOvfCnt := x.rxOvfCnt.incr }).onHost fun h => { h with rxOvf := true }
      else if (s.master 13).frozen then u
      else (u.receive (protectedIn bs)).1 := by
  have hup' : (s.advance time).up = true := hup
  have hen' : ((s.advance time).host.ports.getD p {}).en = true := hen
  have hxtal' : (s.advance time).host.xtalOut = false := hxtal
  have hmember' : ((s.advance time).updPort p fun x => { x with rxCnt := x.rxCnt.incr }).casc.memberInService = false := hmember
  dsimp only [ethFrameRxEffect]
  rw [if_neg (by simp only [hup', hen', hxtal']; decide), if_neg (by simp [hptp]), hmember', Bool.false_or]
  rfl

end

/-- Settles O43. -/
theorem networkEventsAct : Obligations.NetworkEventsAct := by
  refine ⟨fun time s => ⟨_, rfl, rfl, rfl, rfl, rfl, rfl⟩, fun time port offset s hxtal hen hstep => ?_,
    fun time port offset s hxtal hen hstep => ?_, fun time gm s => ⟨bestMasterEffect time gm s, rfl, ?_⟩,
    fun port los lock s => rfl, fun time port fcsOk room bs s hup hen hxtal hptp hmember => ?_⟩
  · refine ⟨_, congrArg Host.Outcome.next (ptpSyncEffect_steps hxtal hen hstep), rfl, rfl, rfl, rfl, rfl, ?_⟩
    exact (Int.toNat_eq_max _).trans (Int.max_comm _ _)
  · obtain ⟨u, hoffset, hgood, hgm, heff⟩ := ptpSyncEffect_follows (time := time) hxtal hen hstep
    refine ⟨_, congrArg Host.Outcome.next heff, ?_, ?_, fun hlock hthree hslave => ?_⟩
    · split <;> exact hoffset
    · split <;> exact hgood
    · have hfour : s.host.goodRun offset = 4 := by
        rw [HostSt.goodRun, if_pos hlock]
        omega
      rw [if_pos (by simp [hfour, hslave])]
      exact ⟨rfl, rfl⟩
  · rw [bestMasterEffect_eq]
    refine ⟨?_, fun hgm hprofile => ?_, fun hgm => ?_⟩
    · (repeat' split) <;> rfl
    · rw [if_pos (by simp [hgm, hprofile])]
      split
      · next hok => exact hok.symm
      · next hbad => exact (Bool.eq_false_iff.mpr hbad).symm
    · rw [if_neg (by simp [hgm])]
      rfl
  · have hexec : exec (.ethFrameRx time port fcsOk bs room) s = .next (ethFrameRxEffect time port fcsOk bs room s) := rfl
    dsimp only
    rw [hexec, ethFrameRxEffect_of_enabled hup hen hxtal hptp hmember]
    refine ⟨fun hdrop => ?_, fun hpass hroom => ?_, fun hpass hroom hfrozen => ?_⟩
    · simp only [hdrop, Bool.not_false, if_true]
    · simp only [hpass, hroom, Bool.not_true, Bool.not_false, Bool.false_eq_true, if_false, if_true]
    · simp only [hpass, hroom, hfrozen, Bool.not_true, Bool.false_eq_true, if_false]

end Sys2Proof.Machine
end

section
/-!
## Cascade ports (19 R465 to R472)
-/

namespace Sys2Proof.Machine

variable {s : State} {time : Nat}

/-! ### Frames on a trained port -/

@[simp] theorem CascadeSt.forward_position (c : CascadeSt) (port : Nat) (f : LinkFrame) :
    (c.forward port f).position = c.position := by
  dsimp only [CascadeSt.forward]
  split <;> rfl

/-- The state in which a frame of a port is looked at: its time come, its SEQ taken. -/
def State.seqTaken (s : State) (time port : Nat) (f : LinkFrame) : State :=
  (s.advance time).onCasc fun c => c.updPort port fun x => { x with rxSeq := some f.seq }

section
variable {port : Nat} {bs : List Byte}

/-- A frame on a trained port is forwarded first, where it goes on; a second master is seen on it, or it is taken, after that. -/
theorem ulbFrameRxEffect_of_trained (hup : s.up = true) (htrained : (s.casc.port port).trained = true) :
    ulbFrameRxEffect time port bs s =
      let f := linkFrameOf bs
      let v := if s.goesOn f then (s.seqTaken time port f).onCasc fun c => c.forward (1 - port) f else s.seqTaken time port f
      let w := if v.clock.cascRole && f.src == 0 && f.crcOk then v.twoMasters else v
      if !w.isTarget f || !w.takesType f then w
      else if (w.master 14).frozen && f.type != 1 && f.type != 9 then w
      else (w.takeFrame port (s.casc.port port).rxSeq f).serve := by
  have hup' : (s.advance time).up = true := hup
  have htrained' : ((s.advance time).casc.port port).trained = true := htrained
  dsimp only [ulbFrameRxEffect]
  rw [if_neg (by simp only [hup', htrained']; decide)]
  rfl

variable (hup : s.up = true) (htrained : (s.casc.port port).trained = true)
  (hsecond : (s.clock.cascRole && (linkFrameOf bs).src == 0 && (linkFrameOf bs).crcOk) = false)
include hup htrained hsecond

theorem ulbFrameRxEffect_of_goesOn (hgoes : s.goesOn (linkFrameOf bs) = true) (htarget : s.isTarget (linkFrameOf bs) = false) :
    ulbFrameRxEffect time port bs s =
      (s.seqTaken time port (linkFrameOf bs)).onCasc fun c => c.forward (1 - port) (linkFrameOf bs) := by
  have hsecond' : (((s.seqTaken time port (linkFrameOf bs)).onCasc fun c =>
      c.forward (1 - port) (linkFrameOf bs)).clock.cascRole && (linkFrameOf bs).src == 0 && (linkFrameOf bs).crcOk) = false :=
    hsecond
  have hforward : (((s.seqTaken time port (linkFrameOf bs)).onCasc fun c => c.forward (1 - port) (linkFrameOf bs)).isTarget
      (linkFrameOf bs)) = false := by
    rw [← htarget]
    simp only [State.isTarget, State.onCasc, CascadeSt.forward_position]
    rfl
  rw [ulbFrameRxEffect_of_trained hup htrained]
  dsimp only
  rw [if_pos hgoes, if_neg (Bool.eq_false_iff.mp hsecond'), hforward]
  rfl

theorem ulbFrameRxEffect_of_stays (hgoes : s.goesOn (linkFrameOf bs) = false) :
    ulbFrameRxEffect time port bs s =
      if !s.isTarget (linkFrameOf bs) || !s.takesType (linkFrameOf bs) then s.seqTaken time port (linkFrameOf bs)
      else if (s.master 14).frozen && (linkFrameOf bs).type != 1 && (linkFrameOf bs).type != 9 then
        s.seqTaken time port (linkFrameOf bs)
      else ((s.seqTaken time port (linkFrameOf bs)).takeFrame port (s.casc.port port).rxSeq (linkFrameOf bs)).serve := by
  have hsecond' : ((s.seqTaken time port (linkFrameOf bs)).clock.cascRole && (linkFrameOf bs).src == 0 &&
      (linkFrameOf bs).crcOk) = false := hsecond
  rw [ulbFrameRxEffect_of_trained hup htrained]
  dsimp only
  rw [if_neg (Bool.eq_false_iff.mp hgoes), if_neg (Bool.eq_false_iff.mp hsecond')]
  rfl

end

/-! ### Ports -/

/-- A second master leaves DUAL_MASTER set, and the ring as it is. -/
theorem State.twoMasters_dualMaster : s.twoMasters.casc.dualMaster = true := by
  unfold State.twoMasters
  split
  · assumption
  · simp

theorem State.found_dualMaster (port hops delay : Nat) : (s.found port hops delay).casc.dualMaster = s.casc.dualMaster := by
  unfold State.found
  split <;> rfl

theorem State.foldl_found_dualMaster (port : Nat) (l : List (Nat × Nat)) :
    (l.foldl (fun s (d : Nat × Nat) => s.found port (d.2 + 1) d.1) s).casc.dualMaster = s.casc.dualMaster :=
  foldl_proj (fun s => s.casc.dualMaster) _ _ _ fun _ _ => State.found_dualMaster _ _ _

/-- Routes of a ring leave it one. -/
theorem State.ringRoutes_of_ring (hring : s.casc.ring = true) :
    (if s.casc.ring then s.onCasc CascadeSt.ringRoutes else s).casc.ring = true := by
  rw [if_pos hring]
  exact hring

/-- A port trained at a device that is no master: its sequence starts anew. -/
theorem ulbPortTrainedEffect_of_member {port : Nat} {delays : List Nat} {ring second : Bool} (hup : s.up = true)
    (hxtal : s.clock.xtalFail = false) (hrole : s.clock.cascRole = false) :
    ulbPortTrainedEffect port delays ring second s = s.onCasc fun c => c.updPort port fun x => { x with
      trained := true
      laneLock := 0xF
      rxSeq := none
      txSeq := 0 } := by
  simp [ulbPortTrainedEffect, hup, hxtal, hrole]

/-- A port trained at the master: every device is told its position, with what the port has shown. -/
theorem ulbPortTrainedEffect_of_master {port : Nat} {delays : List Nat} {ring second : Bool} (hup : s.up = true)
    (hxtal : s.clock.xtalFail = false) (hrole : s.clock.cascRole = true) :
    ∃ u : State, ulbPortTrainedEffect port delays ring second s = u.tellPositions ∧
      (second = true → u.casc.dualMaster = true) ∧ (ring = true → u.casc.ring = true) := by
  have hrole' (g : CascadeSt → CascadeSt) : ¬ (!(s.onCasc g).clock.cascRole) = true := by simp [hrole]
  dsimp only [ulbPortTrainedEffect]
  rw [if_neg (by simp [hup, hxtal]), if_neg (hrole' _)]
  refine ⟨_, rfl, fun hsecond => ?_, fun hring => ?_⟩
  · subst hsecond
    rw [if_pos rfl]
    split <;> exact (State.foldl_found_dualMaster _ _).trans State.twoMasters_dualMaster
  · subst hring
    exact State.ringRoutes_of_ring (Bool.or_true _)

theorem cascTickTimeoutEffect_of_late {k : Nat} (hup : s.up = true) (hmember : s.casc.memberInService = true)
    (hlast : s.casc.lastTick = some k) (hlate : 3 * s.tick.periodUs * 1000 ≤ 2 * (max s.now time - k)) :
    cascTickTimeoutEffect time s = (((s.advance time).isolate).logFault 13 s.casc.position 0x0160 2).serve := by
  have hup' : (s.advance time).up = true := hup
  have hmember' : (s.advance time).casc.memberInService = true := hmember
  have hlast' : (s.advance time).casc.lastTick = some k := hlast
  have hlate' : 3 * (s.advance time).tick.periodUs * 1000 ≤ 2 * ((s.advance time).now - k) := hlate
  dsimp only [cascTickTimeoutEffect]
  rw [if_neg (by simp only [hup', hmember']; decide), hlast']
  dsimp only
  rw [if_pos (decide_eq_true hlate')]
  rfl

/-- Settles O44. -/
theorem cascadePortsAct : Obligations.CascadePortsAct := by
  refine ⟨fun time port bs s hup htrained => ?_, fun port delays ring second s hup hxtal hrole => ?_,
    fun port delays ring second s hup hxtal hrole => ?_, fun port lanes s hrole => ?_, fun port lanes s hrole => ?_,
    fun time k s hup hmember hlast hlate => ?_⟩
  · intro f v hsecond
    refine ⟨fun hgoes htarget => ?_, fun hgoes htarget htype hfrozen => ?_, fun hgoes htarget => ?_⟩
    · exact congrArg Host.Outcome.next (ulbFrameRxEffect_of_goesOn hup htrained hsecond hgoes htarget)
    · refine congrArg Host.Outcome.next ((ulbFrameRxEffect_of_stays hup htrained hsecond hgoes).trans ?_)
      have htarget' : s.isTarget (linkFrameOf bs) = true := htarget
      have htype' : s.takesType (linkFrameOf bs) = true := htype
      rw [if_neg (by simp [htarget', htype']), if_neg (by simp [hfrozen])]
      rfl
    · refine congrArg Host.Outcome.next ((ulbFrameRxEffect_of_stays hup htrained hsecond hgoes).trans ?_)
      have htarget' : s.isTarget (linkFrameOf bs) = false := htarget
      rw [if_pos (by simp [htarget'])]
      rfl
  · exact congrArg Host.Outcome.next (ulbPortTrainedEffect_of_member hup hxtal hrole)
  · obtain ⟨u, heff, hdual, hring⟩ := ulbPortTrainedEffect_of_master (port := port) (delays := delays) (ring := ring)
      (second := second) hup hxtal hrole
    exact ⟨u, congrArg Host.Outcome.next heff, hdual, hring⟩
  · change Host.Outcome.next (ulbPortDownEffect port lanes s) = _
    simp [ulbPortDownEffect, hrole]
  · change Host.Outcome.next (ulbPortDownEffect port lanes s) = _
    simp [ulbPortDownEffect, hrole]
    rfl
  · exact congrArg Host.Outcome.next (cascTickTimeoutEffect_of_late hup hmember hlast hlate)

end Sys2Proof.Machine
end

section
/-!
## Doorbells, ring pairs and mailboxes (12 R309 to R312, 13 R319)
-/

namespace Sys2Proof.Machine

variable {s : State} {who : Master}

/-- An access that reaches what it names is served (R360, R430). -/
theorem State.guarded_of_reaches (hreach : reaches s who = true) (addr : Nat) (write : Bool) (k : State → State) :
    s.guarded who addr write k = k s := by
  obtain ⟨hlink, hfree⟩ := (Bool.and_eq_true _ _).mp hreach
  have hlink' : (who == .host && !s.host.up) = false := by
    cases hhost : who == Master.host <;> simp_all [bne]
  unfold State.guarded
  rw [hlink', if_neg Bool.false_ne_true]
  cases hnum : who.num with
  | none => rfl
  | some m =>
    have hfrozen : (s.master m).frozen = false := by simpa [hnum] using hfree
    simp [hfrozen]

/-- A register access that reaches its register, within its windows, is served (R313, R360). -/
theorem State.regAccess_of_reaches {off : Nat} {write : Bool} (hreach : reaches s who = true)
    (hwindow : windowBreach who off write = none) (hok : s.regOk off = true) (k : State → State) :
    s.regAccess who off write k = k s := by
  unfold State.regAccess
  rw [State.guarded_of_reaches hreach, hwindow]
  simp only [hok, if_true]

/-! ### Doorbells and rings -/

theorem doorbellEffect_of_reaches (hreach : reaches s who = true) (d : Nat) (v : Word) :
    doorbellEffect d who v s = if bellWriter d who then s.ringBell d v else s.bellRefuse d :=
  State.guarded_of_reaches hreach _ _ _

theorem doorbellServiceEffect_of_reaches (hreach : reaches s who = true) (d : Nat) :
    doorbellServiceEffect d who s =
      let b := Tbl.get {} s.cowslip.bells d
      if who == bellReceiver d then
        (s.setRdata [b.value, packWord [(8, b2n b.pending), (0, b.coalesced.toNat)]]).serveBell d
      else s.setRdata [b.value] :=
  State.guarded_of_reaches hreach _ _ _

/-- SYS_RING_CFG of every ring lies in a window that the host may write. -/
theorem windowBreach_ringCfg (r : Fin 64) : windowBreach .host (0x1010 + r * 0x20) true = none := by
  revert r
  decide

theorem ringCfgEffect_of_reaches (r : Fin 64) (cfg : Word) (hreach : reaches s .host = true)
    (hok : s.regOk (0x1010 + r * 0x20) = true) :
    ringCfgEffect r .host cfg s = (s.updRing r fun g => g.cfgWrite cfg).serve := by
  rw [ringCfgEffect, State.regAccess_of_reaches hreach (windowBreach_ringCfg r) hok]

/-! ### Mailboxes -/

section
variable {m : Nat}

theorem mailboxCommitEffect_of_reaches (hreach : reaches s who = true) (w : MbWrite) :
    mailboxCommitEffect m who w s = match s.mboxCause m who with
      | some c => s.mboxRefuse m c
      | none => s.fillMbox m (match w with
        | .whole b => (b ++ List.replicate 64 0).take 64
        | .last v => (s.mbox m).staging.take 60 ++ toLe 4 v.toNat) :=
  State.guarded_of_reaches hreach _ _ _

theorem mailboxCommitEffect_whole {bs : List Byte} (hreach : reaches s who = true) (hcause : s.mboxCause m who = none)
    (hlen : bs.length = 64) : mailboxCommitEffect m who (.whole bs) s = s.fillMbox m bs := by
  rw [mailboxCommitEffect_of_reaches hreach]
  simp only [hcause, List.take_left' hlen]

theorem mailboxCommitEffect_last (hreach : reaches s who = true) (hcause : s.mboxCause m who = none) (v : Word) :
    mailboxCommitEffect m who (.last v) s = s.fillMbox m ((s.mbox m).staging.take 60 ++ toLe 4 v.toNat) := by
  rw [mailboxCommitEffect_of_reaches hreach]
  simp only [hcause]

theorem mailboxCommitEffect_refused {c : Nat} (hreach : reaches s who = true) (hcause : s.mboxCause m who = some c)
    (w : MbWrite) : mailboxCommitEffect m who w s = s.mboxRefuse m c := by
  rw [mailboxCommitEffect_of_reaches hreach]
  simp only [hcause]

theorem mailboxStageEffect_of_free (hreach : reaches s who = true) (hcause : s.mboxCause m who = none) (w : Nat) (v : Word) :
    mailboxStageEffect m who w v s = s.setMbox m { s.mbox m with
      staging := (s.mbox m).staging.take (4 * w) ++ toLe 4 v.toNat ++ (s.mbox m).staging.drop (4 * w + 4) } := by
  rw [mailboxStageEffect, State.guarded_of_reaches hreach]
  simp only [hcause]

theorem mailboxStageEffect_refused {c : Nat} (hreach : reaches s who = true) (hcause : s.mboxCause m who = some c) (w : Nat)
    (v : Word) : mailboxStageEffect m who w v s = s.mboxRefuse m c := by
  rw [mailboxStageEffect, State.guarded_of_reaches hreach]
  simp only [hcause]

/-- The fields of COW_MB_CTRL written, before its ACK acts. -/
def State.mboxCtrl (s : State) (m : Nat) (v : Word) : State :=
  s.setMbox m { s.mbox m with
    vector := fld v 16 6
    refused := w1c (s.mbox m).refused v 4
    emptyIe := v.getLsbD 3
    fullIe := v.getLsbD 2 }

theorem mailboxCtrlEffect_of_reaches (hreach : reaches s who = true) (hdom : s.domOn (mboxDomain m) = true) (v : Word) :
    mailboxCtrlEffect m who v s =
      if !v.getLsbD 1 then s.mboxCtrl m v
      else if mboxReceiver m who then (s.mboxCtrl m v).emptyMbox m
      else (s.mboxCtrl m v).mboxRefuse m 1 := by
  rw [mailboxCtrlEffect, State.guarded_of_reaches hreach, if_neg (by simp [hdom])]
  rfl

end

/-- Settles O45. -/
theorem doorbellsRingsMailboxes : Obligations.DoorbellsRingsMailboxes := by
  refine ⟨fun d who v s hreach => ?_, fun r v s => ⟨rfl, rfl⟩, fun d who s hreach => ?_,
    fun r cfg s hreach hok => congrArg Host.Outcome.next (ringCfgEffect_of_reaches r cfg hreach hok),
    fun m who bs s hreach => ⟨fun hcause hlen => ?_, fun c hcause => ?_⟩, fun m who v s hreach hcause => ?_,
    fun m who w v s hreach => ⟨fun hcause => ?_, fun c hcause => ?_⟩, fun m who v s hreach hdom => ?_⟩
  · change (_ → Host.Outcome.next (doorbellEffect d who v s).serve = _) ∧
      (_ → Host.Outcome.next (doorbellEffect d who v s).serve = _)
    rw [doorbellEffect_of_reaches hreach]
    exact ⟨fun hwriter => by rw [if_pos hwriter]; rfl, fun hother => by rw [if_neg (by simp [hother])]; rfl⟩
  · intro b
    change (_ → Host.Outcome.next (doorbellServiceEffect d who s) = _) ∧
      (_ → Host.Outcome.next (doorbellServiceEffect d who s) = _)
    rw [doorbellServiceEffect_of_reaches hreach]
    dsimp only
    exact ⟨fun hreceiver => by rw [if_pos (beq_iff_eq.mpr hreceiver)]; rfl,
      fun hother => by rw [if_neg (by simpa using hother)]⟩
  · change Host.Outcome.next (mailboxCommitEffect m who (.whole bs) s).serve = _
    rw [mailboxCommitEffect_whole hreach hcause hlen]
  · change Host.Outcome.next (mailboxCommitEffect m who (.whole bs) s).serve = _
    rw [mailboxCommitEffect_refused hreach hcause]
  · change Host.Outcome.next (mailboxCommitEffect m who (.last v) s).serve = _
    rw [mailboxCommitEffect_last hreach hcause]
  · exact congrArg Host.Outcome.next (mailboxStageEffect_of_free hreach hcause w v)
  · exact congrArg Host.Outcome.next (mailboxStageEffect_refused hreach hcause w v)
  · have hexec : exec (.mailboxAck m who v) s = .next (mailboxCtrlEffect m who v s).serve := rfl
    rw [hexec, mailboxCtrlEffect_of_reaches hreach hdom]
    refine ⟨fun hack => ?_, fun hack hreceiver => ?_, fun hack hother => ?_⟩
    · rw [if_pos (by rw [hack]; rfl)]
      rfl
    · rw [if_neg (by simp [hack]), if_pos hreceiver]
      rfl
    · rw [if_neg (by simp [hack]), if_neg (by simp [hother])]
      rfl

end Sys2Proof.Machine
end

section
/-!
## Bindweed counters and watches (12 R294 to R306)
-/

namespace Sys2Proof.Machine

variable {s : State} {who : Master}

/-! ### Counters -/

/-- An operation that reaches its counter is carried out (R294, R313). -/
theorem State.counterOp_of_counts {n : Nat} (hcounts : counts s who n = true) (o : Nat) (write : Bool) (k : State → State) :
    s.counterOp o n who write k = k s := by
  unfold counts at hcounts
  obtain ⟨hreaches, hdom⟩ := (Bool.and_eq_true _ _).mp hcounts
  obtain ⟨hreach, howner⟩ := (Bool.and_eq_true _ _).mp hreaches
  have howner' : (who == .host && !hostCounter n) = false := by
    cases hhost : who == Master.host <;> simp_all [bne]
  unfold State.counterOp
  rw [State.guarded_of_reaches hreach, howner', if_neg Bool.false_ne_true, if_neg (by simp [hdom])]

theorem BindweedSt.addAllowed_of_unpaired {b : BindweedSt} {n : Nat} (hpair : b.pairOf n = none) (x : Word) :
    b.addAllowed n x = true := by
  simp only [BindweedSt.addAllowed, hpair]

theorem State.counterAdd_of_unpaired {n : Nat} (hpair : s.bindweed.pairOf n = none) (x : Word) :
    s.counterAdd n x who = s.counterChanged n (s.bindweed.store n ((s.bindweed.ctr n).add x)) := by
  rw [State.counterAdd, if_pos (BindweedSt.addAllowed_of_unpaired hpair x)]

section
variable {n : Nat} (hcounts : counts s who n = true)
include hcounts

theorem counterValueEffect_of_counts (x : Word) :
    counterValueEffect n who x s =
      if (s.bindweed.pairOf n).isSome then s.onBindweed fun b => b.refuse n 1 (who == .host)
      else s.counterChanged n { s.bindweed with
        ctrs := Tbl.put s.bindweed.ctrs n { s.bindweed.ctr n with value := x } } :=
  State.counterOp_of_counts hcounts _ _ _

theorem counterSubEffect_of_counts (x : Word) :
    counterSubEffect n who x s =
      if (s.bindweed.ctr n).seqMode then s.onBindweed fun b => b.refuse n 1 (who == .host)
      else s.counterChanged n (s.bindweed.store n ((s.bindweed.ctr n).sub x)) :=
  State.counterOp_of_counts hcounts _ _ _

theorem counterFetchIncEffect_of_unpaired (hpair : s.bindweed.pairOf n = none) :
    counterFetchIncEffect n who s = (s.setRdata [(s.bindweed.ctr n).value]).counterChanged n
      (s.bindweed.store n ((s.bindweed.ctr n).add 1)) := by
  rw [counterFetchIncEffect, State.counterOp_of_counts hcounts]
  dsimp only
  rw [if_pos (BindweedSt.addAllowed_of_unpaired hpair 1)]
  have hpair' : (s.setRdata [(s.bindweed.ctr n).value]).bindweed.pairOf n = none := hpair
  exact State.counterAdd_of_unpaired hpair' 1

/-- A write of ATTR: SAT cleared by one, and the mode changed, with the value 0, where nothing holds the counter. -/
theorem counterAttrEffect_of_counts (x : Word) :
    counterAttrEffect n who x s = s.onBindweed fun b => { b with
      ctrs := Tbl.put b.ctrs n
        (if x.getLsbD 0 ≠ (s.bindweed.ctr n).seqMode ∧ b.pairOf n = none ∧ b.armedOn n = [] then
          { value := 0, sat := w1c (s.bindweed.ctr n).sat x 1, seqMode := x.getLsbD 0 }
        else { s.bindweed.ctr n with sat := w1c (s.bindweed.ctr n).sat x 1 }) } := by
  have hfree : (x.getLsbD 0 != (s.bindweed.ctr n).seqMode && ((s.bindweed.pairOf n).isNone &&
      (s.bindweed.armedOn n).isEmpty)) = true ↔
      x.getLsbD 0 ≠ (s.bindweed.ctr n).seqMode ∧ s.bindweed.pairOf n = none ∧ s.bindweed.armedOn n = [] := by
    rw [Bool.and_eq_true, Bool.and_eq_true, bne_iff_ne, Option.isNone_iff_eq_none, List.isEmpty_iff]
  rw [counterAttrEffect, State.counterOp_of_counts hcounts]
  simp only [State.onBindweed, hfree]

end

/-- Settles O46. -/
theorem counterOperations : Obligations.CounterOperations := by
  intro n who x s hcounts c
  have hvalue : exec (.counterValue n who x) s = .next (counterValueEffect n who x s) := rfl
  have hsub : exec (.counterSub n who x) s = .next (counterSubEffect n who x s) := rfl
  rw [hvalue, hsub, counterValueEffect_of_counts hcounts, counterSubEffect_of_counts hcounts]
  refine ⟨fun hpair => ⟨?_, ?_, ?_⟩, fun hpair => ?_, fun hmode => ?_, fun hmode => ?_, ?_⟩
  · rw [hpair]
    rfl
  · refine congrArg Host.Outcome.next ((State.counterOp_of_counts hcounts _ _ _).trans ?_)
    exact State.counterAdd_of_unpaired hpair x
  · exact congrArg Host.Outcome.next (counterFetchIncEffect_of_unpaired hcounts hpair)
  · rw [if_pos hpair]
  · rw [if_neg (Bool.eq_false_iff.mp hmode)]
  · rw [if_pos hmode]
  · exact congrArg Host.Outcome.next (counterAttrEffect_of_counts hcounts x)

/-! ### Their arithmetic -/

/-- ADD on a SAT counter stops at the largest value and marks the counter there. -/
theorem Counter.add_of_sat {c : Counter} (x : Word) (hmode : c.seqMode = false) :
    (c.add x).1.value.toNat = min 0xFFFFFFFF (c.value.toNat + x.toNat) ∧
      (c.add x).2 = decide (0xFFFFFFFF < c.value.toNat + x.toNat) ∧ (c.add x).1.sat = (c.sat || (c.add x).2) := by
  rw [Counter.add, if_neg (Bool.eq_false_iff.mp hmode)]
  split
  · next hfits =>
    refine ⟨?_, ?_, (Bool.or_false _).symm⟩
    · rw [BitVec.toNat_add, Nat.mod_eq_of_lt hfits]
      omega
    · symm
      rw [decide_eq_false_iff_not]
      omega
  · next hover =>
    refine ⟨?_, ?_, (Bool.or_true _).symm⟩
    · change (0xFFFFFFFF : Nat) = _
      omega
    · symm
      rw [decide_eq_true_iff]
      omega

/-- SUB on a SAT counter stops at 0 and marks the counter there. -/
theorem Counter.sub_spec (c : Counter) (x : Word) :
    (c.sub x).1.value.toNat = c.value.toNat - x.toNat ∧ (c.sub x).2 = decide (c.value.toNat < x.toNat) ∧
      (c.sub x).1.sat = (c.sat || (c.sub x).2) := by
  rw [Counter.sub]
  split
  · next hle =>
    refine ⟨?_, ?_, (Bool.or_false _).symm⟩
    · exact BitVec.toNat_sub_of_le (BitVec.le_def.mpr hle)
    · symm
      rw [decide_eq_false_iff_not]
      omega
  · next hlt =>
    refine ⟨?_, ?_, (Bool.or_true _).symm⟩
    · change (0 : Nat) = _
      omega
    · symm
      rw [decide_eq_true_iff]
      omega

theorem BindweedSt.addAllowed_producer_iff {b : BindweedSt} {n i : Nat} {p : Pair} (hpair : b.pairOf n = some (i, p))
    (hprod : p.prod = n) (d : Word) :
    b.addAllowed n d = true ↔ ((b.ctr n).value + d - (b.ctr p.cons).value).toNat ≤ p.bufs := by
  simp only [BindweedSt.addAllowed, hpair, if_pos hprod, decide_eq_true_eq]

theorem BindweedSt.addAllowed_consumer_iff {b : BindweedSt} {n i : Nat} {p : Pair} (hpair : b.pairOf n = some (i, p))
    (hcons : p.prod ≠ n) (d : Word) :
    b.addAllowed n d = true ↔ ((b.ctr p.prod).value - ((b.ctr n).value + d)).toNat < 2 ^ 31 := by
  simp only [BindweedSt.addAllowed, hpair, if_neg hcons, serialGe, decide_eq_true_eq, Nat.reducePow]

/-- Settles O47. -/
theorem counterArithmetic : Obligations.CounterArithmetic :=
  ⟨fun c x hmode => ⟨c.add_of_sat x hmode, c.sub_spec x⟩, fun _ _ hmode => if_pos hmode,
    fun _ _ _ _ d hpair => ⟨fun hprod => BindweedSt.addAllowed_producer_iff hpair hprod d,
      fun hcons => BindweedSt.addAllowed_consumer_iff hpair hcons d⟩⟩

/-! ### Watches and stalls -/

/-- A watch as a write of BND_W_CFG stores it, disarmed. -/
def Watch.stored (x : Watch) (cfg : Word) : Watch := { x with
  armed := false
  consume := cfg.getLsbD 17
  counter := fld cfg 0 15 }

/-- A write of BND_W_CFG by a master that may write the watch. -/
theorem watchCfg_of_owner {w : Nat} (howner : (who != .host || decide (s.bindweed.hostFirst.toNat ≤ w)) = true) (cfg : Word) :
    watchCfg w who cfg s =
      let x : Watch := Tbl.get {} s.bindweed.watches w
      if x.armed && cfg.getLsbD 31 then s
      else if !cfg.getLsbD 31 then s.onBindweed fun b => { b with watches := Tbl.put b.watches w (x.stored cfg) }
      else if watchRefused s.bindweed w (x.stored cfg) then
        s.onBindweed fun b => { b with watches := Tbl.put b.watches w (x.stored cfg), watchRefused := true }
      else (s.onBindweed fun b => { b with
        watches := Tbl.put b.watches w { x.stored cfg with armed := true, fired := false, seq := b.regSeq }
        regSeq := b.regSeq + 1 }).evalNew w := by
  have howner' : ¬ (who == .host && decide (w < s.bindweed.hostFirst.toNat)) = true := by
    cases hhost : who == Master.host
    · simp
    · have hle : s.bindweed.hostFirst.toNat ≤ w := by simpa [bne, hhost] using howner
      simp [hle]
  dsimp only [watchCfg]
  rw [if_neg howner']
  rfl

/-- Settles O48. -/
theorem watchesAndStalls : Obligations.WatchesAndStalls := by
  refine ⟨fun w who cfg s hreach howner => ?_, fun i s hreach => ?_, fun unit i q s hstalled => ?_⟩
  · intro x y
    have hexec : exec (.watchArm w who cfg) s = .next (watchCfg w who cfg s) :=
      congrArg Host.Outcome.next (State.guarded_of_reaches hreach _ _ _)
    rw [hexec, watchCfg_of_owner howner]
    dsimp only
    refine ⟨fun hdisarm => ?_, fun harm harmed => ?_, fun harm hfree hrefused => ?_, fun harm hfree haccepted => ?_⟩
    · rw [if_neg (by rw [hdisarm, Bool.and_false]; exact Bool.false_ne_true), if_pos (by rw [hdisarm]; rfl)]
      rfl
    · have harmed' : (Tbl.get {} s.bindweed.watches w : Watch).armed = true := harmed
      rw [if_pos (by rw [harmed', harm]; rfl)]
    · have hfree' : (Tbl.get {} s.bindweed.watches w : Watch).armed = false := hfree
      have hrefused' : watchRefused s.bindweed w ((Tbl.get {} s.bindweed.watches w : Watch).stored cfg) = true := hrefused
      rw [if_neg (by rw [hfree']; exact Bool.false_ne_true), if_neg (by rw [harm]; exact Bool.false_ne_true),
        if_pos hrefused']
      rfl
    · have hfree' : (Tbl.get {} s.bindweed.watches w : Watch).armed = false := hfree
      have haccepted' : ¬ watchRefused s.bindweed w ((Tbl.get {} s.bindweed.watches w : Watch).stored cfg) = true :=
        Bool.eq_false_iff.mp haccepted
      rw [if_neg (by rw [hfree']; exact Bool.false_ne_true), if_neg (by rw [harm]; exact Bool.false_ne_true),
        if_neg haccepted']
      rfl
  · exact congrArg Host.Outcome.next (State.guarded_of_reaches hreach _ _ _)
  · change Host.Outcome.next (coreStallTimeoutEffect unit i s) = _
    simp only [coreStallTimeoutEffect, hstalled]

end Sys2Proof.Machine
end

section
/-!
## Register accesses with an effect of their own (01 R43, 02 R75, 14 R362, 15 R393, 16 R407, R416)
-/

namespace Sys2Proof.Machine

variable {s : State} {who : Master}

/-- A register that Thistle and its block open to a master is accessed. -/
theorem State.regAccess_of_opens {off : Nat} {write : Bool} (hopens : opens s who off write = true) (k : State → State) :
    s.regAccess who off write k = k s := by
  unfold opens at hopens
  obtain ⟨hwindows, hok⟩ := (Bool.and_eq_true _ _).mp hopens
  obtain ⟨hreach, hwindow⟩ := (Bool.and_eq_true _ _).mp hwindows
  unfold State.regAccess
  rw [State.guarded_of_reaches hreach]
  cases hbreach : windowBreach who off write with
  | none => simp only [hok, if_true]
  | some c =>
    have hnum : who.num = none := by simpa [hbreach] using hwindow
    simp only [hnum, hok, if_true]

/-! ### Reads -/

theorem counterLoReadEffect_of_opens {off : Nat} {c : StatCnt} {put : StatCnt → State}
    (hopens : opens s .host off false = true) (hcnt : s.cntAt off = some (c, put)) :
    counterLoReadEffect off s = (put { val := 0, hi := c.hiWord }).setRdata [c.val.setWidth 32] := by
  rw [counterLoReadEffect, State.regAccess_of_opens hopens]
  simp only [hcnt, StatCnt.readLo]

theorem latchingLoReadEffect_of_opens {off time : Nat} {v : Dword} {hi : Word} {put : Word → State}
    (hopens : opens (s.advance time) .host off false = true) (hpair : (s.advance time).pairAt off = some (v, hi, put)) :
    latchingLoReadEffect off time s = (put ((v >>> 32).setWidth 32)).setRdata [v.setWidth 32] := by
  rw [latchingLoReadEffect, State.regAccess_of_opens hopens]
  simp only [hpair]

/-! ### The recovery page -/

section
variable {v : Word}

/-- Whether a write of THI_REC_UNFREEZE names the violation of a frozen master that it may release. -/
theorem thiUnfreezeEffect_of_named (hm : fldN v 16 16 < 15) (hfrozen : (s.master (fldN v 16 16)).frozen = true)
    (hedge : (s.master (fldN v 16 16)).releaseAtEdge = false) (hseq : (s.master (fldN v 16 16)).vseq = fld v 0 16)
    (hprimrose : fldN v 16 16 ≠ 4) :
    thiUnfreezeEffect v s =
      if s.foregroundMaster (fldN v 16 16) then s.onSafety fun f => { f with
        unfreezeCnt := f.unfreezeCnt.incr
        masters := Tbl.upd {} f.masters (fldN v 16 16) fun x => { x with held := [], releaseAtEdge := true } }
      else (s.onSafety fun f => { f with unfreezeCnt := f.unfreezeCnt.incr }).releaseMaster (fldN v 16 16) := by
  have hnamed : (decide (fldN v 16 16 < 15) && (s.master (fldN v 16 16)).frozen &&
      !(s.master (fldN v 16 16)).releaseAtEdge && (s.master (fldN v 16 16)).vseq == fld v 0 16 &&
      fldN v 16 16 != 4) = true := by
    simp only [hm, hfrozen, hedge, hseq, bne_iff_ne.mpr hprimrose, decide_true, Bool.not_false, beq_self_eq_true, Bool.and_self]
  dsimp only [thiUnfreezeEffect]
  rw [if_pos hnamed]
  rfl

theorem thiUnfreezeEffect_of_otherSeq (hseq : (s.master (fldN v 16 16)).vseq ≠ fld v 0 16) : thiUnfreezeEffect v s = s := by
  simp only [thiUnfreezeEffect, beq_eq_false_iff_ne.mpr hseq, Bool.and_false, Bool.false_and, Bool.false_eq_true, if_false]

theorem unfreezeWriteEffect_of_up (hup : s.host.up = true) : unfreezeWriteEffect v s = (thiUnfreezeEffect v s).serve := by
  rw [unfreezeWriteEffect, if_pos hup]

end

/-! ### Selects -/

/-- A peek waits while the broadcast runs, and ends at once otherwise. -/
theorem fsPeekStartEffect_eq (t : Nat) (v : Word) :
    fsPeekStartEffect t v s =
      if (s.store t).bcast then s.updStore t fun x => { x with peekAddr := v.setWidth 22, peekBusy := true }
      else (s.updStore t fun x => { x with peekAddr := v.setWidth 22, peekBusy := true }).peekEnd t := by
  have hbcast : ((s.updStore t fun x => { x with peekAddr := v.setWidth 22, peekBusy := true }).store t).bcast =
      (s.store t).bcast := by
    simp [State.store, State.updStore]
  rw [← hbcast]
  rfl

/-- Settles O49. -/
theorem registerAccessesWithEffect : Obligations.RegisterAccessesWithEffect := by
  refine ⟨fun off c put s hopens hcnt => ?_, fun off time v hi put s hopens hpair => ?_, fun s hopens => ?_,
    fun tile v s hopens => ?_, fun slot v s hopens => ?_, fun v s hopens => ?_, fun v s hopens => ?_,
    fun v s hup => ⟨fun hm hfrozen hedge hseq hprimrose => ?_, fun hseq => ?_⟩, fun who v s hwho hopens => ?_,
    fun v s hopens => ?_, fun v s hreach => ?_⟩
  · exact congrArg Host.Outcome.next (counterLoReadEffect_of_opens hopens hcnt)
  · exact congrArg Host.Outcome.next (latchingLoReadEffect_of_opens hopens hpair)
  · exact congrArg Host.Outcome.next (State.regAccess_of_opens hopens _)
  · have hexec : exec (.fsPeekStart tile v) s = .next (fsPeekStartEffect tile v s) :=
      congrArg Host.Outcome.next (State.regAccess_of_opens hopens _)
    rw [hexec, fsPeekStartEffect_eq]
    exact ⟨fun hbcast => by rw [if_pos hbcast], fun hquiet => by rw [if_neg (Bool.eq_false_iff.mp hquiet)]⟩
  · exact congrArg Host.Outcome.next (State.regAccess_of_opens hopens _)
  · exact congrArg Host.Outcome.next (State.regAccess_of_opens hopens _)
  · exact congrArg Host.Outcome.next (State.regAccess_of_opens hopens _)
  · have hexec : exec (.thiUnfreeze v) s = .next (thiUnfreezeEffect v s).serve :=
      congrArg Host.Outcome.next (unfreezeWriteEffect_of_up hup)
    rw [hexec, thiUnfreezeEffect_of_named hm hfrozen hedge hseq hprimrose]
    exact ⟨fun hbackground => by rw [if_neg (Bool.eq_false_iff.mp hbackground)], fun hforeground => by rw [if_pos hforeground]⟩
  · refine congrArg Host.Outcome.next ((unfreezeWriteEffect_of_up hup).trans ?_)
    rw [thiUnfreezeEffect_of_otherSeq hseq]
  · refine congrArg Host.Outcome.next ((State.regAccess_of_opens hopens _).trans ?_)
    rw [clkDomainResetEffect, if_neg (by simpa using hwho)]
  · exact congrArg Host.Outcome.next (State.regAccess_of_opens hopens _)
  · exact congrArg Host.Outcome.next (State.guarded_of_reaches hreach _ _ _)

end Sys2Proof.Machine
end

section
/-!
## PCIe and USB (14 R360, 17 R426 to R431, R443 to R445, 18 R456)
-/

namespace Sys2Proof.Machine

variable {s : State}

/-! ### Tables, masters and the fault log -/

/-- A table whose entries are all changed alike answers the changed entry. -/
theorem Tbl.find?_map {α : Type} (f : α → α) (t : Tbl α) (i : Nat) :
    Tbl.find? (t.map fun e => (e.1, f e.2)) i = (Tbl.find? t i).map f := by
  induction t with
  | nil => rfl
  | cons c t ih =>
    obtain ⟨k, v⟩ := c
    simp only [List.map_cons, Tbl.find?]
    split
    · rfl
    · split
      · rfl
      · exact ih

/-- A fault entry stands at the front of the log, of the unit and code named. -/
theorem State.logFault_log (cls inst code sev : Nat) (inj : Bool) :
    ∃ e : FaultEntry, (s.logFault cls inst code sev inj).safety.log = (e :: s.safety.log).take 1024 ∧
      e.unitClass = cls ∧ e.inst = inst ∧ e.code = code :=
  ⟨_, rfl, rfl, rfl, rfl⟩

@[simp] theorem State.master_logFault (cls inst code sev : Nat) (inj : Bool) (k : Nat) :
    (s.logFault cls inst code sev inj).master k = s.master k := rfl

/-! ### Violations -/

/-- A violation of a master that is not frozen: the record that freezes it, in the state before its log entry. -/
theorem State.violate_of_free {m : Nat} {cls : BitVec 4} {addr : Dword} {write secure inj : Bool} {len : BitVec 7}
    (hfree : (s.master m).frozen = false) :
    ∃ u : State, ∃ sev : Nat, s.violate m cls addr write secure len inj =
        u.logFault 8 m (if cls = 6 then 0x0121 else 0x0120) sev inj ∧ u.safety.log = s.safety.log ∧
      (∀ k, k ≠ m → u.master k = s.master k) ∧
      u.master m = { s.master m with
        frozen := true, vseq := (s.master m).vseq + 1, cls := cls, addr := addr, write := write, secure := secure,
        len := len, releaseAtEdge := false } := by
  dsimp only [State.violate]
  rw [if_neg (by simp [hfree])]
  by_cases hcls : cls = 6
  · rw [if_pos hcls, if_pos hcls]
    exact ⟨_, _, rfl, rfl, fun k hk => by simp [State.master, hk], by simp [State.master]⟩
  · rw [if_neg hcls, if_neg hcls]
    exact ⟨_, _, rfl, rfl, fun k hk => by simp [State.master, hk], by simp [State.master]⟩

/-- Settles O52. -/
theorem pcieRequestsAndViolations : Obligations.PcieRequestsAndViolations := by
  refine ⟨fun w s => ?_, fun s => rfl, fun s => rfl, fun m cls addr write secure len s => ⟨fun hfrozen => ?_, fun hfree => ?_⟩,
    fun addr s => rfl, fun i s => rfl, fun s => rfl⟩
  · cases w <;> rfl
  · change Host.Outcome.next (s.violate m cls addr write secure len) = _
    rw [State.violate, if_pos hfrozen]
  · obtain ⟨u, sev, heff, hlog, hothers, hm⟩ := State.violate_of_free (inj := false) (cls := cls) (addr := addr)
      (write := write) (secure := secure) (len := len) hfree
    obtain ⟨e, hentry, hclass, hinst, hcode⟩ := State.logFault_log (s := u) 8 m (if cls = 6 then 0x0121 else 0x0120) sev false
    refine ⟨_, congrArg Host.Outcome.next heff, ?_⟩
    simp only [State.master_logFault, hm, hentry, hlog]
    exact ⟨trivial, trivial, trivial, trivial, trivial, trivial, hothers, e, rfl, hclass, hinst, hcode⟩

/-! ### The link and the port -/

/-- With the host gone no ring is enabled, and the host's ingress is free. -/
theorem State.hostGone_ring_en (r : Nat) : ((s.hostGone).ring r).en = false := by
  change (Tbl.get ({} : Ring) (s.cmd.rings.map fun e => (e.1, e.2.disable)) r).en = false
  rw [Tbl.get, Tbl.find?_map]
  cases Tbl.find? s.cmd.rings r <;> rfl

theorem State.hostGone_master_frozen : ((s.hostGone).master 0).frozen = false := by
  simp [State.hostGone, State.releaseMaster, State.master]

section
variable {bs : List Byte}

/-- A port that takes transfers. -/
theorem usbTransferEffect_of_open (hen : s.host.usbEn = true) (hconn : s.host.usbConnected = true)
    (hawake : s.host.usbSuspended = false) (hfree : (s.master 1).frozen = false) :
    usbTransferEffect bs s = if bs.length < 32 ∨ bs.length ≠ 32 + hdrLen bs then
        s.onHost fun h => { h with usbDropCnt := h.usbDropCnt.incr }
      else (s.onHost fun h => { h with usbCmdCnt := h.usbCmdCnt.incr, usbOut := h.usbOut ++ [bs] }).serve := by
  rw [usbTransferEffect, if_neg (by simp [hen, hconn, hawake, hfree])]

/-- A device that waits for an image over USB. -/
theorem usbRecoveryImageEffect_of_waiting (hready : s.clock.ready = false) (hholds : s.clock.holds.any = false)
    (hconn : s.host.usbConnected = true) (hwaits : (s.clock.recovery || s.clock.bootSrc == 2) = true) :
    usbRecoveryImageEffect bs s =
      if bs.length < 5840 then s.answerSec ⟨{ ring := 80 }, .fwUpdate (FwImage.ofBytes bs) true, 0⟩ .badParam
      else s.takeImage ⟨{ ring := 80 }, .fwUpdate (FwImage.ofBytes bs) true, 0⟩ (FwImage.ofBytes bs) := by
  rw [usbRecoveryImageEffect, if_neg (by simp only [hready, hholds, hconn, hwaits]; decide)]

end

/-- Settles O53. -/
theorem linkAndUsbEvents : Obligations.LinkAndUsbEvents := by
  refine ⟨fun s => rfl, fun s => rfl, fun s => rfl, fun s r => ⟨State.hostGone_ring_en r, State.hostGone_master_frozen⟩,
    fun s => rfl, fun w v s => ⟨fun hperst => ?_, fun hperst => ?_⟩, fun d3 s => rfl,
    fun bs s hen hconn hawake hfree => ?_, fun s => rfl, fun s => ⟨rfl, rfl⟩, fun ss s hoff => ?_,
    fun bs s hready hholds hconn hwaits => ?_⟩
  · change Host.Outcome.next (pcieLinkUpEffect w v s) = _
    rw [pcieLinkUpEffect, if_neg (Bool.eq_false_iff.mp hperst)]
  · change Host.Outcome.next (pcieLinkUpEffect w v s) = _
    rw [pcieLinkUpEffect, if_pos hperst]
  · have hexec : exec (.usbCommandTransfer bs) s = .next (usbTransferEffect bs s) := rfl
    rw [hexec, usbTransferEffect_of_open hen hconn hawake hfree]
    exact ⟨fun hmin hlen => by rw [if_neg (by omega)], fun hbad => by rw [if_pos hbad]⟩
  · change Host.Outcome.next (usbConnectEffect ss s) = _
    rw [usbConnectEffect, if_neg (Bool.eq_false_iff.mp hoff)]
  · have hexec : exec (.usbRecoveryImage bs) s = .next (usbRecoveryImageEffect bs s) := rfl
    rw [hexec, usbRecoveryImageEffect_of_waiting hready hholds hconn hwaits]
    refine ⟨fun hshort => ?_, fun hlong => ?_⟩
    · rw [if_pos hshort]
      rfl
    · rw [if_neg (Nat.not_lt.mpr hlong)]

end Sys2Proof.Machine
end

section
/-!
## Jobs that end, tamper and wipe (13 R337, R338, 15 R386, 18 R451 to R462)
-/

namespace Sys2Proof.Machine

variable {s : State}

/-! ### Configuration jobs -/

theorem configLoadDoneEffect_of_loading {h : Hdr} {gen len : Nat} {src : Option Nat} {digest : List Byte}
    (hphase : s.cmd.phase = .loading h gen src len digest) (hfree : s.pathFrozen h.ring = false) :
    configLoadDoneEffect s = (s.onCmd fun c => { c with
      phase := .idle
      chunks := []
      staged := (loadOutcome gen len digest (s.loadBytes src len)).2
      rejected := c.rejected || (loadOutcome gen len digest (s.loadBytes src len)).1 != .ok }).final h 0x0201
        (loadOutcome gen len digest (s.loadBytes src len)).1 (toLe 4 gen) := by
  simp only [configLoadDoneEffect, hphase, hfree, Bool.false_eq_true, if_false]
  generalize loadOutcome gen len digest (s.loadBytes src len) = r
  by_cases hok : r.1 = .ok
  · rw [if_pos hok, hok]
    simp [State.onCmd]
  · rw [if_neg hok, bne_iff_ne.mpr hok]
    simp [State.onCmd, State.rejected]

theorem configStagingDoneEffect_of_staging {h : Hdr} {gen : Nat} {ue : Bool} (hphase : s.cmd.phase = .staging h gen)
    (hfree : s.pathFrozen h.ring = false) (hrun : s.zheda.run ≠ .replay) :
    configStagingDoneEffect ue s =
      if ue then (s.onCmd fun c => { c with phase := .idle }).final h 0x0202 .eccUncorr (toLe 4 gen)
      else (s.onCmd fun c => { c with phase := .switchPending }).final h 0x0202 .ok (toLe 4 gen) := by
  simp only [configStagingDoneEffect, hphase, hfree, beq_eq_false_iff_ne.mpr hrun, Bool.or_self, Bool.false_eq_true, if_false]

theorem configStoreDoneEffect_of_storing {h : Hdr} {b : BundleSlot} {ok : Bool} (hstoring : s.cmd.storing = some (h, b)) :
    configStoreDoneEffect ok s = if !ok then s
      else ((s.onCmd fun c => { c with storing := none }).onSec fun p => { p with
        nor := { p.nor with bundle := some (b.bytes, b.length) } }).final h 0x0206 .ok (toLe 4 b.gen) := by
  simp only [configStoreDoneEffect, hstoring]

/-! ### Primrose's jobs -/

theorem attestReportDoneEffect_of_front {h : Hdr} {nonce : List Byte} {raddr i : Nat} {l : List SecCmd}
    (hfront : s.sec.cmds = ⟨h, .attest nonce raddr, i⟩ :: l) (hfree : (s.master 4).frozen = false) :
    attestReportDoneEffect s = (s.onSec fun p => { p with
      cmds := l
      tampered := false }).finalReply h 0x0A00 raddr (s.report nonce i) (toLe 4 (s.report nonce i).length) := by
  simp only [attestReportDoneEffect, hfront, hfree, Bool.false_eq_true, if_false]

/-- A reset as by SYS_RST_N: what it leaves of Primrose's fuses and commands, its cause, and the device not ready. -/
theorem State.cleared_reset (holds : Holds) (cause : BitVec 4) :
    (s.cleared false holds cause).sec.fuses = s.sec.fuses ∧ (s.cleared false holds cause).sec.cmds = [] ∧
      (s.cleared false holds cause).clock.holds = holds ∧ (s.cleared false holds cause).clock.rstCause = cause ∧
      (s.cleared false holds cause).clock.ready = false :=
  ⟨rfl, rfl, rfl, rfl, rfl⟩

theorem lifecycleFuseBlownEffect_of_front {h : Hdr} {target i : Nat} {l : List SecCmd}
    (hfront : s.sec.cmds = ⟨h, .lifecycle target, i⟩ :: l) (hfree : (s.master 4).frozen = false) :
    lifecycleFuseBlownEffect s = ((s.onSec fun p => { p with
      fuses := { p.fuses with lifecycle := max p.fuses.lifecycle target }
      cmds := [] }).final h 0x0A01 .ok).cleared false s.clock.holds 2 := by
  simp only [lifecycleFuseBlownEffect, hfront, hfree, Bool.false_eq_true, if_false]
  rfl

theorem fwUpdateProgrammedEffect_of_front {h : Hdr} {f : FwImage} {usb ok : Bool} {i : Nat} {l : List SecCmd}
    (hfront : s.sec.cmds = ⟨h, .fwUpdate f usb, i⟩ :: l) (hfree : (s.master 4).frozen = false) :
    fwUpdateProgrammedEffect ok s = if !ok then s.onSec fun p => { p with nor := { p.nor with image := none } }
      else
        let v := s.onSec fun p => { p with cmds := l, nor := { p.nor with image := some f } }
        (if s.clock.ready then v else v.resumeBoot).answerSec ⟨h, .fwUpdate f usb, i⟩ .ok := by
  simp only [fwUpdateProgrammedEffect, hfront, hfree, Bool.false_eq_true, if_false]
  rfl

/-- Settles O54. -/
theorem jobsEnd : Obligations.JobsEnd := by
  refine ⟨fun h gen len src digest s hphase hfree => ?_, fun h gen s hphase hfree hrun => ⟨?_, ?_⟩,
    fun h b s hstoring => ⟨?_, ?_⟩, fun h nonce raddr i l s hfront hfree => ?_, fun h target i l s hfront hfree => ?_,
    fun h f usb i l s hfront hfree => ⟨?_, ?_⟩⟩
  · change Host.Outcome.next (configLoadDoneEffect s).serve = _
    rw [configLoadDoneEffect_of_loading hphase hfree]
  · change Host.Outcome.next (configStagingDoneEffect false s).serve = _
    rw [configStagingDoneEffect_of_staging hphase hfree hrun]
    rfl
  · change Host.Outcome.next (configStagingDoneEffect true s).serve = _
    rw [configStagingDoneEffect_of_staging hphase hfree hrun]
    rfl
  · change Host.Outcome.next (configStoreDoneEffect true s).serve = _
    rw [configStoreDoneEffect_of_storing hstoring]
    rfl
  · change Host.Outcome.next (configStoreDoneEffect false s).serve = _
    rw [configStoreDoneEffect_of_storing hstoring]
    rfl
  · change Host.Outcome.next (attestReportDoneEffect s).serve = _
    rw [attestReportDoneEffect_of_front hfront hfree]
  · obtain ⟨hfuses, hcmds, -, hcause, hready⟩ := State.cleared_reset (s := (s.onSec fun p => { p with
      fuses := { p.fuses with lifecycle := max p.fuses.lifecycle target }, cmds := [] }).final h 0x0A01 .ok) s.clock.holds 2
    refine ⟨_, congrArg Host.Outcome.next (lifecycleFuseBlownEffect_of_front hfront hfree), ?_, hcmds, hcause, hready⟩
    rw [hfuses]
    simp
  · change Host.Outcome.next (fwUpdateProgrammedEffect false s).serve = _
    rw [fwUpdateProgrammedEffect_of_front hfront hfree]
    rfl
  · refine ⟨if s.clock.ready then s.onSec fun p => { p with cmds := l, nor := { p.nor with image := some f } }
      else (s.onSec fun p => { p with cmds := l, nor := { p.nor with image := some f } }).resumeBoot, ?_, ?_, ?_, fun hready => ?_⟩
    · change Host.Outcome.next (fwUpdateProgrammedEffect true s).serve = _
      rw [fwUpdateProgrammedEffect_of_front hfront hfree]
      rfl
    · split <;> rfl
    · split <;> rfl
    · rw [if_pos hready]
      rfl

/-! ### Tamper and wipe -/

/-- The end of what Primrose holds leaves the rest of Primrose. -/
theorem State.endSec_sec : s.endSec.sec = { s.sec with cmds := [], nor := s.norAfterStop } := by
  simp [State.endSec]

/-- What a tamper event leaves before its log entry. -/
def State.tampered (s : State) : State :=
  s.wipeSecure.endSec.onSec fun p => { p with
    tampered := true
    nvm := { p.nvm with tamperCnt := satU 32 (p.nvm.tamperCnt + 1) } }

theorem tamperDetectEffect_of_new {src : BitVec 4} (hnew : src &&& ~~~s.clock.tamperSrc ≠ 0)
    (hpor : s.clock.holds.por = false) (hstep : 2 ≤ s.clock.step) :
    tamperDetectEffect src s = (s.onClock fun c => { c with tamperSrc := src }).tampered.logFault 12 0 0x0150 1 := by
  have hstep' : ¬ s.clock.step < 2 := Nat.not_lt.mpr hstep
  have hseen : decide (src &&& ~~~s.clock.tamperSrc = 0) = false := decide_eq_false hnew
  dsimp only [tamperDetectEffect]
  rw [if_neg (by rw [hseen]; simp [State.onClock, hpor, hstep'])]
  rfl

/-- The state after a wipe, before the log entry of one that fails its check. -/
def State.wiped (s : State) (ok : Bool) : State :=
  s.onMem fun m => { m with
    secWiped := true
    wipes := satU 16 (m.wipes + 1)
    secure := if !ok then .closed else if s.clock.tamperSrc = 0 then .opened else .wiping
    verifyFail := m.verifyFail || !ok
    sram := m.sram.clearRange 0x1000000000 0x1000100000 }

theorem secureWipeDoneEffect_of_wiping (ok : Bool) (hwiping : s.mem.secure = .wiping) :
    secureWipeDoneEffect ok s = if ok then s.wiped ok else (s.wiped ok).logFault 10 0 0x0131 3 := by
  rw [secureWipeDoneEffect, if_pos hwiping]
  rfl

theorem secureWipeDoneEffect_mem (ok : Bool) (hwiping : s.mem.secure = .wiping) :
    (secureWipeDoneEffect ok s).mem = (s.wiped ok).mem := by
  rw [secureWipeDoneEffect_of_wiping ok hwiping]
  split
  · rfl
  · simp

/-- After a wipe the region reads 0, and the bytes around it as before. -/
theorem State.wiped_sram_read (ok : Bool) (hwf : s.mem.sram.wf = true) (a : Nat) :
    (s.wiped ok).mem.sram.read a =
      if 0x1000000000 ≤ a ∧ a < 0x1000100000 then Mem.blank else s.mem.sram.read a :=
  Mem.read_clearRange s.mem.sram 0x1000000000 0x1000100000 a none hwf

/-- Settles O55. -/
theorem tamperWipesSecureRegion : Obligations.TamperWipesSecureRegion := by
  refine ⟨fun src s hnew hpor hstep => ⟨(s.onClock fun c => { c with tamperSrc := src }).tampered, ?_, ?_, ?_, rfl, ?_⟩,
    fun ok s hwiping hwf => ⟨secureWipeDoneEffect ok s, rfl, ?_, ?_, fun a hlow hhigh => ?_, fun a hout => ?_, fun hfail => ?_⟩,
    fun ok s hquiet => ?_⟩
  · change Host.Outcome.next (tamperDetectEffect src s).serve = _
    rw [tamperDetectEffect_of_new hnew hpor hstep]
  · simp [State.tampered]
  · simp [State.tampered, State.wipeSecure, State.startWipe]
  · simp [State.tampered, State.endSec_sec, State.wipeSecure, satU]
  · rw [secureWipeDoneEffect_mem ok hwiping]
    rfl
  · rw [secureWipeDoneEffect_mem ok hwiping]
    rfl
  · rw [secureWipeDoneEffect_mem ok hwiping, State.wiped_sram_read ok hwf, if_pos ⟨hlow, hhigh⟩]
    rfl
  · rw [secureWipeDoneEffect_mem ok hwiping, State.wiped_sram_read ok hwf, if_neg (by omega)]
  · rw [secureWipeDoneEffect_of_wiping ok hwiping, hfail, if_neg Bool.false_ne_true]
    exact ⟨_, rfl, rfl, rfl⟩
  · change Host.Outcome.next (secureWipeDoneEffect ok s) = _
    rw [secureWipeDoneEffect, if_neg hquiet]

end Sys2Proof.Machine
end

section
/-!
## Clock and power events (15 R390, 16 R399 to R417, 20 R492)
-/

namespace Sys2Proof.Machine

variable {s : State}

/-- A hold that is absent in all is absent in each. -/
theorem Holds.any_eq_false {h : Holds} (hany : h.any = false) :
    h.por = false ∧ h.sysRst = false ∧ h.thermal = false ∧ h.supply = false := by
  simpa [Holds.any, and_assoc] using hany

/-! ### Crystal -/

/-- What a window leaves of the crystal's qualification (R399). -/
theorem xtalWindowEffect_clock (time count : Nat) (hpor : s.clock.holds.por = false) (hok : s.clock.xtalOk = false)
    (hfail : s.clock.xtalFail = false) :
    (xtalWindowEffect time count s).clock.xtalCount = count ∧
      (xtalWindowEffect time count s).clock.xtalOk = runAccepts (passRun s.clock.n0 s.clock.xtalRun count) ∧
      (xtalWindowEffect time count s).clock.onRc =
        (s.clock.onRc && !runAccepts (passRun s.clock.n0 s.clock.xtalRun count)) := by
  have hclock : (s.advance time).clock = s.clock := rfl
  dsimp only [xtalWindowEffect]
  rw [if_neg (by simp [hpor, hok, hfail])]
  simp only [State.onClock, hclock]
  split
  case isTrue haccept => simp [haccept]
  case isFalse haccept => simp [eq_false_of_ne_true haccept, hok]

theorem xtalTimeoutEffect_of_waiting (time : Nat) (refclk : Bool) (hpor : s.clock.holds.por = false)
    (hok : s.clock.xtalOk = false) (hfail : s.clock.xtalFail = false) :
    xtalTimeoutEffect time refclk s = ((s.advance time).xtalOutage refclk).logFault 7 0 0x0133 1 := by
  dsimp only [xtalTimeoutEffect]
  rw [if_neg (by simp [hpor, hok, hfail])]

theorem State.xtalOutage_ports (refclk : Bool) : ∀ p ∈ (s.xtalOutage refclk).casc.ports, p.trained = false := by
  intro p hp
  obtain ⟨q, -, rfl⟩ := List.mem_map.mp (show p ∈ s.casc.ports.map _ from hp)
  rfl

/-! ### PLLs -/

/-- A spare that is free starts to lock for the role (R402). -/
theorem ClockSt.repair_of_freeSpare {c : ClockSt} {spare : Nat} (role : Nat) (hspare : c.freeSpare = some spare) :
    c.repair role = { c with repairs := c.repairs ++ [⟨role, spare⟩], spareUsed := true } := by
  simp only [ClockSt.repair, hspare]

/-- The clocks after a PLL lost its lock, before its role is given another (R402). -/
def ClockSt.pllLost (c : ClockSt) (p : Nat) : ClockSt :=
  { c with pllFailed := c.pllFailed ++ [p], pllLocked := c.pllLocked.filter (· != p) }

theorem pllLossEffect_of_role {p role spare : Nat} (hholds : s.clock.holds.any = false) (hready : s.clock.ready = true)
    (hnew : s.clock.pllFailed.contains p = false) (hrole : firstIx (· == p) s.clock.pllMap = some role) (hne : role ≠ 0)
    (hspare : (s.clock.pllLost p).freeSpare = some spare) :
    pllLossEffect p s = (s.onClock fun c => { c.pllLost p with
      repairs := c.repairs ++ [⟨role, spare⟩]
      spareUsed := true }).logFault 7 p 0x0132 1 := by
  have hrepair : (s.onClock fun c => (c.pllLost p).repair role) = s.onClock fun c => { c.pllLost p with
      repairs := c.repairs ++ [⟨role, spare⟩]
      spareUsed := true } :=
    congrArg (fun c => { s with clock := c }) (ClockSt.repair_of_freeSpare role hspare)
  have hfound : ((s.onClock fun c => { c.pllLost p with
      repairs := c.repairs ++ [⟨role, spare⟩]
      spareUsed := true }).clock.repairs.any fun r => r.role == role) = true := by simp [State.onClock]
  have hlost (c : ClockSt) : ({ c with
      pllFailed := c.pllFailed ++ [p]
      pllLocked := c.pllLocked.filter (· != p) } : ClockSt) = c.pllLost p := rfl
  rw [pllLossEffect]
  simp only [hholds, hready, hnew, hrole, Bool.not_true, Bool.or_self, Bool.false_eq_true, if_false, hlost]
  rw [hrepair, hfound]
  simp [hne]

theorem sparePllLockedEffect_of_repair {p : Nat} {r : PllRepair}
    (hrepair : s.clock.repairs.find? (fun r => r.spare == p) = some r) :
    sparePllLockedEffect p s = s.onClock fun c => { c with
      repairs := c.repairs.filter (· != r)
      pllMap := setAt c.pllMap r.role p
      pllLocked := c.pllLocked ++ [p] } := by
  simp only [sparePllLockedEffect, State.onClock, hrepair]

/-! ### Monitors and domain resets -/

theorem State.stallDomain_of_running {d : Nat} (hrun : (Tbl.get {} s.clock.domains d).stalled = false) :
    s.stallDomain d = s.onClock fun c => { c with
      domains := Tbl.upd {} c.domains d fun x => { x with stalled := true }
      stallMask := c.stallMask ||| BitVec.ofNat 64 (2 ^ d)
      stallF := true
      stallCnt := c.stallCnt.incr } := by
  rw [State.stallDomain, if_neg (by simp [hrun])]

theorem State.not_stalled_of_monitored {d : Nat} (hmon : s.monitored d = true) :
    (Tbl.get {} s.clock.domains d).stalled = false := by
  simp only [State.monitored, Bool.and_eq_true, Bool.not_eq_true'] at hmon
  obtain ⟨⟨⟨⟨-, hrun⟩, -⟩, -⟩, -⟩ := hmon
  exact hrun

/-- The record that a window without an edge leaves of a domain, before it is found stalled (R405). -/
def State.idleWindow (s : State) (d : Nat) : State :=
  s.onClock fun c => { c with
    domains := Tbl.upd {} c.domains d fun x => { x with freqMhz := 0, idleWindows := x.idleWindows + 1 }
    freqErr := c.freqErr || c.outOfBand d 0 }

theorem State.idleWindow_stalled {d : Nat} :
    (Tbl.get {} (s.idleWindow d).clock.domains d).stalled = (Tbl.get {} s.clock.domains d).stalled := by
  simp [State.idleWindow, State.onClock]

theorem clockMonitorEffect_of_secondIdle {d : Nat} (hholds : s.clock.holds.any = false) (hready : s.clock.ready = true)
    (hmon : s.monitored d = true) (h59 : d ≠ 59) (h62 : d ≠ 62) (h63 : d ≠ 63)
    (hidle : (Tbl.get {} s.clock.domains d).idleWindows = 1) :
    clockMonitorEffect d 0 s = ((s.idleWindow d).stallDomain d).logFault 7 d 0x0132 2 := by
  have hfixed : (d == 59 || d == 62 || d == 63) = false := by simp [h59, h62, h63]
  dsimp only [clockMonitorEffect]
  rw [if_neg (by simp [hholds, hready, hmon]), hfixed, if_pos (by simp [hidle])]
  simp [State.idleWindow, hidle, Tbl.upd, State.onClock]

theorem domainResetDoneEffect_of_resetting {d : Nat} (hreset : (Tbl.get {} s.clock.domains d).resetting = true) :
    domainResetDoneEffect d s = s.onClock fun c => { c with domains := Tbl.upd {} c.domains d fun x => { x with
      resetting := false
      stalled := false
      idleWindows := 0 } } := by
  simp only [domainResetDoneEffect, State.onClock, Tbl.upd, hreset, if_true]

/-! ### Regulator, temperature, supplies -/

theorem avsTimeoutEffect_of_lowering (hlow : s.clock.lowering = true) :
    avsTimeoutEffect s = (s.onClock fun c => { c with
      lowering := false
      avsErr := true
      opAbort := true }).logFault 14 0 0x0135 1 := by
  dsimp only [avsTimeoutEffect]
  rw [if_pos (by simp [hlow])]
  simp only [State.onClock, hlow, if_true]

/-- A sample leaves a device that nothing holds unheld. -/
theorem ClockSt.sample_holds_any {c : ClockSt} (temps : List Int) (hholds : c.holds.any = false) :
    (c.sample temps).holds.any = false := by
  obtain ⟨hpor, hsys, hthermal, hsupply⟩ := Holds.any_eq_false hholds
  simp [ClockSt.sample, Holds.any, hpor, hsys, hthermal, hsupply]

theorem ClockSt.sample_thermCrit_of_below {c : ClockSt} {temps : List Int} (hbelow : tMax temps < 4 * (c.critC : Int))
    (hcrit : c.thermCrit = false) : (c.sample temps).thermCrit = false := by
  simp [ClockSt.sample, hcrit, hbelow]

theorem thermalSampleEffect_of_shutdown {temps : List Int} (hlen : temps.length = 8) (hholds : s.clock.holds.any = false)
    (hshut : 4 * (s.clock.shutC : Int) ≤ tMax temps) :
    thermalSampleEffect temps s = ((s.onClock fun c => c.sample temps).logFault 14 0 0x0134 3).cleared false
      { (s.clock.sample temps).holds with thermal := true } 8 := by
  obtain ⟨hpor, -⟩ := Holds.any_eq_false hholds
  dsimp only [thermalSampleEffect]
  rw [if_neg (by simp [hpor, hlen]), if_neg (by simp [State.onClock, ClockSt.sample_holds_any temps hholds])]
  exact if_pos hshut

theorem thermalSampleEffect_of_below {temps : List Int} (hlen : temps.length = 8) (hholds : s.clock.holds.any = false)
    (hcritical : tMax temps < 4 * (s.clock.critC : Int)) (hshut : tMax temps < 4 * (s.clock.shutC : Int))
    (hcrit : s.clock.thermCrit = false) :
    thermalSampleEffect temps s = s.onClock fun c => c.sample temps := by
  obtain ⟨hpor, -⟩ := Holds.any_eq_false hholds
  dsimp only [thermalSampleEffect]
  rw [if_neg (by simp [hpor, hlen]), if_neg (by simp [State.onClock, ClockSt.sample_holds_any temps hholds]),
    if_neg (show ¬ 4 * ((s.onClock fun c => c.sample temps).clock.shutC : Int) ≤ tMax temps from Int.not_le.mpr hshut),
    if_neg (by simp [State.onClock, ClockSt.sample_thermCrit_of_below hcritical hcrit])]

theorem supplyExcursionEffect_of_running (glitch : Bool) (hpor : s.clock.holds.por = false)
    (hsupply : s.clock.holds.supply = false) :
    ∃ u : State, ∃ holds : Holds, supplyExcursionEffect glitch s = u.cleared false { holds with supply := true } 2 := by
  dsimp only [supplyExcursionEffect]
  rw [if_neg (by simp [hpor]), if_neg (by simp [hsupply])]
  exact ⟨_, _, rfl⟩

theorem supplyRecoveredEffect_of_booted (hsupply : s.clock.holds.supply = true) (hstep : s.clock.step ≠ 1) :
    supplyRecoveredEffect s = s.onClock fun c => { c with holds := { c.holds with supply := false } } := by
  dsimp only [supplyRecoveredEffect]
  rw [if_neg (by simp [hsupply]), if_neg (by simp [hstep])]

/-! ### Patrol scrub -/

theorem scrubGranuleEffect_of_clean (hen : s.mem.scrubEn = true) :
    scrubGranuleEffect .clean s = s.onMem fun m =>
      if ddrEnd ≤ s.mem.scrubPos * 256 + 256 then { m with scrubPos := 0, rowCe := [] }
      else { m with scrubPos := m.scrubPos + 1 } := by
  rw [scrubGranuleEffect, if_neg (by simp [hen])]
  rfl

/-- Settles O56, by the equation of each event's effect under its condition. -/
theorem clockAndPowerEvents : Obligations.ClockAndPowerEvents := by
  unfold Obligations.ClockAndPowerEvents
  refine ⟨fun time count s hpor hok hfail => ?crystal, fun time refclk s hpor hok hfail => ?noCrystal,
    fun pll role spare s hholds hready hnew hrole hne hspare => ?pllLost, fun pll r s hrepair => ?spareLocked,
    fun d s hholds hready hmon h59 h62 h63 hidle => ?stalled, fun d s hreset => ?resetDone,
    fun mv s => ⟨fun htarget => ?inRegulation, fun htarget => ?onTheWay⟩, fun s hlow => ?avs, fun s hholds => ?alert,
    fun temps s hlen hholds => ⟨fun hshut => ?shutdown, fun hcritical hshut hcrit => ?sampled⟩,
    fun glitch s hpor hsupply => ?excursion, fun s hsupply hstep => ?recovered,
    fun other s hen => ⟨fun hmore => ?nextGranule, fun hlast => ?passEnd⟩⟩
  case crystal =>
    obtain ⟨hcount, haccept, hrc⟩ := xtalWindowEffect_clock time count hpor hok hfail
    exact ⟨_, rfl, hcount, haccept, hrc.trans (by rw [haccept])⟩
  case noCrystal =>
    exact ⟨_, congrArg Host.Outcome.next (xtalTimeoutEffect_of_waiting time refclk hpor hok hfail), rfl, rfl, rfl,
      State.xtalOutage_ports refclk⟩
  case pllLost => exact congrArg Host.Outcome.next (pllLossEffect_of_role hholds hready hnew hrole hne hspare)
  case spareLocked => exact congrArg Host.Outcome.next (sparePllLockedEffect_of_repair hrepair)
  case stalled =>
    have hvals : d.val ≠ 59 ∧ d.val ≠ 62 ∧ d.val ≠ 63 := ⟨by omega, by omega, by omega⟩
    have hrun : (Tbl.get {} (s.idleWindow d).clock.domains d).stalled = false :=
      State.idleWindow_stalled.trans (State.not_stalled_of_monitored hmon)
    refine ⟨(s.idleWindow d).stallDomain d, congrArg Host.Outcome.next
      (clockMonitorEffect_of_secondIdle hholds hready hmon hvals.1 hvals.2.1 hvals.2.2 hidle), ?_⟩
    rw [State.stallDomain_of_running hrun]
    exact ⟨by simp [State.onClock], rfl, rfl⟩
  case resetDone =>
    exact congrArg (fun t => Host.Outcome.next (State.serve t)) (domainResetDoneEffect_of_resetting hreset)
  case inRegulation =>
    change Host.Outcome.next (regulatorEffect mv s) = _
    simp [regulatorEffect, State.onClock, htarget]
  case onTheWay =>
    change Host.Outcome.next (regulatorEffect mv s) = _
    simp [regulatorEffect, State.onClock, htarget]
  case avs => exact congrArg Host.Outcome.next (avsTimeoutEffect_of_lowering hlow)
  case alert =>
    change Host.Outcome.next (pmbusAlertEffect s) = _
    rw [pmbusAlertEffect, if_neg (by simp [hholds])]
  case shutdown =>
    obtain ⟨-, -, hthermal, hcause, hready⟩ := State.cleared_reset
      (s := (s.onClock fun c => c.sample temps).logFault 14 0 0x0134 3)
      { (s.clock.sample temps).holds with thermal := true } 8
    exact ⟨_, congrArg Host.Outcome.next (thermalSampleEffect_of_shutdown hlen hholds hshut),
      congrArg Holds.thermal hthermal, hcause, hready⟩
  case sampled =>
    exact congrArg Host.Outcome.next (thermalSampleEffect_of_below hlen hholds hcritical hshut hcrit)
  case excursion =>
    obtain ⟨u, holds, heffect⟩ := supplyExcursionEffect_of_running glitch hpor hsupply
    obtain ⟨-, -, hheld, hcause, hready⟩ := State.cleared_reset (s := u) { holds with supply := true } 2
    exact ⟨_, congrArg Host.Outcome.next heffect, congrArg Holds.supply hheld, hcause, hready⟩
  case recovered => exact congrArg Host.Outcome.next (supplyRecoveredEffect_of_booted hsupply hstep)
  case nextGranule =>
    refine congrArg Host.Outcome.next ((scrubGranuleEffect_of_clean hen).trans ?_)
    simp only [if_neg (Nat.not_le.mpr hmore)]
  case passEnd =>
    refine congrArg Host.Outcome.next ((scrubGranuleEffect_of_clean hen).trans ?_)
    simp only [if_pos hlast]

end Sys2Proof.Machine
end
